-- ==== Sys2Proof/Word.lean ====
section
/-! DEFINITION. The byte, the group time word and the plain integer arithmetic of 00_scope.md, Conventions. -/

namespace Sys2Proof

/-- A character of a line, or a byte of a record. -/
abbrev Byte := BitVec 8

/-- Group time: seconds, wrapping at its maximum (00_scope.md, Conventions; R178). -/
abbrev GroupTime := BitVec 32

/-- The byte that carries a number below 256. -/
def byteOf (n : Nat) : Byte := BitVec.ofNat 8 n

end Sys2Proof
end

