-- ==== Sys2Proof/Syntax.lean ====
section
/-! DEFINITION. The names the commands use, and `Instr`: one constructor per row of spec/opcode_table.json. -/

namespace Sys2Proof

/-- A door position, 0-23. -/
abbrev DoorId := Fin 24

/-- A watertight zone, 0-7. -/
abbrev ZoneId := Fin 8

/-- A hydraulic power unit, 0-3. -/
abbrev HpuId := Fin 4

/-- A set of doors, one bit a door, door 0 the lowest (R173). -/
abbrev DoorSet := BitVec 24

/-- A set of zones, one bit a zone, zone 0 the lowest (R173). -/
abbrev ZoneSet := BitVec 8

/-- The two serial lines (R162). -/
inductive Line where
  | a | b
  deriving DecidableEq, Repr, Inhabited

/-- OPEN or CLOSE: a direction of movement, an end of travel, a class of a queue, a valve or a handle. -/
inductive Dir where
  | opn | cls
  deriving DecidableEq, Repr, Inhabited

/-- The eleven motion states of section 2.2, in the order of the DOOR_STATUS codes (R147). -/
inductive Motion where
  | settling | closed | opened | stopped | warning | dwell | queued | opening | closing | isolated | absent
  deriving DecidableEq, Repr, Inhabited

/-- A door's standing authority (R66). -/
inductive Standing where
  | none | remote | central | emergency
  deriving DecidableEq, Repr, Inhabited

/-- The authority under which a movement was started (R29). -/
inductive MotionAuthority where
  | local_ | remote | central | emergency
  deriving DecidableEq, Repr, Inhabited

/-- The answers to a handle referral (R81). -/
inductive Ruling where
  | latchOpen | latchClose | transitOpen | closeNow | holdOpen | holdClose | ignore
  deriving DecidableEq, Repr, Inhabited

/-- The four fault kinds in their order of priority, highest first (R109). -/
inductive FaultKind where
  | driveFault | switchConflict | overtravel | switchSequence
  deriving DecidableEq, Repr, Inhabited

/-- The twenty alarm kinds in the order of their codes (R123). -/
inductive AlarmKind where
  | driveFault | switchConflict | overtravel | switchSequence | driftOpen | travelDrift | wear | flowShort
  | transitLong | openInhibited | flowLost | onEmergencySupply | emergencyClose | remoteLost | lineSilent
  | lineDegraded | addressFallback | configDefault | storeFault | listOverflow
  deriving DecidableEq, Repr, Inhabited

/-- What an alarm concerns (R122). -/
inductive Subject where
  | door (d : DoorId) | hpu (h : HpuId) | line (l : Line) | group
  deriving DecidableEq, Repr, Inhabited

/-- The seven inputs of a door channel (R1). -/
inductive DoorInput where
  | closedSwitch | openSwitch | openHandle | closeHandle | leafEdge | openReadback | closeReadback
  deriving DecidableEq, Repr, Inhabited

/-- Every filtered input (R1, R3, R4). -/
inductive InputId where
  | door (d : DoorId) (k : DoorInput)
  | emergency
  | mainSupply
  | pressure (h : HpuId)
  | resetPin
  deriving DecidableEq, Repr, Inhabited

/-- Every wire whose level the outside can change: the filtered inputs, and the straps, which are not filtered
(R3, R162, R165). -/
inductive Wire where
  | input (i : InputId)
  | addressStrap (k : Fin 5)
  | parityStrap
  | rateStrap
  deriving DecidableEq, Repr, Inhabited

/-- The values a fault report carries beside its kinds (R33, R108). -/
structure FaultData where
  motion : Motion
  dir : Dir
  estimate : Nat
  elapsed : Nat
  authority : MotionAuthority
  deriving DecidableEq, Repr, Inhabited

/-- A request frame as it stands when it is taken: the line it came in on, whether it was addressed to 0, and its
body (R162, R166, R167). -/
structure Req where
  line : Line
  broadcast : Bool
  body : List Byte
  deriving DecidableEq, Repr, Inhabited

/-- The commands of the part, one constructor per row of spec/opcode_table.json, in the table's order. -/
inductive Instr where
  | powerOn
  | rawInputChange (w : Wire) (millivolts : Nat)
  | filterExpiry (i : InputId)
  | firstIntervalExpiry (i : InputId)
  | checkTimerExpiry (d : DoorId) (valve : Dir)
  | driveTestHoldExpiry (d : DoorId)
  | driveTestOnCheckExpiry (d : DoorId)
  | driveTestOffCheckExpiry (d : DoorId)
  | warningTimerExpiry (d : DoorId)
  | dwellTimerExpiry (d : DoorId)
  | edgeClearTimerExpiry (d : DoorId)
  | transitLimitExpiry (d : DoorId)
  | deadlineExpiry (d : DoorId)
  | groupTimeSecond
  | standingAuthorityReport (d : DoorId) (a : Standing)
  | handleReferral (d : DoorId) (handle : Dir) (faulted : Bool)
  | handleRuling (d : DoorId) (r : Ruling)
  | arrivalNotice (d : DoorId)
  | openHandleReleaseNotice (d : DoorId)
  | join (d : DoorId) (c : Dir)
  | withdraw (d : DoorId)
  | release (d : DoorId)
  | reversed (d : DoorId) (dir : Dir)
  | taken (d : DoorId) (dir : Dir)
  | handedBack (d : DoorId)
  | grant (d : DoorId) (dir : Dir)
  | pause (d : DoorId)
  | faultReport (d : DoorId) (kind : FaultKind) (second : Option FaultKind) (persisting : Bool) (data : FaultData)
  | mismatchReport (d : DoorId) (valve : Dir) (expected : Bool)
  | obstructionNotice (d : DoorId)
  | driftNotice (d : DoorId)
  | captureOccupiedNotice (d : DoorId)
  | captureEmptiedNotice (d : DoorId)
  | alarmRaise (k : AlarmKind) (subject : Subject)
  | alarmClear (k : AlarmKind) (subject : Subject)
  | alarmResetCondition (k : AlarmKind) (subject : Subject)
  | storeWriteComplete (success : Bool)
  | lineCharacter (l : Line) (character : Byte) (goodStop : Bool)
  | gapTimerExpiry (l : Line)
  | silenceTimerExpiry (l : Line)
  | replySent (l : Line)
  | unknownKindRequest (kind : Byte) (r : Req)
  | identify (r : Req)
  | groupStatus (r : Req)
  | doorStatus (r : Req)
  | alarmRead (r : Req)
  | alarmAck (r : Req)
  | modeSet (r : Req)
  | closeDoors (r : Req)
  | closeZones (r : Req)
  | releaseDoors (r : Req)
  | isolate (r : Req)
  | restore (r : Req)
  | faultClear (r : Req)
  | floodSet (r : Req)
  | floodClear (r : Req)
  | emergencyRelease (r : Req)
  | driveTest (r : Req)
  | captureRead (r : Req)
  | driveCaptureRead (r : Req)
  | maintRead (r : Req)
  | countersClear (r : Req)
  | linesRead (r : Req)
  | linesClear (r : Req)
  | supervisionSet (r : Req)
  | timeSet (r : Req)
  | configRead (r : Req)
  | configStage (r : Req)
  | configCommit (r : Req)
  | configDiscard (r : Req)
  | restart (r : Req)
  deriving DecidableEq, Repr

end Sys2Proof
end

