-- ==== Sys2Proof/Config.lean ====
section
/-! DEFINITION. The types of the configuration image (R152, R153) and the values the manual leaves free. -/

namespace Sys2Proof.Machine

open Sys2Proof

/-- LOCAL or CLOSED (section 4.3). -/
inductive GroupMode where
  | local_ | closed
  deriving DecidableEq, Repr, Inhabited

/-- Assert and release time of one filter group, in filter steps (R7). -/
structure FilterTimes where
  assert : Nat
  release : Nat
  deriving DecidableEq, Repr, Inhabited

/-- One number per wear counter (R115); used for the counters and for their thresholds (R116). -/
structure Wear where
  overtravel : Nat
  switch : Nat
  obstruction : Nat
  drift : Nat
  drive : Nat
  deriving DecidableEq, Repr, Inhabited

/-- A set of alarm kinds: bit `code - 1` (R152). -/
abbrev KindSet := BitVec 20

/-- The group record of an image (R152). -/
structure GroupRecord where
  startMode : GroupMode
  warningTime : Nat
  dwellTime : Nat
  transitLimit : Nat
  driveSettle : Nat
  edgeClear : Nat
  closeOnLoss : Bool
  supervision : Nat
  normalCapacity : Vector Nat 4
  emergencyCapacity : Vector Nat 4
  wearThresholds : Wear
  checkErrorThreshold : Nat
  framingErrorThreshold : Nat
  recordMask : KindSet
  annunciateMask : KindSet
  routedKinds : KindSet
  endTimes : FilterTimes
  handleTimes : FilterTimes
  edgeTimes : FilterTimes
  lineTimes : FilterTimes
  deriving DecidableEq, Repr

/-- A door record of an image (R153). A label of length 0 is absent. -/
structure DoorRecord where
  present : Bool
  zone : ZoneId
  hpu : HpuId
  demand : Nat
  nominalClose : Nat
  nominalOpen : Nat
  margin : Nat
  edgeEnable : Bool
  floodInhibit : Bool
  driveCheck : Bool
  label : List Byte
  deriving DecidableEq, Repr

/-- A full image: one group record and 24 door records (section 9.0). -/
structure Image where
  group : GroupRecord
  doors : Vector DoorRecord 24
  deriving DecidableEq, Repr

/-- Hardware revision of IDENTIFY (R174). FREE: the manual states no value (entry 10). -/
opaque Config.hardwareRevision : Byte

/-- Program revision of IDENTIFY (R174). FREE: the manual states no value (entry 10). -/
opaque Config.programRevision : Byte

/-- The bytes a failed or interrupted store write leaves in non-volatile memory (R159). FREE, one value per draw
(entry 9). -/
opaque Config.leftBytes : Nat → List Byte

/-- The check value a failed or interrupted store write leaves (R159). FREE, one value per draw (entry 9). -/
opaque Config.leftCheck : Nat → BitVec 16

end Sys2Proof.Machine
end

