-- ==== Sys2Proof/Machine/Numbers.lean ====
section
/-! DEFINITION. The plain integer arithmetic and the byte orders of 00_scope.md, Conventions. -/

namespace Sys2Proof.Machine

open Sys2Proof

/-- "Set to the nearer end of the stated range when it falls outside" (00_scope.md, Integer arithmetic). -/
def clamp (lo hi x : Nat) : Nat := if x < lo then lo else if hi < x then hi else x

/-- A counter that stays at `top` when it would be incremented (R115, R126, R170). -/
def saturatingSucc (top x : Nat) : Nat := if x < top then x + 1 else top

/-- The distance of two numbers, |a - b| (R64). -/
def distance (a b : Nat) : Nat := (a - b) + (b - a)

/-- A two-byte number, high byte first (00_scope.md, Numbers). -/
def bytes2 (n : Nat) : List Byte := [byteOf (n / 256), byteOf n]

/-- The number that two bytes carry, high byte first. -/
def nat2 (hi lo : Byte) : Nat := hi.toNat * 256 + lo.toNat

/-- Group time in four bytes, high byte first. -/
def bytes4 (t : GroupTime) : List Byte :=
  [t.extractLsb' 24 8, t.extractLsb' 16 8, t.extractLsb' 8 8, t.extractLsb' 0 8]

/-- The byte of a flag: 1 for true, 0 for false. -/
def flagByte (b : Bool) : Byte := if b then 1 else 0

end Sys2Proof.Machine
end

