-- ==== Sys2Proof/Machine/Image.lean ====
section
/-! DEFINITION. The configuration image: the default image (R160), the record layouts of R152 and R153, the staging
checks (R154), the validity checks (R157), and the check algorithm (R164). -/

namespace Sys2Proof.Machine

open Sys2Proof

/-! ### The check of R164 -/

/-- One bit of the check (R164, step 3). -/
def crcBit (r : BitVec 16) (b : Bool) : BitVec 16 :=
  if r.msb != b then (r <<< 1) ^^^ 0x1021 else r <<< 1

/-- One byte of the check, most significant bit first (R164, step 2). -/
def crcByte (r : BitVec 16) (c : Byte) : BitVec 16 :=
  [7, 6, 5, 4, 3, 2, 1, 0].foldl (fun r i => crcBit r (c.getLsbD i)) r

/-- The 16-bit check over a run of bytes (R164). -/
def crc (bs : List Byte) : BitVec 16 := bs.foldl crcByte 0xFFFF

/-- A check as it is sent: high byte first (R162, R164). -/
def crcBytes (c : BitVec 16) : List Byte := [c.extractLsb' 8 8, c.extractLsb' 0 8]

/-! ### The default image -/

/-- The group record at the defaults of R152 and R7. -/
def GroupRecord.standard : GroupRecord where
  startMode := .closed
  warningTime := 50
  dwellTime := 50
  transitLimit := 60
  driveSettle := 20
  edgeClear := 10
  closeOnLoss := true
  supervision := 20
  normalCapacity := Vector.replicate 4 4
  emergencyCapacity := Vector.replicate 4 4
  wearThresholds := ⟨65535, 65535, 65535, 65535, 65535⟩
  checkErrorThreshold := 100
  framingErrorThreshold := 100
  recordMask := 0
  annunciateMask := 0
  routedKinds := 0
  endTimes := ⟨10, 10⟩
  handleTimes := ⟨5, 15⟩
  edgeTimes := ⟨2, 20⟩
  lineTimes := ⟨20, 20⟩

/-- A door record at the defaults of R153. -/
def DoorRecord.standard : DoorRecord where
  present := true
  zone := 0
  hpu := 0
  demand := 1
  nominalClose := 200
  nominalOpen := 200
  margin := 20
  edgeEnable := true
  floodInhibit := false
  driveCheck := true
  label := []

/-- The default image (R160). -/
def Image.standard : Image := ⟨.standard, Vector.replicate 24 .standard⟩

/-! ### Layouts -/

/-- Byte `i` of a record. -/
def byteAt (b : List Byte) (i : Nat) : Byte := b.getD i 0

/-- A kind set from its three bytes, code 1 in the lowest bit of the last byte (R152). -/
def kindSetOf (x y z : Byte) : KindSet := (x ++ y ++ z).setWidth 20

/-- A kind set in its three bytes (R152). -/
def kindSetBytes (k : KindSet) : List Byte :=
  let x : BitVec 24 := k.setWidth 24
  [x.extractLsb' 16 8, x.extractLsb' 8 8, x.extractLsb' 0 8]

/-- The checked fields of a group record hold allowed values (R152, R154): start mode, close-on-loss flag, and no kind
set that names a code outside 1-20. -/
def groupChecked (b : List Byte) : Bool :=
  (byteAt b 0).toNat ≤ 1 && (byteAt b 7).toNat ≤ 1 &&
  (byteAt b 31).toNat < 16 && (byteAt b 34).toNat < 16 && (byteAt b 37).toNat < 16

/-- The group record as its 48 bytes give it, before clamping (R152). -/
def groupOf (b : List Byte) : GroupRecord where
  startMode := if byteAt b 0 = 0 then .local_ else .closed
  warningTime := (byteAt b 1).toNat
  dwellTime := nat2 (byteAt b 2) (byteAt b 3)
  transitLimit := (byteAt b 4).toNat
  driveSettle := (byteAt b 5).toNat
  edgeClear := (byteAt b 6).toNat
  closeOnLoss := byteAt b 7 != 0
  supervision := (byteAt b 8).toNat
  normalCapacity := #v[(byteAt b 9).toNat, (byteAt b 11).toNat, (byteAt b 13).toNat, (byteAt b 15).toNat]
  emergencyCapacity := #v[(byteAt b 10).toNat, (byteAt b 12).toNat, (byteAt b 14).toNat, (byteAt b 16).toNat]
  wearThresholds :=
    { overtravel := nat2 (byteAt b 17) (byteAt b 18)
      switch := nat2 (byteAt b 19) (byteAt b 20)
      obstruction := nat2 (byteAt b 21) (byteAt b 22)
      drift := nat2 (byteAt b 23) (byteAt b 24)
      drive := nat2 (byteAt b 25) (byteAt b 26) }
  checkErrorThreshold := nat2 (byteAt b 27) (byteAt b 28)
  framingErrorThreshold := nat2 (byteAt b 29) (byteAt b 30)
  recordMask := kindSetOf (byteAt b 31) (byteAt b 32) (byteAt b 33)
  annunciateMask := kindSetOf (byteAt b 34) (byteAt b 35) (byteAt b 36)
  routedKinds := kindSetOf (byteAt b 37) (byteAt b 38) (byteAt b 39)
  endTimes := ⟨(byteAt b 40).toNat, (byteAt b 41).toNat⟩
  handleTimes := ⟨(byteAt b 42).toNat, (byteAt b 43).toNat⟩
  edgeTimes := ⟨(byteAt b 44).toNat, (byteAt b 45).toNat⟩
  lineTimes := ⟨(byteAt b 46).toNat, (byteAt b 47).toNat⟩

/-- Filter times clamped into 1-255 (R7, R152). -/
def FilterTimes.clamped (t : FilterTimes) : FilterTimes := ⟨clamp 1 255 t.assert, clamp 1 255 t.release⟩

/-- The clamped fields of a group record moved into their ranges (R152, R154). -/
def GroupRecord.clamped (g : GroupRecord) : GroupRecord :=
  { g with
    warningTime := clamp 0 100 g.warningTime
    dwellTime := clamp 10 300 g.dwellTime
    driveSettle := clamp 2 50 g.driveSettle
    edgeClear := clamp 5 100 g.edgeClear
    normalCapacity := Vector.ofFn fun h : HpuId => clamp 0 31 g.normalCapacity[h]
    emergencyCapacity := Vector.ofFn fun h : HpuId => clamp 0 31 g.emergencyCapacity[h]
    endTimes := g.endTimes.clamped
    handleTimes := g.handleTimes.clamped
    edgeTimes := g.edgeTimes.clamped
    lineTimes := g.lineTimes.clamped }

/-- The group record in its 48 bytes (R152). -/
def groupBytes (g : GroupRecord) : List Byte :=
  [match g.startMode with | .local_ => 0 | .closed => 1, byteOf g.warningTime] ++ bytes2 g.dwellTime ++
  [byteOf g.transitLimit, byteOf g.driveSettle, byteOf g.edgeClear, flagByte g.closeOnLoss, byteOf g.supervision] ++
  (List.finRange 4).flatMap (fun h => [byteOf g.normalCapacity[h], byteOf g.emergencyCapacity[h]]) ++
  bytes2 g.wearThresholds.overtravel ++ bytes2 g.wearThresholds.switch ++ bytes2 g.wearThresholds.obstruction ++
  bytes2 g.wearThresholds.drift ++ bytes2 g.wearThresholds.drive ++
  bytes2 g.checkErrorThreshold ++ bytes2 g.framingErrorThreshold ++
  kindSetBytes g.recordMask ++ kindSetBytes g.annunciateMask ++ kindSetBytes g.routedKinds ++
  [g.endTimes, g.handleTimes, g.edgeTimes, g.lineTimes].flatMap (fun t => [byteOf t.assert, byteOf t.release])

/-- A printable character of a label (R153). -/
def printable (c : Byte) : Bool := 0x20 ≤ c.toNat && c.toNat ≤ 0x7E

/-- The checked and refused fields of a door record hold allowed values (R153, R154, steps 1 and 2). -/
def doorChecked (b : List Byte) : Bool :=
  (byteAt b 0).toNat < 24 && (byteAt b 1).toNat ≤ 1 && (byteAt b 2).toNat < 8 && (byteAt b 3).toNat < 4 &&
  (byteAt b 11).toNat ≤ 16 && ((b.drop 12).take (byteAt b 11).toNat).all printable

/-- The door index of a door record; meaningful where `doorChecked` holds. -/
def doorIndexOf (b : List Byte) : DoorId := Fin.ofNat 24 (byteAt b 0).toNat

/-- The door record as its 28 bytes give it, before clamping (R153). -/
def doorOf (b : List Byte) : DoorRecord where
  present := byteAt b 1 != 0
  zone := Fin.ofNat 8 (byteAt b 2).toNat
  hpu := Fin.ofNat 4 (byteAt b 3).toNat
  demand := (byteAt b 4).toNat
  nominalClose := nat2 (byteAt b 5) (byteAt b 6)
  nominalOpen := nat2 (byteAt b 7) (byteAt b 8)
  margin := (byteAt b 9).toNat
  edgeEnable := (byteAt b 10).getLsbD 0
  floodInhibit := (byteAt b 10).getLsbD 1
  driveCheck := (byteAt b 10).getLsbD 2
  label := (b.drop 12).take (byteAt b 11).toNat

/-- The clamped fields of a door record moved into their ranges (R153, R154). -/
def DoorRecord.clamped (r : DoorRecord) : DoorRecord :=
  { r with
    demand := clamp 1 8 r.demand
    nominalClose := clamp 30 600 r.nominalClose
    nominalOpen := clamp 30 600 r.nominalOpen
    margin := clamp 0 100 r.margin }

/-- The door record in its 28 bytes: flag bits beyond the three read as 0, bytes after the label as 0x20 (R153). -/
def doorBytes (d : DoorId) (r : DoorRecord) : List Byte :=
  [byteOf d.val, flagByte r.present, byteOf r.zone.val, byteOf r.hpu.val, byteOf r.demand] ++
  bytes2 r.nominalClose ++ bytes2 r.nominalOpen ++
  [byteOf r.margin,
   (if r.edgeEnable then 1 else 0) ||| (if r.floodInhibit then 2 else 0) ||| (if r.driveCheck then 4 else 0),
   byteOf r.label.length] ++
  r.label ++ List.replicate (16 - r.label.length) 0x20

/-- The bytes of an image, in the order of its records (R164): the group record, then doors 0 to 23, each in the layout that
the host sees (R152, R153). The layout in non-volatile memory is not stated: DESIGN CHOICE (entry 31). -/
def imageBytes (i : Image) : List Byte :=
  groupBytes i.group ++ (List.finRange 24).flatMap (fun d => doorBytes d i.doors[d])

/-! ### Validity and the stored copy -/

/-- The two checks of a commit (R157). -/
inductive CommitFailure where
  | demandOverCn (d : DoorId)
  | ceOverCn (h : HpuId)
  deriving DecidableEq, Repr

/-- The first check that fails, if one does (R157). -/
def commitFailure (i : Image) : Option CommitFailure :=
  match (List.finRange 24).find? (fun d => i.doors[d].present && i.group.normalCapacity[i.doors[d].hpu] < i.doors[d].demand) with
  | some d => some (.demandOverCn d)
  | none =>
    match (List.finRange 4).find? (fun h => i.group.normalCapacity[h] < i.group.emergencyCapacity[h]) with
    | some h => some (.ceOverCn h)
    | none => none

/-- The bytes of door `d`'s record in a stored image. -/
def storedDoor (bs : List Byte) (d : DoorId) : List Byte := (bs.drop (48 + 28 * d.val)).take 28

/-- The image a run of stored bytes spells, whatever its values. -/
def storedImage (bs : List Byte) : Image :=
  ⟨groupOf (bs.take 48), Vector.ofFn fun d : DoorId => doorOf (storedDoor bs d)⟩

/-- The power-on checks (R160): the check value, then every field against the staging rules with nothing clamped, then
the validity checks of R157. That a stored image is 720 bytes and each door record carries its own index is part of the layout
of entry 31: DESIGN CHOICE. -/
def storedPasses (bs : List Byte) (check : BitVec 16) : Bool :=
  bs.length == 720 && crc bs == check &&
  groupChecked (bs.take 48) && decide ((groupOf (bs.take 48)).clamped = groupOf (bs.take 48)) &&
  (List.finRange 24).all (fun d =>
    doorChecked (storedDoor bs d) && doorIndexOf (storedDoor bs d) == d &&
    decide ((doorOf (storedDoor bs d)).clamped = doorOf (storedDoor bs d))) &&
  (commitFailure (storedImage bs)).isNone

end Sys2Proof.Machine
end

