-- ==== Sys2Proof/Machine/Types.lean ====
section
/-! DEFINITION. The records each block of the part holds (00_scope.md, Block overview). -/

namespace Sys2Proof.Machine

open Sys2Proof

/-! ### Input conditioner and door channels (chapter 1) -/

/-- A running pending timer: its target and its length in filter steps (R5, R7). -/
structure Pending where
  target : Bool
  steps : Nat
  deriving DecidableEq, Repr

/-- One input filter (section 1.4). `true` is ACTIVE. `first` is the running first interval of an unprimed filter (R8). -/
structure Filter where
  millivolts : Nat
  raw : Bool
  filtered : Bool
  pending : Option Pending
  primed : Bool
  first : Option Nat
  deriving DecidableEq, Repr

/-- One door channel: the seven filtered inputs (R1) and the three outputs (R2). -/
structure Channel where
  closedSwitch : Filter
  openSwitch : Filter
  openHandle : Filter
  closeHandle : Filter
  leafEdge : Filter
  openReadback : Filter
  closeReadback : Filter
  openValve : Bool
  closeValve : Bool
  warning : Bool
  deriving DecidableEq, Repr

/-- The six group lines and the reset pin (R3, R4). -/
structure GroupLines where
  emergency : Filter
  mainSupply : Filter
  pressure : Vector Filter 4
  resetPin : Filter
  deriving DecidableEq, Repr

/-- The strap wires, not filtered (R162, R165). `true` is ACTIVE. -/
structure Straps where
  address : BitVec 5
  parity : Bool
  rate : Bool
  deriving DecidableEq, Repr

/-! ### Door table (chapter 2) -/

/-- The wait of a door stopped by an obstruction (R36). -/
inductive EdgeWait where
  | none | edgeHeld | clearing
  deriving DecidableEq, Repr, Inhabited

/-- A drive test result (R14). -/
inductive TestResult where
  | none | running | pass | failOpen | failClose | aborted
  deriving DecidableEq, Repr, Inhabited

/-- A running drive test: its phase, the settle time it took, its three timers, and whether the phase's on-check has
passed (R14, R15). -/
structure TestRun where
  phase : Dir
  settle : Nat
  hold : Bool
  onCheck : Bool
  onPassed : Bool
  offCheck : Bool
  deriving DecidableEq, Repr

/-- The last full stroke (R61). -/
structure LastStroke where
  ticks : Nat
  dir : Dir
  accepted : Bool
  deriving DecidableEq, Repr

/-- A valve's drive check (R11). -/
structure Check where
  timer : Option Nat
  reported : Bool
  deriving DecidableEq, Repr

/-- What a settling door has noted since it entered SETTLING (R22, R23). -/
structure SettleNotes where
  closedPrimed : Bool
  openPrimed : Bool
  conflict : Bool
  deriving DecidableEq, Repr

/-- A door record (section 2.1). Each timer is `none` while idle and holds its length while it runs. -/
structure Door where
  present : Bool
  motion : Motion
  dir : Dir
  p0 : Nat
  elapsed : Nat
  deadline : Nat
  full : Bool
  authority : MotionAuthority
  held : Bool
  estimate : Nat
  learnedClose : Nat
  learnedOpen : Nat
  lastStroke : Option LastStroke
  transit : Bool
  transitTimer : Option Nat
  transitLong : Bool
  warningTimer : Option Nat
  dwellTimer : Option Nat
  edgeWait : EdgeWait
  edgeTimer : Option Nat
  drifted : Bool
  standing : Standing
  tight : Bool
  changed : Bool
  testResult : TestResult
  test : Option TestRun
  openCheck : Check
  closeCheck : Check
  faulted : Bool
  settle : SettleNotes
  travelDrift : Bool
  deriving DecidableEq, Repr

/-! ### Order resolver (chapter 4) -/

/-- What the resolver holds for one door (section 4.1). -/
structure DoorOrder where
  registered : Bool
  isolated : Bool
  mark : Bool
  reported : Standing
  deriving DecidableEq, Repr

/-- The order resolver (section 4.1). -/
structure Resolver where
  mode : GroupMode
  latch : Bool
  flood : ZoneSet
  doors : Vector DoorOrder 24
  deriving DecidableEq, Repr

/-! ### Flow allocator (chapter 5) -/

/-- The pending notice of an OFFERED door (section 5.2). A JOIN keeps the HPU and demand the image gave when it was
taken (R105). -/
inductive PendingNotice where
  | none
  | withdrawn
  | joined (c : Dir) (hpu : HpuId) (demand : Nat)
  deriving DecidableEq, Repr

/-- A door's standing with the allocator (section 5.2), with the HPU it stands under and the demand counted. -/
inductive AllocStanding where
  | out
  | waiting (hpu : HpuId) (c : Dir) (paused : Bool) (demand : Nat)
  | offered (hpu : HpuId) (dir : Dir) (demand : Nat) (notice : PendingNotice)
  | held (hpu : HpuId) (dir : Dir) (demand : Nat)
  deriving DecidableEq, Repr

/-- One HPU's record (section 5.2). `order` holds the doors ever granted since the last start, earliest most recent
grant first. -/
structure Hpu where
  capacity : Nat
  inUse : Nat
  granted : List DoorId
  closeQueue : List DoorId
  openQueue : List DoorId
  order : List DoorId
  flowLost : Bool
  deriving DecidableEq, Repr

/-- The flow allocator. `flowShort`, `flowLost` and `onEmergency` are the alarms as last reported (R102, R103). -/
structure Alloc where
  hpus : Vector Hpu 4
  doors : Vector AllocStanding 24
  flowShort : Vector Bool 24
  onEmergency : Bool
  deriving DecidableEq, Repr

/-! ### Fault recorder (chapter 6) -/

/-- A set of fault kinds: bit 0 for DRIVE_FAULT up to bit 3 for SWITCH_SEQUENCE (R176). -/
abbrev FaultSet := BitVec 4

/-- An occupied first-fault capture: snapshot and also-seen set (R110). -/
structure Capture where
  kind : FaultKind
  data : FaultData
  time : GroupTime
  alsoSeen : FaultSet
  deriving DecidableEq, Repr

/-- The group drive capture (R118). -/
structure DriveCapture where
  door : DoorId
  valve : Dir
  expected : Bool
  time : GroupTime
  deriving DecidableEq, Repr

/-- What the recorder holds for one door (section 6.1). -/
structure DoorFaults where
  capture : Option Capture
  counters : Wear
  wear : Bool
  deriving DecidableEq, Repr

/-- The fault recorder (section 6.1). -/
structure Recorder where
  doors : Vector DoorFaults 24
  drive : Option DriveCapture
  deriving DecidableEq, Repr

/-! ### Alarm list (chapter 7) -/

/-- The three states of an entry (R122). -/
inductive EntryState where
  | activeUnack | activeAck | clearedUnack
  deriving DecidableEq, Repr, Inhabited

/-- An alarm entry (R122); its class is fixed by its kind. -/
structure Entry where
  kind : AlarmKind
  subject : Subject
  state : EntryState
  annunciated : Bool
  first : GroupTime
  last : GroupTime
  count : Nat
  deriving DecidableEq, Repr

/-- The alarm list: ordinary entries oldest first, the overflow entry, the two outputs and ALARMS_CHANGED. -/
structure AlarmList where
  entries : List Entry
  overflow : Option Entry
  common : Bool
  routed : Bool
  changed : Bool
  deriving DecidableEq, Repr

/-! ### Configuration store (chapter 9) -/

/-- The copy in non-volatile memory with its check value (R159). -/
structure Stored where
  bytes : List Byte
  check : BitVec 16
  deriving DecidableEq, Repr

/-- The last write outcome (section 9.0). -/
inductive WriteOutcome where
  | none | success | failure
  deriving DecidableEq, Repr, Inhabited

/-- The configuration store (section 9.0). -/
structure Store where
  active : Image
  staging : Image
  stored : Stored
  writing : Bool
  outcome : WriteOutcome
  defaultLoaded : Bool
  deriving DecidableEq, Repr

/-! ### Line port (chapter 10) -/

/-- The seven states of a receiver (R163). -/
inductive RxState where
  | hunt | address | kind | length | body | check | closed
  deriving DecidableEq, Repr, Inhabited

/-- What caused the last start (R174). -/
inductive StartCause where
  | powerOn | resetPin | restartRequest
  deriving DecidableEq, Repr, Inhabited

/-- One line: receiver, the characters kept since the address, gap timer, waiting request, reply being sent, error
counters and silence supervision (R163, R167, R170, R171). -/
structure LinePort where
  rx : RxState
  buffer : List Byte
  gap : Bool
  waiting : Option Instr
  reply : Option (List Byte)
  checkErrors : Nat
  framingErrors : Nat
  silence : Option Nat
  silent : Bool
  degraded : Bool
  deriving DecidableEq, Repr

/-- The line port. `restarting` is the line whose RESTART reply is being sent (R179). -/
structure Port where
  lineA : LinePort
  lineB : LinePort
  fastRate : Bool
  address : BitVec 5
  fallback : Bool
  interval : Nat
  restarted : Bool
  remoteWasLost : Bool
  cause : StartCause
  restarting : Option Line
  deriving DecidableEq, Repr

end Sys2Proof.Machine
end

