-- ==== Sys2Proof/Machine/PowerUp.lean ====
section
/-! DEFINITION. The value every block takes at power-on, record by record. -/

namespace Sys2Proof.Machine

open Sys2Proof

/-- Whether a terminal voltage reads ACTIVE at power-on: above 15 V at that moment (R1). -/
def activeAtPowerOn (millivolts : Nat) : Bool := 15000 < millivolts

/-- A filter at power-on: filtered INACTIVE, timer idle, unprimed, its first interval started with the time of its raw
value (R8). -/
def Filter.atPowerOn (t : FilterTimes) (millivolts : Nat) : Filter where
  millivolts := millivolts
  raw := activeAtPowerOn millivolts
  filtered := false
  pending := none
  primed := false
  first := some (if activeAtPowerOn millivolts then t.assert else t.release)

/-- The fixed times of the readback group (R7). -/
def readbackTimes : FilterTimes := ⟨2, 2⟩

/-- The fixed times of the reset pin (R4, R7). -/
def resetPinTimes : FilterTimes := ⟨5, 5⟩

/-- The filter times of a door input's group (R1, R7). -/
def doorInputTimes (g : GroupRecord) : DoorInput → FilterTimes
  | .closedSwitch | .openSwitch => g.endTimes
  | .openHandle | .closeHandle => g.handleTimes
  | .leafEdge => g.edgeTimes
  | .openReadback | .closeReadback => readbackTimes

/-- The filter times of an input's group (R3, R4, R7). -/
def inputTimes (g : GroupRecord) : InputId → FilterTimes
  | .door _ k => doorInputTimes g k
  | .emergency | .mainSupply | .pressure _ => g.lineTimes
  | .resetPin => resetPinTimes

/-- A channel at power-on: its terminals as they stand, all three outputs OFF (R1, R2, R8). -/
def Channel.atPowerOn (g : GroupRecord) (c : Channel) : Channel where
  closedSwitch := .atPowerOn (doorInputTimes g .closedSwitch) c.closedSwitch.millivolts
  openSwitch := .atPowerOn (doorInputTimes g .openSwitch) c.openSwitch.millivolts
  openHandle := .atPowerOn (doorInputTimes g .openHandle) c.openHandle.millivolts
  closeHandle := .atPowerOn (doorInputTimes g .closeHandle) c.closeHandle.millivolts
  leafEdge := .atPowerOn (doorInputTimes g .leafEdge) c.leafEdge.millivolts
  openReadback := .atPowerOn (doorInputTimes g .openReadback) c.openReadback.millivolts
  closeReadback := .atPowerOn (doorInputTimes g .closeReadback) c.closeReadback.millivolts
  openValve := false
  closeValve := false
  warning := false

/-- The group lines at power-on (R3, R4, R8). -/
def GroupLines.atPowerOn (g : GroupRecord) (l : GroupLines) : GroupLines where
  emergency := .atPowerOn g.lineTimes l.emergency.millivolts
  mainSupply := .atPowerOn g.lineTimes l.mainSupply.millivolts
  pressure := Vector.ofFn fun h : HpuId => .atPowerOn g.lineTimes l.pressure[h].millivolts
  resetPin := .atPowerOn resetPinTimes l.resetPin.millivolts

/-- A check that is idle (R48). -/
def Check.idle : Check := ⟨none, false⟩

/-- No settling note taken (R22). -/
def SettleNotes.fresh : SettleNotes := ⟨false, false, false⟩

/-- A door record at power-on (R48), with the standing authority the resolver reports (R86). -/
def Door.atPowerOn (r : DoorRecord) (standing : Standing) : Door where
  present := r.present
  motion := if r.present then .settling else .absent
  dir := .cls
  p0 := 500
  elapsed := 0
  deadline := 10
  full := false
  authority := .local_
  held := false
  estimate := 500
  learnedClose := r.nominalClose
  learnedOpen := r.nominalOpen
  lastStroke := none
  transit := false
  transitTimer := none
  transitLong := false
  warningTimer := none
  dwellTimer := none
  edgeWait := .none
  edgeTimer := none
  drifted := false
  standing := standing
  tight := false
  changed := true
  testResult := .none
  test := none
  openCheck := .idle
  closeCheck := .idle
  faulted := false
  settle := .fresh
  travelDrift := false

/-- The standing authority a start mode gives a door at power-on (R86). -/
def standingAtPowerOn (i : Image) (d : DoorId) : Standing :=
  if i.doors[d].present then (match i.group.startMode with | .closed => .central | .local_ => .none) else .none

/-- The order resolver at power-on (R86). -/
def Resolver.atPowerOn (i : Image) : Resolver where
  mode := i.group.startMode
  latch := false
  flood := 0
  doors := Vector.ofFn fun d : DoorId => ⟨false, false, false, standingAtPowerOn i d⟩

/-- An HPU record with nothing granted, nothing waiting and no capacity (R106). -/
def Hpu.empty : Hpu := ⟨0, 0, [], [], [], [], false⟩

/-- The flow allocator at power-on (R106). -/
def Alloc.empty : Alloc where
  hpus := Vector.replicate 4 .empty
  doors := Vector.replicate 24 .out
  flowShort := Vector.replicate 24 false
  onEmergency := false

/-- Counters at 0 (R117, R120). -/
def Wear.zero : Wear := ⟨0, 0, 0, 0, 0⟩

/-- A door of the recorder with nothing captured and nothing counted (R119, R120). -/
def DoorFaults.clear : DoorFaults := ⟨none, .zero, false⟩

/-- The fault recorder at power-on (R120). -/
def Recorder.empty : Recorder := ⟨Vector.replicate 24 .clear, none⟩

/-- The alarm list at power-on (R140). ALARMS_CHANGED is clear: DESIGN CHOICE (entry 18). -/
def AlarmList.empty : AlarmList := ⟨[], none, false, false, false⟩

/-- The configuration store at power-on (R160, R161): the stored copy is the active image if it passes, and the default
image is otherwise. -/
def Store.atPowerOn (stored : Stored) : Store :=
  let passes := storedPasses stored.bytes stored.check
  let image := if passes then storedImage stored.bytes else Image.standard
  { active := image, staging := image, stored := stored, writing := false, outcome := .none, defaultLoaded := !passes }

/-- A line at power-on (R163, R170, R171, R179). -/
def LinePort.atStart (interval : Nat) : LinePort where
  rx := .hunt
  buffer := []
  gap := false
  waiting := none
  reply := none
  checkErrors := 0
  framingErrors := 0
  silence := if interval = 0 then none else some interval
  silent := false
  degraded := false

/-- Whether the number of ACTIVE straps among the six is odd (R165). -/
def parityOdd (s : Straps) : Bool :=
  (((List.range 5).countP (fun i => s.address.getLsbD i)) + (if s.parity then 1 else 0)) % 2 == 1

/-- Whether the straps give a usable address: parity odd and a number 1-30 (R165). -/
def strapsGood (s : Straps) : Bool := parityOdd s && s.address != 0 && s.address != 31

/-- The address in use for these straps (R165). -/
def addressOf (s : Straps) : BitVec 5 := if strapsGood s then s.address else 31

/-- The line port at power-on (R162, R165, R169, R171, R179). -/
def Port.atPowerOn (interval : Nat) (s : Straps) : Port where
  lineA := .atStart interval
  lineB := .atStart interval
  fastRate := s.rate
  address := addressOf s
  fallback := !strapsGood s
  interval := interval
  restarted := true
  remoteWasLost := false
  cause := .powerOn
  restarting := none

/-- The raises on their way after power-on: CONFIG_DEFAULT if the default image was loaded (R160) and ADDRESS_FALLBACK
if the straps were bad (R165). The alarm list takes them as events (R140). The first of the two is made first: DESIGN CHOICE
(R123; entry 25). -/
def powerOnRaises (store : Store) (port : Port) : List Instr :=
  (if store.defaultLoaded then [.alarmRaise .configDefault .group] else []) ++
  (if port.fallback then [.alarmRaise .addressFallback .group] else [])

end Sys2Proof.Machine
end

