-- ==== Sys2Proof/Machine/State.lean ====
section
/-! DEFINITION. The state of the part, the reasons a step can stop, and the state after reset. -/

namespace Sys2Proof.Machine

open Sys2Proof

/-- The state of the part: what each block holds, the messages on their way between blocks, and the commands waiting.
`inFlight` holds the messages made and not yet taken, oldest first, each as the command that takes it (entry 2).
`pending` and `freeDraws` are the model's own: the queue of commands, and how many free values have been drawn
(entry 9). -/
structure State where
  channels : Vector Channel 24
  lines : GroupLines
  straps : Straps
  doors : Vector Door 24
  resolver : Resolver
  alloc : Alloc
  recorder : Recorder
  alarms : AlarmList
  store : Store
  port : Port
  time : GroupTime
  inFlight : List Instr
  pending : List Instr
  freeDraws : Nat
  deriving DecidableEq, Repr

/-- Why a step stops with a fault. -/
inductive Fault where
  /-- Raised by UNKNOWN_KIND_REQUEST with a kind code that the kind-code table lists or that is a reply kind, which
  `Instr.wellFormed` refuses: the command names no event of the part (R164, R168; entry 22). Safe: no behaviour of the
  part is replaced. -/
  | malformedCommand
  deriving DecidableEq, Repr

/-- Why a step has no meaning. -/
inductive Refusal where
  /-- Raised by `exec` for a command that has no meaning yet. No arm of `exec` raises it. Safe. -/
  | notModelled (mnemonic : String)
  deriving DecidableEq, Repr

/-- The state after supply is applied, from what the wires and the non-volatile memory then hold (R48, R86, R106, R120,
R140, R160, R178, R179). -/
def State.poweredUp (channels : Vector Channel 24) (lines : GroupLines) (straps : Straps) (stored : Stored)
    (pending : List Instr) (freeDraws : Nat) : State :=
  let store := Store.atPowerOn stored
  let group := store.active.group
  let port := Port.atPowerOn group.supervision straps
  { channels := Vector.ofFn fun d : DoorId => channels[d].atPowerOn group
    lines := lines.atPowerOn group
    straps := straps
    doors := Vector.ofFn fun d : DoorId => .atPowerOn store.active.doors[d] (standingAtPowerOn store.active d)
    resolver := .atPowerOn store.active
    alloc := .empty
    recorder := .empty
    alarms := .empty
    store := store
    port := port
    time := 0
    inFlight := powerOnRaises store port
    pending := pending
    freeDraws := freeDraws }

/-- A filter with its terminal at 0 V, for the state before the first power-on (entry 7). -/
def Filter.dead : Filter := ⟨0, false, false, none, false, none⟩

/-- A channel with every terminal at 0 V (entry 7). -/
def Channel.dead : Channel := ⟨.dead, .dead, .dead, .dead, .dead, .dead, .dead, false, false, false⟩

/-- The state after reset: power-on with every terminal at 0 V, every strap inactive and no stored image
(entries 7, 8, 21). -/
def State.reset : State :=
  .poweredUp (Vector.replicate 24 .dead) ⟨.dead, .dead, Vector.replicate 4 .dead, .dead⟩ ⟨0, false, false⟩ ⟨[], 0⟩ [] 0

end Sys2Proof.Machine
end

