-- ==== Sys2Proof/Machine/Ops.lean ====
section
/-! DEFINITION. The named operations over State: which record a name reaches, how it is written, and how a message is
sent and taken. -/

namespace Sys2Proof.Machine

open Sys2Proof

/-! ### Reaching and writing records -/

/-- The filter of one input of a channel (R1). -/
def Channel.filter (c : Channel) : DoorInput → Filter
  | .closedSwitch => c.closedSwitch
  | .openSwitch => c.openSwitch
  | .openHandle => c.openHandle
  | .closeHandle => c.closeHandle
  | .leafEdge => c.leafEdge
  | .openReadback => c.openReadback
  | .closeReadback => c.closeReadback

/-- A channel with one filter replaced. -/
def Channel.withFilter (c : Channel) (k : DoorInput) (f : Filter) : Channel :=
  match k with
  | .closedSwitch => { c with closedSwitch := f }
  | .openSwitch => { c with openSwitch := f }
  | .openHandle => { c with openHandle := f }
  | .closeHandle => { c with closeHandle := f }
  | .leafEdge => { c with leafEdge := f }
  | .openReadback => { c with openReadback := f }
  | .closeReadback => { c with closeReadback := f }

/-- The active configuration image (R158). -/
def State.image (s : State) : Image := s.store.active

/-- The door record of door `d`. -/
def State.door (s : State) (d : DoorId) : Door := s.doors[d]

/-- The channel of door `d`. -/
def State.channel (s : State) (d : DoorId) : Channel := s.channels[d]

/-- The filter of an input. -/
def State.filter (s : State) : InputId → Filter
  | .door d k => (s.channel d).filter k
  | .emergency => s.lines.emergency
  | .mainSupply => s.lines.mainSupply
  | .pressure h => s.lines.pressure[h]
  | .resetPin => s.lines.resetPin

/-- The state with one channel replaced. -/
def State.withChannel (s : State) (d : DoorId) (c : Channel) : State :=
  { s with channels := s.channels.set d c }

/-- The state with one door record replaced. -/
def State.withDoor (s : State) (d : DoorId) (r : Door) : State := { s with doors := s.doors.set d r }

/-- The state with the filter of an input replaced. -/
def State.withFilter (s : State) (i : InputId) (f : Filter) : State :=
  match i with
  | .door d k => s.withChannel d ((s.channel d).withFilter k f)
  | .emergency => { s with lines := { s.lines with emergency := f } }
  | .mainSupply => { s with lines := { s.lines with mainSupply := f } }
  | .pressure h => { s with lines := { s.lines with pressure := s.lines.pressure.set h f } }
  | .resetPin => { s with lines := { s.lines with resetPin := f } }

/-- One line of the line port. -/
def Port.line (p : Port) : Line → LinePort
  | .a => p.lineA
  | .b => p.lineB

/-- The line port with one line replaced. -/
def Port.withLine (p : Port) (l : Line) (x : LinePort) : Port :=
  match l with
  | .a => { p with lineA := x }
  | .b => { p with lineB := x }

/-- The state with one line of the line port replaced. -/
def State.withLine (s : State) (l : Line) (x : LinePort) : State := { s with port := s.port.withLine l x }

/-- The other line. -/
def otherLine : Line → Line
  | .a => .b
  | .b => .a

/-- The state with the order resolver replaced. -/
def State.withResolver (s : State) (r : Resolver) : State := { s with resolver := r }

/-- The state with the flow allocator replaced. -/
def State.withAlloc (s : State) (a : Alloc) : State := { s with alloc := a }

/-- The state with the fault recorder replaced. -/
def State.withRecorder (s : State) (r : Recorder) : State := { s with recorder := r }

/-- The state with the alarm list replaced. -/
def State.withAlarms (s : State) (a : AlarmList) : State := { s with alarms := a }

/-- The state with the configuration store replaced. -/
def State.withStore (s : State) (x : Store) : State := { s with store := x }

/-- The state with the line port replaced. -/
def State.withPort (s : State) (p : Port) : State := { s with port := p }

/-- Every door, in index order. -/
def allDoors : List DoorId := List.finRange 24

/-- Every HPU, in index order. -/
def allHpus : List HpuId := List.finRange 4

/-! ### Messages between blocks -/

/-- The messages join those on their way, in the order they were made (R94, R123). -/
def State.send (s : State) (ms : List Instr) : State := { s with inFlight := s.inFlight ++ ms }

/-- The message has been taken: the oldest of its like on its way is no longer so (entry 2). -/
def State.taking (s : State) (m : Instr) : State := { s with inFlight := s.inFlight.erase m }

/-- The ways on which messages keep their order (R81, R94, R123; entry 4). Standing-authority reports and rulings go one
way, from the order resolver to the door table (R81). -/
inductive Route where
  | toDoorTable (d : DoorId)
  | referral (d : DoorId)
  | arrival (d : DoorId)
  | handleNotice (d : DoorId)
  | toAllocator (d : DoorId)
  | fromAllocator (d : DoorId)
  | toRecorder (d : DoorId)
  | fromRecorder (d : DoorId)
  | alarm (k : AlarmKind) (s : Subject)
  deriving DecidableEq, Repr

/-- The way a message goes; none for a command that is no message between blocks. -/
def route? : Instr → Option Route
  | .standingAuthorityReport d _ | .handleRuling d _ => some (.toDoorTable d)
  | .handleReferral d _ _ => some (.referral d)
  | .arrivalNotice d => some (.arrival d)
  | .openHandleReleaseNotice d => some (.handleNotice d)
  | .join d _ | .withdraw d | .release d | .reversed d _ | .taken d _ | .handedBack d => some (.toAllocator d)
  | .grant d _ | .pause d => some (.fromAllocator d)
  | .faultReport d .. | .mismatchReport d .. | .obstructionNotice d | .driftNotice d => some (.toRecorder d)
  | .captureOccupiedNotice d | .captureEmptiedNotice d => some (.fromRecorder d)
  | .alarmRaise k s | .alarmClear k s | .alarmResetCondition k s => some (.alarm k s)
  | .powerOn | .rawInputChange .. | .filterExpiry _ | .firstIntervalExpiry _ | .checkTimerExpiry ..
  | .driveTestHoldExpiry _ | .driveTestOnCheckExpiry _ | .driveTestOffCheckExpiry _ | .warningTimerExpiry _
  | .dwellTimerExpiry _ | .edgeClearTimerExpiry _ | .transitLimitExpiry _ | .deadlineExpiry _ | .groupTimeSecond
  | .storeWriteComplete _ | .lineCharacter .. | .gapTimerExpiry _ | .silenceTimerExpiry _ | .replySent _
  | .unknownKindRequest .. | .identify _ | .groupStatus _ | .doorStatus _ | .alarmRead _ | .alarmAck _
  | .modeSet _ | .closeDoors _ | .closeZones _ | .releaseDoors _ | .isolate _ | .restore _ | .faultClear _
  | .floodSet _ | .floodClear _ | .emergencyRelease _ | .driveTest _ | .captureRead _ | .driveCaptureRead _
  | .maintRead _ | .countersClear _ | .linesRead _ | .linesClear _ | .supervisionSet _ | .timeSet _
  | .configRead _ | .configStage _ | .configCommit _ | .configDiscard _ | .restart _ => none

/-- Whether a door is in a set (R173). -/
def inDoors (s : DoorSet) (d : DoorId) : Bool := s.getLsbD d.val

/-- Whether a zone is in a set (R173). -/
def inZones (s : ZoneSet) (z : ZoneId) : Bool := s.getLsbD z.val

end Sys2Proof.Machine
end

