-- ==== Sys2Proof/Machine/Alarms.lean ====
section
/-! DEFINITION. The alarm list: entries, overflow, masks and outputs (chapter 7). -/

namespace Sys2Proof.Machine

open Sys2Proof

/-- The code of an alarm kind, 1-20 (R123). -/
def alarmCode : AlarmKind → Nat
  | .driveFault => 1
  | .switchConflict => 2
  | .overtravel => 3
  | .switchSequence => 4
  | .driftOpen => 5
  | .travelDrift => 6
  | .wear => 7
  | .flowShort => 8
  | .transitLong => 9
  | .openInhibited => 10
  | .flowLost => 11
  | .onEmergencySupply => 12
  | .emergencyClose => 13
  | .remoteLost => 14
  | .lineSilent => 15
  | .lineDegraded => 16
  | .addressFallback => 17
  | .configDefault => 18
  | .storeFault => 19
  | .listOverflow => 20

/-- Every alarm kind, in the order of the codes. -/
def allAlarmKinds : List AlarmKind :=
  [.driveFault, .switchConflict, .overtravel, .switchSequence, .driftOpen, .travelDrift, .wear, .flowShort,
   .transitLong, .openInhibited, .flowLost, .onEmergencySupply, .emergencyClose, .remoteLost, .lineSilent,
   .lineDegraded, .addressFallback, .configDefault, .storeFault, .listOverflow]

/-- Whether a kind set names a kind (R152). -/
def inKinds (s : KindSet) (k : AlarmKind) : Bool := s.getLsbD (alarmCode k - 1)

/-- Whether the record mask may exclude a kind (R123). -/
def recordMaskable : AlarmKind → Bool
  | .driveFault | .switchConflict | .overtravel | .switchSequence | .emergencyClose | .remoteLost | .listOverflow => false
  | .driftOpen | .travelDrift | .wear | .flowShort | .transitLong | .openInhibited | .flowLost | .onEmergencySupply
  | .lineSilent | .lineDegraded | .addressFallback | .configDefault | .storeFault => true

/-- The most ordinary entries the list holds (R124). -/
def listLimit : Nat := 48

/-- The most ordinary entries at which LIST_OVERFLOW's reset condition is met (R131). -/
def overflowReset : Nat := 40

/-- Whether an entry is of a kind and subject. -/
def Entry.isOf (e : Entry) (k : AlarmKind) (s : Subject) : Bool := e.kind == k && e.subject == s

/-- Whether an entry holds the outputs: annunciated and not acknowledged (R134). -/
def Entry.calls (e : Entry) : Bool := e.annunciated && e.state != .activeAck

/-- Every entry, the overflow entry last (R136). -/
def AlarmList.all (a : AlarmList) : List Entry := a.entries ++ a.overflow.toList

/-- The outputs set afresh (R134, R135). -/
def AlarmList.setOutputs (routed : KindSet) (a : AlarmList) : AlarmList :=
  { a with
    common := a.all.any Entry.calls
    routed := a.all.any fun e => e.calls && inKinds routed e.kind }

/-- The list changed: ALARMS_CHANGED set (R138). -/
def AlarmList.touched (a : AlarmList) : AlarmList := { a with changed := true }

/-- A new entry (R125, R130). -/
def Entry.new (g : GroupRecord) (t : GroupTime) (k : AlarmKind) (s : Subject) : Entry where
  kind := k
  subject := s
  state := .activeUnack
  annunciated := !inKinds g.annunciateMask k
  first := t
  last := t
  count := 1

/-- A re-raise of a CLEARED_UNACK entry; every other entry is unchanged (R126, R133). -/
def Entry.reraised (g : GroupRecord) (t : GroupTime) (e : Entry) : Entry :=
  match e.state with
  | .clearedUnack =>
    { e with
      state := .activeUnack, last := t, count := saturatingSucc 255 e.count
      annunciated := !inKinds g.annunciateMask e.kind }
  | .activeUnack | .activeAck => e

/-- A lost raise counted at the overflow entry (R130). -/
def overflowRaised (g : GroupRecord) (t : GroupTime) : Option Entry → Entry
  | none => .new g t .listOverflow .group
  | some e =>
    match e.state with
    | .clearedUnack => e.reraised g t
    | .activeUnack | .activeAck => { e with last := t, count := saturatingSucc 255 e.count }

/-- LIST_OVERFLOW raised by the list itself (R130). -/
def AlarmList.overflowed (g : GroupRecord) (t : GroupTime) (a : AlarmList) : AlarmList :=
  AlarmList.touched { a with overflow := some (overflowRaised g t a.overflow) }

/-- The overflow entry's reset condition evaluated (R131). -/
def AlarmList.evalOverflow (t : GroupTime) (a : AlarmList) : AlarmList :=
  if overflowReset < a.entries.length then a
  else match a.overflow with
    | none => a
    | some e =>
      match e.state with
      | .activeUnack => AlarmList.touched { a with overflow := some { e with state := .clearedUnack, last := t } }
      | .activeAck => AlarmList.touched { a with overflow := none }
      | .clearedUnack => a

/-- The first entry of a kind and subject. -/
def AlarmList.find (a : AlarmList) (k : AlarmKind) (s : Subject) : Option Entry := a.entries.find? (·.isOf k s)

/-- Every entry of a kind and subject replaced by a function of it. -/
def AlarmList.update (a : AlarmList) (k : AlarmKind) (s : Subject) (f : Entry → Entry) : AlarmList :=
  { a with entries := a.entries.map fun e => if e.isOf k s then f e else e }

/-- The entry of a kind and subject removed, the later ones closing up (R124). -/
def AlarmList.remove (a : AlarmList) (k : AlarmKind) (s : Subject) : AlarmList :=
  { a with entries := a.entries.filter fun e => !e.isOf k s }

/-- Whether a subject is a door that is ABSENT in an image (R125). -/
def absentSubject (i : Image) : Subject → Bool
  | .door d => !i.doors[d].present
  | .hpu _ | .line _ | .group => false

/-- A raise taken (R125, R126, R130, R132). A raise of LIST_OVERFLOW is the list's own (R130). -/
def AlarmList.raise (i : Image) (t : GroupTime) (k : AlarmKind) (s : Subject) (a : AlarmList) : AlarmList :=
  let g := i.group
  if k = .listOverflow then (a.overflowed g t).setOutputs g.routedKinds
  else match a.find k s with
    | some e =>
      match e.state with
      | .clearedUnack => ((a.update k s (Entry.reraised g t)).touched).setOutputs g.routedKinds
      | .activeUnack | .activeAck => a
    | none =>
      if (recordMaskable k && inKinds g.recordMask k) || absentSubject i s then a
      else if listLimit ≤ a.entries.length then (a.overflowed g t).setOutputs g.routedKinds
      else (AlarmList.touched { a with entries := a.entries ++ [.new g t k s] }).setOutputs g.routedKinds

/-- The end of a condition taken (R127, R128, R131). LIST_OVERFLOW's own condition is the list's (R131). -/
def AlarmList.conditionEnds (i : Image) (t : GroupTime) (k : AlarmKind) (s : Subject) (a : AlarmList) : AlarmList :=
  let g := i.group
  if k = .listOverflow then (a.evalOverflow t).setOutputs g.routedKinds
  else match a.find k s with
    | none => a
    | some e =>
      match e.state with
      | .activeUnack =>
        (AlarmList.touched (a.update k s fun e => { e with state := .clearedUnack, last := t })).setOutputs g.routedKinds
      | .activeAck => ((AlarmList.touched (a.remove k s)).evalOverflow t).setOutputs g.routedKinds
      | .clearedUnack => a

/-! ### Acknowledgement (R129, R137) -/

/-- One entry acknowledged: removed from CLEARED_UNACK, otherwise ACTIVE_ACK (R129). -/
def Entry.acked (t : GroupTime) (e : Entry) : Option Entry :=
  match e.state with
  | .activeUnack => some { e with state := .activeAck, last := t }
  | .activeAck => some e
  | .clearedUnack => none

/-- ALARM_ACK of every entry (R137). -/
def AlarmList.ackAll (i : Image) (t : GroupTime) (a : AlarmList) : AlarmList :=
  let quiet := a.all.all fun e => e.state == .activeAck
  let a1 := { a with entries := a.entries.filterMap (Entry.acked t), overflow := a.overflow.bind (Entry.acked t) }
  (AlarmList.evalOverflow t (if quiet then a1 else a1.touched)).setOutputs i.group.routedKinds

/-- Whether an entry of a kind and subject is in the list, the overflow entry included. -/
def AlarmList.has (a : AlarmList) (k : AlarmKind) (s : Subject) : Bool := a.all.any (·.isOf k s)

/-- ALARM_ACK of one entry that is in the list (R129, R137). -/
def AlarmList.ackOne (i : Image) (t : GroupTime) (k : AlarmKind) (s : Subject) (a : AlarmList) : AlarmList :=
  let g := i.group
  if k = .listOverflow then
    match a.overflow with
    | none => a
    | some e => if e.state = .activeAck then a
      else (AlarmList.touched { a with overflow := e.acked t }).setOutputs g.routedKinds
  else match a.find k s with
    | none => a
    | some e =>
      match e.state with
      | .activeUnack =>
        (AlarmList.touched (a.update k s fun e => { e with state := .activeAck, last := t })).setOutputs g.routedKinds
      | .clearedUnack => ((AlarmList.touched (a.remove k s)).evalOverflow t).setOutputs g.routedKinds
      | .activeAck => a

/-! ### Reading (R136) -/

/-- The total number of entries, the overflow entry included (R136). -/
def AlarmList.total (a : AlarmList) : Nat := a.all.length

/-- The entries an ALARM_READ returns (R136). -/
def AlarmList.page (a : AlarmList) (start : Nat) : List Entry := (a.all.drop start).take 12

/-- Whether a reply reaches the end of the list (R136). -/
def AlarmList.reachesEnd (a : AlarmList) (start : Nat) : Bool :=
  (a.total == 0 && start == 0) || (start < a.total && a.total ≤ start + 12)

/-! ### Commit (R139) -/

/-- The list's part of a commit: entries of doors made ABSENT removed, the overflow evaluated, the outputs set from the
new image's sets (R139). -/
def AlarmList.commit (old new : Image) (t : GroupTime) (a : AlarmList) : AlarmList :=
  let gone := fun e : Entry => absentSubject new e.subject && !absentSubject old e.subject
  let a1 := { a with entries := a.entries.filter fun e => !gone e }
  let a2 := if a.entries.any gone then a1.touched else a1
  (a2.evalOverflow t).setOutputs new.group.routedKinds

/-! ### In the state -/

/-- One event of the alarm list. -/
def State.alarmEvent (s : State) (f : Image → GroupTime → AlarmList → AlarmList) : State :=
  s.withAlarms (f s.image s.time s.alarms)

end Sys2Proof.Machine
end

