-- ==== Sys2Proof/Machine/Kinds.lean ====
section
/-! DEFINITION. What the names of Syntax.lean stand for: directions, authorities, alarm kinds and kind codes. -/

namespace Sys2Proof

/-- The other direction. -/
def Dir.flip : Dir → Dir
  | .opn => .cls
  | .cls => .opn

/-- The motion authority of a movement started under a standing order (R29). Where the record's standing authority is NONE
when such a movement starts, R29 gives no value and the model takes LOCAL: DESIGN CHOICE (entry 28). -/
def Standing.motion : Standing → MotionAuthority
  | .none => .local_
  | .remote => .remote
  | .central => .central
  | .emergency => .emergency

/-- The class of an alarm kind: true for LATCHED, false for LEVEL (R123). -/
def AlarmKind.latched : AlarmKind → Bool
  | .driveFault | .switchConflict | .overtravel | .switchSequence | .storeFault | .listOverflow => true
  | .driftOpen | .travelDrift | .wear | .flowShort | .transitLong | .openInhibited | .flowLost
  | .onEmergencySupply | .emergencyClose | .remoteLost | .lineSilent | .lineDegraded | .addressFallback
  | .configDefault => false

/-- Whether a subject is of the sort R123 gives for the kind. -/
def AlarmKind.fits (k : AlarmKind) (s : Subject) : Bool :=
  match k, s with
  | .driveFault, .door _ | .switchConflict, .door _ | .overtravel, .door _ | .switchSequence, .door _
  | .driftOpen, .door _ | .travelDrift, .door _ | .wear, .door _ | .flowShort, .door _ | .transitLong, .door _
  | .openInhibited, .door _ => true
  | .flowLost, .hpu _ => true
  | .lineSilent, .line _ | .lineDegraded, .line _ => true
  | .onEmergencySupply, .group | .emergencyClose, .group | .remoteLost, .group | .addressFallback, .group
  | .configDefault, .group | .storeFault, .group | .listOverflow, .group => true
  | _, _ => false

/-- The kinds of R168, check 1: 0x00 and 0x1E to 0x7F. -/
def unknownKind (k : Byte) : Bool := k == 0 || (0x1E ≤ k.toNat && k.toNat ≤ 0x7F)

end Sys2Proof
end

