-- ==== Sys2Proof/Machine/Allocator.lean ====
section
/-! DEFINITION. The flow allocator: capacities, granted lists, admission queues and flow alarms (chapter 5). -/

namespace Sys2Proof.Machine

open Sys2Proof

/-- The allocator as it works during one event: its records, the active image, and the messages made so far. -/
structure Flow where
  image : Image
  alloc : Alloc
  out : List Instr
  deriving DecidableEq, Repr

/-- A message is made. -/
def Flow.send (f : Flow) (m : Instr) : Flow := { f with out := f.out ++ [m] }

/-- One HPU's record. -/
def Flow.hpu (f : Flow) (h : HpuId) : Hpu := f.alloc.hpus[h]

/-- One door's standing. -/
def Flow.standing (f : Flow) (d : DoorId) : AllocStanding := f.alloc.doors[d]

/-- One HPU's record replaced. -/
def Flow.withHpu (f : Flow) (h : HpuId) (x : Hpu) : Flow :=
  { f with alloc := { f.alloc with hpus := f.alloc.hpus.set h x } }

/-- One door's standing replaced. -/
def Flow.withStanding (f : Flow) (d : DoorId) (x : AllocStanding) : Flow :=
  { f with alloc := { f.alloc with doors := f.alloc.doors.set d x } }

/-! ### Queues -/

/-- One class of an HPU's queue. -/
def Hpu.queue (x : Hpu) : Dir → List DoorId
  | .cls => x.closeQueue
  | .opn => x.openQueue

/-- One class of an HPU's queue replaced. -/
def Hpu.withQueue (x : Hpu) (c : Dir) (q : List DoorId) : Hpu :=
  match c with
  | .cls => { x with closeQueue := q }
  | .opn => { x with openQueue := q }

/-- The queue length: the doors waiting in both classes (R104). -/
def Hpu.queueLength (x : Hpu) : Nat := x.closeQueue.length + x.openQueue.length

/-- The demand that stands with a door. -/
def AllocStanding.demand : AllocStanding → Nat
  | .out => 0
  | .waiting _ _ _ n | .offered _ _ n _ | .held _ _ n => n

/-- Whether a door waits with a paused placing (R93). -/
def AllocStanding.isPaused : AllocStanding → Bool
  | .waiting _ _ p _ => p
  | .out | .offered .. | .held .. => false

/-- A door's grant position: the place of its most recent grant in the order of the HPU's grants; after all of them for
a door the HPU has not granted (R101; entry 16). -/
def Hpu.position (x : Hpu) (d : DoorId) : Nat := x.order.idxOf d

/-- A door placed in the paused run at the head of a class, by grant position (R93, R101). Of two doors that the HPU has not
granted, the one placed later stands ahead: DESIGN CHOICE (R101; entry 38). -/
def Flow.insertPaused (f : Flow) (x : Hpu) (d : DoorId) (q : List DoorId) : List DoorId :=
  let ahead := q.takeWhile fun e => (f.standing e).isPaused && x.position e < x.position d
  ahead ++ d :: q.drop ahead.length

/-- A door removed from both classes of an HPU. -/
def Hpu.unqueue (x : Hpu) (d : DoorId) : Hpu :=
  { x with closeQueue := x.closeQueue.erase d, openQueue := x.openQueue.erase d }

/-- A waiting door taken out of its queue; its standing becomes OUT. -/
def Flow.leaveQueue (f : Flow) (d : DoorId) : Flow :=
  match f.standing d with
  | .waiting h _ _ _ => (f.withHpu h ((f.hpu h).unqueue d)).withStanding d .out
  | .out | .offered .. | .held .. => f

/-- A door that is OUT made WAITING at the tail of a class (R93, R96). -/
def Flow.enqueueTail (f : Flow) (d : DoorId) (h : HpuId) (c : Dir) (demand : Nat) : Flow :=
  let x := f.hpu h
  (f.withHpu h (x.withQueue c (x.queue c ++ [d]))).withStanding d (.waiting h c false demand)

/-- A door that is OUT made WAITING in the paused run of a class, at its grant position (R96, R100, R101). -/
def Flow.enqueuePaused (f : Flow) (d : DoorId) (h : HpuId) (c : Dir) (demand : Nat) : Flow :=
  let x := f.hpu h
  (f.withHpu h (x.withQueue c (f.insertPaused x d (x.queue c)))).withStanding d (.waiting h c true demand)

/-- A granted door taken out of the granted list and its counted demand returned; its standing becomes OUT (R92). -/
def Flow.leaveGranted (f : Flow) (d : DoorId) : Flow :=
  match f.standing d with
  | .offered h _ n _ | .held h _ n =>
    let x := f.hpu h
    (f.withHpu h { x with granted := x.granted.erase d, inUse := x.inUse - n }).withStanding d .out
  | .out | .waiting .. => f

/-! ### FLOW_SHORT (R102) -/

/-- The FLOW_SHORT condition: waiting with a demand above the capacity. -/
def Flow.short (f : Flow) (d : DoorId) : Bool :=
  match f.standing d with
  | .waiting h _ _ n => (f.hpu h).capacity < n
  | .out | .offered .. | .held .. => false

/-- The condition evaluated for a door: raised when it comes to hold, cleared when it ends. -/
def Flow.evalShort (f : Flow) (d : DoorId) : Flow :=
  let now := f.short d
  let before := f.alloc.flowShort[d]
  let f' := { f with alloc := { f.alloc with flowShort := f.alloc.flowShort.set d now } }
  if now && !before then f'.send (.alarmRaise .flowShort (.door d))
  else if !now && before then f'.send (.alarmClear .flowShort (.door d))
  else f'

/-- The condition evaluated for every door. Doors that neither wait nor have the alarm are not changed by it. -/
def Flow.evalShortAll (f : Flow) : Flow := allDoors.foldl Flow.evalShort f

/-! ### Service (R97 to R99) -/

/-- A waiting door granted (R99). -/
def Flow.grantDoor (f : Flow) (d : DoorId) : Flow :=
  match f.standing d with
  | .waiting h c _ n =>
    let x := (f.hpu h).unqueue d
    let x' := { x with granted := x.granted ++ [d], inUse := x.inUse + n, order := x.order.erase d ++ [d] }
    ((((f.withHpu h x').withStanding d (.offered h c n .none)).send (.grant d c)).evalShort d)
  | .out | .offered .. | .held .. => f

/-- The scan of one class from its head (R98): unservable doors passed, doors that fit granted, and the scan stopped at
the first servable door that does not fit. -/
def Flow.scan (f : Flow) (h : HpuId) : List DoorId → Flow
  | [] => f
  | d :: rest =>
    let n := (f.standing d).demand
    if (f.hpu h).capacity < n then f.scan h rest
    else if n ≤ (f.hpu h).capacity - (f.hpu h).inUse then (f.grantDoor d).scan h rest
    else f

/-- Whether a class holds a door that could be served under the capacity (R98). -/
def Flow.servable (f : Flow) (h : HpuId) (c : Dir) : Bool :=
  ((f.hpu h).queue c).any fun d => (f.standing d).demand ≤ (f.hpu h).capacity

/-- The queue of an HPU served (R98). -/
def Flow.serve (f : Flow) (h : HpuId) : Flow :=
  let f' := f.scan h (f.hpu h).closeQueue
  if f'.servable h .cls then f' else f'.scan h (f'.hpu h).openQueue

/-- Every queue served (R105). -/
def Flow.serveAll (f : Flow) : Flow := allHpus.foldl Flow.serve f

/-! ### Capacity (R90, R91, R100) -/

/-- The capacity of an HPU from its filtered lines (R90). -/
def capacityOf (g : GroupRecord) (l : GroupLines) (h : HpuId) : Nat :=
  if !l.pressure[h].filtered then 0
  else if l.mainSupply.filtered then g.normalCapacity[h] else g.emergencyCapacity[h]

/-- One door taken back from the tail of the granted list (R100). -/
def Flow.takeBack (f : Flow) (d : DoorId) : Flow :=
  match f.standing d with
  | .held h dir n => ((f.leaveGranted d).enqueuePaused d h dir n).send (.pause d)
  | .offered h dir n .none => (f.leaveGranted d).enqueuePaused d h dir n
  | .offered _ _ _ (.joined c h' n') => (f.leaveGranted d).enqueueTail d h' c n'
  | .offered _ _ _ .withdrawn => f.leaveGranted d
  | .out | .waiting .. => f

/-- Doors taken back from the tail until the flow in use no longer exceeds the capacity (R100). The list is the granted
list, latest grant first. -/
def Flow.pauseUntilFits (f : Flow) (h : HpuId) : List DoorId → Flow
  | [] => f
  | d :: rest =>
    if (f.hpu h).inUse ≤ (f.hpu h).capacity then f else (f.takeBack d).pauseUntilFits h rest

/-- The capacity of an HPU computed afresh, with the pauses that follow a fall below the flow in use (R91, R100). -/
def Flow.compute (f : Flow) (l : GroupLines) (h : HpuId) : Flow :=
  let c := capacityOf f.image.group l h
  if c = (f.hpu h).capacity then f
  else
    let f1 := f.withHpu h { f.hpu h with capacity := c }
    f1.pauseUntilFits h (f1.hpu h).granted.reverse

/-- The capacity of each of these HPUs computed afresh, with its pauses. -/
def Flow.computeEach (f : Flow) (l : GroupLines) (hs : List HpuId) : Flow := hs.foldl (fun f h => f.compute l h) f

/-- The capacities of these HPUs, in the order of their indices, computed afresh at one event of a line: where some capacity has
changed, the service and the evaluations that follow the pauses (R91, R97, R102). Every queue is served, since a door taken back
may have joined another HPU's, and only when every capacity of the event has been computed: DEDUCED (R105; entry 16). -/
def Flow.capacityEvent (f : Flow) (l : GroupLines) (hs : List HpuId) : Flow :=
  if hs.all fun h => capacityOf f.image.group l h == (f.hpu h).capacity then f
  else (f.computeEach l hs).serveAll.evalShortAll

/-! ### FLOW_LOST and ON_EMERGENCY_SUPPLY (R103) -/

/-- The FLOW_LOST condition of an HPU. -/
def flowLost (i : Image) (l : GroupLines) (h : HpuId) : Bool :=
  l.pressure[h].primed && !l.pressure[h].filtered &&
  allDoors.any fun d => i.doors[d].present && i.doors[d].hpu == h

/-- FLOW_LOST evaluated for an HPU. -/
def Flow.evalLost (f : Flow) (l : GroupLines) (h : HpuId) : Flow :=
  let now := flowLost f.image l h
  let f' := f.withHpu h { f.hpu h with flowLost := now }
  if now && !(f.hpu h).flowLost then f'.send (.alarmRaise .flowLost (.hpu h))
  else if !now && (f.hpu h).flowLost then f'.send (.alarmClear .flowLost (.hpu h))
  else f'

/-- The ON_EMERGENCY_SUPPLY condition. -/
def supplyLost (l : GroupLines) : Bool := l.mainSupply.primed && !l.mainSupply.filtered

/-- ON_EMERGENCY_SUPPLY evaluated. -/
def Flow.evalSupply (f : Flow) (l : GroupLines) : Flow :=
  let now := supplyLost l
  let f' := { f with alloc := { f.alloc with onEmergency := now } }
  if now && !f.alloc.onEmergency then f'.send (.alarmRaise .onEmergencySupply .group)
  else if !now && f.alloc.onEmergency then f'.send (.alarmClear .onEmergencySupply .group)
  else f'

/-! ### Notices from the door table (R96) -/

/-- The HPU and demand of a door in the active image, for a JOIN taken now (R105). -/
def Flow.config (f : Flow) (d : DoorId) : DoorRecord := f.image.doors[d]

/-- The pending notice of an OFFERED door replaced. -/
def Flow.note (f : Flow) (d : DoorId) (n : PendingNotice) : Flow :=
  match f.standing d with
  | .offered h dir k _ => f.withStanding d (.offered h dir k n)
  | .out | .waiting .. | .held .. => f

/-- JOIN (R96, row 1). A waiting door whose JOIN names another HPU changes both queues, and the one it leaves is served first:
DESIGN CHOICE (R96, R97; entry 41). -/
def Flow.join (f : Flow) (d : DoorId) (c : Dir) : Flow :=
  let r := f.config d
  match f.standing d with
  | .out => ((f.enqueueTail d r.hpu c r.demand).serve r.hpu).evalShort d
  | .waiting h _ _ _ => ((((f.leaveQueue d).enqueueTail d r.hpu c r.demand).serve h).serve r.hpu).evalShort d
  | .offered .. => f.note d (.joined c r.hpu r.demand)
  | .held .. => f

/-- WITHDRAW (R96, row 2). -/
def Flow.withdraw (f : Flow) (d : DoorId) : Flow :=
  match f.standing d with
  | .waiting h _ _ _ => ((f.leaveQueue d).serve h).evalShort d
  | .offered .. => f.note d .withdrawn
  | .out | .held .. => f

/-- RELEASE (R96, row 3). -/
def Flow.release (f : Flow) (d : DoorId) : Flow :=
  match f.standing d with
  | .waiting h _ _ _ => ((f.leaveQueue d).serve h).evalShort d
  | .held h _ _ => (f.leaveGranted d).serve h
  | .out | .offered .. => f

/-- REVERSED (R96, row 4). -/
def Flow.reversed (f : Flow) (d : DoorId) (dir : Dir) : Flow :=
  match f.standing d with
  | .waiting h c true n => (((f.leaveQueue d).enqueuePaused d h c.flip n).serve h).evalShort d
  | .held h _ n => f.withStanding d (.held h dir n)
  | .out | .waiting _ _ false _ | .offered .. => f

/-- TAKEN (R96, row 5). A door becomes HELD in the direction that the notice names. -/
def Flow.taken (f : Flow) (d : DoorId) (dir : Dir) : Flow :=
  let r := f.config d
  match f.standing d with
  | .out => (((f.send (.pause d)).enqueuePaused d r.hpu dir r.demand).serve r.hpu).evalShort d
  | .waiting h _ _ n => ((((f.send (.pause d)).leaveQueue d).enqueuePaused d h dir n).serve h).evalShort d
  | .offered h _ n _ => f.withStanding d (.held h dir n)
  | .held .. => f

/-- HANDED_BACK (R96, row 6). A door whose pending JOIN names another HPU changes the records of both, and the queue of the one
that gets its flow back is served first: DESIGN CHOICE (R96, R97; entry 41). -/
def Flow.handedBack (f : Flow) (d : DoorId) : Flow :=
  match f.standing d with
  | .offered h _ _ (.joined c h' n') => ((((f.leaveGranted d).enqueueTail d h' c n').serve h).serve h').evalShort d
  | .offered h _ _ _ => (f.leaveGranted d).serve h
  | .out | .waiting .. | .held .. => f

/-! ### Commit and restart (R105, R107) -/

/-- The allocator's part of a commit (R105): every capacity computed with its pauses, FLOW_LOST evaluated, every queue served,
and FLOW_SHORT evaluated (R91, R102). The image is the new one. A standing that still awaits its message is kept, also for a door
that this commit makes present: DESIGN CHOICE (entry 30). -/
def Flow.commit (f : Flow) (l : GroupLines) : Flow :=
  (allHpus.foldl (fun f h => f.evalLost l h) (f.computeEach l allHpus)).serveAll.evalShortAll

/-- The allocator's records emptied and the capacities computed from the lines (R107). The reports are made per door, then per
HPU, then for the group: DESIGN CHOICE (R123; entry 25). -/
def Flow.restart (f : Flow) (l : GroupLines) : Flow :=
  let hpus := Vector.ofFn fun h : HpuId =>
    { Hpu.empty with capacity := capacityOf f.image.group l h, flowLost := flowLost f.image l h }
  let f1 : Flow := { f with alloc := { Alloc.empty with hpus := hpus, onEmergency := supplyLost l } }
  let shorts := allDoors.map fun d => Instr.alarmClear .flowShort (.door d)
  let lost := allHpus.map fun h =>
    if flowLost f.image l h then Instr.alarmRaise .flowLost (.hpu h) else .alarmClear .flowLost (.hpu h)
  let supply := if supplyLost l then Instr.alarmRaise .onEmergencySupply .group else .alarmClear .onEmergencySupply .group
  { f1 with out := f.out ++ shorts ++ lost ++ [supply] }

/-! ### In the state -/

/-- The allocator's work, from the state. -/
def State.flow (s : State) : Flow := ⟨s.image, s.alloc, []⟩

/-- The allocator's work written back, with its messages. -/
def State.finishFlow (s : State) (f : Flow) : State := (s.withAlloc f.alloc).send f.out

/-- One event of the allocator. -/
def State.flowEvent (s : State) (g : Flow → Flow) : State := s.finishFlow (g s.flow)

end Sys2Proof.Machine
end

