-- ==== Sys2Proof/Machine/Recorder.lean ====
section
/-! DEFINITION. The fault recorder: captures, wear counters and the group drive capture (chapter 6). -/

namespace Sys2Proof.Machine

open Sys2Proof

/-- The recorder as it works during one event: its records, the active image, group time, and the messages made. -/
structure Log where
  image : Image
  time : GroupTime
  recorder : Recorder
  out : List Instr
  deriving DecidableEq, Repr

/-- A message is made. -/
def Log.send (l : Log) (m : Instr) : Log := { l with out := l.out ++ [m] }

/-- What the recorder holds for a door. -/
def Log.door (l : Log) (d : DoorId) : DoorFaults := l.recorder.doors[d]

/-- A door's records replaced. -/
def Log.withDoor (l : Log) (d : DoorId) (x : DoorFaults) : Log :=
  { l with recorder := { l.recorder with doors := l.recorder.doors.set d x } }

/-- The alarm kind of a fault kind (R123). -/
def faultAlarm : FaultKind → AlarmKind
  | .driveFault => .driveFault
  | .switchConflict => .switchConflict
  | .overtravel => .overtravel
  | .switchSequence => .switchSequence

/-- The bit of a fault kind in an also-seen set (R176). -/
def faultBit : FaultKind → FaultSet
  | .driveFault => 1
  | .switchConflict => 2
  | .overtravel => 4
  | .switchSequence => 8

/-- The code of a fault kind (R123, R176). -/
def faultCode : FaultKind → Nat
  | .driveFault => 1
  | .switchConflict => 2
  | .overtravel => 3
  | .switchSequence => 4

/-! ### Wear (R115, R116) -/

/-- The five counter kinds (R115). -/
inductive WearKind where
  | overtravel | switch | obstruction | drift | drive
  deriving DecidableEq, Repr

/-- One counter incremented, staying at 65535 (R115). -/
def Wear.count (w : Wear) (k : WearKind) : Wear :=
  match k with
  | .overtravel => { w with overtravel := saturatingSucc 65535 w.overtravel }
  | .switch => { w with switch := saturatingSucc 65535 w.switch }
  | .obstruction => { w with obstruction := saturatingSucc 65535 w.obstruction }
  | .drift => { w with drift := saturatingSucc 65535 w.drift }
  | .drive => { w with drive := saturatingSucc 65535 w.drive }

/-- Whether some counter exceeds its threshold (R116). -/
def Wear.exceeds (w t : Wear) : Bool :=
  t.overtravel < w.overtravel || t.switch < w.switch || t.obstruction < w.obstruction || t.drift < w.drift ||
  t.drive < w.drive

/-- The WEAR condition evaluated for a door: raised or cleared where it differs from the last report (R116). -/
def Log.evalWear (l : Log) (d : DoorId) : Log :=
  let x := l.door d
  let now := x.counters.exceeds l.image.group.wearThresholds
  let l' := l.withDoor d { x with wear := now }
  if now && !x.wear then l'.send (.alarmRaise .wear (.door d))
  else if !now && x.wear then l'.send (.alarmClear .wear (.door d))
  else l'

/-- One event counted and the condition evaluated (R115). -/
def Log.count (l : Log) (d : DoorId) (k : WearKind) : Log :=
  (l.withDoor d { l.door d with counters := (l.door d).counters.count k }).evalWear d

/-- The counter a fault kind increments; none for DRIVE_FAULT, whose mismatch is counted by its own report (R115). -/
def wearOf : FaultKind → Option WearKind
  | .driveFault => none
  | .switchConflict | .switchSequence => some .switch
  | .overtravel => some .overtravel

/-- A fault kind counted (R115). -/
def Log.countFault (l : Log) (d : DoorId) (k : FaultKind) : Log :=
  match wearOf k with
  | none => l
  | some c => l.count d c

/-! ### Captures (R109 to R111) -/

/-- The kind that fills an empty capture, and the other kind if there is one: the higher priority first (R109). -/
def byPriority (k : FaultKind) (second : Option FaultKind) : FaultKind × Option FaultKind :=
  match second with
  | none => (k, none)
  | some k' => if k' = k then (k, none) else if faultCode k' < faultCode k then (k', some k) else (k, some k')

/-- A kind added to an also-seen set unless it is the capture's own (R111). -/
def alsoSee (c : Capture) (k : FaultKind) : Capture :=
  if k = c.kind then c else { c with alsoSeen := c.alsoSeen ||| faultBit k }

/-- An also-seen set holding one kind or none. -/
def seenOf : Option FaultKind → FaultSet
  | none => 0
  | some k => faultBit k

/-- A fault report that finds the capture empty (R110). -/
def Log.fill (l : Log) (d : DoorId) (k : FaultKind) (second : Option FaultKind) (x : FaultData) : Log :=
  let p := byPriority k second
  let c : Capture := ⟨p.1, x, l.time, seenOf p.2⟩
  ((l.withDoor d { l.door d with capture := some c }).send (.alarmRaise (faultAlarm p.1) (.door d))).send
    (.captureOccupiedNotice d)

/-- A fault report that finds the capture occupied (R111). -/
def Log.also (l : Log) (d : DoorId) (c : Capture) (k : FaultKind) (second : Option FaultKind) : Log :=
  let c' := alsoSee c k
  let c'' := match second with
    | none => c'
    | some k' => alsoSee c' k'
  l.withDoor d { l.door d with capture := some c'' }

/-- A fault report taken (R108 to R111, R115). A report about an ABSENT door is passed over. -/
def Log.report (l : Log) (d : DoorId) (k : FaultKind) (second : Option FaultKind) (persisting : Bool) (x : FaultData) :
    Log :=
  if l.image.doors[d].present then
    let l1 := match (l.door d).capture with
      | none => l.fill d k second x
      | some c => l.also d c k second
    if persisting then l1
    else match second with
      | none => l1.countFault d k
      | some k' => (l1.countFault d k).countFault d k'
  else l

/-- A counting notice taken (R115). One about an ABSENT door is passed over. -/
def Log.notice (l : Log) (d : DoorId) (k : WearKind) : Log :=
  if l.image.doors[d].present then l.count d k else l

/-- A mismatch report taken (R12, R115, R118). One about an ABSENT door is passed over. -/
def Log.mismatch (l : Log) (d : DoorId) (valve : Dir) (expected : Bool) : Log :=
  if l.image.doors[d].present then
    Log.count { l with recorder := { l.recorder with drive := some ⟨d, valve, expected, l.time⟩ } } d .drive
  else l

/-! ### Requests (R113, R117) -/

/-- What follows the emptying of a door's capture: the reset condition of its kind's alarm is met, and the door table is told
(R113, R119, R128). -/
def Log.emptied (l : Log) (d : DoorId) (c : Capture) : Log :=
  (l.send (.alarmResetCondition (faultAlarm c.kind) (.door d))).send (.captureEmptiedNotice d)

/-- FAULT_CLEAR for one door (R113). A door that is ABSENT or whose capture is empty is passed over. -/
def Log.clearFault (l : Log) (d : DoorId) : Log :=
  match l.image.doors[d].present, (l.door d).capture with
  | true, some c => (l.withDoor d { l.door d with capture := none }).emptied d c
  | _, _ => l

/-- COUNTERS_CLEAR for one door (R117). -/
def Log.clearCounters (l : Log) (d : DoorId) : Log :=
  if l.image.doors[d].present then (l.withDoor d { l.door d with counters := .zero }).evalWear d else l

/-! ### Commit and restart (R119, R120) -/

/-- The recorder's part of a commit for one door (R119, R128). The image is the new one. -/
def Log.commitDoor (l : Log) (old : DoorRecord) (d : DoorId) : Log :=
  match old.present, l.image.doors[d].present with
  | true, false =>
    match (l.door d).capture with
    | some c => (l.withDoor d .clear).emptied d c
    | none => l.withDoor d .clear
  | false, true => l.withDoor d .clear
  | true, true => l.evalWear d
  | false, false => l

/-- The recorder's report of WEAR for one door at a restart (R120). -/
def Log.restartDoor (l : Log) (d : DoorId) : Log :=
  if l.image.doors[d].present then
    let now := (l.door d).counters.exceeds l.image.group.wearThresholds
    (l.withDoor d { l.door d with wear := now }).send
      (if now then .alarmRaise .wear (.door d) else .alarmClear .wear (.door d))
  else l

/-! ### In the state -/

/-- The recorder's work, from the state. -/
def State.log (s : State) : Log := ⟨s.image, s.time, s.recorder, []⟩

/-- The recorder's work written back, with its messages. -/
def State.finishLog (s : State) (l : Log) : State := (s.withRecorder l.recorder).send l.out

/-- One event of the recorder. -/
def State.logEvent (s : State) (f : Log → Log) : State := s.finishLog (f s.log)

end Sys2Proof.Machine
end

