-- ==== Sys2Proof/Machine/Conditioner.lean ====
section
/-! DEFINITION. The input conditioner: raw values and filters (R1, R5 to R9). -/

namespace Sys2Proof.Machine

open Sys2Proof

/-- The raw value after a terminal's voltage changes: ACTIVE above 15 V, INACTIVE below 6 V, kept between (R1). -/
def rawAfter (raw : Bool) (millivolts : Nat) : Bool :=
  if 15000 < millivolts then true else if millivolts < 6000 then false else raw

/-- The interval toward a raw value: the group's assert time toward ACTIVE, its release time toward INACTIVE (R5, R8). -/
def intervalToward (t : FilterTimes) (raw : Bool) : Nat := if raw then t.assert else t.release

/-- The pending timer of a primed filter after a raw change: stopped when the raw value is back at the filtered value,
started toward it otherwise (R5). -/
def pendingAfter (t : FilterTimes) (filtered raw : Bool) : Option Pending :=
  if raw = filtered then none else some ⟨raw, intervalToward t raw⟩

/-- A filter after its terminal's voltage changes (R1, R5, R8). -/
def Filter.onVoltage (t : FilterTimes) (millivolts : Nat) (f : Filter) : Filter :=
  let raw := rawAfter f.raw millivolts
  if raw = f.raw then { f with millivolts := millivolts }
  else if f.primed then
    { f with millivolts := millivolts, raw := raw, pending := pendingAfter t f.filtered raw }
  else { f with millivolts := millivolts, raw := raw, first := some (intervalToward t raw) }

/-- A filter whose pending timer has expired (R6). -/
def Filter.expired (f : Filter) (p : Pending) : Filter := { f with filtered := p.target, pending := none }

/-- A filter whose first interval has expired (R8, steps 1 and 2). -/
def Filter.firstExpired (f : Filter) : Filter := { f with filtered := f.raw, primed := true, first := none }

/-- A filter primed again: flag cleared, pending timer stopped, a new first interval started; the filtered value is
kept (R9). -/
def Filter.reprimed (t : FilterTimes) (f : Filter) : Filter :=
  { f with primed := false, pending := none, first := some (intervalToward t f.raw) }

/-- A channel whose two end-switch filters are primed again (R9). -/
def Channel.reprimed (g : GroupRecord) (c : Channel) : Channel :=
  { c with closedSwitch := c.closedSwitch.reprimed g.endTimes, openSwitch := c.openSwitch.reprimed g.endTimes }

/-- The straps after a strap wire's voltage changes (entry 17). -/
def strapsAfter (s : Straps) (w : Wire) (millivolts : Nat) : Straps :=
  match w with
  | .input _ => s
  | .addressStrap k =>
    let on := rawAfter (s.address.getLsbD k.val) millivolts
    let bit : BitVec 5 := 1#5 <<< k.val
    { s with address := if on then s.address ||| bit else s.address &&& ~~~bit }
  | .parityStrap => { s with parity := rawAfter s.parity millivolts }
  | .rateStrap => { s with rate := rawAfter s.rate millivolts }

end Sys2Proof.Machine
end

