-- ==== Sys2Proof/Machine/Flags.lean ====
section
/-! DEFINITION. The values worked out from the records and never stored: position estimate and deadline (chapter 3),
indicated state, local warning and zone status (chapter 8), attention field (R169). -/

namespace Sys2Proof.Machine

open Sys2Proof

/-! ### Chapter 3 -/

/-- OPENING or CLOSING. -/
def isMoving : Motion → Bool
  | .opening | .closing => true
  | .settling | .closed | .opened | .stopped | .warning | .dwell | .queued | .isolated | .absent => false

/-- The learned time of a direction (section 3.0). -/
def Door.learned (r : Door) : Dir → Nat
  | .cls => r.learnedClose
  | .opn => r.learnedOpen

/-- The travel made so far, Q (R51). -/
def travel (elapsed learned : Nat) : Nat := (elapsed * 1000 + learned / 2) / learned

/-- The position estimate of a stroke (R51). -/
def strokeEstimate (dir : Dir) (p0 elapsed learned : Nat) : Nat :=
  match dir with
  | .cls => clamp 10 990 (p0 - travel elapsed learned)
  | .opn => clamp 10 990 (p0 + travel elapsed learned)

/-- The position estimate as it stands: worked out during a stroke, stored otherwise (R51, R52). -/
def Door.estimateNow (r : Door) : Nat :=
  if isMoving r.motion then strokeEstimate r.dir r.p0 r.elapsed (r.learned r.dir) else r.estimate

/-- The remaining expected time X (R54). -/
def remaining (dir : Dir) (p0 learned : Nat) : Nat :=
  match dir with
  | .cls => (p0 * learned + 999) / 1000
  | .opn => ((1000 - p0) * learned + 999) / 1000

/-- The deadline of a stroke (R54). -/
def strokeDeadline (dir : Dir) (p0 learned margin : Nat) : Nat :=
  let x := remaining dir p0 learned
  clamp 10 1200 (x + x / 2 + margin)

/-- Whether a measured time is accepted (R59). -/
def strokeAccepted (learned measured : Nat) : Bool := learned / 2 ≤ measured && measured ≤ 2 * learned

/-- The learned time after an accepted stroke (R59). -/
def relearned (learned measured : Nat) : Nat := clamp 30 600 ((3 * learned + measured + 2) / 4)

/-- The travel-drift condition (R64). -/
def travelDrifts (r : Door) (c : DoorRecord) : Bool :=
  c.nominalClose < distance r.learnedClose c.nominalClose * 4 ||
  c.nominalOpen < distance r.learnedOpen c.nominalOpen * 4

/-! ### Chapter 8 -/

/-- The seven indicated states, in the order of the DOOR_STATUS codes (R141, R147). -/
inductive Indicated where
  | closed | opened | moving | partOpen | unknown | isolated | absent
  deriving DecidableEq, Repr

/-- Whether an end's switch is filtered ACTIVE. -/
def Channel.endActive (c : Channel) : Dir → Bool
  | .cls => c.closedSwitch.filtered
  | .opn => c.openSwitch.filtered

/-- Both end switches filtered ACTIVE (R35). -/
def Channel.conflict (c : Channel) : Bool := c.closedSwitch.filtered && c.openSwitch.filtered

/-- The indicated state, by the first row of R141 that applies. -/
def indicated (r : Door) (c : Channel) : Indicated :=
  match r.motion with
  | .absent => .absent
  | .isolated => .isolated
  | .settling => .unknown
  | m =>
    if c.conflict then .unknown
    else match m with
      | .opening | .closing => .moving
      | .closed => .closed
      | .opened => .opened
      | .stopped => .partOpen
      | _ =>
        if c.openSwitch.filtered then .opened
        else if c.closedSwitch.filtered then .closed
        else .partOpen

/-- An order that is not the crew's own: REMOTE, CENTRAL or EMERGENCY (R148). -/
def isOrdered (a : MotionAuthority) : Bool := a != .local_

/-- The local warning output of a present door (R148). -/
def warningOn (r : Door) : Bool :=
  r.present &&
  (r.motion == .warning || r.motion == .dwell ||
   (r.motion == .queued && r.dir == .cls && isOrdered r.authority) ||
   (r.motion == .closing && isOrdered r.authority) ||
   r.transitLong)

/-- EMPTY, SECURE or NOT_SECURE, in the order of their codes (R149, R174). -/
inductive ZoneStatus where
  | empty | secure | notSecure
  deriving DecidableEq, Repr

/-- The present doors of a zone (R149). -/
def State.zoneDoors (s : State) (z : ZoneId) : List DoorId :=
  allDoors.filter fun d => (s.door d).present && s.image.doors[d].zone == z

/-- A zone's status (R149). -/
def State.zoneStatus (s : State) (z : ZoneId) : ZoneStatus :=
  if (s.zoneDoors z).isEmpty then .empty
  else if (s.zoneDoors z).all (fun d =>
    (s.door d).motion == .isolated ||
    (indicated (s.door d) (s.channel d) == .closed && !(s.door d).faulted)) then .secure
  else .notSecure

/-! ### Attention (R169) -/

/-- DOORS_CHANGED: some door's change flag is set (R144). -/
def State.doorsChanged (s : State) : Bool := allDoors.any fun d => (s.door d).changed

/-- The attention field (R168, R169). -/
def State.attention (s : State) : Byte :=
  (if s.doorsChanged then 1 else 0) ||| (if s.alarms.changed then 2 else 0) |||
  (if s.port.restarted then 4 else 0) ||| (if s.resolver.latch then 8 else 0) |||
  (if s.port.remoteWasLost then 16 else 0)

end Sys2Proof.Machine
end

