-- ==== Sys2Proof/Machine/DoorOps.lean ====
section
/-! DEFINITION. The door table's shared procedures: driving a valve under its drive check (R2, R11), ending a stroke
(R19), coming to rest (R20), starting a close (R21), starting a movement (R29), starting a stroke (R30), reversing
(R38), and what follows every event the door table takes for a door (R21, R143, R148). -/

namespace Sys2Proof.Machine

open Sys2Proof

/-- One door as the door table works on it during one event: its record and channel, the active image, and the messages
made so far. `dueBarred` keeps R21 from acting in the event (R44, R49; entry 20). -/
structure Work where
  image : Image
  id : DoorId
  door : Door
  channel : Channel
  out : List Instr
  dueBarred : Bool
  deriving DecidableEq, Repr

/-- The door's record in the active image (R153). -/
def Work.config (w : Work) : DoorRecord := w.image.doors[w.id]

/-- The group record of the active image (R152). -/
def Work.group (w : Work) : GroupRecord := w.image.group

/-- A message is made. -/
def Work.send (w : Work) (m : Instr) : Work := { w with out := w.out ++ [m] }

/-- The target end is filtered ACTIVE and the other end is not (R29, R32). -/
def Work.restsAt (w : Work) (end_ : Dir) : Bool := w.channel.endActive end_ && !w.channel.endActive end_.flip

/-! ### Valves and their drive checks -/

/-- The drive check of one valve (R11). -/
def Door.check (r : Door) : Dir → Check
  | .opn => r.openCheck
  | .cls => r.closeCheck

/-- A door record with one drive check replaced. -/
def Door.withCheck (r : Door) (v : Dir) (c : Check) : Door :=
  match v with
  | .opn => { r with openCheck := c }
  | .cls => { r with closeCheck := c }

/-- The output of one valve (R2). -/
def Channel.valve (c : Channel) : Dir → Bool
  | .opn => c.openValve
  | .cls => c.closeValve

/-- A channel with one valve output set. -/
def Channel.withValve (c : Channel) (v : Dir) (on : Bool) : Channel :=
  match v with
  | .opn => { c with openValve := on }
  | .cls => { c with closeValve := on }

/-- The readback filter of one valve (R1). -/
def Channel.readback (c : Channel) : Dir → Filter
  | .opn => c.openReadback
  | .cls => c.closeReadback

/-- Whether a valve's continuous check runs: the door present, its drive test not running, the readback primed
(R11, R13). -/
def Work.checkRuns (w : Work) (v : Dir) : Bool :=
  w.door.present && w.door.testResult != .running && (w.channel.readback v).primed

/-- A valve's check after its commanded level or its readback may have changed (R11, R12): stopped and its flag cleared
while the two agree, started when they disagree unless it runs or the disagreement is already reported. -/
def checkAfter (settle : Nat) (agrees : Bool) (c : Check) : Check :=
  if agrees then .idle
  else if c.reported || c.timer.isSome then c
  else { c with timer := some settle }

/-- The check of one valve brought up to date (R11, R13). -/
def Work.recheck (w : Work) (v : Dir) : Work :=
  if w.checkRuns v then
    { w with door := w.door.withCheck v (checkAfter w.group.driveSettle
        (w.channel.valve v == (w.channel.readback v).filtered) (w.door.check v)) }
  else w

/-- One valve switched, and its drive check brought up to date (R2, R11). -/
def Work.switchValve (w : Work) (v : Dir) (on : Bool) : Work :=
  Work.recheck { w with channel := w.channel.withValve v on } v

/-- Both checks stopped and both reported flags cleared (R13). -/
def Work.clearChecks (w : Work) : Work := { w with door := { w.door with openCheck := .idle, closeCheck := .idle } }

/-- Both checks brought up to date (R13, R16). -/
def Work.recheckBoth (w : Work) : Work := (w.recheck .opn).recheck .cls

/-! ### Transit flag and edge wait -/

/-- The transit flag cleared, with its timer and the transit-long mark; TRANSIT_LONG is cleared at the alarm list when
the flag was set (R27, R148). -/
def Work.clearTransit (w : Work) : Work :=
  let w' := { w with door := { w.door with transit := false, transitTimer := none, transitLong := false } }
  if w.door.transit then w'.send (.alarmClear .transitLong (.door w.id)) else w'

/-- The transit flag set and its timer started, unless the flag is set already (R27). -/
def Work.setTransit (w : Work) : Work :=
  if w.door.transit then w
  else
    { w with door := { w.door with
        transit := true
        transitTimer := if w.group.transitLimit = 0 then none else some w.group.transitLimit } }

/-- The edge wait ended and its timer stopped (R36). -/
def Work.endEdgeWait (w : Work) : Work := { w with door := { w.door with edgeWait := .none, edgeTimer := none } }

/-- Warning timer and dwell timer stopped. -/
def Work.stopTimers (w : Work) : Work := { w with door := { w.door with warningTimer := none, dwellTimer := none } }

/-- The drifted flag cleared, with DRIFT_OPEN at the alarm list when it was set (R25). -/
def Work.clearDrift (w : Work) : Work :=
  if w.door.drifted then
    Work.send { w with door := { w.door with drifted := false } } (.alarmClear .driftOpen (.door w.id))
  else w

/-! ### Fault reports -/

/-- The values a fault report carries, as they stand (R33, R108). -/
def Work.faultData (w : Work) : FaultData where
  motion := w.door.motion
  dir := w.door.dir
  estimate := w.door.estimateNow
  elapsed := w.door.elapsed
  authority := w.door.authority

/-- A fault report made before the door reacts (R33, R108). -/
def Work.report (w : Work) (k : FaultKind) (second : Option FaultKind) (persisting : Bool) : Work :=
  w.send (.faultReport w.id k second persisting w.faultData)

/-! ### The three procedures of section 2.3 -/

/-- How a stroke ends (R19). -/
inductive StrokeEnd where
  | arrival | pause | reversal | other
  deriving DecidableEq, Repr

/-- A stroke ended (R19): valve OFF, estimate frozen, held flag cleared unless by a pause, full-stroke flag kept only
by an arrival, flow released unless by a pause or a reversal. The motion state is left to the rule that ends it. -/
def Work.endStroke (w : Work) (how : StrokeEnd) : Work :=
  let frozen := w.door.estimateNow
  let w1 := w.switchValve w.door.dir false
  let w2 := { w1 with door := { w1.door with
    estimate := frozen
    held := if how = .pause then w1.door.held else false
    full := if how = .arrival then w1.door.full else false } }
  if how = .pause ∨ how = .reversal then w2 else w2.send (.release w.id)

/-- The motion state and the estimate that the filtered end switches give (R20). -/
def restOf (c : Channel) (estimate : Nat) : Motion × Nat :=
  match c.closedSwitch.filtered, c.openSwitch.filtered with
  | true, false => (.closed, 0)
  | false, true => (.opened, 1000)
  | false, false => (.stopped, clamp 10 990 estimate)
  | true, true => (.stopped, clamp 10 990 estimate)

/-- The door brought to its rest state (R20): its timers stopped, its edge wait ended, withdrawn if it was QUEUED. A door
that becomes CLOSED has its transit flag cleared (R27). -/
def Work.rest (w : Work) : Work :=
  let w1 := if w.door.motion = .queued then w.send (.withdraw w.id) else w
  let r := restOf w1.channel w1.door.estimate
  let w2 := (Work.stopTimers { w1 with door := { w1.door with motion := r.1, estimate := r.2 } }).endEdgeWait
  if r.1 = .closed then w2.clearTransit else w2

/-- A movement started from rest (R29, R39): no stroke is needed when the door rests at its target end; otherwise the
door is QUEUED and joins the tail of its class. -/
def Work.startMove (w : Work) (dir : Dir) (authority : MotionAuthority) (held : Bool) : Work :=
  let w1 := w.stopTimers.endEdgeWait
  if w1.restsAt dir then w1.rest
  else
    Work.send { w1 with door := { w1.door with motion := .queued, dir := dir, authority := authority, held := held } }
      (.join w.id dir)

/-- A close started under the standing order (R21, R28, R42): WARNING when the warning time is above 0, and straight to
the queue otherwise. The motion authority is set where the door is queued (R29); that a door which enters WARNING, by a flood
stop too, keeps the one it had until then: DESIGN CHOICE (R42; entry 34). -/
def Work.startClose (w : Work) : Work :=
  if w.group.warningTime = 0 then w.startMove .cls w.door.standing.motion false
  else
    { w with door := { w.door with
        motion := .warning, dir := .cls, warningTimer := some w.group.warningTime, dwellTimer := none
        edgeWait := .none, edgeTimer := none } }

/-- Whether a door is due to close (R21). -/
def Door.due (r : Door) : Bool :=
  (r.motion == .opened || r.motion == .stopped) && r.standing != .none && !r.faulted && !r.transit &&
  r.edgeWait == .none

/-! ### Strokes -/

/-- A door's DWELL after the release of a transit's open handle (R28, R40). -/
def Work.enterDwell (w : Work) : Work :=
  let w1 := if w.door.motion = .queued then w.send (.withdraw w.id) else w
  { w1 with door := { w1.door with motion := .dwell, dwellTimer := some w1.group.dwellTime, warningTimer := none } }

/-- The TRAVEL_DRIFT condition evaluated: raised when it comes to hold, cleared when it ends (R64, R65). -/
def Work.evalTravelDrift (w : Work) : Work :=
  let now := travelDrifts w.door w.config
  let w' := { w with door := { w.door with travelDrift := now } }
  if now && !w.door.travelDrift then w'.send (.alarmRaise .travelDrift (.door w.id))
  else if !now && w.door.travelDrift then w'.send (.alarmClear .travelDrift (.door w.id))
  else w'

/-- The learned time of a direction replaced. -/
def Door.withLearned (r : Door) (dir : Dir) (t : Nat) : Door :=
  match dir with
  | .cls => { r with learnedClose := t }
  | .opn => { r with learnedOpen := t }

/-- The learning rule of a full stroke that has arrived (R59, R61). -/
def Work.learn (w : Work) : Work :=
  let dir := w.door.dir
  let learned := w.door.learned dir
  let ok := strokeAccepted learned w.door.elapsed
  let stroke := { w.door with lastStroke := some ⟨w.door.elapsed, dir, ok⟩ }
  if ok then Work.evalTravelDrift { w with door := stroke.withLearned dir (relearned learned w.door.elapsed) }
  else { w with door := stroke }

/-- The estimate of an end: 0 closed, 1000 open. -/
def endEstimate : Dir → Nat
  | .cls => 0
  | .opn => 1000

/-- The motion state of an end. -/
def endMotion : Dir → Motion
  | .cls => .closed
  | .opn => .opened

/-- The moving state of a direction. -/
def movingMotion : Dir → Motion
  | .cls => .closing
  | .opn => .opening

/-- The arrival of a stroke at its target end (R32). That at CLOSED the clear of TRANSIT_LONG is made before that of DRIFT_OPEN,
where a confirm has not made that already, is not the manual's: DESIGN CHOICE (R123; entry 25). -/
def Work.arrive (w : Work) : Work :=
  let dir := w.door.dir
  let w1 := w.endStroke .arrival
  let w2 := { w1 with door := { w1.door with motion := endMotion dir, estimate := endEstimate dir } }
  let w3 := if w2.door.full then w2.learn else w2
  match dir with
  | .opn => w3
  | .cls => ((w3.send (.arrivalNotice w.id)).clearTransit).clearDrift

/-- The target switch of a stroke ACTIVE: the arrival (R32), or the conflict where the other switch is ACTIVE too (R35). -/
def Work.meetTarget (w : Work) : Work :=
  if w.channel.conflict then ((w.report .switchConflict none false).endStroke .other).rest else w.arrive

/-- An obstruction (R36): the stroke ended, counted, the door STOPPED with its estimate kept, and an edge wait begun
when the movement was ordered and an order stands. -/
def Work.obstruct (w : Work) : Work :=
  let ordered := isOrdered w.door.authority && w.door.standing != .none
  let w1 := (w.endStroke .other).send (.obstructionNotice w.id)
  { w1 with door := { w1.door with
      motion := .stopped
      edgeWait := if ordered then .edgeHeld else .none
      edgeTimer := none } }

/-- The edge as it meets a door that has just entered CLOSING: an enabled edge already ACTIVE confirms at the start of
the stroke (R30, R38). -/
def Work.edgeAtStart (w : Work) : Work :=
  if w.door.motion = .closing && w.config.edgeEnable && w.channel.leafEdge.filtered then w.obstruct else w

/-- The stroke record of a new stroke from the stored estimate (R30, R38, R54). -/
def Work.beginStroke (w : Work) (dir : Dir) (full : Bool) : Work :=
  Work.switchValve
    { w with door := { w.door with
        motion := movingMotion dir
        dir := dir
        p0 := w.door.estimate
        elapsed := 0
        deadline := strokeDeadline dir w.door.estimate (w.door.learned dir) w.config.margin
        full := full } }
    dir true

/-- A grant taken (R30, R95): a stroke started and TAKEN sent for a door QUEUED in the grant's direction; the grant
handed back otherwise. -/
def Work.takeGrant (w : Work) (dir : Dir) : Work :=
  if w.door.motion = .queued ∧ w.door.dir = dir then
    let full := w.channel.endActive dir.flip && w.door.estimate == endEstimate dir.flip
    ((w.beginStroke dir full).send (.taken w.id dir)).edgeAtStart
  else w.send (.handedBack w.id)

/-- A pause taken (R31, R95). -/
def Work.takePause (w : Work) : Work :=
  if isMoving w.door.motion then
    let w1 := w.endStroke .pause
    { w1 with door := { w1.door with motion := .queued } }
  else w

/-- A moving door reversed (R38): its grant kept, a new stroke from the frozen estimate. Where the new target switch is still
ACTIVE the stroke ends at once, by R32 or, where the other switch is ACTIVE too, by R35 (entry 13). A close that both arrives
at once and meets an active edge arrives, and no obstruction is counted: DESIGN CHOICE (R36, R38; entry 35). -/
def Work.reverseMoving (w : Work) (authority : MotionAuthority) (held : Bool) : Work :=
  let dir := w.door.dir.flip
  let w1 := (w.endStroke .reversal).beginStroke dir false
  let w2 := Work.send { w1 with door := { w1.door with authority := authority, held := held } } (.reversed w.id dir)
  if w2.channel.endActive dir then w2.meetTarget else w2.edgeAtStart

/-- A queued door reversed (R38): to the tail of the other class, or to rest where it stands at the new target end. -/
def Work.reverseQueued (w : Work) (authority : MotionAuthority) (held : Bool) : Work :=
  let dir := w.door.dir.flip
  if w.restsAt dir then w.rest
  else
    (Work.send { w with door := { w.door with dir := dir, authority := authority, held := held } }
      (.withdraw w.id)).send (.join w.id dir)

/-- A door in QUEUED, OPENING or CLOSING reversed (R38). -/
def Work.reverse (w : Work) (authority : MotionAuthority) (held : Bool) : Work :=
  if isMoving w.door.motion then w.reverseMoving authority held else w.reverseQueued authority held

/-- A queued or moving door withdrawn or its stroke ended, and the door brought to rest (R33, R40, R41, R42). -/
def Work.stopAndRest (w : Work) : Work := (if isMoving w.door.motion then w.endStroke .other else w).rest

/-! ### What follows every event -/

/-- R21 after an event: a due door starts its close. -/
def Work.startIfDue (w : Work) : Work := if w.door.due && !w.dueBarred then w.startClose else w

/-- The change flag set where the indicated state, the faulted flag or the transit flag differs across the event (R143). -/
def Work.flagChange (w : Work) (before : Door) (beforeChannel : Channel) : Work :=
  if indicated w.door w.channel = indicated before beforeChannel ∧ w.door.faulted = before.faulted ∧
      w.door.transit = before.transit then w
  else { w with door := { w.door with changed := true } }

/-- The local warning output set afresh (R148). -/
def Work.setWarning (w : Work) : Work := { w with channel := { w.channel with warning := warningOn w.door } }

/-- The work on one door, from the state. -/
def State.work (s : State) (d : DoorId) : Work := ⟨s.image, d, s.door d, s.channel d, [], false⟩

/-- The work on one door written back: its record, its channel and its messages. -/
def State.finish (s : State) (d : DoorId) (w : Work) : State :=
  ((s.withDoor d w.door).withChannel d w.channel).send w.out

/-- The work on one door through one event: the reaction `f`, then R21, the local warning output and the change flag
(R21, R143, R148). -/
def Work.event (w : Work) (before : Door) (beforeChannel : Channel) (f : Work → Work) : Work :=
  ((f w).startIfDue.setWarning).flagChange before beforeChannel

/-- One event the door table takes for a door, written back. `before` is the state the event found, ahead of any filter
it changed (R143). -/
def State.doorEvent (s : State) (before : State) (d : DoorId) (f : Work → Work) : State :=
  s.finish d ((s.work d).event (before.door d) (before.channel d) f)

end Sys2Proof.Machine
end

