-- ==== Sys2Proof/Machine/DoorTable.lean ====
section
/-! DEFINITION. The door table: its reaction to each event (chapters 1, 2 and 3). Each reaction is a function of the
work on one door; `State.doorEvent` adds what follows every event. -/

namespace Sys2Proof.Machine

open Sys2Proof

/-! ### End switches -/

/-- The estimate an end-switch release moves off its end: from 0 to 10, from 1000 to 990 (R22, R24). -/
def offEnd (end_ : Dir) (estimate : Nat) : Nat :=
  match end_ with
  | .cls => if estimate = 0 then 10 else estimate
  | .opn => if estimate = 1000 then 990 else estimate

/-- The estimate beside an end: 10 beside closed, 990 beside open (R24). -/
def besideEnd : Dir → Nat
  | .cls => 10
  | .opn => 990

/-- The estimate of an isolated door (R45, step 5). -/
def isolatedEstimate (c : Channel) (estimate : Nat) : Nat :=
  match c.closedSwitch.filtered, c.openSwitch.filtered with
  | true, false => 0
  | false, true => 1000
  | _, _ => clamp 10 990 estimate

/-- The estimate written. -/
def Work.withEstimate (w : Work) (e : Nat) : Work := { w with door := { w.door with estimate := e } }

/-- The conflict of both end switches at a door at rest (R35). -/
def Work.conflictAtRest (w : Work) : Work := (w.report .switchConflict none false).rest

/-- A confirm at a moving door: arrival (R32), wrong end switch (R34) or conflict (R35, R108). -/
def Work.confirmMoving (w : Work) (end_ : Dir) : Work :=
  if end_ = w.door.dir then w.meetTarget
  else if w.channel.conflict then
    ((w.report .switchConflict (some .switchSequence) false).endStroke .other).rest
  else ((w.report .switchSequence none false).endStroke .other).rest

/-- A conflict reported while the door settles is noted, so that the end of settling does not report it again (R22, R23; for
a persisting report, entry 14). -/
def Work.noteConflict (w : Work) : Work :=
  if w.door.motion = .settling then
    { w with door := { w.door with settle := { w.door.settle with conflict := true } } }
  else w

/-- A confirm of the closed or open switch, by the door's motion state (R22, R24, R32, R34, R35, R45). At a stationary door it
ends an edge wait (R36). -/
def Work.endConfirm (w : Work) (end_ : Dir) : Work :=
  match w.door.motion with
  | .absent => w
  | .isolated => w.withEstimate (isolatedEstimate w.channel w.door.estimate)
  | .settling =>
    if w.channel.conflict then
      let w' := (w.report .switchConflict none false).noteConflict
      w'.withEstimate (clamp 10 990 w'.door.estimate)
    else w
  | .opening | .closing => w.confirmMoving end_
  | .closed | .opened => if w.channel.conflict then w.conflictAtRest else w.endEdgeWait
  | .stopped => if w.channel.conflict then w.conflictAtRest else w.rest
  | .warning | .dwell =>
    if w.channel.conflict then w.conflictAtRest
    else match end_ with
      | .cls => w.rest
      | .opn => w.endEdgeWait.withEstimate 1000
  | .queued =>
    if w.channel.conflict then w.conflictAtRest
    else if end_ = w.door.dir then w.rest
    else w.endEdgeWait.withEstimate (endEstimate end_)

/-- A drift from closed (R25). -/
def Work.drift (w : Work) : Work :=
  let w1 := { w with door := { w.door with drifted := true, motion := .stopped, estimate := 10 } }
  (w1.send (.alarmRaise .driftOpen (.door w.id))).send (.driftNotice w.id)

/-- A release of the closed or open switch, by the door's motion state (R22, R24, R25, R45). -/
def Work.endRelease (w : Work) (end_ : Dir) : Work :=
  match w.door.motion, end_ with
  | .absent, _ => w
  | .isolated, _ => w.withEstimate (isolatedEstimate w.channel w.door.estimate)
  | .opening, _ | .closing, _ => w
  | .closed, .cls => w.drift
  | .opened, .opn => { w with door := { w.door with motion := .stopped, estimate := 990 } }
  | .stopped, e => if w.channel.endActive e.flip then w.rest else w.withEstimate (offEnd e w.door.estimate)
  | .warning, .opn | .dwell, .opn => w.withEstimate 990
  | .queued, e => w.withEstimate (if e = w.door.dir then offEnd e w.door.estimate else besideEnd e)
  | _, e => w.withEstimate (offEnd e w.door.estimate)

/-- An end-switch event. The closed switch's confirm clears the drifted flag (R25) and its release the tight latch of a
present door (R145). The clear of DRIFT_OPEN is made ahead of everything else that the event makes: DESIGN CHOICE (R123; entry
25). -/
def Work.endSwitch (w : Work) (end_ : Dir) (active : Bool) : Work :=
  if w.door.motion = .absent then w
  else match end_, active with
    | .cls, true => w.clearDrift.endConfirm .cls
    | .cls, false => Work.endRelease { w with door := { w.door with tight := false } } .cls
    | .opn, true => w.endConfirm .opn
    | .opn, false => w.endRelease .opn

/-- A primed notification of an end switch (R22, R23): noted while SETTLING, and settling ended once both have reported. -/
def Work.endPrimed (w : Work) (end_ : Dir) : Work :=
  if w.door.motion = .settling then
    let notes := match end_ with
      | .cls => { w.door.settle with closedPrimed := true }
      | .opn => { w.door.settle with openPrimed := true }
    let w1 := { w with door := { w.door with settle := notes } }
    if notes.closedPrimed && notes.openPrimed then
      (if w1.channel.conflict && !notes.conflict then w1.report .switchConflict none false else w1).rest
    else w1
  else w

/-! ### Leaf edge (R36) -/

/-- A leaf-edge event. -/
def Work.leafEdge (w : Work) (active : Bool) : Work :=
  if !w.config.edgeEnable then w
  else match active, w.door.motion, w.door.edgeWait with
    | true, .closing, _ => w.obstruct
    | false, _, .edgeHeld =>
      { w with door := { w.door with edgeWait := .clearing, edgeTimer := some w.group.edgeClear } }
    | true, _, .clearing => { w with door := { w.door with edgeWait := .edgeHeld, edgeTimer := none } }
    | _, _, _ => w

/-- The edge-clear timer expires (R36). -/
def Work.edgeClearExpiry (w : Work) : Work :=
  if w.door.edgeWait = .clearing ∧ w.door.edgeTimer.isSome then w.endEdgeWait else w

/-! ### Handles (R39, R40, R81, R83) -/

/-- An open-handle release (R40). -/
def Work.openRelease (w : Work) : Work :=
  match w.door.motion with
  | .queued =>
    if w.door.dir = .opn ∧ w.door.held then (if w.door.transit then w.enterDwell else w.rest) else w
  | .opening =>
    if w.door.held then
      (if w.door.transit then (w.endStroke .other).enterDwell else (w.endStroke .other).rest)
    else w
  | .opened | .stopped => if w.door.transit then w.enterDwell else w
  | .settling | .closed | .warning | .dwell | .closing | .isolated | .absent => w

/-- A close-handle release (R40). -/
def Work.closeRelease (w : Work) : Work :=
  match w.door.motion with
  | .queued => if w.door.dir = .cls ∧ w.door.held then w.rest else w
  | .closing => if w.door.held then (w.endStroke .other).rest else w
  | .settling | .closed | .opened | .stopped | .warning | .dwell | .opening | .isolated | .absent => w

/-- A handle event: a confirm is referred for a door that is not SETTLING, ISOLATED or ABSENT (R81), a release is acted
on (R40), and an open-handle release of a present door is passed on as a notice (R83). -/
def Work.handle (w : Work) (handle : Dir) (active : Bool) : Work :=
  match active, handle with
  | true, _ =>
    match w.door.motion with
    | .settling | .isolated | .absent => w
    | .closed | .opened | .stopped | .warning | .dwell | .queued | .opening | .closing =>
      w.send (.handleReferral w.id handle w.door.faulted)
  | false, .opn => if w.door.motion = .absent then w else w.openRelease.send (.openHandleReleaseNotice w.id)
  | false, .cls => w.closeRelease

/-- The held flag of a queued or moving door set (R39). -/
def Work.markHeld (w : Work) : Work := { w with door := { w.door with held := true } }

/-- A ruling that opens, by the columns of R39. -/
def Work.ruleOpening (w : Work) (held : Bool) : Work :=
  match w.door.motion, w.door.dir with
  | .closed, _ | .stopped, _ | .warning, _ | .dwell, _ => w.startMove .opn .local_ held
  | .queued, .opn | .opening, _ => if held then w.markHeld else w
  | .queued, .cls | .closing, _ => w.reverse .local_ held
  | .opened, _ | .settling, _ | .isolated, _ | .absent, _ => w

/-- A ruling that closes, by the columns of R39. -/
def Work.ruleClosing (w : Work) (authority : MotionAuthority) (held : Bool) : Work :=
  match w.door.motion, w.door.dir with
  | .opened, _ | .stopped, _ | .warning, _ | .dwell, _ => w.startMove .cls authority held
  | .queued, .opn | .opening, _ => w.reverse authority held
  | .queued, .cls | .closing, _ => if held then w.markHeld else w
  | .closed, _ | .settling, _ | .isolated, _ | .absent, _ => w

/-- A held ruling taken when its handle has already been released is followed at once by that release (R39). -/
def Work.releasedMeanwhile (w : Work) (handle : Dir) : Work :=
  match handle with
  | .opn => if w.channel.openHandle.filtered then w else w.openRelease
  | .cls => if w.channel.closeHandle.filtered then w else w.closeRelease

/-- What a ruling asks of a door (R39). -/
def Work.obey (w : Work) (r : Ruling) : Work :=
  match r with
  | .ignore => w
  | .latchOpen => w.ruleOpening false
  | .latchClose => w.ruleClosing .local_ false
  | .transitOpen => (w.setTransit.ruleOpening true).releasedMeanwhile .opn
  | .closeNow => w.ruleClosing w.door.standing.motion false
  | .holdOpen => (w.ruleOpening true).releasedMeanwhile .opn
  | .holdClose => (w.ruleClosing .local_ true).releasedMeanwhile .cls

/-- The rulings of the unfaulted rows of R81's table that ask for something. -/
def asksUnfaulted : Ruling → Bool
  | .latchOpen | .latchClose | .transitOpen | .closeNow => true
  | .holdOpen | .holdClose | .ignore => false

/-- What a door's fault does to a door (R43): its transit over, a warning, a dwell or a wait for flow ended at rest, any other
state kept without an edge wait. -/
def Work.heldByFault (w : Work) : Work :=
  let w1 := w.clearTransit
  match w1.door.motion with
  | .warning | .dwell | .queued => w1.rest
  | .settling | .closed | .opened | .stopped | .opening | .closing | .isolated | .absent => w1.endEdgeWait

/-- A faulted door that has obeyed a ruling made before its fault was known, `dir` being its direction before: R43 acts on it
again, as R81 has the fault's report act after such a ruling, and a stroke that the ruling reversed runs only while its handle
is held (R84, section 2.12): DEDUCED (entry 33). -/
def Work.faultAfterRuling (w : Work) (dir : Dir) : Work :=
  let w1 := w.heldByFault
  if isMoving w1.door.motion && !w1.door.held && w1.door.dir != dir then (w1.endStroke .other).rest else w1

/-- A handle ruling (R39). SETTLING, ISOLATED and ABSENT doors act on none. A ruling of R81's unfaulted rows that a faulted door
takes gets it no transit, dwell or warning, and no movement but a held one (R81, R84; entry 33). -/
def Work.rule (w : Work) (r : Ruling) : Work :=
  match w.door.motion with
  | .settling | .isolated | .absent => w
  | .closed | .opened | .stopped | .warning | .dwell | .queued | .opening | .closing =>
    if w.door.faulted && asksUnfaulted r then (w.obey r).faultAfterRuling w.door.dir else w.obey r

/-! ### Standing orders (R41, R42) -/

/-- The standing authority copied into the record. -/
def Work.withStanding (w : Work) (a : Standing) : Work := { w with door := { w.door with standing := a } }

/-- The motion authority written. -/
def Work.withAuthority (w : Work) (a : MotionAuthority) : Work := { w with door := { w.door with authority := a } }

/-- The order rises from NONE (R41, first list). -/
def Work.orderRises (w : Work) (a : Standing) : Work :=
  match w.door.motion, w.door.dir, w.door.held with
  | .queued, .opn, false | .opening, _, false => w.stopAndRest
  | .queued, .cls, false | .closing, _, false =>
    if w.door.authority = .local_ then w.withAuthority a.motion else w
  | _, _, _ => w

/-- The order changes its source (R41, second list). -/
def Work.orderChanges (w : Work) (a : Standing) : Work :=
  match w.door.motion, w.door.dir with
  | .warning, _ => w.withAuthority a.motion
  | .queued, .cls | .closing, _ => if w.door.authority = .local_ then w else w.withAuthority a.motion
  | _, _ => w

/-- The order ends (R41, third list). `transit` is the transit flag before it is cleared. -/
def Work.orderEnds (w : Work) (transit : Bool) : Work :=
  match w.door.motion, w.door.dir with
  | .warning, _ | .dwell, _ => w.rest
  | .queued, .cls => if w.door.authority = .local_ then w else w.rest
  | .closing, _ => if w.door.authority = .local_ then w else w.withAuthority .local_
  | .queued, .opn | .opening, _ => if transit then { w with door := { w.door with held := false } } else w
  | .stopped, _ => w.endEdgeWait
  | _, _ => w

/-- A report of a door's standing authority (R41, R89). An ISOLATED or ABSENT door copies it as NONE; one made before ISOLATE and
still on its way at RESTORE is taken before the door leaves ISOLATED (entry 37). -/
def Work.order (w : Work) (a : Standing) : Work :=
  match w.door.motion with
  | .isolated | .absent => w.withStanding .none
  | .settling | .closed | .opened | .stopped | .warning | .dwell | .queued | .opening | .closing =>
    if a = w.door.standing then w
    else if w.door.standing = .none then (w.withStanding a).orderRises a
    else if a = .none then ((w.withStanding a).clearTransit).orderEnds w.door.transit
    else (w.withStanding a).orderChanges a

/-- A flood stop (R42): an opening ended, a transit sent straight to a close, any other brought to rest. -/
def Work.floodStop (w : Work) : Work :=
  match w.door.motion, w.door.dir with
  | .queued, .opn =>
    if w.door.transit then
      Work.startClose { w.send (.withdraw w.id) with door := { w.door with motion := .stopped } }
    else w.rest
  | .opening, _ => if w.door.transit then (w.endStroke .other).startClose else (w.endStroke .other).rest
  | _, _ => w

/-! ### Timers of the door record -/

/-- The warning timer expires (R26). -/
def Work.warningExpiry (w : Work) : Work :=
  if w.door.motion = .warning ∧ w.door.warningTimer.isSome then w.startMove .cls w.door.standing.motion false else w

/-- The dwell timer expires (R28). -/
def Work.dwellExpiry (w : Work) : Work :=
  if w.door.motion = .dwell ∧ w.door.dwellTimer.isSome then w.startClose else w

/-- The transit-limit timer expires (R27, R148). -/
def Work.transitExpiry (w : Work) : Work :=
  if w.door.transitTimer.isSome then
    Work.send { w with door := { w.door with transitTimer := none, transitLong := true } }
      (.alarmRaise .transitLong (.door w.id))
  else w

/-- The tick that brings E to D (R33, R55): OVERTRAVEL reported with E equal to D, the stroke ended, the door at rest. -/
def Work.deadlineExpiry (w : Work) : Work :=
  if isMoving w.door.motion then
    let w1 := { w with door := { w.door with elapsed := w.door.deadline } }
    ((w1.report .overtravel none false).endStroke .other).rest
  else w

/-- A stroke tick of a moving door short of its deadline (R50). -/
def Door.tick (r : Door) : Door := { r with elapsed := r.elapsed + 1 }

/-! ### Drive checks and the drive test (R12, R14 to R17, R37) -/

/-- A valve's check timer expires (R12, R37). -/
def Work.checkExpiry (w : Work) (v : Dir) : Work :=
  if (w.door.check v).timer.isSome then
    let w1 := { w with door := w.door.withCheck v ⟨none, true⟩ }
    let w2 := w1.send (.mismatchReport w.id v (w.channel.valve v))
    if w.config.driveCheck then
      let w3 := w2.report .driveFault none false
      if isMoving w.door.motion then (w3.endStroke .other).rest else w3
    else w2
  else w

/-- The test's state replaced. -/
def Work.withTest (w : Work) (t : TestRun) : Work := { w with door := { w.door with test := some t } }

/-- A phase's step 1: the valve ON, hold and on-check timers started (R15). -/
def Work.beginPhase (w : Work) (phase : Dir) (settle : Nat) : Work :=
  Work.withTest { w with channel := w.channel.withValve phase true } ⟨phase, settle, true, true, false, false⟩

/-- An accepted drive test begins: the continuous check suspended, the open phase started (R13, R14). -/
def Work.beginTest (w : Work) : Work :=
  Work.beginPhase (Work.clearChecks { w with door := { w.door with testResult := .running } }) .opn w.group.driveSettle

/-- A drive test ends: its timers stopped, both valves OFF, the continuous check resumed (R13, R16). -/
def Work.endTest (w : Work) (result : TestResult) : Work :=
  Work.recheckBoth
    { w with
      door := { w.door with testResult := result, test := none }
      channel := { w.channel with openValve := false, closeValve := false } }

/-- The result of a failed phase (R16). -/
def failResult : Dir → TestResult
  | .opn => .failOpen
  | .cls => .failClose

/-- A failed comparison (R16): the test ended and the mismatch handed to the recorder. -/
def Work.failTest (w : Work) (t : TestRun) (expected : Bool) : Work :=
  (w.endTest (failResult t.phase)).send (.mismatchReport w.id t.phase expected)

/-- A phase's step 3: the valve OFF and the off-check timer started (R15). -/
def Work.switchOff (w : Work) (t : TestRun) : Work :=
  Work.withTest { w with channel := w.channel.withValve t.phase false } { t with offCheck := true }

/-- The hold timer expires (R15). -/
def Work.holdExpiry (w : Work) : Work :=
  match w.door.test with
  | none => w
  | some t =>
    if t.hold then
      let t' := { t with hold := false }
      if t.onPassed then w.switchOff t' else w.withTest t'
    else w

/-- The on-check timer expires (R15, R16). -/
def Work.onCheckExpiry (w : Work) : Work :=
  match w.door.test with
  | none => w
  | some t =>
    if t.onCheck then
      if (w.channel.readback t.phase).filtered then
        let t' := { t with onCheck := false, onPassed := true }
        if t.hold then w.withTest t' else w.switchOff t'
      else w.failTest t true
    else w

/-- The off-check timer expires (R15, R16). -/
def Work.offCheckExpiry (w : Work) : Work :=
  match w.door.test with
  | none => w
  | some t =>
    if t.offCheck then
      if (w.channel.readback t.phase).filtered then w.failTest t false
      else match t.phase with
        | .opn => w.beginPhase .cls t.settle
        | .cls => w.endTest .pass
    else w

/-! ### Faulted doors (R43, R44) -/

/-- The capture of the door has become occupied (R43). -/
def Work.occupied (w : Work) : Work :=
  if w.door.motion = .absent then w
  else Work.heldByFault { w with door := { w.door with faulted := true } }

/-- Whether a mismatch stands that the door's drive-check flag reports (R44). -/
def Work.mismatchStands (w : Work) : Bool :=
  w.config.driveCheck && (w.door.openCheck.reported || w.door.closeCheck.reported)

/-- The capture of the door has been emptied (R44): the conditions that persist are reported again in one report
(R108; entry 14), and R21 acts only where none does. A SETTLING door's conflict reported here is one that R23 finds already
reported (entry 14). A door that the active image shows ABSENT is not re-examined. -/
def Work.emptied (w : Work) : Work :=
  let w1 := { w with door := { w.door with faulted := false } }
  if w.door.motion = .absent ∨ w.config.present = false then { w1 with dueBarred := true }
  else
    match w1.mismatchStands, w1.channel.conflict && w1.door.motion != .isolated with
    | true, true => { (w1.report .driveFault (some .switchConflict) true).noteConflict with dueBarred := true }
    | true, false => { w1.report .driveFault none true with dueBarred := true }
    | false, true => { (w1.report .switchConflict none true).noteConflict with dueBarred := true }
    | false, false => w1

/-! ### Isolation, restoring, presence, restart (R45 to R49) -/

/-- The door table's part of ISOLATE (R45). The isolation carries the standing authority NONE (R79). -/
def Work.isolate (w : Work) : Work :=
  if w.door.motion = .isolated then w
  else
    let w1 :=
      if isMoving w.door.motion then w.endStroke .other
      else if w.door.motion = .queued then w.send (.withdraw w.id) else w
    let w2 := w1.stopTimers.endEdgeWait.clearTransit
    let w3 := Work.send { w2 with door := { w2.door with drifted := false } } (.alarmClear .driftOpen (.door w.id))
    { w3 with door := { w3.door with
        motion := .isolated, standing := .none, estimate := isolatedEstimate w3.channel w3.door.estimate } }

/-- Entry into SETTLING with its two end-switch filters primed again (R9, R22, R46, R145). -/
def Work.enterSettling (w : Work) : Work :=
  { w with
    door := { w.door with motion := .settling, settle := .fresh, tight := false, edgeWait := .none, edgeTimer := none
                          warningTimer := none, dwellTimer := none }
    channel := w.channel.reprimed w.group }

/-- A running drive test aborted with its valves OFF (R17). -/
def Work.abortTest (w : Work) : Work :=
  if w.door.testResult = .running then
    { w with
      door := { w.door with testResult := .aborted, test := none }
      channel := { w.channel with openValve := false, closeValve := false } }
  else w

/-- A door a commit makes ABSENT (R13, R17, R47, R61, R65, R85, R145). -/
def Work.makeAbsent (w : Work) : Work :=
  let w1 := w.abortTest.stopTimers.endEdgeWait.clearTransit.clearDrift.clearChecks
  let w2 := if w1.door.travelDrift then w1.send (.alarmClear .travelDrift (.door w.id)) else w1
  { w2 with
    dueBarred := true
    door := { w2.door with
      present := false, motion := .absent, standing := .none, tight := false, lastStroke := none
      travelDrift := false, settle := .fresh }
    channel := { w2.channel with openValve := false, closeValve := false } }

/-- A door a commit makes present (R9, R13, R22, R47, R48, R63). It takes the standing authority the resolver has
computed. -/
def Work.makePresent (w : Work) (standing : Standing) : Work :=
  Work.recheckBoth
    { w with
      door := { Door.atPowerOn w.config standing with present := true, motion := .settling, changed := w.door.changed }
      channel := w.channel.reprimed w.group }

/-- A door present before and after a commit (R36, R47, R63, R64). `old` is its record in the old image. -/
def Work.keepPresent (w : Work) (old : DoorRecord) : Work :=
  let w1 := { w with door := { w.door with
    learnedClose := if w.config.nominalClose = old.nominalClose then w.door.learnedClose else w.config.nominalClose
    learnedOpen := if w.config.nominalOpen = old.nominalOpen then w.door.learnedOpen else w.config.nominalOpen } }
  let w2 := w1.evalTravelDrift
  if w2.config.edgeEnable then w2 else w2.endEdgeWait

/-- The door table's part of a commit for one door (R47). The image in the work is the new one. -/
def Work.commit (w : Work) (old : DoorRecord) (standing : Standing) : Work :=
  match old.present, w.config.present with
  | true, false => w.makeAbsent
  | false, true => w.makePresent standing
  | true, true => w.keepPresent old
  | false, false => w

/-- The state a restart gives a door (R49): from its end switches, unless it is ISOLATED, SETTLING or ABSENT. -/
def Work.restartMotion (w : Work) : Work :=
  match w.door.motion with
  | .isolated | .settling | .absent => w
  | .closed | .opened | .stopped | .warning | .dwell | .queued | .opening | .closing =>
    let r := restOf w.channel w.door.estimateNow
    { w with door := { w.door with motion := r.1, estimate := r.2 } }

/-- The reports of DRIFT_OPEN, TRAVEL_DRIFT and TRANSIT_LONG a restart makes for a present door (R65, R140). That they are
made in this order, one door after the other, is not the manual's: DESIGN CHOICE (R123; entry 25). -/
def Work.restartReports (w : Work) : Work :=
  if w.door.present then
    let drift := if w.door.drifted then Instr.alarmRaise .driftOpen (.door w.id) else .alarmClear .driftOpen (.door w.id)
    let travel :=
      if travelDrifts w.door w.config then Instr.alarmRaise .travelDrift (.door w.id)
      else .alarmClear .travelDrift (.door w.id)
    let w1 := { w with door := { w.door with travelDrift := travelDrifts w.door w.config } }
    ((w1.send drift).send travel).send (.alarmClear .transitLong (.door w.id))
  else w

/-- The door table's part of a restart for one door (R2, R13, R17, R49, R144, R145). R21 waits for the resolver's
reports (R87; entry 20). -/
def Work.restart (w : Work) : Work :=
  let w1 := w.restartMotion
  let w2 := { w1 with
    dueBarred := true
    door := { w1.door with
      full := if isMoving w.door.motion then false else w1.door.full
      warningTimer := none, dwellTimer := none, edgeTimer := none, transitTimer := none, edgeWait := .none
      transit := false, transitLong := false, held := false
      testResult := if w1.door.testResult = TestResult.running then TestResult.aborted else w1.door.testResult
      test := none, tight := false, changed := true }
    channel := { w1.channel with openValve := false, closeValve := false } }
  (w2.clearChecks.recheckBoth).restartReports

end Sys2Proof.Machine
end

