-- ==== Sys2Proof/Machine/Resolver.lean ====
section
/-! DEFINITION. The order resolver: standing authorities, registrations, the emergency latch, flood flags and handle
rulings (chapter 4). -/

namespace Sys2Proof.Machine

open Sys2Proof

/-- The resolver as it works during one event: its state, the active image, and the messages made so far. -/
structure Orders where
  image : Image
  resolver : Resolver
  out : List Instr
  deriving DecidableEq, Repr

/-- A message is made. -/
def Orders.send (o : Orders) (m : Instr) : Orders := { o with out := o.out ++ [m] }

/-- What the resolver holds for a door. -/
def Orders.door (o : Orders) (d : DoorId) : DoorOrder := o.resolver.doors[d]

/-- A door's records replaced. -/
def Orders.withDoor (o : Orders) (d : DoorId) (x : DoorOrder) : Orders :=
  { o with resolver := { o.resolver with doors := o.resolver.doors.set d x } }

/-- Whether a door is present in the active image. -/
def Orders.isPresent (o : Orders) (d : DoorId) : Bool := o.image.doors[d].present

/-! ### Standing authority (R66, R67) -/

/-- The standing authority of a door: the strongest source active for it (R66). -/
def standingOf (i : Image) (r : Resolver) (d : DoorId) : Standing :=
  if !i.doors[d].present || r.doors[d].isolated then .none
  else if r.latch then .emergency
  else match r.mode with
    | .closed => .central
    | .local_ => if r.doors[d].registered then .remote else .none

/-- The standing authority of one door computed afresh, recorded, and reported where it differs from the last report
(R67). An ABSENT door is not reported (R85). -/
def Orders.recompute (o : Orders) (d : DoorId) : Orders :=
  let a := standingOf o.image o.resolver d
  let o' := o.withDoor d { o.door d with reported := a }
  if a = (o.door d).reported ∨ o.isPresent d = false then o' else o'.send (.standingAuthorityReport d a)

/-- Every door's standing authority computed afresh (R67). -/
def Orders.recomputeAll (o : Orders) : Orders := allDoors.foldl Orders.recompute o

/-! ### Mode, latch and registrations -/

/-- The group mode set and standing authorities computed (R69, R70). -/
def Orders.setMode (o : Orders) (m : GroupMode) : Orders :=
  Orders.recomputeAll { o with resolver := { o.resolver with mode := m } }

/-- The loss of both lines (R70). -/
def Orders.remoteLost (o : Orders) : Orders :=
  if o.image.group.closeOnLoss ∧ o.resolver.mode = .local_ then o.setMode .closed else o

/-- A confirm of the emergency-close line (R71). EMERGENCY_CLOSE is raised before the reports are made: DESIGN CHOICE (R123; entry
25). -/
def Orders.emergency (o : Orders) : Orders :=
  if o.resolver.latch then o
  else
    (Orders.send { o with resolver := { o.resolver with latch := true } } (.alarmRaise .emergencyClose .group)).recomputeAll

/-- An EMERGENCY_RELEASE that is accepted (R72). -/
def Orders.releaseLatch (o : Orders) : Orders :=
  if o.resolver.latch then
    (Orders.send { o with resolver := { o.resolver with latch := false } } (.alarmClear .emergencyClose .group)).recomputeAll
  else o

/-- Whether CLOSE_DOORS registers a named door in this motion state (R73). -/
def registers (m : Motion) : Bool := m != .absent && m != .isolated && m != .closed

/-- A door's registration placed or cleared. -/
def Orders.register (o : Orders) (d : DoorId) (on : Bool) : Orders := o.withDoor d { o.door d with registered := on }

/-- CLOSE_DOORS over the doors a predicate names (R73, R74). -/
def Orders.closeDoors (o : Orders) (motion : DoorId → Motion) (named : DoorId → Bool) : Orders :=
  (allDoors.foldl (fun o d => if named d && registers (motion d) then o.register d true else o) o).recomputeAll

/-- RELEASE_DOORS (R75). -/
def Orders.releaseDoors (o : Orders) (named : DoorId → Bool) : Orders :=
  (allDoors.foldl (fun o d => if named d then o.register d false else o) o).recomputeAll

/-- An arrival notice (R76, R89). -/
def Orders.arrival (o : Orders) (d : DoorId) : Orders :=
  if o.isPresent d then (o.register d false).recomputeAll else o

/-! ### Flood flags (R77, R78) -/

/-- FLOOD_SET: the flags of the named zones set. -/
def Orders.floodSet (o : Orders) (z : ZoneSet) : Orders :=
  { o with resolver := { o.resolver with flood := o.resolver.flood ||| z } }

/-- FLOOD_CLEAR: the flags of the named zones cleared. -/
def Orders.floodClear (o : Orders) (z : ZoneSet) : Orders :=
  { o with resolver := { o.resolver with flood := o.resolver.flood &&& ~~~z } }

/-- The flood-inhibited doors of a zone whose flag a FLOOD_SET takes from clear to set (R78, R82). -/
def floodNewlyBars (i : Image) (r : Resolver) (z : ZoneSet) (d : DoorId) : Bool :=
  i.doors[d].floodInhibit && inZones z i.doors[d].zone && !inZones r.flood i.doors[d].zone

/-- The doors a FLOOD_SET names to the door table: those of them that are present and not isolated (R78). -/
def floodNamed (i : Image) (r : Resolver) (z : ZoneSet) (d : DoorId) : Bool :=
  i.doors[d].present && !r.doors[d].isolated && floodNewlyBars i r z d

/-! ### Isolation (R79, R80) -/

/-- The resolver's part of ISOLATE for a door that is not isolated yet (R79, R83): every other door's authority stands. -/
def Orders.isolate (o : Orders) (d : DoorId) : Orders :=
  (Orders.withDoor o d ⟨false, true, false, .none⟩).send (.alarmClear .openInhibited (.door d))

/-- The resolver's part of an accepted RESTORE (R80). -/
def Orders.restore (o : Orders) (d : DoorId) : Orders :=
  (o.withDoor d { o.door d with isolated := false }).recompute d

/-! ### Handle rulings (R81 to R83) -/

/-- Whether the flood rule bars a door's open handle (R82). -/
def floodBars (i : Image) (r : Resolver) (d : DoorId) : Bool :=
  i.doors[d].floodInhibit && inZones r.flood i.doors[d].zone

/-- The ruling of R81's table for a handle that the flood rule does not bar. -/
def rulingOf (handle : Dir) (faulted : Bool) (a : Standing) : Ruling :=
  match handle, faulted, a with
  | .opn, true, _ => .holdOpen
  | .cls, true, _ => .holdClose
  | .opn, false, .none => .latchOpen
  | .cls, false, .none => .latchClose
  | .opn, false, _ => .transitOpen
  | .cls, false, _ => .closeNow

/-- A handle referral taken and answered (R81, R82, R89). `held` is the door's filtered open handle. A referral of an
ABSENT door is passed over, one of an isolated door is ruled IGNORE without a mark. -/
def Orders.referral (o : Orders) (d : DoorId) (handle : Dir) (faulted held : Bool) : Orders :=
  if o.isPresent d = false then o
  else if (o.door d).isolated then o.send (.handleRuling d .ignore)
  else if handle = .opn ∧ floodBars o.image o.resolver d then
    let o1 := o.send (.handleRuling d .ignore)
    if held then
      (o1.withDoor d { o1.door d with mark := true }).send (.alarmRaise .openInhibited (.door d))
    else o1
  else o.send (.handleRuling d (rulingOf handle faulted (o.door d).reported))

/-- An open-handle release notice (R83, R89). -/
def Orders.handleReleased (o : Orders) (d : DoorId) : Orders :=
  if o.isPresent d then
    (o.withDoor d { o.door d with mark := false }).send (.alarmClear .openInhibited (.door d))
  else o

/-! ### Commit and restart (R85, R87) -/

/-- The resolver's part of a commit for one door (R85). The image is the new one. -/
def Orders.commitDoor (o : Orders) (old : DoorRecord) (d : DoorId) : Orders :=
  match old.present, o.isPresent d with
  | true, false => (o.withDoor d ⟨false, false, false, .none⟩).send (.alarmClear .openInhibited (.door d))
  | false, true => o.withDoor d ⟨false, false, false, .none⟩
  | true, true | false, false => o

/-- The resolver's part of a restart for one door: its registration cleared, its standing authority computed and
reported although unchanged, and OPEN_INHIBITED reported from its mark (R83, R87), the second after the first: DESIGN CHOICE
(R123; entry 25). -/
def Orders.restartDoor (o : Orders) (d : DoorId) : Orders :=
  let o1 := o.register d false
  let a := standingOf o1.image o1.resolver d
  let o2 := o1.withDoor d { o1.door d with reported := a }
  if o.isPresent d then
    (o2.send (.standingAuthorityReport d a)).send
      (if (o.door d).mark then .alarmRaise .openInhibited (.door d) else .alarmClear .openInhibited (.door d))
  else o2

/-- The resolver's part of a restart (R87). The doors' OPEN_INHIBITED is reported before EMERGENCY_CLOSE: DESIGN CHOICE (R123;
entry 25). -/
def Orders.restart (o : Orders) : Orders :=
  let o1 := allDoors.foldl Orders.restartDoor o
  o1.send (if o.resolver.latch then .alarmRaise .emergencyClose .group else .alarmClear .emergencyClose .group)

/-! ### In the state -/

/-- The resolver's work, from the state. -/
def State.orders (s : State) : Orders := ⟨s.image, s.resolver, []⟩

/-- The resolver's work written back, with its messages. -/
def State.finishOrders (s : State) (o : Orders) : State := (s.withResolver o.resolver).send o.out

/-- One event of the resolver. -/
def State.ordersEvent (s : State) (f : Orders → Orders) : State := s.finishOrders (f s.orders)

end Sys2Proof.Machine
end

