-- ==== Sys2Proof/Machine/Messages.lean ====
section
/-! DEFINITION. What the taking of each message between blocks does, and the completion of the messages a request, a
commit or a restart causes (R67, R94, R113, R123, R167; entries 2, 3 and 4). -/

namespace Sys2Proof.Machine

open Sys2Proof

/-! ### To the door table -/

/-- The taking of a standing-authority report (R41, R89). -/
def State.takeReport (d : DoorId) (a : Standing) (s : State) : State :=
  let s0 := s.taking (.standingAuthorityReport d a)
  s0.doorEvent s0 d fun w => w.order a

/-- The taking of a handle ruling (R39). -/
def State.takeRuling (d : DoorId) (r : Ruling) (s : State) : State :=
  let s0 := s.taking (.handleRuling d r)
  s0.doorEvent s0 d fun w => w.rule r

/-- The taking of a grant (R30, R95). -/
def State.takeGrant (d : DoorId) (dir : Dir) (s : State) : State :=
  let s0 := s.taking (.grant d dir)
  s0.doorEvent s0 d fun w => w.takeGrant dir

/-- The taking of a pause (R31, R95). -/
def State.takePause (d : DoorId) (s : State) : State :=
  let s0 := s.taking (.pause d)
  s0.doorEvent s0 d Work.takePause

/-- The taking of the notice that a capture has become occupied (R43). -/
def State.takeOccupied (d : DoorId) (s : State) : State :=
  let s0 := s.taking (.captureOccupiedNotice d)
  s0.doorEvent s0 d Work.occupied

/-- The taking of the notice that a capture has been emptied (R44). -/
def State.takeEmptied (d : DoorId) (s : State) : State :=
  let s0 := s.taking (.captureEmptiedNotice d)
  s0.doorEvent s0 d Work.emptied

/-! ### To the order resolver -/

/-- The taking of a handle referral (R81, R82). -/
def State.takeReferral (d : DoorId) (handle : Dir) (faulted : Bool) (s : State) : State :=
  let s0 := s.taking (.handleReferral d handle faulted)
  s0.ordersEvent fun o => o.referral d handle faulted (s0.channel d).openHandle.filtered

/-- The taking of an arrival notice (R76). -/
def State.takeArrival (d : DoorId) (s : State) : State :=
  (s.taking (.arrivalNotice d)).ordersEvent fun o => o.arrival d

/-- The taking of an open-handle release notice (R83). -/
def State.takeHandleReleased (d : DoorId) (s : State) : State :=
  (s.taking (.openHandleReleaseNotice d)).ordersEvent fun o => o.handleReleased d

/-! ### To the flow allocator -/

/-- The taking of a JOIN (R96). -/
def State.takeJoin (d : DoorId) (c : Dir) (s : State) : State :=
  (s.taking (.join d c)).flowEvent fun f => f.join d c

/-- The taking of a WITHDRAW (R96). -/
def State.takeWithdraw (d : DoorId) (s : State) : State := (s.taking (.withdraw d)).flowEvent fun f => f.withdraw d

/-- The taking of a RELEASE (R96). -/
def State.takeRelease (d : DoorId) (s : State) : State := (s.taking (.release d)).flowEvent fun f => f.release d

/-- The taking of a REVERSED (R96). -/
def State.takeReversed (d : DoorId) (dir : Dir) (s : State) : State :=
  (s.taking (.reversed d dir)).flowEvent fun f => f.reversed d dir

/-- The taking of a TAKEN (R96). -/
def State.takeTaken (d : DoorId) (dir : Dir) (s : State) : State :=
  (s.taking (.taken d dir)).flowEvent fun f => f.taken d dir

/-- The taking of a HANDED_BACK (R96). -/
def State.takeHandedBack (d : DoorId) (s : State) : State :=
  (s.taking (.handedBack d)).flowEvent fun f => f.handedBack d

/-! ### To the fault recorder -/

/-- The taking of a fault report (R110, R111, R115). -/
def State.takeFault (d : DoorId) (k : FaultKind) (second : Option FaultKind) (persisting : Bool) (x : FaultData)
    (s : State) : State :=
  (s.taking (.faultReport d k second persisting x)).logEvent fun l => l.report d k second persisting x

/-- The taking of a mismatch report (R12, R115, R118). -/
def State.takeMismatch (d : DoorId) (valve : Dir) (expected : Bool) (s : State) : State :=
  (s.taking (.mismatchReport d valve expected)).logEvent fun l => l.mismatch d valve expected

/-- The taking of an obstruction notice (R115). -/
def State.takeObstruction (d : DoorId) (s : State) : State :=
  (s.taking (.obstructionNotice d)).logEvent fun l => l.notice d .obstruction

/-- The taking of a drift notice (R115). -/
def State.takeDrift (d : DoorId) (s : State) : State :=
  (s.taking (.driftNotice d)).logEvent fun l => l.notice d .drift

/-! ### To the alarm list -/

/-- The taking of a raise (R125, R126, R130). -/
def State.takeRaise (k : AlarmKind) (subject : Subject) (s : State) : State :=
  (s.taking (.alarmRaise k subject)).alarmEvent fun i t a => a.raise i t k subject

/-- The taking of a clear (R127). -/
def State.takeClear (k : AlarmKind) (subject : Subject) (s : State) : State :=
  (s.taking (.alarmClear k subject)).alarmEvent fun i t a => a.conditionEnds i t k subject

/-- The taking of a notice that a reset condition is met (R128). -/
def State.takeResetCondition (k : AlarmKind) (subject : Subject) (s : State) : State :=
  (s.taking (.alarmResetCondition k subject)).alarmEvent fun i t a => a.conditionEnds i t k subject

/-! ### Completion -/

/-- A message taken by the block it goes to. -/
def State.deliver (m : Instr) (s : State) : State :=
  match m with
  | .standingAuthorityReport d a => s.takeReport d a
  | .handleReferral d h f => s.takeReferral d h f
  | .handleRuling d r => s.takeRuling d r
  | .arrivalNotice d => s.takeArrival d
  | .openHandleReleaseNotice d => s.takeHandleReleased d
  | .join d c => s.takeJoin d c
  | .withdraw d => s.takeWithdraw d
  | .release d => s.takeRelease d
  | .reversed d dir => s.takeReversed d dir
  | .taken d dir => s.takeTaken d dir
  | .handedBack d => s.takeHandedBack d
  | .grant d dir => s.takeGrant d dir
  | .pause d => s.takePause d
  | .faultReport d k k' p x => s.takeFault d k k' p x
  | .mismatchReport d v e => s.takeMismatch d v e
  | .obstructionNotice d => s.takeObstruction d
  | .driftNotice d => s.takeDrift d
  | .captureOccupiedNotice d => s.takeOccupied d
  | .captureEmptiedNotice d => s.takeEmptied d
  | .alarmRaise k x => s.takeRaise k x
  | .alarmClear k x => s.takeClear k x
  | .alarmResetCondition k x => s.takeResetCondition k x
  | _ => s

/-- The messages on their way ahead of `m` on the same way (R94). -/
def State.ahead (m : Instr) (s : State) : List Instr :=
  (s.inFlight.takeWhile fun x => x != m).filter fun x => route? x == route? m

/-- The messages ahead of `m` on its way taken, oldest first, so that `m` is taken in its order (R81, R94, R123; entries 2
and 4). -/
def State.inOrder (m : Instr) (s : State) : State := (s.ahead m).foldl (fun s x => s.deliver x) s

/-- Everything the order resolver has on its way to the door table about a door taken, oldest first (R78, R80; entries 29 and
37). -/
def State.settleDoor (d : DoorId) (s : State) : State :=
  (s.inFlight.filter fun x => route? x == some (.toDoorTable d)).foldl (fun s x => s.deliver x) s

/-- That done for some doors, in the order of the list (DESIGN CHOICE, entry 25), with how many of the messages then on their way
are older and stay. -/
def State.settleDoors (ds : List DoorId) (s : State) : State × Nat :=
  (ds.foldl (fun s d => s.settleDoor d) s,
   s.inFlight.countP fun x => ds.all fun d => route? x != some (.toDoorTable d))

/-- The messages that are taken before the request, commit or restart that causes them is over: standing-authority
reports (R67, R175), notices and reports between the fault recorder and the door table (R113, R167), and what goes to
the alarm list (R137, R140, R167). Messages to and from the flow allocator, referrals, rulings and handle notices stay on
their way (R94; entry 3). -/
def completes : Instr → Bool
  | .standingAuthorityReport .. | .captureOccupiedNotice _ | .captureEmptiedNotice _ | .faultReport ..
  | .alarmRaise .. | .alarmClear .. | .alarmResetCondition .. => true
  | _ => false

/-- The next message to be taken in a completion that began with `mark` messages on their way: the first made since that
completes, or an older one ahead of it on the same way (entry 4). That the first made is the first taken is a DESIGN CHOICE (R89,
R123; entry 25). The flag says it is an older one. -/
def State.owed (s : State) (mark : Nat) : Option (Instr × Bool) :=
  match (s.inFlight.drop mark).find? completes with
  | none => none
  | some m =>
    match (s.inFlight.take mark).find? (fun x => route? x == route? m) with
    | some older => some (older, true)
    | none =>
      match (s.inFlight.drop mark).find? (fun x => route? x == route? m) with
      | some next => some (next, false)
      | none => none

/-- Messages taken until none is owed, or the fuel ends. -/
def State.completeFrom : Nat → Nat → State → State
  | 0, _, s => s
  | fuel + 1, mark, s =>
    match s.owed mark with
    | none => s
    | some (m, older) => State.completeFrom fuel (if older then mark - 1 else mark) (s.deliver m)

/-- Every message made since there were `mark` on their way, of those that complete, taken with what it causes in turn.
One message causes at most seven more that complete. -/
def State.complete (mark : Nat) (s : State) : State := s.completeFrom (8 * s.inFlight.length + 8) mark

end Sys2Proof.Machine
end

