-- ==== Sys2Proof/Machine/Operands.lean ====
section
/-! DEFINITION. The operands of requests as their body bytes spell them, and the layouts of replies (R136, R147, R168,
R173 to R177). -/

namespace Sys2Proof.Machine

open Sys2Proof

/-! ### Operands -/

/-- A door set: three bytes, door 0 in the lowest bit of the last (R173). -/
def doorSetOf (body : List Byte) : DoorSet := byteAt body 0 ++ byteAt body 1 ++ byteAt body 2

/-- A door index, 0-23 (R175, R176). -/
def doorIndex? (b : Byte) : Option DoorId := if h : b.toNat < 24 then some ⟨b.toNat, h⟩ else none

/-- A group time, high byte first (R178). -/
def groupTimeOf (body : List Byte) : GroupTime := byteAt body 0 ++ byteAt body 1 ++ byteAt body 2 ++ byteAt body 3

/-- An alarm kind from its code, 1-20 (R123). -/
def alarmKind? (b : Byte) : Option AlarmKind := if b = 0 then none else allAlarmKinds[b.toNat - 1]?

/-- A subject from its sort and index (R136). The group's index is 0. -/
def subject? (sort index : Byte) : Option Subject :=
  match sort.toNat with
  | 0 => if index = 0 then some .group else none
  | 1 => if h : index.toNat < 24 then some (.door ⟨index.toNat, h⟩) else none
  | 2 => if h : index.toNat < 4 then some (.hpu ⟨index.toNat, h⟩) else none
  | 3 => if index = 0 then some (.line .a) else if index = 1 then some (.line .b) else none
  | _ => none

/-- A group mode from its code (R175). -/
def groupMode? (b : Byte) : Option GroupMode := if b = 0 then some .local_ else if b = 1 then some .closed else none

/-- The lines a LINES_CLEAR selector names (R170). -/
def lines? (b : Byte) : Option (List Line) :=
  if b = 0 then some [.a] else if b = 1 then some [.b] else if b = 2 then some [.a, .b] else none

/-- The doors a DOOR_STATUS covers: from the first door onward, for the number counted (R147). -/
def coveredDoors? (first count : Byte) : Option (List DoorId) :=
  if first.toNat < 24 ∧ 1 ≤ count.toNat ∧ count.toNat ≤ 24 ∧ first.toNat + count.toNat ≤ 24 then
    some ((allDoors.drop first.toNat).take count.toNat)
  else none

/-! ### Reasons and the reply head (R168) -/

/-- Why a request is refused, in the order of the reason codes. -/
inductive Reason where
  | unknownKind | badLength | badValue | wrongState | busy | notIsolated | lineActive | invalidConfig
  deriving DecidableEq, Repr

/-- The code of a reason. -/
def reasonCode : Reason → Byte
  | .unknownKind => 1
  | .badLength => 2
  | .badValue => 3
  | .wrongState => 4
  | .busy => 5
  | .notIsolated => 6
  | .lineActive => 7
  | .invalidConfig => 8

/-- The status and the reason of a reply. -/
def statusBytes : Option Reason → List Byte
  | none => [0, 0]
  | some r => [1, reasonCode r]

/-- The start byte of a frame (R162). -/
def startByte : Byte := 0xD5

/-- A reply frame: kind plus 128, the address in use, the reply head and the data, and the check (R162, R164, R168). -/
def replyFrame (address : BitVec 5) (kind : Byte) (reason : Option Reason) (attention : Byte) (data : List Byte) :
    List Byte :=
  let body := statusBytes reason ++ [attention] ++ data
  let frame := [address.setWidth 8, kind + 128, byteOf body.length] ++ body
  startByte :: (frame ++ crcBytes (crc frame))

/-! ### Codes -/

/-- The motion-state codes (R147). -/
def motionCode : Motion → Byte
  | .settling => 0
  | .closed => 1
  | .opened => 2
  | .stopped => 3
  | .warning => 4
  | .dwell => 5
  | .queued => 6
  | .opening => 7
  | .closing => 8
  | .isolated => 9
  | .absent => 10

/-- Every motion state, in the order of the codes. -/
def allMotions : List Motion :=
  [.settling, .closed, .opened, .stopped, .warning, .dwell, .queued, .opening, .closing, .isolated, .absent]

/-- The indicated-state codes (R147). -/
def indicatedCode : Indicated → Byte
  | .closed => 0
  | .opened => 1
  | .moving => 2
  | .partOpen => 3
  | .unknown => 4
  | .isolated => 5
  | .absent => 6

/-- The standing-authority codes (R147). -/
def standingCode : Standing → Byte
  | .none => 0
  | .remote => 1
  | .central => 2
  | .emergency => 3

/-- The motion-authority codes (R147, R176). -/
def authorityCode : MotionAuthority → Byte
  | .local_ => 0
  | .remote => 1
  | .central => 2
  | .emergency => 3

/-- 1 for OPEN (R147, R176). -/
def dirCode : Dir → Byte
  | .opn => 1
  | .cls => 0

/-- The drive test result codes (R176). -/
def testCode : TestResult → Byte
  | .none => 0
  | .running => 1
  | .pass => 2
  | .failOpen => 3
  | .failClose => 4
  | .aborted => 5

/-- The zone status codes (R174). -/
def zoneCode : ZoneStatus → Byte
  | .empty => 0
  | .secure => 1
  | .notSecure => 2

/-- The start cause codes (R174). -/
def causeCode : StartCause → Byte
  | .powerOn => 0
  | .resetPin => 1
  | .restartRequest => 2

/-- The group mode codes (R174). -/
def modeCode : GroupMode → Byte
  | .local_ => 0
  | .closed => 1

/-- The last write outcome codes (R177). -/
def outcomeCode : WriteOutcome → Byte
  | .none => 0
  | .success => 1
  | .failure => 2

/-! ### DOOR_STATUS (R142, R147) -/

/-- A number with one bit set where a flag holds. -/
def flagBit (on : Bool) (bit : Nat) : Byte := if on then 1#8 <<< bit else 0

/-- One DOOR_STATUS entry. An ABSENT door has standing authority NONE and every flag but the change flag false (R142;
entry 15). -/
def doorEntry (d : DoorId) (r : Door) (c : Channel) : List Byte :=
  let here := r.motion != .absent
  [byteOf d.val, indicatedCode (indicated r c), motionCode r.motion,
   (if here then standingCode r.standing <<< 4 else 0) ||| authorityCode r.authority,
   flagBit (here && r.faulted) 0 ||| flagBit (here && r.transit) 1 ||| flagBit (here && r.tight) 2 |||
   flagBit r.changed 3 ||| flagBit (r.dir == .opn) 4 ||| flagBit (here && r.held) 5 |||
   flagBit (here && r.drifted) 6 ||| flagBit (here && c.warning) 7] ++
  bytes2 r.estimateNow ++ bytes2 r.elapsed

/-! ### GROUP_STATUS (R150, R174) -/

/-- The supply state: 0 PRESENT, 1 LOST, 2 UNKNOWN (R150). -/
def supplyCode (f : Filter) : Byte := if f.filtered then 0 else if f.primed then 1 else 2

/-- How many doors are in a motion state (R150). -/
def State.countIn (s : State) (m : Motion) : Nat := allDoors.countP fun d => (s.door d).motion == m

/-- One zone's four bytes (R149, R174). -/
def State.zoneBytes (s : State) (z : ZoneId) : List Byte :=
  let ds := s.zoneDoors z
  [zoneCode (s.zoneStatus z), byteOf ds.length, byteOf (ds.countP fun d => (s.door d).motion == .isolated),
   byteOf (ds.countP fun d => (s.door d).faulted)]

/-- The 60 bytes of the group summary (R150, R174). -/
def State.groupSummary (s : State) : List Byte :=
  [modeCode s.resolver.mode, flagByte s.resolver.latch, flagByte s.lines.emergency.filtered,
   supplyCode s.lines.mainSupply] ++
  allHpus.flatMap (fun h =>
    let x := s.alloc.hpus[h]
    [byteOf x.capacity, byteOf x.inUse, byteOf (x.closeQueue.length + x.openQueue.length)]) ++
  [s.resolver.flood] ++ allMotions.map (fun m => byteOf (s.countIn m)) ++ (List.finRange 8).flatMap s.zoneBytes

/-! ### ALARM_READ (R136) -/

/-- The sort and the index of a subject (R136). -/
def subjectBytes : Subject → List Byte
  | .group => [0, 0]
  | .door d => [1, byteOf d.val]
  | .hpu h => [2, byteOf h.val]
  | .line .a => [3, 0]
  | .line .b => [3, 1]

/-- The code of an entry's state (R136). -/
def entryStateCode : EntryState → Byte
  | .activeUnack => 1
  | .activeAck => 2
  | .clearedUnack => 3

/-- One alarm entry in its 15 bytes (R136). -/
def entryBytes (e : Entry) : List Byte :=
  byteOf (alarmCode e.kind) :: subjectBytes e.subject ++
  [entryStateCode e.state, flagByte e.kind.latched, flagByte e.annunciated, byteOf e.count] ++
  bytes4 e.first ++ bytes4 e.last

/-- The reply data of ALARM_READ (R136). -/
def alarmPage (a : AlarmList) (start : Nat) : List Byte :=
  [byteOf a.total, byteOf start, byteOf (a.page start).length] ++ (a.page start).flatMap entryBytes

/-! ### Captures and maintenance data (R176) -/

/-- The reply data of CAPTURE_READ (R176). -/
def captureBytes (d : DoorId) : Option Capture → List Byte
  | none => [byteOf d.val, 0]
  | some c =>
    [byteOf d.val, 1,
     match c.kind with | .driveFault => 1 | .switchConflict => 2 | .overtravel => 3 | .switchSequence => 4,
     motionCode c.data.motion, dirCode c.data.dir] ++
    bytes2 c.data.estimate ++ bytes2 c.data.elapsed ++ [authorityCode c.data.authority] ++ bytes4 c.time ++
    [c.alsoSeen.setWidth 8]

/-- The reply data of DRIVE_CAPTURE_READ (R176). The valve is 0 for OPEN and 1 for CLOSE. The occupied flag's 1 and 0 are a
DESIGN CHOICE (entry 39). -/
def driveCaptureBytes : Option DriveCapture → List Byte
  | none => [0]
  | some c =>
    [1, byteOf c.door.val, match c.valve with | .opn => 0 | .cls => 1, flagByte c.expected] ++ bytes4 c.time

/-- The five wear counters (R176). -/
def wearBytes (w : Wear) : List Byte :=
  bytes2 w.overtravel ++ bytes2 w.switch ++ bytes2 w.obstruction ++ bytes2 w.drift ++ bytes2 w.drive

/-- The last stroke, its fields 0 when it is absent (R176). The present flag's 1 and 0 are a DESIGN CHOICE (entry 39). -/
def lastStrokeBytes : Option LastStroke → List Byte
  | none => [0, 0, 0, 0, 0]
  | some x => [1] ++ bytes2 x.ticks ++ [dirCode x.dir, flagByte (!x.accepted)]

/-- The reply data of MAINT_READ (R176). An ABSENT door's counters are 0 and its last stroke is absent. -/
def maintBytes (d : DoorId) (r : Door) (c : DoorRecord) (w : Wear) : List Byte :=
  [byteOf d.val] ++ wearBytes (if r.present then w else .zero) ++
  bytes2 r.learnedClose ++ bytes2 r.learnedOpen ++ bytes2 c.nominalClose ++ bytes2 c.nominalOpen ++
  lastStrokeBytes (if r.present then r.lastStroke else none) ++ [testCode r.testResult]

/-! ### Lines and identity (R170, R174) -/

/-- One line's five bytes (R170). -/
def lineBytes (y : LinePort) : List Byte := bytes2 y.checkErrors ++ bytes2 y.framingErrors ++ [flagByte y.silent]

/-- The 14 bytes of LINES_READ (R170). The fallback flag's 1 and 0 are a DESIGN CHOICE (entry 39). -/
def linesBytes (p : Port) : List Byte :=
  lineBytes p.lineA ++ lineBytes p.lineB ++
  [byteOf p.interval, p.address.setWidth 8, flagByte p.fallback, flagByte p.fastRate]

/-- The part name: "TELUWAN 24D" and one space (R174). -/
def partName : List Byte := [0x54, 0x45, 0x4C, 0x55, 0x57, 0x41, 0x4E, 0x20, 0x32, 0x34, 0x44, 0x20]

/-- The 19 bytes of IDENTIFY (R174). The 1 and 0 of the fallback and RESTARTED flags are a DESIGN CHOICE (entry 39). -/
def identityBytes (p : Port) : List Byte :=
  partName ++ [Config.hardwareRevision, Config.programRevision, p.address.setWidth 8, flagByte p.fallback,
    flagByte p.fastRate, causeCode p.cause, flagByte p.restarted]

end Sys2Proof.Machine
end

