-- ==== Sys2Proof/WellFormed.lean ====
section
/-! DEFINITION. Which commands name an event of the part, beyond what their types already say. -/

namespace Sys2Proof

/-- A request's body fits in a frame (R162), and only MODE_SET and TIME_SET are taken from a broadcast (R166). -/
def Req.fits (r : Req) (byBroadcast : Bool) : Bool := r.body.length ≤ 240 && (!r.broadcast || byBroadcast)

/-- The values of a fault report lie in the ranges of R110, and a report of two kinds names the kind of higher
priority first (R109). -/
def faultFits (k : FaultKind) (second : Option FaultKind) (x : FaultData) : Bool :=
  x.motion != .absent && x.estimate ≤ 1000 && x.elapsed ≤ 1200 &&
  match k, second with
  | _, none => true
  | .driveFault, some .switchConflict | .driveFault, some .overtravel | .driveFault, some .switchSequence
  | .switchConflict, some .overtravel | .switchConflict, some .switchSequence
  | .overtravel, some .switchSequence => true
  | _, some _ => false

/-- A command that names an event of the part. -/
def Instr.wellFormed : Instr → Bool
  | .faultReport _ k second _ x => faultFits k second x
  | .alarmRaise k s => k.fits s && k != .listOverflow
  | .alarmClear k s => k.fits s && !k.latched
  | .alarmResetCondition k s => k.fits s && k.latched && k != .listOverflow
  | .unknownKindRequest k r => unknownKind k && r.fits false
  | .modeSet r | .timeSet r => r.fits true
  | .identify r | .groupStatus r | .doorStatus r | .alarmRead r | .alarmAck r
  | .closeDoors r | .closeZones r | .releaseDoors r | .isolate r | .restore r | .faultClear r
  | .floodSet r | .floodClear r | .emergencyRelease r | .driveTest r | .captureRead r | .driveCaptureRead r
  | .maintRead r | .countersClear r | .linesRead r | .linesClear r | .supervisionSet r
  | .configRead r | .configStage r | .configCommit r | .configDiscard r | .restart r => r.fits false
  | .powerOn | .rawInputChange .. | .filterExpiry _ | .firstIntervalExpiry _ | .checkTimerExpiry ..
  | .driveTestHoldExpiry _ | .driveTestOnCheckExpiry _ | .driveTestOffCheckExpiry _ | .warningTimerExpiry _
  | .dwellTimerExpiry _ | .edgeClearTimerExpiry _ | .transitLimitExpiry _ | .deadlineExpiry _ | .groupTimeSecond
  | .standingAuthorityReport .. | .handleReferral .. | .handleRuling .. | .arrivalNotice _
  | .openHandleReleaseNotice _ | .join .. | .withdraw _ | .release _ | .reversed .. | .taken .. | .handedBack _
  | .grant .. | .pause _ | .mismatchReport .. | .obstructionNotice _ | .driftNotice _
  | .captureOccupiedNotice _ | .captureEmptiedNotice _
  | .storeWriteComplete _ | .lineCharacter .. | .gapTimerExpiry _ | .silenceTimerExpiry _ | .replySent _ => true

end Sys2Proof
end

