-- ==== Sys2Proof/Decode.lean ====
section
/-! DEFINITION. What a table word spells (the table gives no row any bits), and what a request frame spells: the
kind-code table of R173 read in both directions. -/

namespace Sys2Proof

/-- The command a word of the opcode table spells. No row of the table has bits, so no word spells one. -/
def decodeTableWord (_nbits _w : Nat) : Option Instr := none

/-- The command that takes a request frame of this kind (R173; R168, check 1, for every other code below 0x80). -/
def decodeRequest (kind : Byte) (r : Req) : Instr :=
  match kind.toNat with
  | 0x01 => .identify r
  | 0x02 => .groupStatus r
  | 0x03 => .doorStatus r
  | 0x04 => .alarmRead r
  | 0x05 => .alarmAck r
  | 0x06 => .modeSet r
  | 0x07 => .closeDoors r
  | 0x08 => .closeZones r
  | 0x09 => .releaseDoors r
  | 0x0A => .isolate r
  | 0x0B => .restore r
  | 0x0C => .faultClear r
  | 0x0D => .floodSet r
  | 0x0E => .floodClear r
  | 0x0F => .emergencyRelease r
  | 0x10 => .driveTest r
  | 0x11 => .captureRead r
  | 0x12 => .driveCaptureRead r
  | 0x13 => .maintRead r
  | 0x14 => .countersClear r
  | 0x15 => .linesRead r
  | 0x16 => .linesClear r
  | 0x17 => .supervisionSet r
  | 0x18 => .timeSet r
  | 0x19 => .configRead r
  | 0x1A => .configStage r
  | 0x1B => .configCommit r
  | 0x1C => .configDiscard r
  | 0x1D => .restart r
  | _ => .unknownKindRequest kind r

/-- The kind code of a command that takes a request (R173); none for every other command. -/
def Instr.kindCode? : Instr → Option Byte
  | .unknownKindRequest k _ => some k
  | .identify _ => some 0x01
  | .groupStatus _ => some 0x02
  | .doorStatus _ => some 0x03
  | .alarmRead _ => some 0x04
  | .alarmAck _ => some 0x05
  | .modeSet _ => some 0x06
  | .closeDoors _ => some 0x07
  | .closeZones _ => some 0x08
  | .releaseDoors _ => some 0x09
  | .isolate _ => some 0x0A
  | .restore _ => some 0x0B
  | .faultClear _ => some 0x0C
  | .floodSet _ => some 0x0D
  | .floodClear _ => some 0x0E
  | .emergencyRelease _ => some 0x0F
  | .driveTest _ => some 0x10
  | .captureRead _ => some 0x11
  | .driveCaptureRead _ => some 0x12
  | .maintRead _ => some 0x13
  | .countersClear _ => some 0x14
  | .linesRead _ => some 0x15
  | .linesClear _ => some 0x16
  | .supervisionSet _ => some 0x17
  | .timeSet _ => some 0x18
  | .configRead _ => some 0x19
  | .configStage _ => some 0x1A
  | .configCommit _ => some 0x1B
  | .configDiscard _ => some 0x1C
  | .restart _ => some 0x1D
  | .powerOn | .rawInputChange .. | .filterExpiry _ | .firstIntervalExpiry _ | .checkTimerExpiry ..
  | .driveTestHoldExpiry _ | .driveTestOnCheckExpiry _ | .driveTestOffCheckExpiry _ | .warningTimerExpiry _
  | .dwellTimerExpiry _ | .edgeClearTimerExpiry _ | .transitLimitExpiry _ | .deadlineExpiry _ | .groupTimeSecond
  | .standingAuthorityReport .. | .handleReferral .. | .handleRuling .. | .arrivalNotice _
  | .openHandleReleaseNotice _ | .join .. | .withdraw _ | .release _ | .reversed .. | .taken .. | .handedBack _
  | .grant .. | .pause _ | .faultReport .. | .mismatchReport .. | .obstructionNotice _ | .driftNotice _
  | .captureOccupiedNotice _ | .captureEmptiedNotice _ | .alarmRaise .. | .alarmClear .. | .alarmResetCondition ..
  | .storeWriteComplete _ | .lineCharacter .. | .gapTimerExpiry _ | .silenceTimerExpiry _ | .replySent _ => none

/-- Whether a broadcast of this kind is taken (R166): MODE_SET and TIME_SET only. -/
def takenByBroadcast (kind : Byte) : Bool := kind == 0x06 || kind == 0x18

end Sys2Proof
end

