-- ==== Sys2Proof/Machine/Port.lean ====
section
/-! DEFINITION. The line port: receivers, the check of frames, error counters and silence supervision (chapter 10). -/

namespace Sys2Proof.Machine

open Sys2Proof

/-- The line port as it works during one event: its state, the active image, and the messages made so far. -/
structure Serial where
  image : Image
  port : Port
  out : List Instr
  deriving DecidableEq, Repr

/-- A message is made. -/
def Serial.send (x : Serial) (m : Instr) : Serial := { x with out := x.out ++ [m] }

/-- One line. -/
def Serial.line (x : Serial) (l : Line) : LinePort := x.port.line l

/-- One line replaced. -/
def Serial.withLine (x : Serial) (l : Line) (y : LinePort) : Serial := { x with port := x.port.withLine l y }

/-! ### Error counters (R170) -/

/-- The LINE_DEGRADED condition of a line. -/
def lineDegraded (g : GroupRecord) (y : LinePort) : Bool :=
  g.checkErrorThreshold < y.checkErrors || g.framingErrorThreshold < y.framingErrors

/-- LINE_DEGRADED evaluated for a line. -/
def Serial.evalDegraded (x : Serial) (l : Line) : Serial :=
  let y := x.line l
  let now := lineDegraded x.image.group y
  let x' := x.withLine l { y with degraded := now }
  if now && !y.degraded then x'.send (.alarmRaise .lineDegraded (.line l))
  else if !now && y.degraded then x'.send (.alarmClear .lineDegraded (.line l))
  else x'

/-- The counters of a line set to 0 and the condition evaluated (LINES_CLEAR). -/
def Serial.clearErrors (x : Serial) (l : Line) : Serial :=
  (x.withLine l { x.line l with checkErrors := 0, framingErrors := 0 }).evalDegraded l

/-- A receiver back in HUNT with nothing assembled and its gap timer idle (R163). -/
def LinePort.hunting (y : LinePort) : LinePort := { y with rx := .hunt, buffer := [], gap := false }

/-- A frame abandoned: one framing error counted, the receiver back in HUNT (R163, R170). -/
def Serial.abandon (x : Serial) (l : Line) : Serial :=
  let y := x.line l
  (x.withLine l { y.hunting with framingErrors := saturatingSucc 65535 y.framingErrors }).evalDegraded l

/-- A frame discarded for its check: one check error counted (R164, R170). -/
def Serial.checkError (x : Serial) (l : Line) : Serial :=
  let y := x.line l
  (x.withLine l { y.hunting with checkErrors := saturatingSucc 65535 y.checkErrors }).evalDegraded l

/-! ### Silence supervision (R171, R172) -/

/-- Both lines' silent flags are set. -/
def Port.bothSilent (p : Port) : Bool := p.lineA.silent && p.lineB.silent

/-- A valid frame on a line restarts its silence timer and revives a silent line (R171). -/
def Serial.heard (x : Serial) (l : Line) : Serial :=
  if x.port.interval = 0 then x
  else
    let y := x.line l
    let x1 := x.withLine l { y with silence := some x.port.interval, silent := false }
    let x2 := if y.silent then x1.send (.alarmClear .lineSilent (.line l)) else x1
    if x.port.bothSilent then x2.send (.alarmClear .remoteLost .group) else x2

/-- A line's silence timer expires while it runs; the flag says whether the loss of both lines is reported (R171). -/
def Serial.silenceExpired (x : Serial) (l : Line) : Serial × Bool :=
  let y := x.line l
  if y.silence.isSome then
    let x1 := (x.withLine l { y with silence := none, silent := true }).send (.alarmRaise .lineSilent (.line l))
    if (x.line (otherLine l)).silent then
      (Serial.send { x1 with port := { x1.port with remoteWasLost := true } } (.alarmRaise .remoteLost .group), true)
    else (x1, false)
  else (x, false)

/-- A line's timer under a new interval above 0: restarted unless the line is silent (R172). -/
def LinePort.restartSilence (interval : Nat) (y : LinePort) : LinePort :=
  if y.silent then y else { y with silence := some interval }

/-- The working interval set (R172). -/
def Serial.setInterval (x : Serial) (n : Nat) : Serial :=
  let p := x.port
  if n = 0 then
    ((Serial.send
      { x with port := { p with
          interval := 0
          lineA := { p.lineA with silence := none, silent := false }
          lineB := { p.lineB with silence := none, silent := false } } }
      (.alarmClear .lineSilent (.line .a))).send (.alarmClear .lineSilent (.line .b))).send (.alarmClear .remoteLost .group)
  else
    { x with port := { p with
        interval := n, lineA := p.lineA.restartSilence n, lineB := p.lineB.restartSilence n } }

/-! ### Receivers (R163, R164, R166) -/

/-- A complete frame with a good check, handed over by its address and kind (R164, R166, R179). A request completed while a
restart is awaited is discarded with its receiver in HUNT: DESIGN CHOICE (R179; entry 40). `buffer` holds the
characters from the address through the last body byte. -/
def Serial.validFrame (x : Serial) (l : Line) (buffer : List Byte) : Serial :=
  let address := byteAt buffer 0
  let kind := byteAt buffer 1
  let body := buffer.drop 3
  let broadcast := address == 0
  let x0 := x.withLine l (x.line l).hunting
  if broadcast || address == x.port.address.setWidth 8 then
    let x1 := x0.heard l
    let wanted := if broadcast then takenByBroadcast kind else kind.toNat < 0x80
    if wanted && x.port.restarting.isNone then
      x1.withLine l { x1.line l with rx := .closed, waiting := some (decodeRequest kind ⟨l, broadcast, body⟩) }
    else x1
  else x0

/-- A complete frame checked (R164). -/
def Serial.frameDone (x : Serial) (l : Line) (buffer : List Byte) (high low : Byte) : Serial :=
  if crcBytes (crc buffer) = [high, low] then x.validFrame l buffer else x.checkError l

/-- A character kept, the receiver moved on and its gap timer restarted (R163). -/
def LinePort.keep (y : LinePort) (c : Byte) (next : RxState) : LinePort :=
  { y with rx := next, buffer := y.buffer ++ [c], gap := true }

/-- A character with a good stop bit taken by a receiver (R163). In CHECK, `buffer` holds the frame and, after the first
check character, that character too. -/
def Serial.goodCharacter (x : Serial) (l : Line) (c : Byte) : Serial :=
  let y := x.line l
  match y.rx with
  | .hunt => if c = 0xD5 then x.withLine l { y with rx := .address, buffer := [], gap := true } else x
  | .address => x.withLine l (y.keep c .kind)
  | .kind => x.withLine l (y.keep c .length)
  | .length =>
    if 240 < c.toNat then x.abandon l else x.withLine l (y.keep c (if c = 0 then .check else .body))
  | .body =>
    x.withLine l (y.keep c (if y.buffer.length + 1 = 3 + (byteAt y.buffer 2).toNat then .check else .body))
  | .check =>
    let n := 3 + (byteAt y.buffer 2).toNat
    if y.buffer.length = n then x.withLine l (y.keep c .check)
    else x.frameDone l (y.buffer.take n) (byteAt y.buffer n) c
  | .closed => x

/-- A character taken by a receiver (R163). A line is not listened to while a reply is being sent on it (R162, R167). -/
def Serial.character (x : Serial) (l : Line) (c : Byte) (goodStop : Bool) : Serial :=
  if (x.line l).reply.isSome then x
  else if goodStop then x.goodCharacter l c
  else match (x.line l).rx with
    | .hunt | .closed => x
    | .address | .kind | .length | .body | .check => x.abandon l

/-- The gap timer of a receiver expires (R163). -/
def Serial.gapExpired (x : Serial) (l : Line) : Serial :=
  match (x.line l).rx with
  | .hunt | .closed => x
  | .address | .kind | .length | .body | .check => if (x.line l).gap then x.abandon l else x

/-! ### Commit and restart (R158, R170, R172, R179) -/

/-- The line port's part of a commit (R158, R170, R172, R177). The image is the new one. R170 gives the lines no order; line A's
LINE_DEGRADED is evaluated before line B's, here as wherever both lines report, and both before what a new interval of 0 clears,
LINE_SILENT and REMOTE_LOST: DESIGN CHOICE (R123; entry 25). -/
def Serial.commit (x : Serial) (old : Image) : Serial :=
  let x1 := (x.evalDegraded .a).evalDegraded .b
  if x.image.group.supervision = old.group.supervision then x1 else x1.setInterval x.image.group.supervision

/-- A line at a restart: as at power-on, but that a reply being sent is cut off by the reset pin alone (R4, R179). A line
whose reply goes on stands in HUNT, by R179, and listens to nothing until the reply has been sent, by R162: DEDUCED (entry
32). -/
def LinePort.restarted (interval : Nat) (cause : StartCause) (y : LinePort) : LinePort :=
  { LinePort.atStart interval with reply := if cause = .resetPin then none else y.reply }

/-- The line port's part of a restart (R4, R163, R165, R169, R170, R171, R179). The order of its reports is not the manual's: DESIGN
CHOICE (R123; entry 25). -/
def Serial.restart (x : Serial) (s : Straps) (cause : StartCause) : Serial :=
  { x with
    port :=
      { Port.atPowerOn x.port.interval s with
        remoteWasLost := x.port.remoteWasLost
        cause := cause
        lineA := x.port.lineA.restarted x.port.interval cause
        lineB := x.port.lineB.restarted x.port.interval cause }
    out := x.out ++
      [if strapsGood s then .alarmClear .addressFallback .group else .alarmRaise .addressFallback .group,
       .alarmClear .lineDegraded (.line .a), .alarmClear .lineDegraded (.line .b),
       .alarmClear .lineSilent (.line .a), .alarmClear .lineSilent (.line .b), .alarmClear .remoteLost .group] }

/-! ### In the state -/

/-- The line port's work, from the state. -/
def State.serial (s : State) : Serial := ⟨s.image, s.port, []⟩

/-- The line port's work written back, with its messages. -/
def State.finishSerial (s : State) (x : Serial) : State := (s.withPort x.port).send x.out

/-- One event of the line port. -/
def State.serialEvent (s : State) (f : Serial → Serial) : State := s.finishSerial (f s.serial)

end Sys2Proof.Machine
end

