-- ==== Sys2Proof/Machine/Store.lean ====
section
/-! DEFINITION. The configuration store: staging, commit and the store write (chapter 9). -/

namespace Sys2Proof.Machine

open Sys2Proof

/-! ### The three outcomes of a request (R168) -/

/-- What the owning block answers: a refusal, which changes nothing, with the data it carries; the state after its part and
the reply data; or the same after every message that completes has been taken. -/
inductive Answer where
  | refused (reason : Reason) (data : List Byte)
  | accepted (s : State) (data : List Byte)
  | completed (s : State) (data : List Byte)
  deriving DecidableEq, Repr

/-! ### Staging (R154, R155) -/

/-- A staged group record (R154). -/
def stageGroup (record : List Byte) (x : Store) : Store :=
  { x with staging := { x.staging with group := (groupOf record).clamped } }

/-- A staged door record (R154). -/
def stageDoor (record : List Byte) (x : Store) : Store :=
  { x with staging := { x.staging with doors := x.staging.doors.set (doorIndexOf record) (doorOf record).clamped } }

/-- CONFIG_STAGE (R154, R177): the selector, its match with the length, then the record. -/
def State.configStage (body : List Byte) (s : State) : Answer :=
  let record := body.drop 1
  if 1 < (byteAt body 0).toNat then .refused .badValue []
  else if (byteAt body 0 == 0) != (record.length == 48) then .refused .badLength []
  else if byteAt body 0 = 0 then
    if groupChecked record then
      .accepted (s.withStore (stageGroup record s.store)) (0 :: groupBytes (groupOf record).clamped)
    else .refused .badValue []
  else if doorChecked record then
    .accepted (s.withStore (stageDoor record s.store)) (1 :: doorBytes (doorIndexOf record) (doorOf record).clamped)
  else .refused .badValue []

/-- CONFIG_READ (R155, R177). The default-loaded flag, for which no code is given, is sent as 1 where it is true and 0 where it is
false: DESIGN CHOICE (entry 39). -/
def State.configRead (body : List Byte) (s : State) : Answer :=
  let image := if byteAt body 0 = 0 then s.store.active else s.store.staging
  let head := [flagByte s.store.writing, outcomeCode s.store.outcome, flagByte s.store.defaultLoaded, byteAt body 1]
  if 1 < (byteAt body 0).toNat ∨ 1 < (byteAt body 1).toNat then .refused .badValue []
  else if byteAt body 1 = 0 then .accepted s (head ++ groupBytes image.group)
  else match doorIndex? (byteAt body 2) with
    | none => .refused .badValue []
    | some d => .accepted s (head ++ doorBytes d image.doors[d])

/-- CONFIG_DISCARD (R155). -/
def State.configDiscard (_body : List Byte) (s : State) : Answer :=
  .accepted (s.withStore { s.store with staging := s.store.active }) []

/-! ### Commit (R156 to R158) -/

/-- A motion state that makes a commit busy (R156). -/
def commitBusy : Motion → Bool
  | .warning | .dwell | .queued | .opening | .closing => true
  | .settling | .closed | .opened | .stopped | .isolated | .absent => false

/-- Whether a commit is refused with BUSY (R156). -/
def State.busy (s : State) : Bool :=
  allDoors.any (fun d => commitBusy (s.door d).motion) || s.resolver.latch || s.store.writing

/-- The data of an INVALID_CONFIG refusal (R157, R168). -/
def failureBytes : CommitFailure → List Byte
  | .demandOverCn d => [1, byteOf d.val]
  | .ceOverCn h => [2, byteOf h.val]

/-- The standing authority a commit gives a door it makes present: it holds no registration and no isolation (R85). -/
def standingOfFresh (i : Image) (r : Resolver) (d : DoorId) : Standing :=
  standingOf i { r with doors := r.doors.set d ⟨false, false, false, .none⟩ } d

/-- The door table's part of a commit (R47). -/
def State.commitDoors (old : Image) (s : State) : State :=
  allDoors.foldl (fun s d => s.doorEvent s d fun w =>
    w.commit old.doors[d] (standingOfFresh s.image s.resolver d)) s

/-- The order resolver's part of a commit (R85). -/
def Orders.commit (old : Image) (o : Orders) : Orders :=
  (allDoors.foldl (fun o d => o.commitDoor old.doors[d] d) o).recomputeAll

/-- The fault recorder's part of a commit (R119). -/
def Log.commit (old : Image) (l : Log) : Log := allDoors.foldl (fun l d => l.commitDoor old.doors[d] d) l

/-- A taken commit: the staging image active, CONFIG_DEFAULT cleared, a store write started, and each block's part, the
alarm list's first (R158, R139). R158 gives the other parts no order; the model takes the door table, the order resolver,
the flow allocator, the fault recorder and the line port in this order, behind the store's own report: DESIGN CHOICE
(entry 25). A ruling still on its way to a door that the commit puts under a set flood flag stays on its way, and is taken
afterwards as it was made (R78, R85): DESIGN CHOICE (entry 36). -/
def State.commit (s : State) : State :=
  let old := s.image
  let s1 := (s.withStore { s.store with active := s.store.staging, defaultLoaded := false, writing := true }).send
    [.alarmClear .configDefault .group]
  let s2 := s1.alarmEvent fun i t a => a.commit old i t
  let s3 := s2.commitDoors old
  let s4 := s3.ordersEvent fun o => o.commit old
  let s5 := s4.flowEvent fun f => f.commit s4.lines
  let s6 := s5.logEvent fun l => l.commit old
  s6.serialEvent fun x => x.commit old

/-- The doors a commit of the staging image makes present (R47). -/
def State.madePresent (s : State) : List DoorId :=
  allDoors.filter fun d => !s.image.doors[d].present && s.store.staging.doors[d].present

/-- CONFIG_COMMIT (R156 to R158, R177). What the resolver still has on its way to a door that is made present is taken first,
while the door is ABSENT, and what is on its way to the resolver about it stays there (R85, R89; entry 37). -/
def State.configCommit (_body : List Byte) (s : State) : Answer :=
  if s.busy then .refused .busy []
  else match commitFailure s.store.staging with
    | some f => .refused .invalidConfig (failureBytes f)
    | none =>
      let settled := s.settleDoors s.madePresent
      .completed (settled.1.commit.complete settled.2) [1]

/-! ### The store write (R159) -/

/-- What a failed write leaves in non-volatile memory: a free value (entry 9). -/
def leftByFailure (n : Nat) : Stored := ⟨Config.leftBytes n, Config.leftCheck n⟩

/-- What an interrupted write leaves: a free value whose check value does not match (R159; entry 9). -/
def leftByLoss (n : Nat) : Stored :=
  let bs := Config.leftBytes n
  ⟨bs, if Config.leftCheck n = crc bs then Config.leftCheck n + 1 else Config.leftCheck n⟩

/-- A store write that ends in success (R159). -/
def State.writeSucceeded (s : State) : State :=
  (s.withStore { s.store with
    stored := ⟨imageBytes s.store.active, crc (imageBytes s.store.active)⟩
    writing := false, outcome := .success }).send [.alarmResetCondition .storeFault .group]

/-- A store write that ends in failure (R159). -/
def State.writeFailed (s : State) : State :=
  State.send
    { s with
      store := { s.store with stored := leftByFailure s.freeDraws, writing := false, outcome := .failure }
      freeDraws := s.freeDraws + 1 }
    [.alarmRaise .storeFault .group]

end Sys2Proof.Machine
end

