-- ==== Sys2Proof/Machine/Restart.lean ====
section
/-! DEFINITION. Power-on and restart over all the blocks (R48, R49, R86, R87, R106, R107, R140, R160, R161, R178,
R179). -/

namespace Sys2Proof.Machine

open Sys2Proof

/-- Whether a restart discards a waiting message (R87, R107, R179): those between the door table and the order resolver
and those between the door table and the flow allocator. An open-handle release notice is kept (R83; entry 3). -/
def discardedAtRestart : Instr → Bool
  | .standingAuthorityReport .. | .handleReferral .. | .handleRuling .. | .arrivalNotice _
  | .join .. | .withdraw _ | .release _ | .reversed .. | .taken .. | .handedBack _ | .grant .. | .pause _ => true
  | _ => false

/-- The waiting messages that a restart discards, discarded. -/
def State.discardMessages (s : State) : State :=
  { s with inFlight := s.inFlight.filter fun m => !discardedAtRestart m }

/-- The configuration store's part of a restart (R161). -/
def State.restartStore (s : State) : State :=
  (s.withStore { s.store with staging := s.store.active }).send
    [if s.store.defaultLoaded then .alarmRaise .configDefault .group else .alarmClear .configDefault .group]

/-- The door table's part of a restart (R49). -/
def State.restartDoors (s : State) : State := allDoors.foldl (fun s d => s.doorEvent s d Work.restart) s

/-- The fault recorder's part of a restart (R120). -/
def Log.restart (l : Log) : Log := allDoors.foldl Log.restartDoor l

/-- Every block's part of a restart, before their reports are taken. R123 and R140 give the owners no order among themselves;
the model takes door table, order resolver, flow allocator, fault recorder, configuration store and line port: DESIGN CHOICE
(entry 25). -/
def State.restartBlocks (cause : StartCause) (s : State) : State :=
  let s1 := s.discardMessages.restartDoors
  let s2 := s1.ordersEvent Orders.restart
  let s3 := s2.flowEvent fun f => f.restart s2.lines
  let s4 := s3.logEvent Log.restart
  let s5 := s4.restartStore
  s5.serialEvent fun x => x.restart s5.straps cause

/-- A restart: every block's part, the reports they make, and then the overflow entry and the outputs (R140, R179).
Filters, group time, the alarm entries and a store write in flight are kept (R10, R140, R159, R178). -/
def State.restart (cause : StartCause) (s : State) : State :=
  let mark := (s.discardMessages).inFlight.length
  ((s.restartBlocks cause).complete mark).alarmEvent fun i t a => (a.evalOverflow t).setOutputs i.group.routedKinds

/-- Supply is applied again: power-on with the wires as they stand and what the non-volatile memory holds. A store write
in flight at the loss of supply leaves a copy whose check value does not match (R159). -/
def State.powerOn (s : State) : State :=
  if s.store.writing then
    .poweredUp s.channels s.lines s.straps (leftByLoss s.freeDraws) s.pending (s.freeDraws + 1)
  else .poweredUp s.channels s.lines s.straps s.store.stored s.pending s.freeDraws

end Sys2Proof.Machine
end

