-- ==== Sys2Proof/Machine/Inputs.lean ====
section
/-! DEFINITION. The delivery of filter events and primed notifications to the owners of the inputs (R1, R3, R4, R6, R8). -/

namespace Sys2Proof.Machine

open Sys2Proof

/-- A confirm or a release of a door input, at the door table (R1, R11, R24, R36, R39, R40). -/
def Work.inputEvent (w : Work) (k : DoorInput) (active : Bool) : Work :=
  match k with
  | .closedSwitch => w.endSwitch .cls active
  | .openSwitch => w.endSwitch .opn active
  | .openHandle => w.handle .opn active
  | .closeHandle => w.handle .cls active
  | .leafEdge => w.leafEdge active
  | .openReadback => w.recheck .opn
  | .closeReadback => w.recheck .cls

/-- A primed notification of a door input, at the door table (R11, R22, R23). -/
def Work.inputPrimed (w : Work) (k : DoorInput) : Work :=
  match k with
  | .closedSwitch => w.endPrimed .cls
  | .openSwitch => w.endPrimed .opn
  | .openReadback => w.recheck .opn
  | .closeReadback => w.recheck .cls
  | .openHandle | .closeHandle | .leafEdge => w

/-- A confirm or a release delivered to the owner of an input (R1, R3, R4, R6, R71, R91, R103). `before` is the state
ahead of the filter's change. A line's event reports FLOW_SHORT before FLOW_LOST or ON_EMERGENCY_SUPPLY: DESIGN CHOICE (R91,
R102, R103, R123; entry 25). -/
def State.inputEvent (s before : State) (i : InputId) (active : Bool) : State :=
  match i with
  | .door d k => s.doorEvent before d fun w => w.inputEvent k active
  | .emergency => if active then s.ordersEvent Orders.emergency else s
  | .mainSupply => s.flowEvent fun f => (f.capacityEvent s.lines allHpus).evalSupply s.lines
  | .pressure h => s.flowEvent fun f => (f.capacityEvent s.lines [h]).evalLost s.lines h
  | .resetPin => if active then s.restart .resetPin else s

/-- The confirm or release that ends a first interval (R8). The reset pin's starts no restart (R4). -/
def State.firstEvent (s before : State) (i : InputId) (active : Bool) : State :=
  match i with
  | .resetPin => s
  | .door _ _ | .emergency | .mainSupply | .pressure _ => s.inputEvent before i active

/-- A primed notification delivered to the owner of an input (R8, R22, R103). -/
def State.inputPrimed (i : InputId) (s : State) : State :=
  match i with
  | .door d k => s.doorEvent s d fun w => w.inputPrimed k
  | .mainSupply => s.flowEvent fun f => f.evalSupply s.lines
  | .pressure h => s.flowEvent fun f => f.evalLost s.lines h
  | .emergency | .resetPin => s

/-- A filter's pending timer expires (R6). An expiry of a timer that does not run changes nothing (entry 5). -/
def State.filterExpiry (i : InputId) (s : State) : State :=
  let f := s.filter i
  match f.primed, f.pending with
  | true, some p => (s.withFilter i (f.expired p)).inputEvent s i p.target
  | _, _ => s

/-- A filter's first interval expires (R8). -/
def State.firstIntervalExpiry (i : InputId) (s : State) : State :=
  let f := s.filter i
  if f.first.isSome then
    let s1 := s.withFilter i f.firstExpired
    let s2 := if f.raw = f.filtered then s1 else s1.firstEvent s i f.raw
    s2.inputPrimed i
  else s

/-- A terminal's voltage changes (R1, R5, R8; entry 17). -/
def State.voltage (w : Wire) (millivolts : Nat) (s : State) : State :=
  match w with
  | .input i => s.withFilter i ((s.filter i).onVoltage (inputTimes s.image.group i) millivolts)
  | .addressStrap _ | .parityStrap | .rateStrap => { s with straps := strapsAfter s.straps w millivolts }

end Sys2Proof.Machine
end

