-- ==== Sys2Proof/Machine/Events.lean ====
section
/-! DEFINITION. The meanings of the event rows: power-on, wires, timers, messages between blocks, the store write, and the
lines. A message command is the taking of that message by the block it goes to, behind those ahead of it on its way
(entry 2). -/

namespace Sys2Proof.Machine

open Sys2Proof

/-- What a command's meaning answers. -/
abbrev Result := Host.Outcome State Fault Refusal

/-! ### Supply and wires -/

/-- POWER_ON (R48, R86, R106, R120, R140, R160, R178, R179). -/
def execPowerOn (s : State) : Result := .next s.powerOn

/-- RAW_INPUT_CHANGE (R1, R5, R8). -/
def execRawInputChange (w : Wire) (millivolts : Nat) (s : State) : Result := .next (s.voltage w millivolts)

/-- FILTER_EXPIRY (R6). -/
def execFilterExpiry (i : InputId) (s : State) : Result := .next (s.filterExpiry i)

/-- FIRST_INTERVAL_EXPIRY (R8). -/
def execFirstIntervalExpiry (i : InputId) (s : State) : Result := .next (s.firstIntervalExpiry i)

/-! ### Timers of the door table -/

/-- CHECK_TIMER_EXPIRY (R12, R37). -/
def execCheckTimerExpiry (d : DoorId) (v : Dir) (s : State) : Result :=
  .next (s.doorEvent s d fun w => w.checkExpiry v)

/-- DRIVE_TEST_HOLD_EXPIRY (R15). -/
def execDriveTestHoldExpiry (d : DoorId) (s : State) : Result := .next (s.doorEvent s d Work.holdExpiry)

/-- DRIVE_TEST_ON_CHECK_EXPIRY (R15, R16). -/
def execDriveTestOnCheckExpiry (d : DoorId) (s : State) : Result := .next (s.doorEvent s d Work.onCheckExpiry)

/-- DRIVE_TEST_OFF_CHECK_EXPIRY (R15, R16). -/
def execDriveTestOffCheckExpiry (d : DoorId) (s : State) : Result := .next (s.doorEvent s d Work.offCheckExpiry)

/-- WARNING_TIMER_EXPIRY (R26). -/
def execWarningTimerExpiry (d : DoorId) (s : State) : Result := .next (s.doorEvent s d Work.warningExpiry)

/-- DWELL_TIMER_EXPIRY (R28). -/
def execDwellTimerExpiry (d : DoorId) (s : State) : Result := .next (s.doorEvent s d Work.dwellExpiry)

/-- EDGE_CLEAR_TIMER_EXPIRY (R36). -/
def execEdgeClearTimerExpiry (d : DoorId) (s : State) : Result := .next (s.doorEvent s d Work.edgeClearExpiry)

/-- TRANSIT_LIMIT_EXPIRY (R27). -/
def execTransitLimitExpiry (d : DoorId) (s : State) : Result := .next (s.doorEvent s d Work.transitExpiry)

/-- DEADLINE_EXPIRY (R33, R55). -/
def execDeadlineExpiry (d : DoorId) (s : State) : Result := .next (s.doorEvent s d Work.deadlineExpiry)

/-! ### Group timebase -/

/-- GROUP_TIME_SECOND (R178). -/
def execGroupTimeSecond (s : State) : Result := .next { s with time := s.time + 1 }

/-! ### Messages between blocks -/

/-- STANDING_AUTHORITY_REPORT (R41, R89). -/
def execStandingAuthorityReport (d : DoorId) (a : Standing) (s : State) : Result :=
  .next ((s.inOrder (.standingAuthorityReport d a)).takeReport d a)

/-- HANDLE_REFERRAL (R81, R82). -/
def execHandleReferral (d : DoorId) (handle : Dir) (faulted : Bool) (s : State) : Result :=
  .next ((s.inOrder (.handleReferral d handle faulted)).takeReferral d handle faulted)

/-- HANDLE_RULING (R39). -/
def execHandleRuling (d : DoorId) (r : Ruling) (s : State) : Result :=
  .next ((s.inOrder (.handleRuling d r)).takeRuling d r)

/-- ARRIVAL_NOTICE (R76). -/
def execArrivalNotice (d : DoorId) (s : State) : Result := .next ((s.inOrder (.arrivalNotice d)).takeArrival d)

/-- OPEN_HANDLE_RELEASE_NOTICE (R83). -/
def execOpenHandleReleaseNotice (d : DoorId) (s : State) : Result :=
  .next ((s.inOrder (.openHandleReleaseNotice d)).takeHandleReleased d)

/-- JOIN (R96). -/
def execJoin (d : DoorId) (c : Dir) (s : State) : Result := .next ((s.inOrder (.join d c)).takeJoin d c)

/-- WITHDRAW (R96). -/
def execWithdraw (d : DoorId) (s : State) : Result := .next ((s.inOrder (.withdraw d)).takeWithdraw d)

/-- RELEASE (R96). -/
def execRelease (d : DoorId) (s : State) : Result := .next ((s.inOrder (.release d)).takeRelease d)

/-- REVERSED (R96). -/
def execReversed (d : DoorId) (dir : Dir) (s : State) : Result :=
  .next ((s.inOrder (.reversed d dir)).takeReversed d dir)

/-- TAKEN (R96). -/
def execTaken (d : DoorId) (dir : Dir) (s : State) : Result := .next ((s.inOrder (.taken d dir)).takeTaken d dir)

/-- HANDED_BACK (R96). -/
def execHandedBack (d : DoorId) (s : State) : Result := .next ((s.inOrder (.handedBack d)).takeHandedBack d)

/-- GRANT (R30, R95). -/
def execGrant (d : DoorId) (dir : Dir) (s : State) : Result := .next ((s.inOrder (.grant d dir)).takeGrant d dir)

/-- PAUSE (R31, R95). -/
def execPause (d : DoorId) (s : State) : Result := .next ((s.inOrder (.pause d)).takePause d)

/-- FAULT_REPORT (R110, R111, R115). -/
def execFaultReport (d : DoorId) (k : FaultKind) (second : Option FaultKind) (persisting : Bool) (x : FaultData)
    (s : State) : Result := .next ((s.inOrder (.faultReport d k second persisting x)).takeFault d k second persisting x)

/-- MISMATCH_REPORT (R12, R115, R118). -/
def execMismatchReport (d : DoorId) (valve : Dir) (expected : Bool) (s : State) : Result :=
  .next ((s.inOrder (.mismatchReport d valve expected)).takeMismatch d valve expected)

/-- OBSTRUCTION_NOTICE (R115). -/
def execObstructionNotice (d : DoorId) (s : State) : Result :=
  .next ((s.inOrder (.obstructionNotice d)).takeObstruction d)

/-- DRIFT_NOTICE (R115). -/
def execDriftNotice (d : DoorId) (s : State) : Result := .next ((s.inOrder (.driftNotice d)).takeDrift d)

/-- CAPTURE_OCCUPIED_NOTICE (R43). -/
def execCaptureOccupiedNotice (d : DoorId) (s : State) : Result :=
  .next ((s.inOrder (.captureOccupiedNotice d)).takeOccupied d)

/-- CAPTURE_EMPTIED_NOTICE (R44). -/
def execCaptureEmptiedNotice (d : DoorId) (s : State) : Result :=
  .next ((s.inOrder (.captureEmptiedNotice d)).takeEmptied d)

/-- ALARM_RAISE (R125, R126, R130). -/
def execAlarmRaise (k : AlarmKind) (subject : Subject) (s : State) : Result :=
  .next ((s.inOrder (.alarmRaise k subject)).takeRaise k subject)

/-- ALARM_CLEAR (R127). -/
def execAlarmClear (k : AlarmKind) (subject : Subject) (s : State) : Result :=
  .next ((s.inOrder (.alarmClear k subject)).takeClear k subject)

/-- ALARM_RESET_CONDITION (R128). -/
def execAlarmResetCondition (k : AlarmKind) (subject : Subject) (s : State) : Result :=
  .next ((s.inOrder (.alarmResetCondition k subject)).takeResetCondition k subject)

/-! ### Configuration store -/

/-- STORE_WRITE_COMPLETE (R159). With no write in flight it changes nothing (entry 5). -/
def execStoreWriteComplete (success : Bool) (s : State) : Result :=
  if s.store.writing then .next (if success then s.writeSucceeded else s.writeFailed) else .next s

/-! ### Lines -/

/-- LINE_CHARACTER (R163, R164, R166). -/
def execLineCharacter (l : Line) (c : Byte) (goodStop : Bool) (s : State) : Result :=
  .next (s.serialEvent fun x => x.character l c goodStop)

/-- GAP_TIMER_EXPIRY (R163). -/
def execGapTimerExpiry (l : Line) (s : State) : Result := .next (s.serialEvent fun x => x.gapExpired l)

/-- SILENCE_TIMER_EXPIRY (R171), with the loss of both lines acted on by the order resolver (R70). -/
def execSilenceTimerExpiry (l : Line) (s : State) : Result :=
  let p := s.serial.silenceExpired l
  let s1 := s.finishSerial p.1
  .next (if p.2 then s1.ordersEvent Orders.remoteLost else s1)

/-- REPLY_SENT (R167): the receiver returns to HUNT; after a RESTART reply the restart begins (R179). -/
def execReplySent (l : Line) (s : State) : Result :=
  let y := s.port.line l
  if y.reply.isNone then .next s
  else
    let s1 := s.withLine l { y.hunting with reply := none }
    .next (if s.port.restarting = some l then s1.restart .restartRequest else s1)

end Sys2Proof.Machine
end

