-- ==== Sys2Proof/Machine/Taking.lean ====
section
/-! DEFINITION. The taking of a request (R166 to R169, R173): how a request command meets the line it names, the checks in
their order, the owning block's part with what it causes, and the reply. -/

namespace Sys2Proof.Machine

open Sys2Proof

/-- How a request command meets its line: it is taken, or nothing takes it and the state is as given (entry 11). -/
inductive Admission where
  | taken (s : State)
  | lost (s : State)
  deriving DecidableEq, Repr

/-- The receiver of a line in CLOSED, with no request waiting (R167). -/
def LinePort.busyTaking (y : LinePort) : LinePort := { y with rx := .closed, buffer := [], gap := false, waiting := none }

/-- The receiver of a line back in HUNT, with no request waiting (R166, R167, R179). -/
def LinePort.freed (y : LinePort) : LinePort := { y.hunting with waiting := none }

/-- The frame of a request command arrives on its line: a valid frame heard (R164, R171). -/
def State.hear (l : Line) (s : State) : State := s.serialEvent fun x => x.heard l

/-- How a command that takes a request meets its line (R166, R167, R179). While a reply is being sent on the line, or
another request waits there, the receiver is CLOSED and the frame is lost. From the taking of RESTART until the restart it
is discarded, with the receiver in HUNT (R179; entry 40). `wanted` is false for a broadcast that is discarded (R166). A request that already waits is taken; any other
arrives first. -/
def State.meet (c : Instr) (r : Req) (wanted : Bool) (s : State) : Admission :=
  let y := s.port.line r.line
  if y.reply.isSome then .lost s
  else match y.waiting with
    | some c' =>
      if c' ≠ c then .lost s
      else if s.port.restarting.isSome || !wanted then .lost (s.withLine r.line y.freed)
      else .taken (s.withLine r.line y.busyTaking)
    | none =>
      let s1 := s.hear r.line
      if s.port.restarting.isSome || !wanted then .lost (s1.withLine r.line (s1.port.line r.line).freed)
      else .taken (s1.withLine r.line (s1.port.line r.line).busyTaking)

/-- The owning block's part of a request whose length has been checked, with every message it causes that completes
before the reply (R167, R168, steps 2 and 3). -/
def State.carryOut (lens : List Nat) (owner : List Byte → State → Answer) (r : Req) (s : State) : Answer :=
  if r.body.length ∈ lens then
    match owner r.body s with
    | .refused reason data => .refused reason data
    | .accepted s' data => .completed (s'.complete s.inFlight.length) data
    | .completed s' data => .completed s' data
  else .refused .badLength []

/-- The reply composed and its sending begun, its receiver CLOSED (R167, R168, R169). A broadcast has no reply, and its
receiver returns to HUNT (R166). -/
def State.reply (kind : Byte) (r : Req) (reason : Option Reason) (data : List Byte) (s : State) : State :=
  let y := s.port.line r.line
  if r.broadcast then s.withLine r.line y.freed
  else
    s.withLine r.line
      { y.busyTaking with reply := some (replyFrame s.port.address kind reason s.attention data) }

/-- A request taken to its reply. A refused request changes nothing in any block (R168). -/
def State.answer (kind : Byte) (r : Req) (lens : List Nat) (owner : List Byte → State → Answer) (s : State) : State :=
  match s.carryOut lens owner r with
  | .refused reason data => s.reply kind r (some reason) data
  | .accepted s' data | .completed s' data => s'.reply kind r none data

/-- A command that takes a request of a kind, with the lengths its row of R173 gives and its owner's part. -/
def State.serve (c : Instr) (kind : Byte) (r : Req) (lens : List Nat) (owner : List Byte → State → Answer) (s : State) :
    State :=
  match s.meet c r (!r.broadcast || takenByBroadcast kind) with
  | .lost s' => s'
  | .taken s' => s'.answer kind r lens owner

end Sys2Proof.Machine
end

