-- ==== Sys2Proof/Machine/Owners.lean ====
section
/-! DEFINITION. What the owning block of each request does with its operands (R173 to R178): its checks in their order,
its part, and its reply data. The configuration store's own are in Store.lean. -/

namespace Sys2Proof.Machine

open Sys2Proof

/-! ### Line port -/

/-- IDENTIFY: RESTARTED is cleared after the data are composed (R169, R174). -/
def State.identify (_body : List Byte) (s : State) : Answer :=
  .accepted (s.withPort { s.port with restarted := false }) (identityBytes s.port)

/-- GROUP_STATUS: REMOTE_WAS_LOST is cleared after the data are composed (R150, R169, R174). -/
def State.groupStatus (_body : List Byte) (s : State) : Answer :=
  .accepted (s.withPort { s.port with remoteWasLost := false }) s.groupSummary

/-- LINES_READ (R170). -/
def State.linesRead (_body : List Byte) (s : State) : Answer := .accepted s (linesBytes s.port)

/-- LINES_CLEAR (R170). -/
def State.linesClear (body : List Byte) (s : State) : Answer :=
  match lines? (byteAt body 0) with
  | none => .refused .badValue []
  | some ls => .accepted (s.serialEvent fun x => ls.foldl Serial.clearErrors x) []

/-- SUPERVISION_SET (R172). -/
def State.supervisionSet (body : List Byte) (s : State) : Answer :=
  .accepted (s.serialEvent fun x => x.setInterval (byteAt body 0).toNat) []

/-- TIME_SET (R178). -/
def State.timeSet (body : List Byte) (s : State) : Answer := .accepted { s with time := groupTimeOf body } []

/-- RESTART: no further request is taken until the restart, and one waiting on the other line is discarded (R179). That line's
receiver returns to HUNT at the discard and receives until the restart: DESIGN CHOICE (R167, R179; entry 40). -/
def State.restartRequested (l : Line) (_body : List Byte) (s : State) : Answer :=
  let other := s.port.line (otherLine l)
  let s1 := if other.waiting.isSome then s.withLine (otherLine l) other.freed else s
  .accepted (s1.withPort { s1.port with restarting := some l }) []

/-! ### Door table -/

/-- A door read by a DOOR_STATUS: the tight latch set from the closed switch, the change flag cleared (R144, R146). -/
def readDoor (c : Channel) (r : Door) : Door := { r with tight := c.closedSwitch.filtered && r.present, changed := false }

/-- DOOR_STATUS (R147). -/
def State.doorStatus (body : List Byte) (s : State) : Answer :=
  match coveredDoors? (byteAt body 0) (byteAt body 1) with
  | none => .refused .badValue []
  | some ds =>
    .accepted (ds.foldl (fun s d => s.withDoor d (readDoor (s.channel d) (s.door d))) s)
      ([byteAt body 0, byteAt body 1] ++ ds.flatMap fun d => doorEntry d (s.door d) (s.channel d))

/-- DRIVE_TEST (R14, R175). -/
def State.driveTest (body : List Byte) (s : State) : Answer :=
  match doorIndex? (byteAt body 0) with
  | none => .refused .badValue []
  | some d =>
    if (s.door d).motion ≠ .isolated then .refused .notIsolated []
    else if (s.door d).testResult = .running then .refused .busy []
    else .accepted (s.doorEvent s d Work.beginTest) []

/-- MAINT_READ (R121, R176). -/
def State.maintRead (body : List Byte) (s : State) : Answer :=
  match doorIndex? (byteAt body 0) with
  | none => .refused .badValue []
  | some d => .accepted s (maintBytes d (s.door d) s.image.doors[d] s.recorder.doors[d].counters)

/-! ### Alarm list -/

/-- ALARM_READ (R136). A reply that reaches the end of the list clears ALARMS_CHANGED. -/
def State.alarmRead (body : List Byte) (s : State) : Answer :=
  let start := (byteAt body 0).toNat
  if listLimit < start then .refused .badValue []
  else
    .accepted (if s.alarms.reachesEnd start then s.withAlarms { s.alarms with changed := false } else s)
      (alarmPage s.alarms start)

/-- ALARM_ACK of one named entry (R137). -/
def State.alarmAckOne (body : List Byte) (s : State) : Answer :=
  match alarmKind? (byteAt body 0), subject? (byteAt body 1) (byteAt body 2) with
  | some k, some x =>
    if k.fits x && s.alarms.has k x then .accepted (s.alarmEvent fun i t a => a.ackOne i t k x) []
    else .refused .badValue []
  | _, _ => .refused .badValue []

/-- ALARM_ACK (R137, R174). -/
def State.alarmAck (body : List Byte) (s : State) : Answer :=
  if body.length = 1 then
    if byteAt body 0 = 0 then .accepted (s.alarmEvent AlarmList.ackAll) [] else .refused .badValue []
  else s.alarmAckOne body

/-! ### Order resolver -/

/-- MODE_SET (R69, R175). -/
def State.modeSet (body : List Byte) (s : State) : Answer :=
  match groupMode? (byteAt body 0) with
  | none => .refused .badValue []
  | some m => .accepted (s.ordersEvent fun o => o.setMode m) []

/-- CLOSE_DOORS (R73). -/
def State.closeDoors (body : List Byte) (s : State) : Answer :=
  .accepted (s.ordersEvent fun o => o.closeDoors (fun d => (s.door d).motion) (inDoors (doorSetOf body))) []

/-- The doors CLOSE_ZONES stands for (R74). -/
def State.inNamedZone (s : State) (z : ZoneSet) (d : DoorId) : Bool :=
  s.image.doors[d].present && !s.resolver.doors[d].isolated && inZones z s.image.doors[d].zone

/-- CLOSE_ZONES (R74). -/
def State.closeZones (body : List Byte) (s : State) : Answer :=
  .accepted (s.ordersEvent fun o => o.closeDoors (fun d => (s.door d).motion) (s.inNamedZone (byteAt body 0))) []

/-- RELEASE_DOORS (R75). -/
def State.releaseDoors (body : List Byte) (s : State) : Answer :=
  .accepted (s.ordersEvent fun o => o.releaseDoors (inDoors (doorSetOf body))) []

/-- ISOLATE of a door that is not isolated yet: the resolver's part, then the door table's (R45, R79). The order of the alarm
clears of the two is a DESIGN CHOICE (R123; entry 25). -/
def State.isolateDoor (d : DoorId) (s : State) : State :=
  let s1 := s.ordersEvent fun o => o.isolate d
  s1.doorEvent s1 d Work.isolate

/-- ISOLATE (R79). -/
def State.isolate (body : List Byte) (s : State) : Answer :=
  match doorIndex? (byteAt body 0) with
  | none => .refused .badValue []
  | some d =>
    if (s.door d).motion = .absent then .refused .wrongState []
    else if (s.door d).motion = .isolated then .accepted s []
    else .accepted (s.isolateDoor d) []

/-- RESTORE of an isolated door: SETTLING, then the standing authority computed and reported (R46, R80). -/
def State.restoreDoor (d : DoorId) (s : State) : State :=
  (s.doorEvent s d Work.enterSettling).ordersEvent fun o => o.restore d

/-- RESTORE (R80). What the resolver still has on its way to the door is taken first, while the door is ISOLATED, so that it
leaves settling with the authority that R80 gives it: DESIGN CHOICE (R89; entry 37). A referral or a notice of the door made
before ISOLATE stays on its way, and the resolver takes it afterwards as any other (R76, R81, R83): DESIGN CHOICE (R89; entry
37). -/
def State.restore (body : List Byte) (s : State) : Answer :=
  match doorIndex? (byteAt body 0) with
  | none => .refused .badValue []
  | some d =>
    if (s.door d).motion = .absent then .refused .wrongState []
    else if (s.door d).motion ≠ .isolated then .accepted s []
    else if (s.door d).testResult = .running then .refused .wrongState []
    else
      let settled := s.settleDoors [d]
      .completed ((settled.1.restoreDoor d).complete settled.2) []

/-- FLOOD_SET: the flags, then the doors whose zone's flag it sets (R77, R78). Rulings that are still on their way to a door
that the new flag bars are taken first, so that no opening begins under the flag, and what they cause is taken with the
request's own messages (R78; entries 3 and 29). The doors are settled and stopped in the order of their indices: DESIGN CHOICE
(R78; entry 25). -/
def State.floodSet (body : List Byte) (s : State) : Answer :=
  let z := byteAt body 0
  let barred := allDoors.filter (floodNewlyBars s.image s.resolver z)
  let settled := s.settleDoors barred
  let named := allDoors.filter (floodNamed s.image s.resolver z)
  let s1 := named.foldl (fun s d => s.doorEvent s d Work.floodStop) (settled.1.ordersEvent fun o => o.floodSet z)
  .completed (s1.complete settled.2) []

/-- FLOOD_CLEAR (R77). -/
def State.floodClear (body : List Byte) (s : State) : Answer :=
  .accepted (s.ordersEvent fun o => o.floodClear (byteAt body 0)) []

/-- EMERGENCY_RELEASE (R72). -/
def State.emergencyRelease (_body : List Byte) (s : State) : Answer :=
  if s.lines.emergency.filtered then .refused .lineActive [] else .accepted (s.ordersEvent Orders.releaseLatch) []

/-! ### Fault recorder -/

/-- FAULT_CLEAR (R113). -/
def State.faultClear (body : List Byte) (s : State) : Answer :=
  .accepted (s.logEvent fun l => (allDoors.filter (inDoors (doorSetOf body))).foldl Log.clearFault l) []

/-- CAPTURE_READ (R121, R176). -/
def State.captureRead (body : List Byte) (s : State) : Answer :=
  match doorIndex? (byteAt body 0) with
  | none => .refused .badValue []
  | some d => .accepted s (captureBytes d s.recorder.doors[d].capture)

/-- DRIVE_CAPTURE_READ (R118, R176). -/
def State.driveCaptureRead (_body : List Byte) (s : State) : Answer := .accepted s (driveCaptureBytes s.recorder.drive)

/-- COUNTERS_CLEAR (R117). -/
def State.countersClear (body : List Byte) (s : State) : Answer :=
  .accepted (s.logEvent fun l => (allDoors.filter (inDoors (doorSetOf body))).foldl Log.clearCounters l) []

end Sys2Proof.Machine
end

