-- ==== Sys2Proof/Machine/Requests.lean ====
section
/-! DEFINITION. The meanings of the request rows: each is the taking of a request of one kind, with the kind code and the
body lengths of R173 and the owning block's part. -/

namespace Sys2Proof.Machine

open Sys2Proof

/-- The taking of a request whose kind the kind-code table does not list (R168, check 1). A code that it lists, or a reply
kind, names no such request: fault (entry 22). -/
def execUnknownKindRequest (kind : Byte) (r : Req) (s : State) : Result :=
  if unknownKind kind then
    match s.meet (.unknownKindRequest kind r) r (!r.broadcast) with
    | .lost s' => .next s'
    | .taken s' => .next (s'.reply kind r (some .unknownKind) [])
  else .fault .malformedCommand

/-- IDENTIFY (R174). -/
def execIdentify (r : Req) (s : State) : Result := .next (s.serve (.identify r) 0x01 r [0] State.identify)

/-- GROUP_STATUS (R150, R174). -/
def execGroupStatus (r : Req) (s : State) : Result := .next (s.serve (.groupStatus r) 0x02 r [0] State.groupStatus)

/-- DOOR_STATUS (R147). -/
def execDoorStatus (r : Req) (s : State) : Result := .next (s.serve (.doorStatus r) 0x03 r [2] State.doorStatus)

/-- ALARM_READ (R136). -/
def execAlarmRead (r : Req) (s : State) : Result := .next (s.serve (.alarmRead r) 0x04 r [1] State.alarmRead)

/-- ALARM_ACK (R137). -/
def execAlarmAck (r : Req) (s : State) : Result := .next (s.serve (.alarmAck r) 0x05 r [1, 3] State.alarmAck)

/-- MODE_SET (R69, R166). -/
def execModeSet (r : Req) (s : State) : Result := .next (s.serve (.modeSet r) 0x06 r [1] State.modeSet)

/-- CLOSE_DOORS (R73). -/
def execCloseDoors (r : Req) (s : State) : Result := .next (s.serve (.closeDoors r) 0x07 r [3] State.closeDoors)

/-- CLOSE_ZONES (R74). -/
def execCloseZones (r : Req) (s : State) : Result := .next (s.serve (.closeZones r) 0x08 r [1] State.closeZones)

/-- RELEASE_DOORS (R75). -/
def execReleaseDoors (r : Req) (s : State) : Result := .next (s.serve (.releaseDoors r) 0x09 r [3] State.releaseDoors)

/-- ISOLATE (R79). -/
def execIsolate (r : Req) (s : State) : Result := .next (s.serve (.isolate r) 0x0A r [1] State.isolate)

/-- RESTORE (R80). -/
def execRestore (r : Req) (s : State) : Result := .next (s.serve (.restore r) 0x0B r [1] State.restore)

/-- FAULT_CLEAR (R113). -/
def execFaultClear (r : Req) (s : State) : Result := .next (s.serve (.faultClear r) 0x0C r [3] State.faultClear)

/-- FLOOD_SET (R77, R78). -/
def execFloodSet (r : Req) (s : State) : Result := .next (s.serve (.floodSet r) 0x0D r [1] State.floodSet)

/-- FLOOD_CLEAR (R77). -/
def execFloodClear (r : Req) (s : State) : Result := .next (s.serve (.floodClear r) 0x0E r [1] State.floodClear)

/-- EMERGENCY_RELEASE (R72). -/
def execEmergencyRelease (r : Req) (s : State) : Result := .next (s.serve (.emergencyRelease r) 0x0F r [0] State.emergencyRelease)

/-- DRIVE_TEST (R14). -/
def execDriveTest (r : Req) (s : State) : Result := .next (s.serve (.driveTest r) 0x10 r [1] State.driveTest)

/-- CAPTURE_READ (R121, R176). -/
def execCaptureRead (r : Req) (s : State) : Result := .next (s.serve (.captureRead r) 0x11 r [1] State.captureRead)

/-- DRIVE_CAPTURE_READ (R121, R176). -/
def execDriveCaptureRead (r : Req) (s : State) : Result := .next (s.serve (.driveCaptureRead r) 0x12 r [0] State.driveCaptureRead)

/-- MAINT_READ (R121, R176). -/
def execMaintRead (r : Req) (s : State) : Result := .next (s.serve (.maintRead r) 0x13 r [1] State.maintRead)

/-- COUNTERS_CLEAR (R117). -/
def execCountersClear (r : Req) (s : State) : Result := .next (s.serve (.countersClear r) 0x14 r [3] State.countersClear)

/-- LINES_READ (R170). -/
def execLinesRead (r : Req) (s : State) : Result := .next (s.serve (.linesRead r) 0x15 r [0] State.linesRead)

/-- LINES_CLEAR (R170). -/
def execLinesClear (r : Req) (s : State) : Result := .next (s.serve (.linesClear r) 0x16 r [1] State.linesClear)

/-- SUPERVISION_SET (R172). -/
def execSupervisionSet (r : Req) (s : State) : Result := .next (s.serve (.supervisionSet r) 0x17 r [1] State.supervisionSet)

/-- TIME_SET (R178, R166). -/
def execTimeSet (r : Req) (s : State) : Result := .next (s.serve (.timeSet r) 0x18 r [4] State.timeSet)

/-- CONFIG_READ (R155). -/
def execConfigRead (r : Req) (s : State) : Result := .next (s.serve (.configRead r) 0x19 r [3] State.configRead)

/-- CONFIG_STAGE (R154, R177). -/
def execConfigStage (r : Req) (s : State) : Result := .next (s.serve (.configStage r) 0x1A r [29, 49] State.configStage)

/-- CONFIG_COMMIT (R156 to R158). -/
def execConfigCommit (r : Req) (s : State) : Result := .next (s.serve (.configCommit r) 0x1B r [0] State.configCommit)

/-- CONFIG_DISCARD (R155). -/
def execConfigDiscard (r : Req) (s : State) : Result := .next (s.serve (.configDiscard r) 0x1C r [0] State.configDiscard)

/-- RESTART (R179). -/
def execRestart (r : Req) (s : State) : Result := .next (s.serve (.restart r) 0x1D r [0] (State.restartRequested r.line))

end Sys2Proof.Machine
end

