-- ==== Sys2Proof/Machine/Dispatch.lean ====
section
/-! DEFINITION. The command dispatch: one arm per constructor of Instr. -/

namespace Sys2Proof.Machine

open Sys2Proof

def exec (i : Instr) (s : State) : Host.Outcome State Fault Refusal :=
  match i with
  | .powerOn => Sys2Proof.Machine.execPowerOn s
  | .rawInputChange w millivolts => Sys2Proof.Machine.execRawInputChange w millivolts s
  | .filterExpiry input => Sys2Proof.Machine.execFilterExpiry input s
  | .firstIntervalExpiry input => Sys2Proof.Machine.execFirstIntervalExpiry input s
  | .checkTimerExpiry d valve => Sys2Proof.Machine.execCheckTimerExpiry d valve s
  | .driveTestHoldExpiry d => Sys2Proof.Machine.execDriveTestHoldExpiry d s
  | .driveTestOnCheckExpiry d => Sys2Proof.Machine.execDriveTestOnCheckExpiry d s
  | .driveTestOffCheckExpiry d => Sys2Proof.Machine.execDriveTestOffCheckExpiry d s
  | .warningTimerExpiry d => Sys2Proof.Machine.execWarningTimerExpiry d s
  | .dwellTimerExpiry d => Sys2Proof.Machine.execDwellTimerExpiry d s
  | .edgeClearTimerExpiry d => Sys2Proof.Machine.execEdgeClearTimerExpiry d s
  | .transitLimitExpiry d => Sys2Proof.Machine.execTransitLimitExpiry d s
  | .deadlineExpiry d => Sys2Proof.Machine.execDeadlineExpiry d s
  | .groupTimeSecond => Sys2Proof.Machine.execGroupTimeSecond s
  | .standingAuthorityReport d a => Sys2Proof.Machine.execStandingAuthorityReport d a s
  | .handleReferral d handle faulted => Sys2Proof.Machine.execHandleReferral d handle faulted s
  | .handleRuling d r => Sys2Proof.Machine.execHandleRuling d r s
  | .arrivalNotice d => Sys2Proof.Machine.execArrivalNotice d s
  | .openHandleReleaseNotice d => Sys2Proof.Machine.execOpenHandleReleaseNotice d s
  | .join d c => Sys2Proof.Machine.execJoin d c s
  | .withdraw d => Sys2Proof.Machine.execWithdraw d s
  | .release d => Sys2Proof.Machine.execRelease d s
  | .reversed d dir => Sys2Proof.Machine.execReversed d dir s
  | .taken d dir => Sys2Proof.Machine.execTaken d dir s
  | .handedBack d => Sys2Proof.Machine.execHandedBack d s
  | .grant d dir => Sys2Proof.Machine.execGrant d dir s
  | .pause d => Sys2Proof.Machine.execPause d s
  | .faultReport d kind second persisting data => Sys2Proof.Machine.execFaultReport d kind second persisting data s
  | .mismatchReport d valve expected => Sys2Proof.Machine.execMismatchReport d valve expected s
  | .obstructionNotice d => Sys2Proof.Machine.execObstructionNotice d s
  | .driftNotice d => Sys2Proof.Machine.execDriftNotice d s
  | .captureOccupiedNotice d => Sys2Proof.Machine.execCaptureOccupiedNotice d s
  | .captureEmptiedNotice d => Sys2Proof.Machine.execCaptureEmptiedNotice d s
  | .alarmRaise k subject => Sys2Proof.Machine.execAlarmRaise k subject s
  | .alarmClear k subject => Sys2Proof.Machine.execAlarmClear k subject s
  | .alarmResetCondition k subject => Sys2Proof.Machine.execAlarmResetCondition k subject s
  | .storeWriteComplete success => Sys2Proof.Machine.execStoreWriteComplete success s
  | .lineCharacter l character goodStop => Sys2Proof.Machine.execLineCharacter l character goodStop s
  | .gapTimerExpiry l => Sys2Proof.Machine.execGapTimerExpiry l s
  | .silenceTimerExpiry l => Sys2Proof.Machine.execSilenceTimerExpiry l s
  | .replySent l => Sys2Proof.Machine.execReplySent l s
  | .unknownKindRequest kind r => Sys2Proof.Machine.execUnknownKindRequest kind r s
  | .identify r => Sys2Proof.Machine.execIdentify r s
  | .groupStatus r => Sys2Proof.Machine.execGroupStatus r s
  | .doorStatus r => Sys2Proof.Machine.execDoorStatus r s
  | .alarmRead r => Sys2Proof.Machine.execAlarmRead r s
  | .alarmAck r => Sys2Proof.Machine.execAlarmAck r s
  | .modeSet r => Sys2Proof.Machine.execModeSet r s
  | .closeDoors r => Sys2Proof.Machine.execCloseDoors r s
  | .closeZones r => Sys2Proof.Machine.execCloseZones r s
  | .releaseDoors r => Sys2Proof.Machine.execReleaseDoors r s
  | .isolate r => Sys2Proof.Machine.execIsolate r s
  | .restore r => Sys2Proof.Machine.execRestore r s
  | .faultClear r => Sys2Proof.Machine.execFaultClear r s
  | .floodSet r => Sys2Proof.Machine.execFloodSet r s
  | .floodClear r => Sys2Proof.Machine.execFloodClear r s
  | .emergencyRelease r => Sys2Proof.Machine.execEmergencyRelease r s
  | .driveTest r => Sys2Proof.Machine.execDriveTest r s
  | .captureRead r => Sys2Proof.Machine.execCaptureRead r s
  | .driveCaptureRead r => Sys2Proof.Machine.execDriveCaptureRead r s
  | .maintRead r => Sys2Proof.Machine.execMaintRead r s
  | .countersClear r => Sys2Proof.Machine.execCountersClear r s
  | .linesRead r => Sys2Proof.Machine.execLinesRead r s
  | .linesClear r => Sys2Proof.Machine.execLinesClear r s
  | .supervisionSet r => Sys2Proof.Machine.execSupervisionSet r s
  | .timeSet r => Sys2Proof.Machine.execTimeSet r s
  | .configRead r => Sys2Proof.Machine.execConfigRead r s
  | .configStage r => Sys2Proof.Machine.execConfigStage r s
  | .configCommit r => Sys2Proof.Machine.execConfigCommit r s
  | .configDiscard r => Sys2Proof.Machine.execConfigDiscard r s
  | .restart r => Sys2Proof.Machine.execRestart r s

end Sys2Proof.Machine
end

