-- ==== Sys2Proof/Machine/Idle.lean ====
section
/-! DEFINITION. What the part does by itself when no command waits. -/

namespace Sys2Proof.Machine

open Sys2Proof

/-- A stroke tick for every moving door: E rises by one, and the tick that brings it to D is the deadline's expiry (R50,
R55; entry 1). -/
def State.tick (s : State) : State :=
  allDoors.foldl
    (fun s d =>
      let r := s.door d
      if isMoving r.motion then
        (if r.elapsed + 1 < r.deadline then s.withDoor d r.tick else s.doorEvent s d Work.deadlineExpiry)
      else s) s

/-- What the part does by itself when no command waits: it takes the oldest message on its way, else a request waiting on
line A, else one waiting on line B, else a stroke tick passes (entry 1). -/
def State.idle (s : State) : Host.Outcome State Fault Refusal :=
  match s.inFlight with
  | m :: _ => exec m s
  | [] =>
    match s.port.lineA.waiting with
    | some c => exec c s
    | none =>
      match s.port.lineB.waiting with
      | some c => exec c s
      | none => .next s.tick

end Sys2Proof.Machine
end

