-- ==== Sys2Proof/Safety.lean ====
section
/-! DEFINITION. The terms in which statements about the part are made: what an event leaves unchanged, the invariants a
step keeps, and the words for a request that waits and for one that has been answered. -/

namespace Sys2Proof.Machine

open Sys2Proof

/-! ### Frames -/

/-- Nothing outside the door table and the messages on their way has changed. -/
structure DoorTableOnly (s t : State) : Prop where
  lines : t.lines = s.lines
  straps : t.straps = s.straps
  resolver : t.resolver = s.resolver
  alloc : t.alloc = s.alloc
  recorder : t.recorder = s.recorder
  alarms : t.alarms = s.alarms
  store : t.store = s.store
  port : t.port = s.port
  time : t.time = s.time
  pending : t.pending = s.pending
  freeDraws : t.freeDraws = s.freeDraws

/-- Nothing has changed but door `d`'s record and channel and the messages on their way. -/
structure OnlyDoor (d : DoorId) (s t : State) : Prop extends DoorTableOnly s t where
  doors : ∀ e, e ≠ d → t.door e = s.door e
  channels : ∀ e, e ≠ d → t.channel e = s.channel e

/-- Nothing has changed but the order resolver and the messages on their way. -/
structure OnlyResolver (s t : State) : Prop where
  channels : t.channels = s.channels
  lines : t.lines = s.lines
  straps : t.straps = s.straps
  doors : t.doors = s.doors
  alloc : t.alloc = s.alloc
  recorder : t.recorder = s.recorder
  alarms : t.alarms = s.alarms
  store : t.store = s.store
  port : t.port = s.port
  time : t.time = s.time
  pending : t.pending = s.pending
  freeDraws : t.freeDraws = s.freeDraws

/-- Nothing has changed but the flow allocator and the messages on their way. -/
structure OnlyAllocator (s t : State) : Prop where
  channels : t.channels = s.channels
  lines : t.lines = s.lines
  straps : t.straps = s.straps
  doors : t.doors = s.doors
  resolver : t.resolver = s.resolver
  recorder : t.recorder = s.recorder
  alarms : t.alarms = s.alarms
  store : t.store = s.store
  port : t.port = s.port
  time : t.time = s.time
  pending : t.pending = s.pending
  freeDraws : t.freeDraws = s.freeDraws

/-- Nothing has changed but the fault recorder and the messages on their way. -/
structure OnlyRecorder (s t : State) : Prop where
  channels : t.channels = s.channels
  lines : t.lines = s.lines
  straps : t.straps = s.straps
  doors : t.doors = s.doors
  resolver : t.resolver = s.resolver
  alloc : t.alloc = s.alloc
  alarms : t.alarms = s.alarms
  store : t.store = s.store
  port : t.port = s.port
  time : t.time = s.time
  pending : t.pending = s.pending
  freeDraws : t.freeDraws = s.freeDraws

/-- Nothing has changed but the line port and the messages on their way. -/
structure OnlyPort (s t : State) : Prop where
  channels : t.channels = s.channels
  lines : t.lines = s.lines
  straps : t.straps = s.straps
  doors : t.doors = s.doors
  resolver : t.resolver = s.resolver
  alloc : t.alloc = s.alloc
  recorder : t.recorder = s.recorder
  alarms : t.alarms = s.alarms
  store : t.store = s.store
  time : t.time = s.time
  pending : t.pending = s.pending
  freeDraws : t.freeDraws = s.freeDraws

/-- Nothing has changed in the wires, the allocator, the store, group time and the queue: what the completion of the
messages of a request never touches, beside the resolver and the line port. -/
structure CompletionFrame (s t : State) : Prop where
  lines : t.lines = s.lines
  straps : t.straps = s.straps
  alloc : t.alloc = s.alloc
  store : t.store = s.store
  time : t.time = s.time
  pending : t.pending = s.pending
  freeDraws : t.freeDraws = s.freeDraws

/-- A door record apart from its change flag, which has a rule of its own (R143). -/
def Door.still (r : Door) : Door := { r with changed := false }

/-- A channel apart from its three outputs: its filters. -/
def Channel.inputs (c : Channel) : Channel := { c with openValve := false, closeValve := false, warning := false }

/-- Both valves of a channel as given, its filters as in another. -/
structure Drives (c c' : Channel) (openOn closeOn : Bool) : Prop where
  inputs : c'.inputs = c.inputs
  openValve : c'.openValve = openOn
  closeValve : c'.closeValve = closeOn

/-- Door `d` is left with this record, apart from its change flag, its valves at these levels and its filters as they
were; these messages have been made; and nothing else has changed but the door's local warning output, which has a rule of
its own (R148). -/
structure Leaves (d : DoorId) (s t : State) (r : Door) (openOn closeOn : Bool) (ms : List Instr) : Prop
    extends OnlyDoor d s t where
  record : (t.door d).still = r.still
  drives : Drives (s.channel d) (t.channel d) openOn closeOn
  messages : t.inFlight = s.inFlight ++ ms

/-- `Leaves`, with both valves as they were. -/
abbrev LeavesUndriven (d : DoorId) (s t : State) (r : Door) (ms : List Instr) : Prop :=
  Leaves d s t r (s.channel d).openValve (s.channel d).closeValve ms

/-- The target end of a movement is filtered ACTIVE and the other end is not (R29). -/
def Channel.restsAt (c : Channel) (end_ : Dir) : Bool := c.endActive end_ && !c.endActive end_.flip

/-- An enabled leaf edge that is filtered ACTIVE meets a closing door (R30, R36). -/
def edgeMeets (i : Image) (d : DoorId) (c : Channel) (dir : Dir) : Bool :=
  dir == .cls && i.doors[d].edgeEnable && c.leafEdge.filtered

/-! ### Commands that are an input's event or a message's taking -/

/-- No message is on its way ahead of `m` on the same way, so that the taking of `m` is the taking of `m` alone (R81, R94;
entry 2). -/
def FirstOnItsWay (s : State) (m : Instr) : Prop := ∀ x ∈ s.inFlight.takeWhile (· != m), route? x ≠ route? m

/-- A command ends an interval of a filter and leaves it as `f`: its pending timer expires (R6), or its first interval
(R8). -/
def FilterEnds (s : State) (c : Instr) (i : InputId) (f : Filter) : Prop :=
  (∃ p, (s.filter i).primed = true ∧ (s.filter i).pending = some p ∧ c = .filterExpiry i ∧
    f = { s.filter i with filtered := p.target, pending := none }) ∨
  ((s.filter i).first.isSome = true ∧ c = .firstIntervalExpiry i ∧
    f = { s.filter i with filtered := (s.filter i).raw, primed := true, first := none })

/-- A command ends an interval of a filter and delivers a confirm or a release: a first interval does so only where the
filtered value changes (R6, R8). -/
def Delivers (s : State) (c : Instr) (i : InputId) (f : Filter) : Prop :=
  FilterEnds s c i f ∧ (c = .firstIntervalExpiry i → (s.filter i).raw ≠ (s.filter i).filtered)

/-- The kind and subject that a report to the alarm list is about; none for any other command. -/
def alarmOf? : Instr → Option (AlarmKind × Subject)
  | .alarmRaise k x | .alarmClear k x | .alarmResetCondition k x => some (k, x)
  | _ => none

/-- The next command a step takes, where it is a message between blocks, is one on its way. -/
def TakesItsMessage (s : State) : Prop :=
  (∀ c cs, s.pending = c :: cs → (route? c).isSome = true → c ∈ s.inFlight) ∧
  ∀ l c, (s.port.line l).waiting = some c → (route? c).isSome = true → c ∈ s.inFlight

/-! ### What becomes of a door record -/

/-- A door's drive check of valve `v` once that valve stands at `on` (R11): idle with its flag cleared where the readback
agrees, started with the settle time where it differs, unless it runs or the difference has been reported. The check of a
door that is ABSENT, in its drive test or not yet primed stays as it is (R13). -/
def Door.valveAt (i : Image) (c : Channel) (v : Dir) (on : Bool) (r : Door) : Door :=
  if r.present && r.testResult != .running && (c.readback v).primed then
    if on = (c.readback v).filtered then r.withCheck v .idle
    else if (r.check v).reported || (r.check v).timer.isSome then r
    else r.withCheck v ⟨some i.group.driveSettle, false⟩
  else r

/-- A stroke over for any cause but an arrival, a pause or a reversal (R19): its valve OFF, the estimate frozen, held and
full-stroke flags false. The motion state is another rule's. -/
def Door.strokeOver (i : Image) (c : Channel) (r : Door) : Door :=
  { r.valveAt i c r.dir false with estimate := r.estimateNow, held := false, full := false }

/-- The transit flag false, with its timer and its mark (R27, R148). -/
def Door.outOfTransit (r : Door) : Door := { r with transit := false, transitTimer := none, transitLong := false }

/-- The transit flag true and its timer running, unless it was true already (R27). -/
def Door.entersTransit (i : Image) (r : Door) : Door :=
  if r.transit then r
  else
    { r with
      transit := true
      transitTimer := if i.group.transitLimit = 0 then none else some i.group.transitLimit }

/-- The clear of TRANSIT_LONG that the end of a transit makes (R27). -/
def transitMessages (d : DoorId) (r : Door) : List Instr :=
  if r.transit then [.alarmClear .transitLong (.door d)] else []

/-- A door brought to rest by its filtered end switches (R20, R27). -/
def Door.atRest (c : Channel) (r : Door) : Door :=
  let stopped : Door := { r with warningTimer := none, dwellTimer := none, edgeWait := .none, edgeTimer := none }
  match c.closedSwitch.filtered, c.openSwitch.filtered with
  | true, false => { stopped.outOfTransit with motion := .closed, estimate := 0 }
  | false, true => { stopped with motion := .opened, estimate := 1000 }
  | _, _ => { stopped with motion := .stopped, estimate := clamp 10 990 r.estimate }

/-- The clear a door makes as it comes to rest CLOSED. -/
def restMessages (d : DoorId) (c : Channel) (r : Door) : List Instr :=
  if c.restsAt .cls then transitMessages d r else []

/-- A movement started from rest (R29): at rest where the door rests at the target end, QUEUED otherwise. -/
def Door.startsMove (c : Channel) (dir : Dir) (authority : MotionAuthority) (held : Bool) (r : Door) : Door :=
  if c.restsAt dir then r.atRest c
  else
    { r with
      motion := .queued, dir := dir, authority := authority, held := held
      warningTimer := none, dwellTimer := none, edgeWait := .none, edgeTimer := none }

/-- A stroke ended by an obstruction (R36): STOPPED, in an edge wait where the movement was ordered and an order stands. -/
def Door.obstructed (i : Image) (c : Channel) (r : Door) : Door :=
  { r.strokeOver i c with
    motion := .stopped, edgeTimer := none
    edgeWait := if r.authority ≠ .local_ ∧ r.standing ≠ .none then .edgeHeld else .none }

/-- A moving door reversed (R38): the other valve ON, a new stroke from the frozen estimate. -/
def Door.reversedTo (i : Image) (d : DoorId) (c : Channel) (target : Dir) (authority : MotionAuthority) (held : Bool)
    (r : Door) : Door :=
  { r.valveAt i c target.flip false with
    motion := movingMotion target, dir := target, p0 := r.estimateNow, estimate := r.estimateNow, elapsed := 0
    deadline := strokeDeadline target r.estimateNow (r.learned target) i.doors[d].margin
    full := false, authority := authority, held := held }.valveAt i c target true

/-- Whether a learned time is out of its nominal time's bounds, for either direction (R64). -/
def Door.travelsOff (x : DoorRecord) (r : Door) : Bool :=
  let off := fun (l n : Nat) => decide (n < ((l - n) + (n - l)) * 4)
  off r.learnedClose x.nominalClose || off r.learnedOpen x.nominalOpen

/-- What the arrival of a stroke teaches (R59, R61, R64): a full stroke is kept with its measured time, which is learned where it
lies within half and twice the learned time, and TRAVEL_DRIFT is then evaluated; any other stroke teaches nothing. -/
def Door.learns (x : DoorRecord) (r : Door) : Door :=
  let learned := r.learned r.dir
  let accepted := decide (learned / 2 ≤ r.elapsed ∧ r.elapsed ≤ 2 * learned)
  let now := min 600 (max 30 ((3 * learned + r.elapsed + 2) / 4))
  let measured : Door := { r with lastStroke := some ⟨r.elapsed, r.dir, accepted⟩ }
  let taught : Door := match r.dir with
    | .cls => { measured with learnedClose := now }
    | .opn => { measured with learnedOpen := now }
  if r.full = false then r
  else if accepted then { taught with travelDrift := taught.travelsOff x }
  else measured

/-- The report of a LEVEL condition where it changes from `was` to `now`. -/
def changeMessages (k : AlarmKind) (x : Subject) (was now : Bool) : List Instr :=
  if now = was then [] else if now then [.alarmRaise k x] else [.alarmClear k x]

/-- A stroke arrived at its target end (R25, R27, R32). -/
def Door.arrived (i : Image) (d : DoorId) (c : Channel) (r : Door) : Door :=
  let x := Door.learns i.doors[d]
    { r.valveAt i c r.dir false with motion := endMotion r.dir, estimate := endEstimate r.dir, held := false }
  match r.dir with
  | .opn => x
  | .cls => { x.outOfTransit with drifted := false }

/-- The clear of DRIFT_OPEN that the end of a drift makes (R25). -/
def driftMessages (d : DoorId) (r : Door) : List Instr := if r.drifted then [.alarmClear .driftOpen (.door d)] else []

/-- What an arrival makes: the flow released, the report of TRAVEL_DRIFT where it changes and, at CLOSED, the notice to the
resolver and the clears (R32, R65), in the model's order (entry 25). -/
def arrivalMessages (i : Image) (d : DoorId) (c : Channel) (r : Door) : List Instr :=
  .release d :: changeMessages .travelDrift (.door d) r.travelDrift (r.arrived i d c).travelDrift ++
  match r.dir with
  | .opn => []
  | .cls => .arrivalNotice d :: transitMessages d r ++ driftMessages d r

/-- An end-switch release that moves the estimate off its end: from 0 to 10, from 1000 to 990 (R22, R24). -/
def Door.offEnd (end_ : Dir) (r : Door) : Door :=
  match end_ with
  | .cls => { r with estimate := if r.estimate = 0 then 10 else r.estimate }
  | .opn => { r with estimate := if r.estimate = 1000 then 990 else r.estimate }

/-- The values a fault report carries for a door (R33, R108). -/
def Door.asReported (r : Door) : FaultData := ⟨r.motion, r.dir, r.estimateNow, r.elapsed, r.authority⟩

/-- What an event of a present door's end switch makes of its drifted flag and its tight latch: the closed switch's confirm
ends a drift (R25), its release the latch (R145). -/
def Door.switched (end_ : Dir) (active : Bool) (r : Door) : Door :=
  match end_, active with
  | .cls, true => { r with drifted := false }
  | .cls, false => { r with tight := false }
  | .opn, _ => r

/-- The clear that event makes (R25), ahead of everything else that it makes (entry 25). -/
def switchMessages (end_ : Dir) (active : Bool) (d : DoorId) (r : Door) : List Instr :=
  match end_, active with
  | .cls, true => driftMessages d r
  | .cls, false | .opn, _ => []

/-- What an end-switch event makes of a SETTLING door (R22, R35, R145): a release moves the estimate off its end, and a
confirm that leaves both switches ACTIVE is noted as a conflict, the estimate kept within 10-990. -/
def Door.settling (end_ : Dir) (active both : Bool) (r : Door) : Door :=
  let x := r.switched end_ active
  if active = false then x.offEnd end_
  else if both then { x with estimate := clamp 10 990 x.estimate, settle := { x.settle with conflict := true } }
  else x

/-- What such an event makes: the clear of a drift, and the report of a conflict (R25, R35). -/
def settlingMessages (end_ : Dir) (active both : Bool) (d : DoorId) (r : Door) : List Instr :=
  switchMessages end_ active d r ++
  (if active && both then
    [.faultReport d .switchConflict none false r.asReported] else [])

/-- Whether a handle's release ends a held movement of a door in this motion state (R40). -/
def Door.endsBy (handle : Dir) (r : Door) : Bool :=
  r.held && (r.motion == movingMotion handle || (r.motion == .queued && r.dir == handle))

/-- A door in DWELL (R28). -/
def Door.dwells (i : Image) (r : Door) : Door :=
  { r with motion := .dwell, dwellTimer := some i.group.dwellTime, warningTimer := none }

/-- What the release of a handle makes of a door (R40). A held movement of the handle's direction ends: in DWELL where the
handle is the open one and the door in transit, at rest otherwise. An OPEN or STOPPED door in transit enters DWELL at the
open handle's release. Any other door is as it was. -/
def Door.released (handle : Dir) (i : Image) (c : Channel) (r : Door) : Door :=
  let ended := if isMoving r.motion then r.strokeOver i c else r
  if r.endsBy handle then (if handle = .opn ∧ r.transit = true then ended.dwells i else ended.atRest c)
  else if handle = .opn ∧ (r.motion = .opened ∨ r.motion = .stopped) ∧ r.transit = true then r.dwells i
  else r

/-- The message a movement that starts from rest makes (R27, R29). -/
def moveMessages (d : DoorId) (c : Channel) (dir : Dir) (r : Door) : List Instr :=
  if c.restsAt dir then restMessages d c r else [.join d dir]

/-- What a handle's release makes for the allocator and the alarm list (R40). -/
def releaseMessages (handle : Dir) (d : DoorId) (c : Channel) (r : Door) : List Instr :=
  if r.endsBy handle then
    (if isMoving r.motion then [.release d] else [.withdraw d]) ++
    (if handle = .opn ∧ r.transit = true then [] else restMessages d c r)
  else []

/-- The close a door starts under its standing order (R21): WARNING where the warning time is above 0, a movement from
rest otherwise. -/
def Door.startsClose (i : Image) (c : Channel) (r : Door) : Door :=
  if i.group.warningTime = 0 then r.startsMove c .cls r.standing.motion false
  else
    { r with
      motion := .warning, dir := .cls, warningTimer := some i.group.warningTime, dwellTimer := none
      edgeWait := .none, edgeTimer := none }

/-- The message of a close that starts without a warning (R29). -/
def closeMessages (i : Image) (d : DoorId) (c : Channel) (r : Door) : List Instr :=
  if i.group.warningTime = 0 then moveMessages d c .cls r else []

/-- What a flood stop makes of a door (R42): an opening, moving or waiting, ends, in transit straight in a close under the
standing order and at rest otherwise. Any other door is as it was. -/
def Door.floodStopped (i : Image) (c : Channel) (r : Door) : Door :=
  if r.motion = .opening then
    (if r.transit then (r.strokeOver i c).startsClose i c else (r.strokeOver i c).atRest c)
  else if r.motion = .queued ∧ r.dir = .opn then
    (if r.transit then Door.startsClose i c { r with motion := .stopped } else r.atRest c)
  else r

/-- What a flood stop makes for the allocator and the alarm list (R42). -/
def floodMessages (i : Image) (d : DoorId) (c : Channel) (r : Door) : List Instr :=
  if r.motion = .opening then
    .release d :: (if r.transit then closeMessages i d c (r.strokeOver i c) else restMessages d c r)
  else if r.motion = .queued ∧ r.dir = .opn then
    .withdraw d :: (if r.transit then closeMessages i d c r else restMessages d c r)
  else []

/-- R21 after an event: a due door starts its close. -/
def Door.proceeds (i : Image) (c : Channel) (r : Door) : Door := if r.due then r.startsClose i c else r

/-- The message R21 makes after an event. -/
def proceedMessages (i : Image) (d : DoorId) (c : Channel) (r : Door) : List Instr :=
  if r.due then closeMessages i d c r else []

/-- Whether R43 acts on a door after a ruling (entry 33): the door is faulted and the ruling one of R81's unfaulted rows. -/
def Door.outruled (ruling : Ruling) (r : Door) : Bool :=
  r.faulted && (ruling == .latchOpen || ruling == .latchClose || ruling == .transitOpen || ruling == .closeNow)

/-- What is left of what a ruling has made of a door, `was` being the door before it and `r` the door after it (entry 33). A faulted
door that has obeyed a ruling of an unfaulted row is out of transit and waits for no edge; a warning, a dwell or a wait for
flow ends at rest, and so does a reversed stroke that is not held. Any other door is as it was. -/
def Door.afterRuling (i : Image) (c : Channel) (ruling : Ruling) (r was : Door) : Door :=
  let x : Door := { r.outOfTransit with edgeWait := .none, edgeTimer := none }
  if was.outruled ruling = false then r
  else if r.motion = .warning ∨ r.motion = .dwell ∨ r.motion = .queued then x.atRest c
  else if isMoving r.motion = true ∧ r.held = false ∧ r.dir ≠ was.dir then (x.strokeOver i c).atRest c
  else x

/-- What that makes for the alarm list and the allocator. -/
def afterRulingMessages (d : DoorId) (ruling : Ruling) (was r : Door) : List Instr :=
  if was.outruled ruling = false then []
  else
    transitMessages d r ++
    (if r.motion = .queued then [.withdraw d]
     else if isMoving r.motion = true ∧ r.held = false ∧ r.dir ≠ was.dir then [.release d]
     else [])

/-- What a restart makes of a door's record, before R21 (R13, R17, R49, R64): its state from its filtered end switches unless
it is ISOLATED, SETTLING or ABSENT, its timers, edge wait, transit and held flag ended, a running drive test aborted, its
drive checks begun again with both valves OFF, and the standing authority `a` that the resolver reports for it. -/
def Door.restarted (i : Image) (d : DoorId) (c : Channel) (a : Standing) (r : Door) : Door :=
  let kept := r.motion = .isolated ∨ r.motion = .settling ∨ r.motion = .absent
  let stood : Door :=
    if kept then r
    else
      { r with
        motion := if c.restsAt .cls then .closed else if c.restsAt .opn then .opened else .stopped
        estimate := if c.restsAt .cls then 0 else if c.restsAt .opn then 1000 else clamp 10 990 r.estimateNow }
  let quiet : Door :=
    { stood with
      full := r.full && !isMoving r.motion
      warningTimer := none, dwellTimer := none, edgeTimer := none, transitTimer := none, edgeWait := .none
      transit := false, transitLong := false, held := false, tight := false
      testResult := if r.testResult = .running then .aborted else r.testResult
      test := none, openCheck := .idle, closeCheck := .idle }
  let checked := (quiet.valveAt i c .opn false).valveAt i c .cls false
  { checked with
    travelDrift := if r.present then r.travelsOff i.doors[d] else r.travelDrift
    standing := if r.present = false then r.standing else if r.motion = .isolated then .none else a }

/-! ### Requests -/

/-- A request addressed to the controller waits on its line, nothing is being sent there, and no restart is awaited
(R167, R179). -/
structure Waits (s : State) (c : Instr) (r : Req) : Prop where
  waiting : (s.port.line r.line).waiting = some c
  noReply : (s.port.line r.line).reply = none
  noRestart : s.port.restarting = none
  addressed : r.broadcast = false

/-- A line whose request has been taken and whose reply is being sent (R167). -/
def answeredLine (y : LinePort) (frame : List Byte) : LinePort :=
  { y with rx := .closed, buffer := [], gap := false, waiting := none, reply := some frame }

/-- The port of `t` is that of `p`, but for the line of the request, where the reply of this kind, reason and data is
being sent, with the attention field as it stands in `t` (R168, R169). -/
def Answered (p : Port) (r : Req) (kind : Byte) (reason : Option Reason) (data : List Byte) (t : State) : Prop :=
  t.port = p.withLine r.line
    (answeredLine (p.line r.line) (replyFrame p.address kind reason t.attention data))

/-- The body lengths the kind-code table gives (R173); none for a code that it does not list. -/
def bodyLengths (kind : Byte) : Option (List Nat) :=
  match kind.toNat with
  | 0x01 | 0x02 | 0x0F | 0x12 | 0x15 | 0x1B | 0x1C | 0x1D => some [0]
  | 0x04 | 0x06 | 0x08 | 0x0A | 0x0B | 0x0D | 0x0E | 0x10 | 0x11 | 0x13 | 0x16 | 0x17 => some [1]
  | 0x03 => some [2]
  | 0x07 | 0x09 | 0x0C | 0x14 | 0x19 => some [3]
  | 0x18 => some [4]
  | 0x05 => some [1, 3]
  | 0x1A => some [29, 49]
  | _ => none

/-- A request frame after its start byte, and the whole of it (R162, R164). -/
def requestFrame (address kind : Byte) (body : List Byte) : List Byte :=
  let covered := [address, kind, byteOf body.length] ++ body
  startByte :: covered ++ crcBytes (crc covered)

/-- The commands by which characters with good stop bits arrive on a line. -/
def characters (l : Line) (cs : List Byte) : List Instr := cs.map fun c => .lineCharacter l c true

/-- Commands taken one after the other. -/
def execAll : List Instr → State → Host.Outcome State Fault Refusal
  | [], s => .next s
  | c :: cs, s =>
    match exec c s with
    | .next t => execAll cs t
    | .fault f => .fault f
    | .refused f => .refused f

/-! ### Invariants -/

/-- A door is ABSENT exactly while the active image declares no door there (R47, R48). -/
def PresenceInv (s : State) : Prop :=
  ∀ d : DoorId, (s.door d).present = s.image.doors[d].present ∧
    ((s.door d).motion = .absent ↔ (s.door d).present = false)

/-- The direction of a moving door is that of its motion state, a drive test belongs to an isolated door, and a valve is
ON only for a moving door's direction or for the phase of a running drive test, where it is OFF from the start of the phase's
off-check (R15, R18). -/
def DriveOk (r : Door) (c : Channel) : Prop :=
  (r.motion = .opening → r.dir = .opn) ∧ (r.motion = .closing → r.dir = .cls) ∧
  (r.testResult = .running ↔ r.test.isSome = true) ∧ (r.test.isSome = true → r.motion = .isolated) ∧
  (c.openValve = true → r.motion = .opening ∨ ∃ x, r.test = some x ∧ x.phase = .opn) ∧
  (c.closeValve = true → r.motion = .closing ∨ ∃ x, r.test = some x ∧ x.phase = .cls) ∧
  ∀ x, r.test = some x → x.offCheck = true → c.valve x.phase = false

/-- R18 for every door. -/
def DriveInv (s : State) : Prop := PresenceInv s ∧ ∀ d : DoorId, DriveOk (s.door d) (s.channel d)

/-- E of a moving door is below its deadline, and every deadline lies within 10-1200 (R54, R55, R58). -/
def StrokeInv (s : State) : Prop :=
  ∀ d : DoorId, 10 ≤ (s.door d).deadline ∧ (s.door d).deadline ≤ 1200 ∧
    (isMoving (s.door d).motion = true → (s.door d).elapsed < (s.door d).deadline)

/-- The nominal times of an image lie within 30-600 (R153). -/
def nominalOk (i : Image) : Prop :=
  ∀ d : DoorId, 30 ≤ i.doors[d].nominalClose ∧ i.doors[d].nominalClose ≤ 600 ∧
    30 ≤ i.doors[d].nominalOpen ∧ i.doors[d].nominalOpen ≤ 600

/-- Every learned time lies within 30-600 (R60), as the nominal times of the active and the staging image do. -/
def LearnedInv (s : State) : Prop :=
  nominalOk s.store.active ∧ nominalOk s.store.staging ∧
  ∀ d : DoorId, 30 ≤ (s.door d).learnedClose ∧ (s.door d).learnedClose ≤ 600 ∧
    30 ≤ (s.door d).learnedOpen ∧ (s.door d).learnedOpen ≤ 600

/-- The resolver and the door table agree on isolation, and no isolated or absent door holds a registration or an
inhibited-hold mark (R79, R85). -/
def IsolationInv (s : State) : Prop :=
  PresenceInv s ∧ ∀ d : DoorId,
    (s.resolver.doors[d].isolated = true ↔ (s.door d).motion = .isolated) ∧
    (s.resolver.doors[d].registered = true →
      s.image.doors[d].present = true ∧ s.resolver.doors[d].isolated = false) ∧
    (s.resolver.doors[d].mark = true →
      s.image.doors[d].present = true ∧ s.resolver.doors[d].isolated = false)

/-- The standing authority of the strongest source active for a door, the sources in the order of their rank: the emergency latch,
the mode CLOSED, a registration. NONE where no source is active, and for an ISOLATED or ABSENT door (R66). -/
def strongestSource (i : Image) (r : Resolver) (d : DoorId) : Standing :=
  let sources : List (Bool × Standing) :=
    [(r.latch, .emergency), (r.mode == .closed, .central), (r.doors[d].registered, .remote)]
  if i.doors[d].present = true ∧ r.doors[d].isolated = false then
    match sources.find? (·.1) with
    | some source => source.2
    | none => .none
  else .none

/-- The resolver's last reported standing authority of every door is the one R66 gives (R66, R67). -/
def StandingInv (s : State) : Prop :=
  ∀ d : DoorId, s.resolver.doors[d].reported = strongestSource s.image s.resolver d

/-- The capacity of every HPU is the one the filtered lines and the active image give (R90). -/
def CapacityInv (s : State) : Prop :=
  ∀ h : HpuId,
    (s.lines.pressure[h].filtered = false → s.alloc.hpus[h].capacity = 0) ∧
    (s.lines.pressure[h].filtered = true → s.lines.mainSupply.filtered = true →
      s.alloc.hpus[h].capacity = s.image.group.normalCapacity[h]) ∧
    (s.lines.pressure[h].filtered = true → s.lines.mainSupply.filtered = false →
      s.alloc.hpus[h].capacity = s.image.group.emergencyCapacity[h])

/-- Every local warning output is ON exactly while a row of the table of R148 holds for its present door. -/
def WarningInv (s : State) : Prop :=
  ∀ d : DoorId, (s.channel d).warning = true ↔
    (s.door d).present = true ∧
    ((s.door d).motion = .warning ∨ (s.door d).motion = .dwell ∨
     ((s.door d).motion = .queued ∧ (s.door d).dir = .cls ∧ (s.door d).authority ≠ .local_) ∨
     ((s.door d).motion = .closing ∧ (s.door d).authority ≠ .local_) ∨ (s.door d).transitLong = true)

/-- What the granted doors of an HPU draw: the sum of the demands counted for them (R92). -/
def grantedDemand (a : Alloc) (h : HpuId) : Nat := (a.hpus[h].granted.map fun d => a.doors[d].demand).sum

/-- Whether a standing is in the granted list of an HPU. -/
def AllocStanding.grantedBy (x : AllocStanding) (h : HpuId) : Bool :=
  match x with
  | .offered h' _ _ _ | .held h' _ _ => h' == h
  | .out | .waiting .. => false

/-- Whether a standing waits in a class of an HPU. -/
def AllocStanding.waitsIn (x : AllocStanding) (h : HpuId) (c : Dir) : Bool :=
  match x with
  | .waiting h' c' _ _ => h' == h && c' == c
  | .out | .offered .. | .held .. => false

/-- U(h) is the sum of the demands counted for the granted doors and never exceeds C(h); each door stands once, in the
list or the class its standing names (R92, R93). -/
def FlowOk (a : Alloc) : Prop :=
  ∀ h : HpuId,
    a.hpus[h].inUse = grantedDemand a h ∧ a.hpus[h].inUse ≤ a.hpus[h].capacity ∧
    a.hpus[h].granted.Nodup ∧ a.hpus[h].closeQueue.Nodup ∧ a.hpus[h].openQueue.Nodup ∧
    ∀ d : DoorId,
      (d ∈ a.hpus[h].granted ↔ a.doors[d].grantedBy h = true) ∧
      (d ∈ a.hpus[h].closeQueue ↔ a.doors[d].waitsIn h .cls = true) ∧
      (d ∈ a.hpus[h].openQueue ↔ a.doors[d].waitsIn h .opn = true)

/-- `FlowOk` of the part's allocator. -/
def FlowInv (s : State) : Prop := FlowOk s.alloc

/-- The first door of a class that the capacity can serve at all (R98). -/
def servableHead (a : Alloc) (h : HpuId) (c : Dir) : Option DoorId :=
  ((a.hpus[h]).queue c).find? fun d => a.doors[d].demand ≤ a.hpus[h].capacity

/-- No HPU keeps a door waiting that its free capacity could serve: the first servable door, of the close class or else of
the open class, does not fit (R97, R98). -/
def ServedInv (s : State) : Prop :=
  ∀ h : HpuId, ∀ d ∈ (servableHead s.alloc h .cls).or (servableHead s.alloc h .opn),
    s.alloc.hpus[h].capacity < s.alloc.hpus[h].inUse + s.alloc.doors[d].demand

/-- At most 48 ordinary entries, none two of one kind and subject, none of kind LIST_OVERFLOW, which only the overflow
entry has (R124); and the outputs as R134 and R135 give them. -/
def AlarmInv (s : State) : Prop :=
  s.alarms.entries.length ≤ 48 ∧
  (s.alarms.entries.map fun e => (e.kind, e.subject)).Nodup ∧
  (∀ e ∈ s.alarms.entries, e.kind ≠ .listOverflow) ∧
  (∀ e ∈ s.alarms.overflow, e.kind = .listOverflow ∧ e.subject = .group) ∧
  s.alarms.common = s.alarms.all.any (fun e => e.annunciated && e.state != .activeAck) ∧
  s.alarms.routed = s.alarms.all.any
    (fun e => e.annunciated && e.state != .activeAck && inKinds s.image.group.routedKinds e.kind)

/-- Counters within 0-65535, and no also-seen set with the capture's own kind (R112, R115). -/
def RecorderInv (s : State) : Prop :=
  ∀ d : DoorId,
    s.recorder.doors[d].counters.overtravel ≤ 65535 ∧ s.recorder.doors[d].counters.switch ≤ 65535 ∧
    s.recorder.doors[d].counters.obstruction ≤ 65535 ∧ s.recorder.doors[d].counters.drift ≤ 65535 ∧
    s.recorder.doors[d].counters.drive ≤ 65535 ∧
    ∀ c ∈ s.recorder.doors[d].capture, c.alsoSeen &&& faultBit c.kind = 0

/-- One line: counters within 0-65535, a line that holds a request is CLOSED and sends no reply, a line that sends one is
CLOSED too, or in HUNT where a restart by request has left its reply to be finished (entry 32), a silent line's timer is
idle, and nothing is supervised while S is 0 (R4, R167, R170, R171, R172). -/
def LineOk (interval : Nat) (y : LinePort) : Prop :=
  y.checkErrors ≤ 65535 ∧ y.framingErrors ≤ 65535 ∧
  (y.waiting.isSome = true → y.rx = .closed ∧ y.reply = none) ∧
  (y.reply.isSome = true → y.rx = .closed ∨ y.rx = .hunt) ∧
  (y.silent = true → y.silence = none) ∧ (interval = 0 → y.silence = none ∧ y.silent = false)

/-- The line port: both lines, an address that is never 0, and a restart awaited only behind the reply that announces it
(R165, R179). -/
def PortInv (s : State) : Prop :=
  LineOk s.port.interval s.port.lineA ∧ LineOk s.port.interval s.port.lineB ∧ s.port.address ≠ 0 ∧
  ∀ l, s.port.restarting = some l → (s.port.line l).reply.isSome = true

/-- The law of the position estimate (R53): 0 only while the closed switch is confirmed, 1000 only while the open switch is,
and within 10-990 otherwise; the 500 of a door that settles is within that. -/
def EstimateInv (s : State) : Prop :=
  PresenceInv s ∧ ∀ d : DoorId, (s.door d).present = true →
    let e := (s.door d).estimateNow
    (e = 0 ∧ (s.channel d).closedSwitch.filtered = true) ∨ (e = 1000 ∧ (s.channel d).openSwitch.filtered = true) ∨
    (10 ≤ e ∧ e ≤ 990)

/-- The notices about a door's capture on their way to the door table, oldest first. -/
def captureNotices (s : State) (d : DoorId) : List Instr :=
  s.inFlight.filter fun m => m == .captureOccupiedNotice d || m == .captureEmptiedNotice d

/-- Only a present door has a capture, and a door is faulted exactly while its capture is occupied, but for notices still on
their way, the last of which says what the capture is (R112, R119); and no faulted door is in transit, dwells or warns (R84). -/
def FaultedInv (s : State) : Prop :=
  PresenceInv s ∧ ∀ d : DoorId,
    (s.recorder.doors[d].capture.isSome = true → (s.door d).present = true) ∧
    (captureNotices s d = [] → ((s.door d).faulted = true ↔ s.recorder.doors[d].capture.isSome = true)) ∧
    ((captureNotices s d).getLast? = some (.captureOccupiedNotice d) → s.recorder.doors[d].capture.isSome = true) ∧
    ((captureNotices s d).getLast? = some (.captureEmptiedNotice d) → s.recorder.doors[d].capture = none) ∧
    ((s.door d).faulted = true →
      (s.door d).transit = false ∧ (s.door d).motion ≠ .warning ∧ (s.door d).motion ≠ .dwell)

/-! ### The flow allocator's account

What the rules of chapter 5 make of the allocator's records, and the messages made so far, in the order they are made. -/

/-- The allocator's records and the messages made. -/
abbrev Account := Alloc × List Instr

/-- A door's standing, and its HPU's lists, with the door in none of them and its counted demand returned (R92, R93). -/
def Alloc.without (a : Alloc) (d : DoorId) : Alloc :=
  { a with
    doors := a.doors.set d .out
    hpus := a.hpus.map fun x =>
      { x with
        granted := x.granted.erase d, closeQueue := x.closeQueue.erase d, openQueue := x.openQueue.erase d
        inUse := if d ∈ x.granted then x.inUse - a.doors[d].demand else x.inUse } }

/-- A door waiting at the tail of a class (R93). -/
def Alloc.atTail (a : Alloc) (d : DoorId) (h : HpuId) (c : Dir) (n : Nat) : Alloc :=
  { a with
    doors := a.doors.set d (.waiting h c false n)
    hpus := a.hpus.set h (a.hpus[h].withQueue c (a.hpus[h].queue c ++ [d])) }

/-- A door waiting in the paused run at the head of a class: behind the paused doors whose most recent grants are earlier,
ahead of all others (R93, R101), one that this HPU has granted neither ahead of the earlier placed (entry 38). -/
def Alloc.inPausedRun (a : Alloc) (d : DoorId) (h : HpuId) (c : Dir) (n : Nat) : Alloc :=
  let x := a.hpus[h]
  let earlier := fun e => a.doors[e].isPaused && decide (x.position e < x.position d)
  { a with
    doors := a.doors.set d (.waiting h c true n)
    hpus := a.hpus.set h (x.withQueue c ((x.queue c).takeWhile earlier ++ d :: (x.queue c).dropWhile earlier)) }

/-- Whether FLOW_SHORT's condition holds for a door (R102). -/
def Alloc.short (a : Alloc) (d : DoorId) : Bool :=
  match a.doors[d] with
  | .waiting h _ _ n => decide (a.hpus[h].capacity < n)
  | .out | .offered .. | .held .. => false

/-- FLOW_SHORT's condition evaluated for a door (R102). -/
def Account.short (d : DoorId) (x : Account) : Account :=
  ({ x.1 with flowShort := x.1.flowShort.set d (x.1.short d) },
   x.2 ++ (if x.1.short d = x.1.flowShort[d] then []
           else if x.1.short d then [.alarmRaise .flowShort (.door d)] else [.alarmClear .flowShort (.door d)]))

/-- The doors a scan of a class grants, the flow in use being `u` of `cap` (R98): an unservable door is passed, a door that
fits is granted, and the first servable door that does not fit ends the scan. -/
def grantsOf (a : Alloc) (cap : Nat) : Nat → List DoorId → List DoorId
  | _, [] => []
  | u, d :: ds =>
    let n := a.doors[d].demand
    if cap < n then grantsOf a cap u ds
    else if u + n ≤ cap then d :: grantsOf a cap (u + n) ds
    else []

/-- The doors a service of an HPU's queue grants, in their order, each with its class: those of the close class and, where
that then holds no servable door, those of the open class (R98). -/
def Alloc.grants (a : Alloc) (h : HpuId) : List (DoorId × Dir) :=
  let x := a.hpus[h]
  let closing := grantsOf a x.capacity x.inUse x.closeQueue
  let drawn := x.inUse + (closing.map fun d => a.doors[d].demand).sum
  let blocked := x.closeQueue.any fun d => !closing.contains d && decide (a.doors[d].demand ≤ x.capacity)
  closing.map (·, Dir.cls) ++ (if blocked then [] else (grantsOf a x.capacity drawn x.openQueue).map (·, Dir.opn))

/-- The queue of an HPU served (R97 to R99). -/
def Account.serve (h : HpuId) (x : Account) : Account :=
  let a := x.1
  let y := a.hpus[h]
  let gs := a.grants h
  let ds := gs.map (·.1)
  ({ a with
     hpus := a.hpus.set h
       { y with
         granted := y.granted ++ ds, inUse := y.inUse + (ds.map fun d => a.doors[d].demand).sum
         closeQueue := y.closeQueue.filter (!ds.contains ·), openQueue := y.openQueue.filter (!ds.contains ·)
         order := ds.foldl (fun o d => o.erase d ++ [d]) y.order }
     doors := Vector.ofFn fun d : DoorId =>
       match gs.lookup d with
       | some c => .offered h c a.doors[d].demand .none
       | none => a.doors[d]
     flowShort := Vector.ofFn fun d : DoorId => a.flowShort[d] && !ds.contains d },
   x.2 ++ gs.flatMap fun g =>
     .grant g.1 g.2 :: (if a.flowShort[g.1] then [.alarmClear .flowShort (.door g.1)] else []))

/-- The capacity of an HPU by the table of R90. -/
def ratedCapacity (g : GroupRecord) (l : GroupLines) (h : HpuId) : Nat :=
  match l.pressure[h].filtered, l.mainSupply.filtered with
  | false, _ => 0
  | true, true => g.normalCapacity[h]
  | true, false => g.emergencyCapacity[h]

/-- The doors taken back from a granted list, latest grant first, until the flow in use no longer exceeds `cap` (R100). -/
def takenBack (a : Alloc) (cap : Nat) : Nat → List DoorId → List DoorId
  | _, [] => []
  | u, d :: ds => if u ≤ cap then [] else d :: takenBack a cap (u - a.doors[d].demand) ds

/-- One door taken back from an HPU (R100). -/
def Account.takeBack (x : Account) (d : DoorId) : Account :=
  match x.1.doors[d] with
  | .held h dir n => ((x.1.without d).inPausedRun d h dir n, x.2 ++ [.pause d])
  | .offered h dir n .none => ((x.1.without d).inPausedRun d h dir n, x.2)
  | .offered _ _ _ (.joined c h n) => ((x.1.without d).atTail d h c n, x.2)
  | .offered _ _ _ .withdrawn => (x.1.without d, x.2)
  | .out | .waiting .. => x

/-- The capacity of an HPU computed afresh (R91, R100). Where it has changed, doors are taken back until the flow in use fits. -/
def Account.compute (g : GroupRecord) (l : GroupLines) (h : HpuId) (x : Account) : Account :=
  let y := x.1.hpus[h]
  let cap := ratedCapacity g l h
  if cap = y.capacity then x
  else
    let x1 : Account := ({ x.1 with hpus := x.1.hpus.set h { y with capacity := cap } }, x.2)
    (takenBack x.1 cap y.inUse y.granted.reverse).foldl Account.takeBack x1

/-- Every queue served, and FLOW_SHORT then evaluated for every door (R97, R102). -/
def Account.served (x : Account) : Account :=
  allDoors.foldl (fun x d => Account.short d x) (allHpus.foldl (fun x h => Account.serve h x) x)

/-- The capacities of these HPUs computed afresh at one event of a line (R91, R97). Where some capacity changes, every queue is
served once each has been computed, since a door taken back may have joined another HPU's (entry 16). -/
def Account.capacities (g : GroupRecord) (l : GroupLines) (hs : List HpuId) (x : Account) : Account :=
  if ∀ h ∈ hs, ratedCapacity g l h = x.1.hpus[h].capacity then x
  else (hs.foldl (fun x h => Account.compute g l h x) x).served

/-- FLOW_LOST evaluated for an HPU (R103). -/
def Account.lost (i : Image) (l : GroupLines) (h : HpuId) (x : Account) : Account :=
  let now := l.pressure[h].primed && !l.pressure[h].filtered &&
    decide (∃ d : DoorId, i.doors[d].present = true ∧ i.doors[d].hpu = h)
  ({ x.1 with hpus := x.1.hpus.set h { x.1.hpus[h] with flowLost := now } },
   x.2 ++ (if now = x.1.hpus[h].flowLost then []
           else if now then [.alarmRaise .flowLost (.hpu h)] else [.alarmClear .flowLost (.hpu h)]))

/-- ON_EMERGENCY_SUPPLY evaluated (R103). -/
def Account.supply (l : GroupLines) (x : Account) : Account :=
  let now := l.mainSupply.primed && !l.mainSupply.filtered
  ({ x.1 with onEmergency := now },
   x.2 ++ (if now = x.1.onEmergency then []
           else if now then [.alarmRaise .onEmergencySupply .group] else [.alarmClear .onEmergencySupply .group]))

/-- The allocator of `t` is that of an account begun from `s`, whose messages have been made after those of `s`; nothing else
has changed. -/
structure Accounted (s t : State) (x : Account) : Prop extends OnlyAllocator s t where
  records : t.alloc = x.1
  messages : t.inFlight = s.inFlight ++ x.2

/-! ### The alarm list -/

/-- The overflow entry once the ordinary entries may have become fewer (R131): with 40 or fewer of them left an ACTIVE_UNACK one
becomes CLEARED_UNACK and an ACTIVE_ACK one is removed. -/
def AlarmList.withRoom (time : GroupTime) (a : AlarmList) : AlarmList :=
  if 40 < a.entries.length then a
  else match a.overflow with
    | none => a
    | some o =>
      if o.state = .activeUnack then
        { a with overflow := some { o with state := .clearedUnack, last := time }, changed := true }
      else if o.state = .activeAck then { a with overflow := none, changed := true }
      else a

/-- The list after the reports among some messages, taken in their order (R125 to R128); what one of them does is a statement of
its own. -/
def AlarmList.takeAll (i : Image) (time : GroupTime) (ms : List Instr) (a : AlarmList) : AlarmList :=
  ms.foldl (fun a m => match m with
    | .alarmRaise k x => a.raise i time k x
    | .alarmClear k x | .alarmResetCondition k x => a.conditionEnds i time k x
    | _ => a) a

/-! ### The configuration image -/

/-- Every field of a group record lies in its range (R152). -/
def GroupRecord.inRange (g : GroupRecord) : Prop :=
  let times := fun t : FilterTimes => 1 ≤ t.assert ∧ t.assert ≤ 255 ∧ 1 ≤ t.release ∧ t.release ≤ 255
  let w := g.wearThresholds
  g.warningTime ≤ 100 ∧ 10 ≤ g.dwellTime ∧ g.dwellTime ≤ 300 ∧ g.transitLimit ≤ 255 ∧
  2 ≤ g.driveSettle ∧ g.driveSettle ≤ 50 ∧ 5 ≤ g.edgeClear ∧ g.edgeClear ≤ 100 ∧ g.supervision ≤ 255 ∧
  (∀ h : HpuId, g.normalCapacity[h] ≤ 31 ∧ g.emergencyCapacity[h] ≤ 31) ∧
  w.overtravel ≤ 65535 ∧ w.switch ≤ 65535 ∧ w.obstruction ≤ 65535 ∧ w.drift ≤ 65535 ∧ w.drive ≤ 65535 ∧
  g.checkErrorThreshold ≤ 65535 ∧ g.framingErrorThreshold ≤ 65535 ∧
  times g.endTimes ∧ times g.handleTimes ∧ times g.edgeTimes ∧ times g.lineTimes

/-- Every field of a door record lies in its range (R153). -/
def DoorRecord.inRange (r : DoorRecord) : Prop :=
  1 ≤ r.demand ∧ r.demand ≤ 8 ∧ 30 ≤ r.nominalClose ∧ r.nominalClose ≤ 600 ∧ 30 ≤ r.nominalOpen ∧ r.nominalOpen ≤ 600 ∧
  r.margin ≤ 100 ∧ r.label.length ≤ 16 ∧ ∀ c ∈ r.label, 0x20 ≤ c.toNat ∧ c.toNat ≤ 0x7E

/-- An image that a power-on load or a commit can make active: every field in its range, and the two relations of R157
(R152, R153, R160). -/
def Image.valid (i : Image) : Prop :=
  i.group.inRange ∧ (∀ d : DoorId, i.doors[d].inRange) ∧
  (∀ d : DoorId, i.doors[d].present = true → i.doors[d].demand ≤ i.group.normalCapacity[i.doors[d].hpu]) ∧
  ∀ h : HpuId, i.group.emergencyCapacity[h] ≤ i.group.normalCapacity[h]

/-! ### Commit -/

/-- A commit makes a door ABSENT (R47). -/
def madeAbsent (old new : Image) (d : DoorId) : Bool := old.doors[d].present && !new.doors[d].present

/-- A commit makes a door present (R47). -/
def madePresent (old new : Image) (d : DoorId) : Bool := !old.doors[d].present && new.doors[d].present

/-- A door is present before and after a commit (R47). -/
def keptPresent (old new : Image) (d : DoorId) : Bool := old.doors[d].present && new.doors[d].present

/-- The record of a door made ABSENT (R13, R17, R47, R61, R65). It is no longer faulted where a capture was dropped (R119). -/
def Door.madeAbsent (captured : Bool) (r : Door) : Door :=
  { r.outOfTransit with
    present := false, motion := .absent, standing := .none, drifted := false, tight := false, lastStroke := none
    travelDrift := false, settle := ⟨false, false, false⟩, faulted := r.faulted && !captured
    testResult := if r.testResult = .running then .aborted else r.testResult
    test := none, openCheck := .idle, closeCheck := .idle
    warningTimer := none, dwellTimer := none, edgeWait := .none, edgeTimer := none }

/-- The record of a door made present (R13, R47, R48, R63): SETTLING at 500 with its stroke record as at power-on, its learned
times the nominal ones, and the standing authority the resolver has computed. -/
def Door.madePresent (i : Image) (d : DoorId) (c : Channel) (a : Standing) : Door :=
  let r : Door :=
    { present := true, motion := .settling, dir := .cls, p0 := 500, elapsed := 0, deadline := 10, full := false
      authority := .local_, held := false, estimate := 500
      learnedClose := i.doors[d].nominalClose, learnedOpen := i.doors[d].nominalOpen, lastStroke := none
      transit := false, transitTimer := none, transitLong := false, warningTimer := none, dwellTimer := none
      edgeWait := .none, edgeTimer := none, drifted := false, standing := a, tight := false, changed := false
      testResult := .none, test := none, openCheck := .idle, closeCheck := .idle, faulted := false
      settle := ⟨false, false, false⟩, travelDrift := false }
  (r.valveAt i c .opn false).valveAt i c .cls false

/-- The record of a door present before and after a commit, before R21 (R36, R47, R63, R64): its learned times follow nominal
times that change, TRAVEL_DRIFT is evaluated, and a disabled edge ends its wait. -/
def Door.keptPresent (i : Image) (d : DoorId) (old : DoorRecord) (r : Door) : Door :=
  let new := i.doors[d]
  let x : Door := { r with
    learnedClose := if new.nominalClose = old.nominalClose then r.learnedClose else new.nominalClose
    learnedOpen := if new.nominalOpen = old.nominalOpen then r.learnedOpen else new.nominalOpen }
  let y : Door := { x with travelDrift := x.travelsOff new }
  if new.edgeEnable then y else { y with edgeWait := .none, edgeTimer := none }

/-- An end-switch filter asked to prime again (R9). -/
def Filter.again (times : FilterTimes) (f : Filter) : Filter :=
  { f with primed := false, pending := none, first := some (if f.raw then times.assert else times.release) }

/-- The allocator's part of a commit (R102, R105): every capacity computed from the new image, FLOW_LOST evaluated for every HPU,
every queue served, and FLOW_SHORT evaluated. -/
def Account.commit (i : Image) (l : GroupLines) (x : Account) : Account :=
  let x1 := allHpus.foldl (fun x h => Account.compute i.group l h x) x
  (allHpus.foldl (fun x h => Account.lost i l h x) x1).served

/-- A line after a commit (R170, R172): LINE_DEGRADED by the new thresholds and, where the supervision interval changes, its
silence timer by the new one. -/
def LinePort.committed (old new : GroupRecord) (y : LinePort) : LinePort :=
  let z := { y with
    degraded := decide (new.checkErrorThreshold < y.checkErrors ∨ new.framingErrorThreshold < y.framingErrors) }
  if new.supervision = old.supervision then z
  else if new.supervision = 0 then { z with silence := none, silent := false }
  else if y.silent then z
  else { z with silence := some new.supervision }

/-- The line port after a commit (R170, R172). -/
def Port.committed (old new : GroupRecord) (p : Port) : Port :=
  { p with
    interval := if new.supervision = old.supervision then p.interval else new.supervision
    lineA := p.lineA.committed old new, lineB := p.lineB.committed old new }

/-- The alarm list's own part of a commit (R139): the entries of doors made ABSENT removed, the overflow entry evaluated, and the
outputs by the new routed kind set. -/
def AlarmList.committed (old new : Image) (time : GroupTime) (a : AlarmList) : AlarmList :=
  let gone := fun e : Entry => match e.subject with
    | .door d => madeAbsent old new d
    | .hpu _ | .line _ | .group => false
  AlarmList.setOutputs new.group.routedKinds
    (AlarmList.withRoom time
      { a with entries := a.entries.filter fun e => !gone e, changed := a.changed || a.entries.any gone })

/-- What a commit's other parts report to the alarm list that it can have an entry for, in the model's order (entry 25):
CONFIG_DEFAULT's end, TRAVEL_DRIFT, the allocator's alarms, WEAR, LINE_DEGRADED, and the end of supervision (R64, R105, R119,
R158, R170, R172). -/
def commitReports (s : State) : List Instr :=
  let old := s.image
  let new := s.store.staging
  let kept := allDoors.filter (keptPresent old new)
  let p := s.port
  let q := p.committed old.group new.group
  .alarmClear .configDefault .group ::
  kept.flatMap (fun d => changeMessages .travelDrift (.door d) (s.door d).travelDrift
    ((s.door d).keptPresent new d old.doors[d]).travelDrift) ++
  (Account.commit new s.lines (s.alloc, [])).2 ++
  kept.flatMap (fun d => changeMessages .wear (.door d) s.recorder.doors[d].wear
    (s.recorder.doors[d].counters.exceeds new.group.wearThresholds)) ++
  changeMessages .lineDegraded (.line .a) p.lineA.degraded q.lineA.degraded ++
  changeMessages .lineDegraded (.line .b) p.lineB.degraded q.lineB.degraded ++
  if new.group.supervision = old.group.supervision ∨ new.group.supervision ≠ 0 then []
  else [.alarmClear .lineSilent (.line .a), .alarmClear .lineSilent (.line .b), .alarmClear .remoteLost .group]

/-- What a commit of the staging image leaves of the blocks when no message is on its way: each door's record and channel as its
presence before and after gives them, with R21; the resolver's, the recorder's and the allocator's records; the alarm list
after its own part and the reports of the others; and on their way the JOINs of doors whose close begins and the allocator's
grants and pauses (R47, R64, R85, R105, R119, R139). -/
structure Committed (s t : State) : Prop where
  absent : ∀ d, madeAbsent s.image s.store.staging d = true →
    (t.door d).still = ((s.door d).madeAbsent s.recorder.doors[d].capture.isSome).still ∧
    Drives (s.channel d) (t.channel d) false false ∧
    t.resolver.doors[d] = ⟨false, false, false, .none⟩ ∧ t.recorder.doors[d] = ⟨none, ⟨0, 0, 0, 0, 0⟩, false⟩
  present : ∀ d, madePresent s.image s.store.staging d = true →
    let a := if s.resolver.latch then .emergency else if s.resolver.mode = .closed then .central else .none
    let times := s.store.staging.group.endTimes
    (t.door d).still = Door.madePresent s.store.staging d (s.channel d) a ∧
    (t.channel d).inputs = { (s.channel d).inputs with
      closedSwitch := (s.channel d).closedSwitch.again times, openSwitch := (s.channel d).openSwitch.again times } ∧
    (t.channel d).openValve = false ∧ (t.channel d).closeValve = false ∧
    t.resolver.doors[d] = ⟨false, false, false, a⟩ ∧ t.recorder.doors[d] = ⟨none, ⟨0, 0, 0, 0, 0⟩, false⟩
  kept : ∀ d, keptPresent s.image s.store.staging d = true →
    let y := s.recorder.doors[d]
    (t.door d).still =
      (((s.door d).keptPresent s.store.staging d s.image.doors[d]).proceeds s.store.staging (s.channel d)).still ∧
    Drives (s.channel d) (t.channel d) (s.channel d).openValve (s.channel d).closeValve ∧
    t.resolver.doors[d] = s.resolver.doors[d] ∧
    t.recorder.doors[d] = ⟨y.capture, y.counters, y.counters.exceeds s.store.staging.group.wearThresholds⟩
  neither : ∀ d, s.image.doors[d].present = false → s.store.staging.doors[d].present = false →
    t.door d = s.door d ∧ (t.channel d).inputs = (s.channel d).inputs ∧ t.recorder.doors[d] = s.recorder.doors[d]
  drive : t.recorder.drive = s.recorder.drive
  alloc : t.alloc = (Account.commit s.store.staging s.lines (s.alloc, [])).1
  alarms : t.alarms = AlarmList.takeAll s.store.staging s.time (commitReports s)
    (s.alarms.committed s.image s.store.staging s.time)
  messages : t.inFlight =
    (allDoors.filter (keptPresent s.image s.store.staging)).flatMap (fun d =>
      proceedMessages s.store.staging d (s.channel d)
        ((s.door d).keptPresent s.store.staging d s.image.doors[d])) ++
    (Account.commit s.store.staging s.lines (s.alloc, [])).2.filter (!completes ·)

/-! ### Restart -/

/-- Whether the condition of a LEVEL kind stands for a subject that its owner reports on at a restart; none for any other kind
or subject (R140). -/
def levelStands (s : State) (k : AlarmKind) (x : Subject) : Option Bool :=
  match k, x with
  | .driftOpen, .door d => if (s.door d).present then some (s.door d).drifted else none
  | .travelDrift, .door d => if (s.door d).present then some ((s.door d).travelsOff s.image.doors[d]) else none
  | .wear, .door d =>
    let w := s.recorder.doors[d].counters
    let m := s.image.group.wearThresholds
    if (s.door d).present then
      some (decide (m.overtravel < w.overtravel ∨ m.switch < w.switch ∨ m.obstruction < w.obstruction ∨
        m.drift < w.drift ∨ m.drive < w.drive))
    else none
  | .transitLong, .door d => if (s.door d).present then some false else none
  | .openInhibited, .door d => if (s.door d).present then some s.resolver.doors[d].mark else none
  | .flowShort, .door _ => some false
  | .flowLost, .hpu h =>
    some (s.lines.pressure[h].primed && !s.lines.pressure[h].filtered &&
      decide (∃ d : DoorId, s.image.doors[d].present = true ∧ s.image.doors[d].hpu = h))
  | .onEmergencySupply, .group => some (s.lines.mainSupply.primed && !s.lines.mainSupply.filtered)
  | .emergencyClose, .group => some s.resolver.latch
  | .remoteLost, .group | .lineSilent, .line _ | .lineDegraded, .line _ => some false
  | .addressFallback, .group => some s.port.fallback
  | .configDefault, .group => some s.store.defaultLoaded
  | _, _ => none

/-- Every subject an alarm can have (R122). -/
def allSubjects : List Subject :=
  [.group, .line .a, .line .b] ++ allHpus.map .hpu ++ allDoors.map .door

/-- A condition that stands after a restart and that the record mask does not exclude: one that the alarm list enters if it has
room (R125, R140). -/
def restartEnters (t : State) (k : AlarmKind) (x : Subject) : Bool :=
  levelStands t k x == some true && !(recordMaskable k && inKinds t.image.group.recordMask k)

/-- At most how many entries a restart makes: one for each condition that it enters and that has no entry yet, and one for each
raise still on its way (R125, R140). -/
def restartEntries (s t : State) : Nat :=
  (allAlarmKinds.map fun k =>
    allSubjects.countP fun x => restartEnters t k x && !s.alarms.entries.any (·.isOf k x)).sum +
  s.inFlight.countP fun m => match m with | .alarmRaise .. => true | _ => false

/-- The alarm list after a restart (R140): LATCHED entries kept, each LEVEL entry as its condition stands, and, where the list
has room for all that the restart can raise, an entry for each condition that stands and is not masked. -/
structure Realarmed (s t : State) : Prop where
  latched : ∀ e : Entry, e.kind.latched = true → (e ∈ t.alarms.entries ↔ e ∈ s.alarms.entries)
  level : ∀ e ∈ t.alarms.entries, ∀ b, levelStands t e.kind e.subject = some b → (e.state = .clearedUnack ↔ b = false)
  entered : s.alarms.entries.length + restartEntries s t ≤ 48 → ∀ k x, restartEnters t k x = true →
    ∃ e ∈ t.alarms.entries, e.kind = k ∧ e.subject = x

/-- A line after a restart: as at power-on, but that a reply being sent is cut off by the reset pin alone (R4, R170, R171,
R179; entry 32). -/
def LinePort.afterRestart (interval : Nat) (cause : StartCause) (y : LinePort) : LinePort :=
  { rx := .hunt, buffer := [], gap := false, waiting := none
    reply := match cause with
      | .resetPin => none
      | .powerOn | .restartRequest => y.reply
    checkErrors := 0, framingErrors := 0, silence := if interval = 0 then none else some interval, silent := false
    degraded := false }

/-- What a restart by this cause leaves of the part: filters, group time, the active image and its store write, mode, latch,
flood flags, isolation, marks, captures and counters kept; valves OFF, each door's record as `Door.restarted` and R21 give it;
staging copied; registrations cleared; every granted list and queue empty; the JOINs of the doors that close at once the only
messages between the door table and the resolver or the allocator, but for open-handle release notices, which are kept; the
alarm list as its owners' reports leave it; the line port as at power-on, but for its interval, REMOTE_WAS_LOST and a reply that
only the pin cuts off (R2, R4, R10, R49, R87, R107, R120, R140, R161, R178, R179). -/
structure Restarted (cause : StartCause) (s t : State) : Prop where
  filters : ∀ i, t.filter i = s.filter i
  straps : t.straps = s.straps
  time : t.time = s.time
  pending : t.pending = s.pending
  freeDraws : t.freeDraws = s.freeDraws
  store : t.store = { s.store with staging := s.store.active }
  port : t.port =
    { Port.atPowerOn s.port.interval s.straps with
      remoteWasLost := s.port.remoteWasLost, cause := cause
      lineA := s.port.lineA.afterRestart s.port.interval cause
      lineB := s.port.lineB.afterRestart s.port.interval cause }
  orders : t.resolver.mode = s.resolver.mode ∧ t.resolver.latch = s.resolver.latch ∧ t.resolver.flood = s.resolver.flood
  standing : ∀ d : DoorId, t.resolver.doors[d] =
    ⟨false, s.resolver.doors[d].isolated, s.resolver.doors[d].mark, strongestSource s.image t.resolver d⟩
  flow : (∀ d : DoorId, t.alloc.doors[d] = .out) ∧ ∀ h : HpuId, t.alloc.hpus[h].inUse = 0 ∧
    t.alloc.hpus[h].granted = [] ∧ t.alloc.hpus[h].closeQueue = [] ∧ t.alloc.hpus[h].openQueue = []
  capacity : CapacityInv t
  recorded : (∀ d : DoorId, t.recorder.doors[d].capture = s.recorder.doors[d].capture ∧
    t.recorder.doors[d].counters = s.recorder.doors[d].counters) ∧ t.recorder.drive = s.recorder.drive
  valves : ∀ d : DoorId, (t.channel d).openValve = false ∧ (t.channel d).closeValve = false
  doors : ∀ d : DoorId, (t.door d).changed = true ∧
    (t.door d).still =
      (((s.door d).restarted s.image d (s.channel d) t.resolver.doors[d].reported).proceeds s.image (s.channel d)).still
  messages : ∀ m, discardedAtRestart m = true →
    (m ∈ t.inFlight ↔ ∃ d : DoorId, m ∈ proceedMessages s.image d (s.channel d)
      ((s.door d).restarted s.image d (s.channel d) t.resolver.doors[d].reported))
  notices : ∀ d : DoorId, .openHandleReleaseNotice d ∈ t.inFlight ↔ .openHandleReleaseNotice d ∈ s.inFlight
  alarms : Realarmed s t

end Sys2Proof.Machine
end

