-- ==== Sys2Proof/Certificates/Slice0/Obligations.lean ====
section
/-! DEFINITION. The statements about the part, for the provers. -/

open Sys2Proof Sys2Proof.Machine

/-! ### The machine -/

/-- A step on a queue that is not empty is the front command's meaning on the state with the queue's rest. -/
def Obligations.StepTakesFrontCommand : Prop :=
  ∀ (c : Instr) (s : State), step { s with pending := c :: s.pending } = exec c s

/-- The model's choice (entry 1), with the stroke tick of R50, R53 and R55: on an empty queue the oldest message on
its way is taken, else a request waiting on line A, else one on line B, else a stroke tick passes. At the tick E of
each moving door rises by one, a door whose E would reach D is reported OVERTRAVEL with E equal to D and moves no
longer, and every other door is as it was. -/
def Obligations.IdleStepOrder : Prop :=
  ∀ s : State, s.pending = [] →
    (∀ m ms, s.inFlight = m :: ms → step s = exec m s) ∧
    (s.inFlight = [] → ∀ c, s.port.lineA.waiting = some c → step s = exec c s) ∧
    (s.inFlight = [] → s.port.lineA.waiting = none → ∀ c, s.port.lineB.waiting = some c → step s = exec c s) ∧
    (s.inFlight = [] → s.port.lineA.waiting = none → s.port.lineB.waiting = none →
      ∃ t, step s = .next t ∧ DoorTableOnly s t ∧ ∀ d : DoorId,
        (isMoving (s.door d).motion = false → t.door d = s.door d ∧ t.channel d = s.channel d) ∧
        (isMoving (s.door d).motion = true → (s.door d).elapsed + 1 < (s.door d).deadline →
          t.door d = { s.door d with elapsed := (s.door d).elapsed + 1 } ∧ t.channel d = s.channel d) ∧
        (isMoving (s.door d).motion = true → (s.door d).deadline ≤ (s.door d).elapsed + 1 →
          isMoving (t.door d).motion = false ∧ (t.door d).elapsed = (s.door d).deadline ∧
          .faultReport d .overtravel none false { s.door d with elapsed := (s.door d).deadline }.asReported ∈ t.inFlight))

/-- Reset is power-on with every terminal at 0 V, every strap inactive and no stored image (the model's choice, entries 7, 8
and 21): the values the manual gives for power-on, the default image loaded, and every invariant stated below. That the raise
of CONFIG_DEFAULT is on its way ahead of that of ADDRESS_FALLBACK is its choice too (entry 25). -/
def Obligations.ResetValues : Prop :=
  let s := State.reset
  s.pending = [] ∧ s.image = Image.standard ∧ s.store.staging = Image.standard ∧ s.store.defaultLoaded = true ∧
  s.time = 0 ∧ s.port.address = 31 ∧ s.port.fallback = true ∧ s.resolver.mode = .closed ∧ s.resolver.latch = false ∧
  s.alarms.entries = [] ∧ s.inFlight = [.alarmRaise .configDefault .group, .alarmRaise .addressFallback .group] ∧
  (∀ d : DoorId, (s.door d).motion = .settling ∧ (s.door d).estimate = 500 ∧ (s.door d).learnedClose = 200 ∧
    (s.door d).standing = .central ∧ (s.door d).changed = true ∧ (s.channel d).openValve = false ∧
    (s.channel d).closeValve = false) ∧
  DriveInv s ∧ StrokeInv s ∧ LearnedInv s ∧ IsolationInv s ∧ StandingInv s ∧ FlowInv s ∧ ServedInv s ∧ CapacityInv s ∧
  AlarmInv s ∧ RecorderInv s ∧ PortInv s ∧ WarningInv s ∧ EstimateInv s ∧ FaultedInv s

/-! ### Invariants that every step keeps -/

/-- No step lets a door drive both valves, or a valve other than that of its movement or of its running drive test,
which is OFF while the test's off-check runs; and E of a moving door stays below its deadline, within 10-1200. -/
def Obligations.DriveKept : Prop :=
  ∀ s t : State, DriveInv s → StrokeInv s → step s = .next t →
    DriveInv t ∧ StrokeInv t ∧ ∀ d, ¬((t.channel d).openValve = true ∧ (t.channel d).closeValve = true)

/-- Every learned stroke time stays within 30-600 ticks at every step (R60). -/
def Obligations.LearnedTimesKept : Prop :=
  ∀ s t : State, LearnedInv s → step s = .next t → LearnedInv t

/-- At every step a present door's position estimate stays 0 only while its closed switch is confirmed, 1000 only while
its open switch is, and within 10-990 otherwise. -/
def Obligations.EstimateLawKept : Prop :=
  ∀ s t : State, EstimateInv s → step s = .next t → EstimateInv t

/-- At every step the resolver's last report of each door stays the standing authority its sources give: of a present,
not isolated door EMERGENCY while the latch is set, else CENTRAL in the mode CLOSED, else REMOTE while it is registered, else
NONE, and of any other door NONE. The door table and the resolver stay agreed on which doors are isolated, and no isolated or
absent door holds a registration or a mark. -/
def Obligations.ResolverKept : Prop :=
  ∀ s t : State, IsolationInv s → StandingInv s → step s = .next t → IsolationInv t ∧ StandingInv t

/-- At every step the flow in use of each HPU stays the sum of the demands counted for its granted doors and within
its capacity, each door stays in the one list or class that its standing names, and the first door of the close class
that the capacity can serve at all, or else of the open class, does not fit in what is free. -/
def Obligations.FlowKept : Prop :=
  ∀ s t : State, FlowInv s → ServedInv s → step s = .next t → FlowInv t ∧ ServedInv t

/-- At every step the capacity of each HPU stays the one its filtered pressure line, the filtered main-supply line
and the active image give (R90). -/
def Obligations.CapacityKept : Prop :=
  ∀ s t : State, CapacityInv s → step s = .next t → CapacityInv t

/-- At every step the list keeps at most 48 ordinary entries, one for a kind and subject, and both alarm outputs
stay active exactly while the entries call for them (R134). -/
def Obligations.AlarmListKept : Prop :=
  ∀ s t : State, AlarmInv s → step s = .next t → AlarmInv t

/-- At every step the wear counters stay within 0-65535 and no also-seen set gains its capture's own kind. -/
def Obligations.RecorderKept : Prop :=
  ∀ s t : State, RecorderInv s → step s = .next t → RecorderInv t

/-- At every step that takes no message but one on its way, each door stays faulted exactly while its capture is occupied,
but for notices still on their way to the door table, the last of which says what the capture is; a faulted door is not
in transit, dwells nowhere and warns nowhere (2.12; that a ruling it takes late leaves it so is the model's reading, entry
33); and an ABSENT door has no capture. -/
def Obligations.FaultedFollowsCapture : Prop :=
  ∀ s t : State, FaultedInv s → TakesItsMessage s → step s = .next t → FaultedInv t

/-- At every step a line that holds a request stays CLOSED and sends no reply, a line that sends a reply stays CLOSED or,
after a restart by request, in HUNT (the model's reading, entry 32), the error counters stay within 0-65535, nothing is
supervised at an interval of 0, and the address in use is never the broadcast address. -/
def Obligations.LinePortKept : Prop :=
  ∀ s t : State, PortInv s → step s = .next t → PortInv t

/-- At every step each local warning output stays ON exactly while a row of its table holds. -/
def Obligations.WarningOutputKept : Prop :=
  ∀ s t : State, WarningInv s → step s = .next t → WarningInv t

/-! ### Rules over every command -/

/-- A door whose change flag is clear after a command other than DOOR_STATUS had it clear before, and its indicated
state, its faulted flag and its transit flag are as they were: no such change is lost. -/
def Obligations.ChangeIsNeverLost : Prop :=
  ∀ (c : Instr) (s t : State) (d : DoorId), (∀ r, c ≠ .doorStatus r) → exec c s = .next t →
    (t.door d).changed = false →
    (s.door d).changed = false ∧ indicated (t.door d) (t.channel d) = indicated (s.door d) (s.channel d) ∧
    (t.door d).faulted = (s.door d).faulted ∧ (t.door d).transit = (s.door d).transit

/-- The emergency latch goes from set to clear only by an EMERGENCY_RELEASE taken while the filtered emergency-close
line is inactive, or at power-on. -/
def Obligations.LatchReleasedOnlyByRelease : Prop :=
  ∀ (c : Instr) (s t : State), s.resolver.latch = true → exec c s = .next t → t.resolver.latch = false →
    c = .powerOn ∨ ∃ r, c = .emergencyRelease r ∧ s.lines.emergency.filtered = false

/-- Messages of one way are taken in the order in which they were made: a command that takes a message does what it does
after the command that takes the oldest message ahead of it on its way. That such a command takes the older ones first is
the model's reading (entry 2), and which messages share a way is entry 4's. -/
def Obligations.MessagesKeepTheirOrder : Prop :=
  ∀ (m o : Instr) (s t : State) (older younger : List Instr), s.inFlight = older ++ o :: younger → m ∉ older → m ≠ o →
    (route? m).isSome = true → route? o = route? m → (∀ x ∈ older, route? x ≠ route? m) → exec o s = .next t →
    exec m s = exec m t

/-- A request taken while no message is on its way leaves none on its way that completes before the reply: every
standing-authority report, fault report, capture notice and alarm message that it causes, in any number of turns,
has been taken when the reply is composed. Which messages those are is the model's reading (entry 3). -/
def Obligations.RequestCompletesItsMessages : Prop :=
  ∀ (kind : Byte) (r : Req) (s t : State), kind.toNat < 0x80 → Waits s (decodeRequest kind r) r → s.inFlight = [] →
    exec (decodeRequest kind r) s = .next t → ∀ m ∈ t.inFlight, completes m = false

/-- A request whose reply says REFUSED has changed nothing in any block: all it has done is to be answered. The first two
checks of a request: a kind the table does not list is answered UNKNOWN_KIND, and a listed kind with a body length that
its row does not give BAD_LENGTH. -/
def Obligations.RefusalsChangeNothing : Prop :=
  ∀ (kind : Byte) (r : Req) (s : State), kind.toNat < 0x80 → Waits s (decodeRequest kind r) r →
    (∀ (t : State) (reason : Reason) (data : List Byte), exec (decodeRequest kind r) s = .next t →
      Answered s.port r kind (some reason) data t → OnlyPort s t ∧ t.inFlight = s.inFlight) ∧
    (bodyLengths kind = none →
      ∃ t, exec (decodeRequest kind r) s = .next t ∧ Answered s.port r kind (some .unknownKind) [] t ∧
        OnlyPort s t ∧ t.inFlight = s.inFlight) ∧
    (∀ lens, bodyLengths kind = some lens → r.body.length ∉ lens →
      ∃ t, exec (decodeRequest kind r) s = .next t ∧ Answered s.port r kind (some .badLength) [] t ∧
        OnlyPort s t ∧ t.inFlight = s.inFlight)

/-! ### Wires and filters -/

/-- A voltage change at a filtered terminal: raw ACTIVE above 15 V, INACTIVE below 6 V, kept between. Where the raw
value changes, a primed filter stops or starts its pending timer and an unprimed one starts its first interval
again, with the assert or release time of its group; the filtered value, every other filter and every block stay as they
are. A change at an address, parity or rate strap moves that strap alone by the same two levels (the model's choice, entry
17). The expiry of a primed filter's pending timer sets its filtered value to the timer's target and leaves the timer idle;
where no timer runs nothing changes (the model's choice, entry 5). The expiry of a first interval sets the filtered value
to the raw value and primes the filter. The filter's other values and every other filter stay as they are. The times are those
that the group record gives for end switches, handles, leaf edges and group lines, 2 steps for a readback and 5 for the reset
pin. -/
def Obligations.FiltersAndStraps : Prop :=
  (∀ (g : GroupRecord) (d : DoorId) (h : HpuId),
    (∀ k ∈ [DoorInput.closedSwitch, .openSwitch], inputTimes g (.door d k) = g.endTimes) ∧
    (∀ k ∈ [DoorInput.openHandle, .closeHandle], inputTimes g (.door d k) = g.handleTimes) ∧
    inputTimes g (.door d .leafEdge) = g.edgeTimes ∧
    (∀ k ∈ [DoorInput.openReadback, .closeReadback], inputTimes g (.door d k) = ⟨2, 2⟩) ∧
    (∀ i ∈ [InputId.emergency, .mainSupply, .pressure h], inputTimes g i = g.lineTimes) ∧
    inputTimes g .resetPin = ⟨5, 5⟩) ∧
  (∀ (i : InputId) (millivolts : Nat) (s : State),
    ∃ t, exec (.rawInputChange (.input i) millivolts) s = .next t ∧ t = s.withFilter i (t.filter i) ∧
      (t.filter i).millivolts = millivolts ∧
      (t.filter i).filtered = (s.filter i).filtered ∧ (t.filter i).primed = (s.filter i).primed ∧
      (t.filter i).raw = (if 15000 < millivolts then true else if millivolts < 6000 then false else (s.filter i).raw) ∧
      ((t.filter i).raw = (s.filter i).raw →
        (t.filter i).pending = (s.filter i).pending ∧ (t.filter i).first = (s.filter i).first) ∧
      ((t.filter i).raw ≠ (s.filter i).raw →
        let time := if (t.filter i).raw then (inputTimes s.image.group i).assert else (inputTimes s.image.group i).release
        ((s.filter i).primed = true → (t.filter i).first = (s.filter i).first ∧
          (t.filter i).pending =
            if (t.filter i).raw = (s.filter i).filtered then none else some ⟨(t.filter i).raw, time⟩) ∧
        ((s.filter i).primed = false →
          (t.filter i).pending = (s.filter i).pending ∧ (t.filter i).first = some time))) ∧
  (∀ (w : Wire) (millivolts : Nat) (s : State), (∀ i, w ≠ .input i) →
    let moved := fun was : Bool => if 15000 < millivolts then true else if millivolts < 6000 then false else was
    ∃ t, exec (.rawInputChange w millivolts) s = .next t ∧ t = { s with straps := t.straps } ∧
      (∀ k : Fin 5, t.straps.address.getLsbD k.val =
        if w = .addressStrap k then moved (s.straps.address.getLsbD k.val) else s.straps.address.getLsbD k.val) ∧
      t.straps.parity = (if w = .parityStrap then moved s.straps.parity else s.straps.parity) ∧
      t.straps.rate = (if w = .rateStrap then moved s.straps.rate else s.straps.rate)) ∧
  (∀ (i : InputId) (s : State),
     (∀ p, (s.filter i).primed = true → (s.filter i).pending = some p →
       ∃ t, exec (.filterExpiry i) s = .next t ∧
         t.filter i = { s.filter i with filtered := p.target, pending := none } ∧
         (∀ j, j ≠ i → t.filter j = s.filter j) ∧ t.store.stored = s.store.stored ∧ t.straps = s.straps ∧
         t.time = s.time ∧ t.pending = s.pending ∧ t.freeDraws = s.freeDraws) ∧
     ((s.filter i).primed = false ∨ (s.filter i).pending = none → exec (.filterExpiry i) s = .next s)) ∧
  (∀ (i : InputId) (s : State), (s.filter i).first.isSome = true →
     ∃ t, exec (.firstIntervalExpiry i) s = .next t ∧
       t.filter i = { s.filter i with filtered := (s.filter i).raw, primed := true, first := none } ∧
       (∀ j, j ≠ i → t.filter j = s.filter j) ∧ t.store = s.store ∧ t.straps = s.straps ∧ t.port = s.port ∧
       t.recorder = s.recorder ∧ t.alarms = s.alarms ∧ t.time = s.time ∧ t.pending = s.pending ∧
       t.freeDraws = s.freeDraws)

/-- The confirm of a stroke's target end: the door rests there with the end's estimate, its valve OFF, its flow released and
its held flag false. A full stroke is recorded with its measured time and learned where that lies within half and twice the
learned time, after which TRAVEL_DRIFT is evaluated and reported where it changes; any other stroke leaves the learned times
and the last stroke alone. An arrival at CLOSED ends transit and drift and is notified to the resolver. A door that arrives
OPEN unfaulted, under an order and out of transit starts its close at once. The order of the messages is the model's choice
(entry 25): at CLOSED the clear of DRIFT_OPEN, then RELEASE, TRAVEL_DRIFT, the arrival notice and the clear of TRANSIT_LONG. -/
def Obligations.ArrivalEndsStroke : Prop :=
  ∀ (s : State) (d : DoorId) (dir : Dir) (p : Pending),
    let r := s.door d
    let input : DoorInput := match dir with | .cls => .closedSwitch | .opn => .openSwitch
    let u := s.withFilter (.door d input) { s.filter (.door d input) with filtered := true, pending := none }
    let i := s.image
    let c := u.channel d
    let there := (r.switched dir true).arrived i d c
    r.motion = movingMotion dir → r.dir = dir → (s.filter (.door d input)).primed = true →
    (s.filter (.door d input)).pending = some p → p.target = true → (s.channel d).endActive dir.flip = false →
    ∃ t, exec (.filterExpiry (.door d input)) s = .next t ∧
      there.motion = endMotion dir ∧ there.estimate = endEstimate dir ∧ there.held = false ∧
      there.transit = (r.transit && dir == .opn) ∧ there.drifted = (r.drifted && dir == .opn) ∧
      Leaves d u t (there.proceeds i c) (c.openValve && dir == .cls) (c.closeValve && dir == .opn)
        (switchMessages dir true d r ++ arrivalMessages i d c (r.switched dir true) ++ proceedMessages i d c there)

/-- End-switch events but for the confirm of a stroke's target end alone (R32's arrival). At rest: a drift from CLOSED, the
loss of OPEN, a STOPPED or waiting door that reaches an end, and a door of which one switch releases; a conflict of both
switches, reported and brought to rest. At a moving door: a wrong end switch, a conflict, or both in one report, each ending
the stroke; a release changes nothing. At a SETTLING door: the estimate moves off an end, a conflict is noted, and the second
filter to report primed ends settling, a conflict then reported unless it was. At an ISOLATED door: the estimate alone. A
confirm ends an edge wait of a stationary door. The closed switch's confirm ends a drift and its release the tight latch. An
ABSENT door takes none. The model's readings are the held flag that a door keeps as it comes to rest from its queue (entry 12),
and that a door may be due before the recorder's notice of a report arrives (entry 26); the order of the messages of one event
is its choice (entry 25): the clear of DRIFT_OPEN that the closed switch's confirm makes ahead of all others, then a report,
RELEASE or WITHDRAW, and the clear of TRANSIT_LONG. -/
def Obligations.EndSwitchEvents : Prop :=
  ∀ (s : State) (d : DoorId) (e : Dir) (c : Instr) (f : Filter),
    let input : DoorInput := match e with | .cls => .closedSwitch | .opn => .openSwitch
    let u := s.withFilter (.door d input) f
    let ch := u.channel d
    let i := s.image
    let old := s.door d
    let r := old.switched e f.filtered
    let both := ch.closedSwitch.filtered && ch.openSwitch.filtered
    let primes := decide (c = .firstIntervalExpiry (.door d input))
    let becomes := fun (t : State) (r' : Door) (ms : List Instr) =>
      LeavesUndriven d u t (r'.proceeds i ch) (switchMessages e f.filtered d old ++ ms ++ proceedMessages i d ch r')
    let conflict : Instr := .faultReport d .switchConflict none false r.asReported
    let ended := fun (t : State) (k : FaultKind) (second : Option FaultKind) =>
      let rested := (r.strokeOver i ch).atRest ch
      Leaves d u t (rested.proceeds i ch) (if r.dir = .opn then false else ch.openValve)
        (if r.dir = .cls then false else ch.closeValve)
        (switchMessages e f.filtered d old ++ [.faultReport d k second false r.asReported, .release d] ++
          restMessages d ch r ++ proceedMessages i d ch rested)
    let ready := old.motion ≠ .settling
    let woken : Door := { r with edgeWait := .none, edgeTimer := none }
    (Delivers s c (.door d input) f → ready → ∃ t, exec c s = .next t ∧
      (r.motion = .absent → LeavesUndriven d u t old []) ∧
      (r.motion = .isolated → becomes t
        { r with estimate := if ch.restsAt .cls then 0 else if ch.restsAt .opn then 1000 else clamp 10 990 r.estimate } []) ∧
      (r.motion = .opening ∨ r.motion = .closing →
        (f.filtered = false → becomes t r []) ∧
        (f.filtered = true → e = r.dir → both = true → ended t .switchConflict none) ∧
        (f.filtered = true → e ≠ r.dir → both = true → ended t .switchConflict (some .switchSequence)) ∧
        (f.filtered = true → e ≠ r.dir → both = false → ended t .switchSequence none)) ∧
      (f.filtered = true → both = true → r.motion ≠ .absent → r.motion ≠ .isolated → isMoving r.motion = false →
        becomes t (r.atRest ch) (conflict :: if r.motion = .queued then [.withdraw d] else [])) ∧
      (f.filtered = true → both = false →
        (r.motion = .closed ∨ r.motion = .opened → becomes t woken []) ∧
        (r.motion = .stopped → becomes t (r.atRest ch) (restMessages d ch r)) ∧
        (r.motion = .warning ∨ r.motion = .dwell →
          (e = .cls → becomes t (r.atRest ch) (restMessages d ch r)) ∧
          (e = .opn → becomes t { woken with estimate := 1000 } [])) ∧
        (r.motion = .queued →
          (e = r.dir → becomes t (r.atRest ch) (.withdraw d :: restMessages d ch r)) ∧
          (e ≠ r.dir → becomes t { woken with estimate := match e with | .cls => 0 | .opn => 1000 } []))) ∧
      (f.filtered = false →
        (r.motion = .closed → e = .cls → becomes t { r with motion := .stopped, estimate := 10, drifted := true }
          [.alarmRaise .driftOpen (.door d), .driftNotice d]) ∧
        (r.motion = .opened → e = .opn → becomes t { r with motion := .stopped, estimate := 990 } []) ∧
        (r.motion = .stopped → ch.endActive e.flip = true → becomes t (r.atRest ch) (restMessages d ch r)) ∧
        (r.motion = .stopped → ch.endActive e.flip = false → becomes t (r.offEnd e) []) ∧
        (r.motion = .warning ∨ r.motion = .dwell → e = .opn → becomes t { r with estimate := 990 } []) ∧
        (r.motion = .queued → e ≠ r.dir → becomes t { r with estimate := match e with | .cls => 10 | .opn => 990 } []) ∧
        (r.motion = .closed ∧ e = .opn ∨ r.motion = .opened ∧ e = .cls ∨
          (r.motion = .warning ∨ r.motion = .dwell) ∧ e = .cls ∨ r.motion = .queued ∧ e = r.dir →
          becomes t (r.offEnd e) []))) ∧
    (Delivers s c (.door d input) f → ¬ready → primes = false → ∃ t, exec c s = .next t ∧
      LeavesUndriven d u t (old.settling e f.filtered both) (settlingMessages e f.filtered both d old)) ∧
    (FilterEnds s c (.door d input) f → ¬ready → primes = true →
      let changes := f.filtered != (s.filter (.door d input)).filtered
      let x := if changes then old.settling e f.filtered both else old
      let ms := if changes then settlingMessages e f.filtered both d old else []
      let noted : Door := { x with settle := match e with
        | .cls => { x.settle with closedPrimed := true }
        | .opn => { x.settle with openPrimed := true } }
      let found := both && !noted.settle.conflict
      ∃ t, exec c s = .next t ∧
        ((noted.settle.closedPrimed && noted.settle.openPrimed) = false → LeavesUndriven d u t noted ms) ∧
        ((noted.settle.closedPrimed && noted.settle.openPrimed) = true →
          LeavesUndriven d u t ((noted.atRest ch).proceeds i ch)
            (ms ++ (if found then [.faultReport d .switchConflict none false noted.asReported] else []) ++
              restMessages d ch noted ++ proceedMessages i d ch (noted.atRest ch))))

/-- Handle and leaf-edge events. The confirm of a handle is referred with the door's faulted flag, unless the door is SETTLING,
ISOLATED or ABSENT. A leaf edge that confirms under a closing door whose edge is enabled ends the stroke with an obstruction
notice and leaves the door STOPPED, in an edge wait where the movement was ordered and an order stands; the edge's release then
starts the edge-clear timer, and its confirm stops that again. Any other event of an enabled edge, and every event of one that
is not enabled, changes nothing. That an obstructed door without an edge wait may be due is the model's reading (entry 26), and
the order of RELEASE and the obstruction notice its choice (entry 25). -/
def Obligations.HandleAndEdgeEvents : Prop :=
  ∀ (s : State) (d : DoorId) (k : DoorInput) (e : Instr) (f : Filter),
    let u := s.withFilter (.door d k) f
    let r := s.door d
    let c := u.channel d
    let i := s.image
    let serves := r.motion ≠ .settling ∧ r.motion ≠ .isolated ∧ r.motion ≠ .absent
    let stopped := r.obstructed i c
    let unmoved := fun t => LeavesUndriven d u t (r.proceeds i c) (proceedMessages i d c r)
    Delivers s e (.door d k) f →
    ∃ t, exec e s = .next t ∧
      (∀ handle : Dir, k = (match handle with | .opn => .openHandle | .cls => .closeHandle) → f.filtered = true →
        (serves → LeavesUndriven d u t (r.proceeds i c)
          (.handleReferral d handle r.faulted :: proceedMessages i d c r)) ∧
        (¬serves → LeavesUndriven d u t r [])) ∧
      (k = .leafEdge → i.doors[d].edgeEnable = true →
        (f.filtered = true → r.motion = .closing →
          Leaves d u t (stopped.proceeds i c) (if r.dir = .opn then false else c.openValve)
            (if r.dir = .cls then false else c.closeValve)
            ([.release d, .obstructionNotice d] ++ proceedMessages i d c stopped)) ∧
        (f.filtered = true → r.motion ≠ .closing → r.edgeWait = .clearing →
          LeavesUndriven d u t { r with edgeWait := .edgeHeld, edgeTimer := none } []) ∧
        (f.filtered = true → r.motion ≠ .closing → r.edgeWait ≠ .clearing → unmoved t) ∧
        (f.filtered = false → r.edgeWait = .edgeHeld →
          LeavesUndriven d u t { r with edgeWait := .clearing, edgeTimer := some i.group.edgeClear } []) ∧
        (f.filtered = false → r.edgeWait ≠ .edgeHeld → unmoved t)) ∧
      (k = .leafEdge → i.doors[d].edgeEnable = false → unmoved t)

/-- The release of a handle ends a held movement of its direction: its stroke with the flow released, or its wait with a
WITHDRAW; an opening in transit then enters DWELL, any other comes to rest. An OPEN or STOPPED door in transit enters DWELL at
the open handle's release. Every other door is as it was. An open handle's release of a present door is passed on to the
resolver. A TRANSIT_OPEN, HOLD_OPEN or HOLD_CLOSE that finds its handle INACTIVE does what the ruling asks and what that
release asks at once. The model's are the held flag that a door keeps as it leaves its queue (entry 12) and the edge wait that
it keeps into DWELL (entry 23), and of such a ruling a reversal onto a confirmed end (entry 13), an obstructed door without an
edge wait that is due (26), a movement that needs no stroke (27), a TRANSIT_OPEN that finds its door faulted (33) and a
reversal that arrives under an active edge (35). The order of the messages is its choice (entry 25), an open handle's notice
behind those that the release ends a movement with. -/
def Obligations.HandleReleases : Prop :=
  (∀ (s : State) (d : DoorId) (handle : Dir) (e : Instr) (f : Filter),
    let input : DoorInput := match handle with | .opn => .openHandle | .cls => .closeHandle
    let u := s.withFilter (.door d input) f
    let c := u.channel d
    let i := s.image
    let r := s.door d
    let stops := isMoving r.motion && r.endsBy handle
    Delivers s e (.door d input) f → f.filtered = false →
    ∃ t, exec e s = .next t ∧
      (r.motion = .absent → LeavesUndriven d u t r []) ∧
      (r.motion ≠ .absent →
        Leaves d u t ((r.released handle i c).proceeds i c) (c.openValve && !(stops && r.dir == .opn))
          (c.closeValve && !(stops && r.dir == .cls))
          (releaseMessages handle d c r ++ (if handle = .opn then [.openHandleReleaseNotice d] else []) ++
            proceedMessages i d c (r.released handle i c)))) ∧
  (∀ (s : State) (d : DoorId) (ruling : Ruling) (handle : Dir),
    let m : Instr := .handleRuling d ruling
    let c := s.channel d
    let i := s.image
    let r := if ruling = .transitOpen then (s.door d).entersTransit i else s.door d
    let ends := fun (t : State) (x : Door) (openOn closeOn : Bool) (ms : List Instr) =>
      let y := x.released handle i c
      let z := y.afterRuling i c ruling (s.door d)
      Leaves d (s.taking m) t (z.proceeds i c) openOn closeOn
        (ms ++ releaseMessages handle d c x ++ afterRulingMessages d ruling (s.door d) y ++ proceedMessages i d c z)
    let endsUndriven := fun (t : State) (x : Door) (ms : List Instr) => ends t x c.openValve c.closeValve ms
    let turned := r.reversedTo i d c handle .local_ true
    FirstOnItsWay s m →
    ((ruling = .holdOpen ∨ ruling = .transitOpen) ∧ handle = .opn ∧ c.openHandle.filtered = false ∨
     ruling = .holdClose ∧ handle = .cls ∧ c.closeHandle.filtered = false) →
    ∃ t, exec m s = .next t ∧
      (r.motion = .settling ∨ r.motion = .isolated ∨ r.motion = .absent →
        LeavesUndriven d (s.taking m) t (s.door d) []) ∧
      (r.motion = endMotion handle → endsUndriven t r []) ∧
      (r.motion = endMotion handle.flip ∨ r.motion = .stopped ∨ r.motion = .warning ∨ r.motion = .dwell →
        endsUndriven t (r.startsMove c handle .local_ true) (moveMessages d c handle r)) ∧
      (r.motion = .queued → r.dir = handle → endsUndriven t { r with held := true } []) ∧
      (r.motion = movingMotion handle → r.dir = handle →
        ends t { r with held := true } (c.openValve && handle != .opn) (c.closeValve && handle != .cls) []) ∧
      (r.motion = .queued → r.dir = handle.flip →
        (c.restsAt handle = true → endsUndriven t (r.atRest c) (.withdraw d :: restMessages d c r)) ∧
        (c.restsAt handle = false →
          endsUndriven t { r with dir := handle, authority := .local_, held := true } [.withdraw d, .join d handle])) ∧
      (r.motion = movingMotion handle.flip → r.dir = handle.flip →
        (c.endActive handle = false → edgeMeets i d c handle = false → ends t turned false false [.reversed d handle]) ∧
        (c.endActive handle = false → edgeMeets i d c handle = true →
          ends t (turned.obstructed i c) false false [.reversed d handle, .release d, .obstructionNotice d]) ∧
        (c.restsAt handle = true →
          ends t (turned.arrived i d c) false false (.reversed d handle :: arrivalMessages i d c turned)) ∧
        (c.endActive handle = true → c.endActive handle.flip = true →
          ends t ((turned.strokeOver i c).atRest c) false false
            [.reversed d handle, .faultReport d .switchConflict none false turned.asReported, .release d])))

/-- A confirm of the emergency-close line, that of its first interval too: a clear latch becomes set, EMERGENCY_CLOSE is
raised, and every present door that is not isolated is reported EMERGENCY; a latch that is set already stays so and nothing
is reported. A release changes nothing but the filter. The order of the reports is the model's choice (entry 25). -/
def Obligations.EmergencyLineConfirm : Prop :=
  ∀ (s : State) (c : Instr) (f : Filter), StandingInv s → Delivers s c .emergency f →
    ∃ t, exec c s = .next t ∧ OnlyResolver (s.withFilter .emergency f) t ∧
      (f.filtered = false ∨ s.resolver.latch = true → t.resolver = s.resolver ∧ t.inFlight = s.inFlight) ∧
      (f.filtered = true → s.resolver.latch = false →
        t.resolver.latch = true ∧ t.resolver.mode = s.resolver.mode ∧ t.resolver.flood = s.resolver.flood ∧
        (∀ d : DoorId, t.resolver.doors[d] =
          { s.resolver.doors[d] with
            reported := if s.image.doors[d].present && !s.resolver.doors[d].isolated then .emergency else .none }) ∧
        t.inFlight = s.inFlight ++ .alarmRaise .emergencyClose .group ::
          (allDoors.filter fun d => s.image.doors[d].present && !s.resolver.doors[d].isolated).map
            fun d => .standingAuthorityReport d .emergency)

/-- A confirm or release of a pressure line or of the main-supply line. The capacity of that HPU, or of each, is computed from
R90's table; where it has changed, doors are taken back from the tail of the granted list until the flow in use fits, each
placed by its standing; where any has changed, the queues are then served, and FLOW_SHORT is evaluated for every door.
FLOW_LOST, or ON_EMERGENCY_SUPPLY, is evaluated then, and at the end of a first interval that changes no value too. That every
queue is served, and none before the last capacity has been computed, is the model's reading (entry 16), and the order of the
HPUs and that of the messages, the alarms' kinds among them, are its choice (entry 25). -/
def Obligations.CapacityChanges : Prop :=
  ∀ (s : State) (c : Instr) (f : Filter), FlowInv s →
    (∀ h : HpuId,
      let u := s.withFilter (.pressure h) f
      (Delivers s c (.pressure h) f → ∃ t, exec c s = .next t ∧
        Accounted u t (Account.lost s.image u.lines h (Account.capacities s.image.group u.lines [h] (s.alloc, [])))) ∧
      (FilterEnds s c (.pressure h) f → ¬Delivers s c (.pressure h) f → ∃ t, exec c s = .next t ∧
        Accounted u t (Account.lost s.image u.lines h (s.alloc, [])))) ∧
    (let u := s.withFilter .mainSupply f
     (Delivers s c .mainSupply f → ∃ t, exec c s = .next t ∧
       Accounted u t (Account.supply u.lines (Account.capacities s.image.group u.lines allHpus (s.alloc, [])))) ∧
     (FilterEnds s c .mainSupply f → ¬Delivers s c .mainSupply f → ∃ t, exec c s = .next t ∧
       Accounted u t (Account.supply u.lines (s.alloc, []))))

/-! ### Timers of the door table -/

/-- A valve's drive check. An event of its readback, and the end of the readback's first interval, bring the check up to date:
idle with its reported flag cleared where the readback agrees with the valve, started with the drive-settle time where it
differs, unless it runs or the difference is reported; the check of an ABSENT door, of one in its drive test and of an unprimed
readback stays as it is. The expiry of the check timer: the mismatch is registered and reported with the commanded level, and
where the door's drive-check flag is on a DRIVE_FAULT follows, which ends the stroke of a moving door and brings it to rest.
The order of the report, RELEASE and the clear of TRANSIT_LONG is the model's choice (entry 25). -/
def Obligations.DriveChecks : Prop :=
  (∀ (s : State) (d : DoorId) (v : Dir) (e : Instr) (f : Filter),
    let input : DoorInput := match v with | .opn => .openReadback | .cls => .closeReadback
    let u := s.withFilter (.door d input) f
    let c := u.channel d
    let x := (s.door d).valveAt s.image c v (c.valve v)
    FilterEnds s e (.door d input) f →
    ∃ t, exec e s = .next t ∧ LeavesUndriven d u t (x.proceeds s.image c) (proceedMessages s.image d c x)) ∧
  (∀ (s : State) (d : DoorId) (v : Dir), ((s.door d).check v).timer.isSome = true →
    let r := (s.door d).withCheck v ⟨none, true⟩
    let c := s.channel d
    let mismatch : Instr := .mismatchReport d v (c.valve v)
    let fault : Instr := .faultReport d .driveFault none false (s.door d).asReported
    ((s.image.doors[d].driveCheck = false ∨ isMoving r.motion = false) →
      ∃ t, exec (.checkTimerExpiry d v) s = .next t ∧
        LeavesUndriven d s t (r.proceeds s.image c)
          (mismatch :: (if s.image.doors[d].driveCheck then [fault] else []) ++ proceedMessages s.image d c r)) ∧
    (s.image.doors[d].driveCheck = true → isMoving r.motion = true →
      let rested := (r.strokeOver s.image c).atRest c
      ∃ t, exec (.checkTimerExpiry d v) s = .next t ∧
        Leaves d s t (rested.proceeds s.image c) (if r.dir = .opn then false else c.openValve)
          (if r.dir = .cls then false else c.closeValve)
          ([mismatch, fault, .release d] ++ restMessages d c r ++ proceedMessages s.image d c rested)))

/-- DRIVE_TEST starts the open phase: valve ON, hold and on-check timers
running, the continuous check suspended; a door index above 23 is refused, as is a door that is not isolated and one
whose test runs. In each phase: The valve goes OFF, and the off-check starts, once the hold has expired and the
on-check has passed, in either order. A readback that differs at a check ends the test as failed in its phase, with
both valves OFF, the continuous check resumed and the mismatch reported with the level expected. A passed open phase
starts the close phase, and a passed close phase ends the test. -/
def Obligations.DriveTest : Prop :=
  (∀ (s : State) (r : Req) (b : Byte), Waits s (.driveTest r) r → r.body = [b] →
     (24 ≤ b.toNat → ∃ t, exec (.driveTest r) s = .next t ∧ Answered s.port r 0x10 (some .badValue) [] t ∧
       OnlyPort s t ∧ t.inFlight = s.inFlight) ∧
     ∀ d : DoorId, d.val = b.toNat →
       ((s.door d).motion ≠ .isolated → ∃ t, exec (.driveTest r) s = .next t ∧
         Answered s.port r 0x10 (some .notIsolated) [] t ∧ OnlyPort s t ∧ t.inFlight = s.inFlight) ∧
       ((s.door d).motion = .isolated → (s.door d).testResult = .running → ∃ t, exec (.driveTest r) s = .next t ∧
         Answered s.port r 0x10 (some .busy) [] t ∧ OnlyPort s t ∧ t.inFlight = s.inFlight) ∧
       ((s.door d).motion = .isolated → (s.door d).testResult ≠ .running →
         ∃ t, exec (.driveTest r) s = .next t ∧ Answered s.port r 0x10 none [] t ∧
           Leaves d s { t with port := s.port }
             { s.door d with
               testResult := .running, openCheck := .idle, closeCheck := .idle
               test := some ⟨.opn, s.image.group.driveSettle, true, true, false, false⟩ }
             true (s.channel d).closeValve [])) ∧
  (∀ (s : State) (d : DoorId) (x : TestRun), (s.door d).motion = .isolated → (s.door d).test = some x →
     let r := s.door d
     let c := s.channel d
     let active := (c.readback x.phase).filtered
     let openOff := if x.phase = .opn then false else c.openValve
     let closeOff := if x.phase = .cls then false else c.closeValve
     let ended := fun result : TestResult =>
       ({ r with testResult := result, test := none }.valveAt s.image c .opn false).valveAt s.image c .cls false
     let failed : TestResult := match x.phase with | .opn => .failOpen | .cls => .failClose
     (x.hold = true → x.onPassed = false → ∃ t, exec (.driveTestHoldExpiry d) s = .next t ∧
       LeavesUndriven d s t { r with test := some { x with hold := false } } []) ∧
     (x.hold = true → x.onPassed = true → ∃ t, exec (.driveTestHoldExpiry d) s = .next t ∧
       Leaves d s t { r with test := some { x with hold := false, offCheck := true } } openOff closeOff []) ∧
     (x.onCheck = true → active = true → x.hold = true → ∃ t, exec (.driveTestOnCheckExpiry d) s = .next t ∧
       LeavesUndriven d s t { r with test := some { x with onCheck := false, onPassed := true } } []) ∧
     (x.onCheck = true → active = true → x.hold = false → ∃ t, exec (.driveTestOnCheckExpiry d) s = .next t ∧
       Leaves d s t { r with test := some { x with onCheck := false, onPassed := true, offCheck := true } }
         openOff closeOff []) ∧
     (x.onCheck = true → active = false → ∃ t, exec (.driveTestOnCheckExpiry d) s = .next t ∧
       Leaves d s t (ended failed) false false [.mismatchReport d x.phase true]) ∧
     (x.offCheck = true → active = true → ∃ t, exec (.driveTestOffCheckExpiry d) s = .next t ∧
       Leaves d s t (ended failed) false false [.mismatchReport d x.phase false]) ∧
     (x.offCheck = true → active = false → x.phase = .opn → ∃ t, exec (.driveTestOffCheckExpiry d) s = .next t ∧
       Leaves d s t { r with test := some ⟨.cls, x.settle, true, true, false, false⟩ } c.openValve true []) ∧
     (x.offCheck = true → active = false → x.phase = .cls → ∃ t, exec (.driveTestOffCheckExpiry d) s = .next t ∧
       Leaves d s t (ended .pass) false false []))

/-- The timers of a door. A warning that runs out starts the close under the standing authority; a dwell that runs out starts a
close, with a warning where the warning time is above 0; a clear edge that has held for its time ends the edge wait; and a
transit past its limit raises TRANSIT_LONG and sets the door's mark. At the deadline of a stroke OVERTRAVEL is reported with E
equal to D and the estimate as it then stands, the stroke ends and the door comes to rest by its switches, whether it is held
or faulted or neither. That the command sets E to D is the model's reading (entry 6), and so are the direction, motion
authority and held flag that a door resting CLOSED already keeps (entry 27) and the end of an edge wait, kept into DWELL, at
the close that follows (entry 23), while LOCAL for a close that finds no standing authority is its choice (entry 28), and so is
the order of the report, RELEASE and the clear of TRANSIT_LONG (entry 25). -/
def Obligations.DoorTimersExpire : Prop :=
  (∀ (s : State) (d : DoorId),
    let r := s.door d
    let c := s.channel d
    (r.motion = .warning → r.warningTimer.isSome = true → ∃ t, exec (.warningTimerExpiry d) s = .next t ∧
      LeavesUndriven d s t (r.startsMove c .cls r.standing.motion false) (moveMessages d c .cls r)) ∧
    (r.motion = .dwell → r.dwellTimer.isSome = true → ∃ t, exec (.dwellTimerExpiry d) s = .next t ∧
      LeavesUndriven d s t (r.startsClose s.image c) (closeMessages s.image d c r)) ∧
    (r.edgeWait = .clearing → r.edgeTimer.isSome = true →
      let waited : Door := { r with edgeWait := .none, edgeTimer := none }
      ∃ t, exec (.edgeClearTimerExpiry d) s = .next t ∧
        LeavesUndriven d s t (waited.proceeds s.image c) (proceedMessages s.image d c waited)) ∧
    (r.transitTimer.isSome = true → r.transit = true →
      ∃ t, exec (.transitLimitExpiry d) s = .next t ∧
        LeavesUndriven d s t { r with transitTimer := none, transitLong := true }
          [.alarmRaise .transitLong (.door d)])) ∧
  (∀ (s : State) (d : DoorId), isMoving (s.door d).motion = true →
    let c := s.channel d
    let late : Door := { s.door d with elapsed := (s.door d).deadline }
    let rested := (late.strokeOver s.image c).atRest c
    ∃ t, exec (.deadlineExpiry d) s = .next t ∧
      Leaves d s t (rested.proceeds s.image c) (if late.dir = .opn then false else c.openValve)
        (if late.dir = .cls then false else c.closeValve)
        ([.faultReport d .overtravel none false late.asReported, .release d] ++ restMessages d c late ++
          proceedMessages s.image d c rested))

/-- Group time rises by one at each second, from its maximum to 0, and a TIME_SET addressed to the part or to
broadcast sets it to the four bytes given, high byte first; a broadcast has no reply. Nothing else changes. -/
def Obligations.GroupTimeCountsAndIsSet : Prop :=
  (∀ s : State, ∃ t, exec .groupTimeSecond s = .next t ∧ t = { s with time := t.time } ∧
    t.time.toNat = (s.time.toNat + 1) % 4294967296) ∧
  (∀ (s : State) (r : Req) (b3 b2 b1 b0 : Byte), Waits s (.timeSet r) r → r.body = [b3, b2, b1, b0] →
    ∃ t, exec (.timeSet r) s = .next t ∧ Answered s.port r 0x18 none [] t ∧ t = { s with time := t.time, port := t.port } ∧
      t.time.toNat = b3.toNat * 16777216 + b2.toNat * 65536 + b1.toNat * 256 + b0.toNat) ∧
  (∀ (s : State) (r : Req) (b3 b2 b1 b0 : Byte), r.broadcast = true → (s.port.line r.line).waiting = some (.timeSet r) →
    (s.port.line r.line).reply = none → s.port.restarting = none → r.body = [b3, b2, b1, b0] →
    ∃ t, exec (.timeSet r) s = .next t ∧ t = { s with time := t.time, port := t.port } ∧
      t.port = s.port.withLine r.line { s.port.line r.line with rx := .hunt, buffer := [], gap := false, waiting := none } ∧
      t.time.toNat = b3.toNat * 16777216 + b2.toNat * 65536 + b1.toNat * 256 + b0.toNat)

/-! ### Messages to the door table -/

/-- A report of a door's standing authority whose turn has come, by what it changes. An order that rises from NONE ends an
opening that is not held, withdraws one that waits, and takes over a latched close; an order that ends withdraws a warning, a
dwell and an ordered close that waits, leaves an ordered close moving under LOCAL, ends the transit and makes its opening a
latched one; an order that only changes its source moves the motion authority of a close ordered already; and a report of the
value held changes nothing. An ISOLATED or ABSENT door keeps NONE. That a door keeps its held flag as it leaves its queue is
the model's reading (entry 12). The order of RELEASE or WITHDRAW and the clear of TRANSIT_LONG is its choice (entry 25). -/
def Obligations.StandingReportMoves : Prop :=
  ∀ (s : State) (d : DoorId) (a : Standing),
    let m : Instr := .standingAuthorityReport d a
    let r := s.door d
    let c := s.channel d
    let i := s.image
    let served := r.motion ≠ .isolated ∧ r.motion ≠ .absent
    let told : Door := { r with standing := a }
    let openOff := if r.dir = .opn then false else c.openValve
    let closeOff := if r.dir = .cls then false else c.closeValve
    let latchedClose := (r.motion = .closing ∨ r.motion = .queued ∧ r.dir = .cls) ∧ r.held = false ∧ r.authority = .local_
    let orderedClose := (r.motion = .closing ∨ r.motion = .queued ∧ r.dir = .cls) ∧ r.authority ≠ .local_
    let freeOpening := (r.motion = .opening ∨ r.motion = .queued ∧ r.dir = .opn) ∧ r.held = false
    let ended := told.outOfTransit
    FirstOnItsWay s m →
    ∃ t, exec m s = .next t ∧
      (¬served → LeavesUndriven d (s.taking m) t { r with standing := .none } []) ∧
      (served → a = r.standing → LeavesUndriven d (s.taking m) t (r.proceeds i c) (proceedMessages i d c r)) ∧
      (served → r.standing = .none → a ≠ .none →
        (r.motion = .opening → r.held = false →
          let rested := (told.strokeOver i c).atRest c
          Leaves d (s.taking m) t (rested.proceeds i c) openOff closeOff
            ([.release d] ++ restMessages d c r ++ proceedMessages i d c rested)) ∧
        (r.motion = .queued → r.dir = .opn → r.held = false →
          LeavesUndriven d (s.taking m) t ((told.atRest c).proceeds i c)
            ([.withdraw d] ++ restMessages d c r ++ proceedMessages i d c (told.atRest c))) ∧
        (latchedClose → LeavesUndriven d (s.taking m) t { told with authority := a.motion } []) ∧
        (¬freeOpening → ¬latchedClose →
          LeavesUndriven d (s.taking m) t (told.proceeds i c) (proceedMessages i d c told))) ∧
      (served → r.standing ≠ .none → a = .none →
        (r.motion = .warning ∨ r.motion = .dwell →
          LeavesUndriven d (s.taking m) t (ended.atRest c) (transitMessages d r)) ∧
        (r.motion = .queued → orderedClose →
          LeavesUndriven d (s.taking m) t (ended.atRest c) (transitMessages d r ++ [.withdraw d])) ∧
        (r.motion = .closing → orderedClose →
          LeavesUndriven d (s.taking m) t { ended with authority := .local_ } (transitMessages d r)) ∧
        (r.motion = .opening ∨ r.motion = .queued ∧ r.dir = .opn → r.transit = true →
          LeavesUndriven d (s.taking m) t { ended with held := false } (transitMessages d r)) ∧
        (r.motion = .stopped →
          LeavesUndriven d (s.taking m) t { ended with edgeWait := .none, edgeTimer := none } (transitMessages d r)) ∧
        (r.motion ≠ .warning → r.motion ≠ .dwell → r.motion ≠ .stopped → ¬orderedClose →
          ¬((r.motion = .opening ∨ r.motion = .queued ∧ r.dir = .opn) ∧ r.transit = true) →
          LeavesUndriven d (s.taking m) t ended (transitMessages d r))) ∧
      (served → r.standing ≠ .none → a ≠ .none → a ≠ r.standing →
        (r.motion = .warning ∨ orderedClose →
          LeavesUndriven d (s.taking m) t { told with authority := a.motion } []) ∧
        (r.motion ≠ .warning → ¬orderedClose →
          LeavesUndriven d (s.taking m) t (told.proceeds i c) (proceedMessages i d c told)))

/-- A ruling whose turn has come, taken by a door at rest. LATCH_OPEN, and TRANSIT_OPEN and HOLD_OPEN while their handle is
still held, start an opening of a door that is not OPEN, and TRANSIT_OPEN sets the transit flag and its limit; LATCH_CLOSE,
CLOSE_NOW and, while its handle is still held, HOLD_CLOSE start a close of a door that is not CLOSED, CLOSE_NOW under the
standing authority; an opening at OPEN, a close at CLOSED and IGNORE start no movement. A door that is SETTLING, ISOLATED or
ABSENT acts on none. That a movement which needs no stroke leaves direction and authority alone is the model's reading (entry
27), and so are LOCAL for a CLOSE_NOW that finds no standing authority (entry 28) and what the fault of a faulted door leaves
of a LATCH_OPEN, LATCH_CLOSE, TRANSIT_OPEN or CLOSE_NOW made before it: no transit, and no wait for flow (entry 33), the held
flag of that wait kept (entry 12). The order of the clear of TRANSIT_LONG and the messages to the allocator is its choice
(entry 25). -/
def Obligations.RulingStartsMovement : Prop :=
  ∀ (s : State) (d : DoorId) (ruling : Ruling),
    let m : Instr := .handleRuling d ruling
    let r := s.door d
    let c := s.channel d
    let i := s.image
    let inTransit := r.entersTransit i
    let starts := fun (t : State) (dir : Dir) (a : MotionAuthority) (held : Bool) (from_ : Door) =>
      let x := from_.startsMove c dir a held
      let y := x.afterRuling i c ruling r
      LeavesUndriven d (s.taking m) t (y.proceeds i c)
        (moveMessages d c dir from_ ++ afterRulingMessages d ruling r x ++ proceedMessages i d c y)
    let unmoved := fun (t : State) (x : Door) =>
      let y := x.afterRuling i c ruling r
      LeavesUndriven d (s.taking m) t (y.proceeds i c) (afterRulingMessages d ruling r x ++ proceedMessages i d c y)
    FirstOnItsWay s m →
    ∃ t, exec m s = .next t ∧
      (r.motion = .settling ∨ r.motion = .isolated ∨ r.motion = .absent →
        LeavesUndriven d (s.taking m) t r []) ∧
      (r.motion = .closed ∨ r.motion = .stopped ∨ r.motion = .warning ∨ r.motion = .dwell →
        (ruling = .latchOpen → starts t .opn .local_ false r) ∧
        (ruling = .holdOpen → c.openHandle.filtered = true → starts t .opn .local_ true r) ∧
        (ruling = .transitOpen → c.openHandle.filtered = true → starts t .opn .local_ true inTransit)) ∧
      (r.motion = .opened ∨ r.motion = .stopped ∨ r.motion = .warning ∨ r.motion = .dwell →
        (ruling = .latchClose → starts t .cls .local_ false r) ∧
        (ruling = .closeNow → starts t .cls r.standing.motion false r) ∧
        (ruling = .holdClose → c.closeHandle.filtered = true → starts t .cls .local_ true r)) ∧
      (r.motion = .opened →
        (ruling = .latchOpen → unmoved t r) ∧
        (ruling = .holdOpen → c.openHandle.filtered = true → unmoved t r) ∧
        (ruling = .transitOpen → c.openHandle.filtered = true → unmoved t inTransit)) ∧
      (r.motion = .closed → ruling = .latchClose ∨ ruling = .closeNow ∨ ruling = .holdClose → unmoved t r) ∧
      (ruling = .ignore → r.motion ≠ .settling → unmoved t r)

/-- A ruling against a door's movement, whose turn has come, reverses it. A moving door keeps its grant and starts a new stroke
from its frozen estimate; where its new target end is confirmed it arrives at once and learns nothing, with both ends confirmed
it is reported and comes to rest (the model's reading, entry 13), and a close that meets an active edge is obstructed. A queued
door goes to the tail of the other class, or leaves the queue to rest at the end where it stands. A held ruling along a door's
movement marks it held, and any other such ruling leaves its movement alone. A held ruling is stated for a handle that is still
held. The model's are: an obstructed door without an edge wait that is due (entry 26), the direction and the held flag a queued
door keeps as it comes to rest (27 and 12), LOCAL for a CLOSE_NOW that finds no standing authority (28), what the fault of a
faulted door leaves of a ruling made before it, in which a reversed stroke goes on only while held (33), and the arrival of a
reversed close under an active edge (35). The order of the messages on different ways is its choice (25). -/
def Obligations.RulingReversesMovement : Prop :=
  ∀ (s : State) (d : DoorId) (ruling : Ruling) (target : Dir) (authority : MotionAuthority) (held : Bool),
    let m : Instr := .handleRuling d ruling
    let c := s.channel d
    let i := s.image
    let r := if ruling = .transitOpen then (s.door d).entersTransit i else s.door d
    let turned := r.reversedTo i d c target authority held
    let left := fun x : Door => x.afterRuling i c ruling (s.door d)
    let leaves := fun (t : State) (x : Door) (openOn closeOn : Bool) (ms : List Instr) =>
      Leaves d (s.taking m) t ((left x).proceeds i c) openOn closeOn
        (ms ++ afterRulingMessages d ruling (s.door d) x ++ proceedMessages i d c (left x))
    let stopped := fun (t : State) (x : Door) (ms : List Instr) => leaves t x false false (.reversed d target :: ms)
    FirstOnItsWay s m →
    (ruling = .latchOpen ∧ target = .opn ∧ authority = .local_ ∧ held = false ∨
     (ruling = .holdOpen ∨ ruling = .transitOpen) ∧ target = .opn ∧ authority = .local_ ∧ held = true ∧
       c.openHandle.filtered = true ∨
     ruling = .latchClose ∧ target = .cls ∧ authority = .local_ ∧ held = false ∨
     ruling = .closeNow ∧ target = .cls ∧ authority = r.standing.motion ∧ held = false ∨
     ruling = .holdClose ∧ target = .cls ∧ authority = .local_ ∧ held = true ∧ c.closeHandle.filtered = true) →
    ∃ t, exec m s = .next t ∧
      (r.motion = movingMotion target.flip → r.dir = target.flip →
        (c.endActive target = false → edgeMeets i d c target = false →
          leaves t turned (isMoving (left turned).motion && target == .opn) (isMoving (left turned).motion && target == .cls)
            [.reversed d target]) ∧
        (c.endActive target = false → edgeMeets i d c target = true →
          stopped t (turned.obstructed i c) [.release d, .obstructionNotice d]) ∧
        (c.restsAt target = true → stopped t (turned.arrived i d c) (arrivalMessages i d c turned)) ∧
        (c.endActive target = true → c.endActive target.flip = true →
          stopped t ((turned.strokeOver i c).atRest c)
            [.faultReport d .switchConflict none false turned.asReported, .release d])) ∧
      (r.motion = .queued → r.dir = target.flip →
        (c.restsAt target = false →
          leaves t { r with dir := target, authority := authority, held := held } c.openValve c.closeValve
            [.withdraw d, .join d target]) ∧
        (c.restsAt target = true →
          leaves t (r.atRest c) c.openValve c.closeValve (.withdraw d :: restMessages d c r))) ∧
      (r.motion = .queued ∨ r.motion = movingMotion target → r.dir = target →
        leaves t { r with held := r.held || held } c.openValve c.closeValve [])

/-- A grant, whose turn has come, that finds its door QUEUED in the grant's direction starts the stroke: the valve ON, P0 the
estimate, E at 0, D from the remaining travel, the full-stroke flag only from the confirmed opposite end, and TAKEN sent; a
close that meets an active edge is obstructed at once, and without an edge wait may be due (the model's reading, entry 26),
RELEASE made before the obstruction notice (its choice, entry 25). Any other grant is handed back and the door is as it was. A
pause ends the stroke of a moving door, which is QUEUED again with its direction, authority and held flag; it releases nothing,
and any other door is as it was. -/
def Obligations.GrantAndPause : Prop :=
  ∀ (s : State) (d : DoorId) (dir : Dir),
    let r := s.door d
    let c := s.channel d
    let i := s.image
    let started : Door := Door.valveAt i c dir true
      { r with
        motion := movingMotion dir, p0 := r.estimate, elapsed := 0
        deadline := strokeDeadline dir r.estimate (r.learned dir) i.doors[d].margin
        full := c.endActive dir.flip && r.estimate == endEstimate dir.flip }
    let stopped := started.obstructed i c
    (FirstOnItsWay s (.grant d dir) → ∃ t, exec (.grant d dir) s = .next t ∧
      (r.motion = .queued → r.dir = dir → edgeMeets i d c dir = false →
        Leaves d (s.taking (.grant d dir)) t started
          (if dir = .opn then true else c.openValve) (if dir = .cls then true else c.closeValve) [.taken d dir]) ∧
      (r.motion = .queued → r.dir = dir → edgeMeets i d c dir = true →
        Leaves d (s.taking (.grant d dir)) t (stopped.proceeds i c) c.openValve false
          ([.taken d dir, .release d, .obstructionNotice d] ++ proceedMessages i d c stopped)) ∧
      (r.motion ≠ .queued ∨ r.dir ≠ dir →
        LeavesUndriven d (s.taking (.grant d dir)) t (r.proceeds i c) (.handedBack d :: proceedMessages i d c r))) ∧
    (FirstOnItsWay s (.pause d) → ∃ t, exec (.pause d) s = .next t ∧
      (isMoving r.motion = true →
        Leaves d (s.taking (.pause d)) t
          { r.valveAt i c r.dir false with motion := .queued, estimate := r.estimateNow, full := false }
          (if r.dir = .opn then false else c.openValve) (if r.dir = .cls then false else c.closeValve) []) ∧
      (isMoving r.motion = false →
        LeavesUndriven d (s.taking (.pause d)) t (r.proceeds i c) (proceedMessages i d c r)))

/-- The notices about a door's capture whose turn has come. That it has become occupied: the door is faulted and out of
transit, a warning, a dwell or a wait for flow ends at rest, and any other state stays, without an edge wait. An ABSENT door is
as it was. That it has been emptied: the door is no longer faulted, and its conditions are looked at again. A mismatch that its
drive-check flag reports and a conflict of its end switches are reported anew as persisting, both in one report, and a SETTLING
door's conflict is then one reported since it entered SETTLING (the model's reading, entry 14); where neither stands, a due
door starts its close. A door that is ABSENT, or that the active image shows ABSENT, is not looked at again. That a door keeps
its held flag as a wait for flow ends is the model's reading too (entry 12), and that the clear of TRANSIT_LONG is made before
the WITHDRAW its choice (entry 25). -/
def Obligations.CaptureNotices : Prop :=
  (∀ (s : State) (d : DoorId),
     let m : Instr := .captureOccupiedNotice d
     let r := s.door d
     let c := s.channel d
     let faulted : Door := { r.outOfTransit with faulted := true }
     FirstOnItsWay s m →
     ∃ t, exec m s = .next t ∧
       (r.motion = .absent → LeavesUndriven d (s.taking m) t r []) ∧
       (r.motion = .warning ∨ r.motion = .dwell →
         LeavesUndriven d (s.taking m) t (faulted.atRest c) (transitMessages d r)) ∧
       (r.motion = .queued →
         LeavesUndriven d (s.taking m) t (faulted.atRest c) (transitMessages d r ++ [.withdraw d])) ∧
       (r.motion ≠ .absent → r.motion ≠ .warning → r.motion ≠ .dwell → r.motion ≠ .queued →
         LeavesUndriven d (s.taking m) t { faulted with edgeWait := .none, edgeTimer := none } (transitMessages d r))) ∧
  (∀ (s : State) (d : DoorId),
     let m : Instr := .captureEmptiedNotice d
     let r := s.door d
     let c := s.channel d
     let i := s.image
     let cleared : Door := { r with faulted := false }
     let noted : Door :=
       { cleared with settle := { r.settle with conflict := r.settle.conflict || r.motion == .settling } }
     let mismatch := i.doors[d].driveCheck = true ∧ (r.openCheck.reported = true ∨ r.closeCheck.reported = true)
     let conflict := c.closedSwitch.filtered = true ∧ c.openSwitch.filtered = true ∧ r.motion ≠ .isolated
     FirstOnItsWay s m →
     ∃ t, exec m s = .next t ∧
       (r.motion = .absent ∨ i.doors[d].present = false → LeavesUndriven d (s.taking m) t cleared []) ∧
       (r.motion ≠ .absent → i.doors[d].present = true →
         (mismatch → conflict → LeavesUndriven d (s.taking m) t noted
           [.faultReport d .driveFault (some .switchConflict) true r.asReported]) ∧
         (mismatch → ¬conflict → LeavesUndriven d (s.taking m) t cleared
           [.faultReport d .driveFault none true r.asReported]) ∧
         (¬mismatch → conflict → LeavesUndriven d (s.taking m) t noted
           [.faultReport d .switchConflict none true r.asReported]) ∧
         (¬mismatch → ¬conflict →
           LeavesUndriven d (s.taking m) t (cleared.proceeds i c) (proceedMessages i d c cleared))))

/-! ### Messages to the other blocks -/

/-- Notices to the resolver, each with its turn come. A handle referral is answered by one ruling, from the flood rule, the
faulted flag it carries and the standing authority last computed. A barred open handle is ruled IGNORE and, while it is still
held, marked with OPEN_INHIBITED raised. A referral of an isolated door is ruled IGNORE without a mark, and one of an absent
door is passed over. An arrival at CLOSED ends the door's registration, and a door that was REMOTE by it alone is reported
NONE; an open-handle release ends the door's mark and clears OPEN_INHIBITED. Either notice of an absent door is passed over.
That the clear is made whether or not the alarm stands is the model's reading (entry 24), and that a barred handle is ruled
before OPEN_INHIBITED is raised its choice (entry 25). -/
def Obligations.ResolverNotices : Prop :=
  (∀ (s : State) (d : DoorId) (handle : Dir) (faulted : Bool),
     let m : Instr := .handleReferral d handle faulted
     let x := s.resolver.doors[d]
     let barred := handle = .opn ∧ s.image.doors[d].floodInhibit = true ∧
       s.resolver.flood.getLsbD s.image.doors[d].zone.val = true
     let rules := fun (t : State) (r : Ruling) =>
       t.resolver = s.resolver ∧ t.inFlight = (s.taking m).inFlight ++ [.handleRuling d r]
     FirstOnItsWay s m →
     ∃ t, exec m s = .next t ∧ OnlyResolver s t ∧
       (s.image.doors[d].present = false → t = s.taking m) ∧
       (s.image.doors[d].present = true → x.isolated = true → rules t .ignore) ∧
       (s.image.doors[d].present = true → x.isolated = false →
         (barred → (s.channel d).openHandle.filtered = false → rules t .ignore) ∧
         (barred → (s.channel d).openHandle.filtered = true →
           t.resolver = { s.resolver with doors := s.resolver.doors.set d { x with mark := true } } ∧
           t.inFlight = (s.taking m).inFlight ++ [.handleRuling d .ignore, .alarmRaise .openInhibited (.door d)]) ∧
         (¬barred → handle = .opn → faulted = false → x.reported = .none → rules t .latchOpen) ∧
         (¬barred → handle = .opn → faulted = false → x.reported ≠ .none → rules t .transitOpen) ∧
         (¬barred → handle = .opn → faulted = true → rules t .holdOpen) ∧
         (handle = .cls → faulted = false → x.reported = .none → rules t .latchClose) ∧
         (handle = .cls → faulted = false → x.reported ≠ .none → rules t .closeNow) ∧
         (handle = .cls → faulted = true → rules t .holdClose))) ∧
  (∀ (s : State) (d : DoorId), StandingInv s →
     let x := s.resolver.doors[d]
     (FirstOnItsWay s (.arrivalNotice d) → ∃ t, exec (.arrivalNotice d) s = .next t ∧ OnlyResolver s t ∧
       (s.image.doors[d].present = false → t = s.taking (.arrivalNotice d)) ∧
       (s.image.doors[d].present = true →
         let y := { x with registered := false, reported := if x.reported = .remote then .none else x.reported }
         t.resolver = { s.resolver with doors := s.resolver.doors.set d y } ∧
         t.inFlight = (s.taking (.arrivalNotice d)).inFlight ++
           (if x.reported = .remote then [.standingAuthorityReport d .none] else []))) ∧
     (FirstOnItsWay s (.openHandleReleaseNotice d) → ∃ t, exec (.openHandleReleaseNotice d) s = .next t ∧ OnlyResolver s t ∧
       (s.image.doors[d].present = false → t = s.taking (.openHandleReleaseNotice d)) ∧
       (s.image.doors[d].present = true →
         t.resolver = { s.resolver with doors := s.resolver.doors.set d { x with mark := false } } ∧
         t.inFlight = (s.taking (.openHandleReleaseNotice d)).inFlight ++ [.alarmClear .openInhibited (.door d)])))

/-- Every notice to the allocator, its turn come, in every standing of its door: R96's table, and after each taking that
changes the flow in use or a queue the service of that queue and the door's FLOW_SHORT condition. A JOIN takes the HPU and the
demand of the image at its taking, also where it is kept as a pending notice; each door granted leaves its class in the scan's
order, behind no servable door that does not fit. What a pending JOIN keeps is the model's reading (entry 16), the order within
the paused run of doors that the HPU has not granted its choice (entry 38). So are, where a notice moves a door between HPUs,
that the HPU it leaves is served first (entry 41), and the order of the messages, the FLOW_SHORT reports among them (entry 25).
-/
def Obligations.AllocatorNotices : Prop :=
  ∀ (s : State) (d : DoorId) (dir : Dir), FlowInv s →
    let a := s.alloc
    let k := s.image.doors[d].hpu
    let demand := s.image.doors[d].demand
    let answers := fun (m : Instr) (x : Account) =>
      FirstOnItsWay s m → ∃ t, exec m s = .next t ∧ Accounted (s.taking m) t x
    let standing := fun (y : AllocStanding) => (({ a with doors := a.doors.set d y }, []) : Account)
    let goes := fun h : HpuId => Account.serve h (a.without d, [])
    let placed := fun (ms : List Instr) (a' : Alloc) (hs : List HpuId) =>
      Account.short d (hs.foldl (fun x h => Account.serve h x) ((a', ms) : Account))
    (a.doors[d] = .out →
      answers (.join d dir) (placed [] (a.atTail d k dir demand) [k]) ∧
      answers (.withdraw d) (a, []) ∧ answers (.release d) (a, []) ∧ answers (.reversed d dir) (a, []) ∧
      answers (.taken d dir) (placed [.pause d] (a.inPausedRun d k dir demand) [k]) ∧ answers (.handedBack d) (a, [])) ∧
    (∀ h c paused n, a.doors[d] = .waiting h c paused n →
      answers (.join d dir) (placed [] ((a.without d).atTail d k dir demand) [h, k]) ∧
      answers (.withdraw d) (Account.short d (goes h)) ∧ answers (.release d) (Account.short d (goes h)) ∧
      answers (.reversed d dir) (if paused then placed [] ((a.without d).inPausedRun d h c.flip n) [h] else (a, [])) ∧
      answers (.taken d dir) (placed [.pause d] ((a.without d).inPausedRun d h dir n) [h]) ∧
      answers (.handedBack d) (a, [])) ∧
    (∀ h c n p, a.doors[d] = .offered h c n p →
      answers (.join d dir) (standing (.offered h c n (.joined dir k demand))) ∧
      answers (.withdraw d) (standing (.offered h c n .withdrawn)) ∧
      answers (.release d) (a, []) ∧ answers (.reversed d dir) (a, []) ∧
      answers (.taken d dir) (standing (.held h dir n)) ∧
      answers (.handedBack d) (match p with
        | .joined c' h' n' => placed [] ((a.without d).atTail d h' c' n') [h, h']
        | .none | .withdrawn => goes h)) ∧
    (∀ h c n, a.doors[d] = .held h c n →
      answers (.join d dir) (a, []) ∧ answers (.withdraw d) (a, []) ∧ answers (.release d) (goes h) ∧
      answers (.reversed d dir) (standing (.held h dir n)) ∧ answers (.taken d dir) (a, []) ∧
      answers (.handedBack d) (a, []))

/-- Reports to the recorder, each with its turn come. A fault report of a present door that finds the capture empty fills it
with the kind of higher priority, the values it carries and group time, raises that kind's alarm and tells the door table; one
that finds it occupied adds its other kinds to the also-seen set. A fresh report counts OVERTRAVEL once, and SWITCH once for
each switch kind it names, and WEAR is evaluated at each count; a persisting one counts nothing. The order of its messages is
the model's choice (entry 25). A mismatch counts DRIVE and overwrites the group drive capture with its door, valve, expected
level and group time; an obstruction and a drift count their own counter; each stays at 65535. WEAR is raised when some counter
comes to exceed its threshold and cleared when none does. Whatever concerns an absent door is passed over. -/
def Obligations.RecorderTakesReports : Prop :=
  (∀ (s : State) (d : DoorId) (k : FaultKind) (second : Option FaultKind) (persisting : Bool) (x : FaultData),
    let m : Instr := .faultReport d k second persisting x
    let y := s.recorder.doors[d]
    let reports := fun was now : Bool =>
      if now = was then [] else if now then [Instr.alarmRaise .wear (.door d)] else [.alarmClear .wear (.door d)]
    let counts := fun (x : DoorFaults × List Instr) (k' : FaultKind) =>
      let w := x.1.counters
      let w' : Wear := match k' with
        | .driveFault => w
        | .overtravel => { w with overtravel := min 65535 (w.overtravel + 1) }
        | .switchConflict | .switchSequence => { w with switch := min 65535 (w.switch + 1) }
      let worn := if k' = .driveFault then x.1.wear else w'.exceeds s.image.group.wearThresholds
      (({ x.1 with counters := w', wear := worn }, x.2 ++ reports x.1.wear worn) : DoorFaults × List Instr)
    let counted := (if persisting then [] else k :: second.toList).foldl counts (y, [])
    let low := match second with | none => k | some k' => if faultCode k' < faultCode k then k' else k
    let high := match second with | none => k | some k' => if faultCode k' < faultCode k then k else k'
    second ≠ some k → FirstOnItsWay s m →
    ∃ t, exec m s = .next t ∧ OnlyRecorder s t ∧
      (s.image.doors[d].present = false → t = s.taking m) ∧
      (s.image.doors[d].present = true →
        t.recorder.drive = s.recorder.drive ∧ (∀ e, e ≠ d → t.recorder.doors[e] = s.recorder.doors[e]) ∧
        t.recorder.doors[d].counters = counted.1.counters ∧ t.recorder.doors[d].wear = counted.1.wear ∧
        (y.capture = none →
          t.recorder.doors[d].capture =
            some ⟨low, x, s.time, if second.isSome then faultBit high else 0⟩ ∧
          t.inFlight = (s.taking m).inFlight ++
            .alarmRaise (faultAlarm low) (.door d) :: .captureOccupiedNotice d :: counted.2) ∧
        (∀ c, y.capture = some c → ∃ seen,
          t.recorder.doors[d].capture = some { c with alsoSeen := seen } ∧
          (∀ k', seen &&& faultBit k' ≠ 0 ↔
            c.alsoSeen &&& faultBit k' ≠ 0 ∨ (k' ≠ c.kind ∧ (k' = k ∨ second = some k'))) ∧
          t.inFlight = (s.taking m).inFlight ++ counted.2))) ∧
  (∀ (s : State) (d : DoorId),
    let y := s.recorder.doors[d]
    let w := y.counters
    let counts := fun (m : Instr) (w' : Wear) (drive : Option DriveCapture) =>
      FirstOnItsWay s m → ∃ t, exec m s = .next t ∧ OnlyRecorder s t ∧
        (s.image.doors[d].present = false → t = s.taking m) ∧
        (s.image.doors[d].present = true →
          let worn := w'.exceeds s.image.group.wearThresholds
          t.recorder = ⟨s.recorder.doors.set d ⟨y.capture, w', worn⟩, drive⟩ ∧
          t.inFlight = (s.taking m).inFlight ++
            (if worn = y.wear then [] else if worn then [.alarmRaise .wear (.door d)] else [.alarmClear .wear (.door d)]))
    (∀ valve expected, counts (.mismatchReport d valve expected) { w with drive := min 65535 (w.drive + 1) }
      (some ⟨d, valve, expected, s.time⟩)) ∧
    counts (.obstructionNotice d) { w with obstruction := min 65535 (w.obstruction + 1) } s.recorder.drive ∧
    counts (.driftNotice d) { w with drift := min 65535 (w.drift + 1) } s.recorder.drive)

/-- Reports to the alarm list, each with its turn come. A raise without an entry: one of a masked kind or of an absent door
is ignored, one that finds room makes a new ACTIVE_UNACK entry at the tail, and one that finds 48 entries is lost and
counted at the overflow entry. A CLEARED_UNACK entry returns to ACTIVE_UNACK in its place with its count raised, and an
active one is left as it is. The end of a condition, reported as a clear of a LEVEL kind or as the reset condition of a
LATCHED one: without an entry nothing changes, an ACTIVE_UNACK entry becomes CLEARED_UNACK, a CLEARED_UNACK one is left as
it is, and an ACTIVE_ACK one is removed, after which an overflow entry is reset where 40 entries or fewer are left. -/
def Obligations.AlarmListTakesReports : Prop :=
  (∀ (s : State) (k : AlarmKind) (x : Subject), k ≠ .listOverflow →
    let m : Instr := .alarmRaise k x
    let a := s.alarms
    let g := s.image.group
    let masked := recordMaskable k && inKinds g.recordMask k
    let changes := fun (t : State) (entries : List Entry) (overflow : Option Entry) =>
      t = (s.taking m).withAlarms
        (AlarmList.setOutputs g.routedKinds { a with entries := entries, overflow := overflow, changed := true })
    FirstOnItsWay s m →
    ∃ t, exec m s = .next t ∧
      (a.find k x = none →
        (masked = true ∨ absentSubject s.image x = true → t = s.taking m) ∧
        (masked = false → absentSubject s.image x = false →
          (a.entries.length < 48 → changes t
            (a.entries ++ [⟨k, x, .activeUnack, !inKinds g.annunciateMask k, s.time, s.time, 1⟩]) a.overflow) ∧
          (48 ≤ a.entries.length → a.overflow = none → changes t a.entries
            (some ⟨.listOverflow, .group, .activeUnack, !inKinds g.annunciateMask .listOverflow, s.time, s.time, 1⟩)) ∧
          (48 ≤ a.entries.length → ∀ e, a.overflow = some e → e.state ≠ .clearedUnack →
            changes t a.entries (some { e with last := s.time, count := if e.count < 255 then e.count + 1 else 255 })) ∧
          (48 ≤ a.entries.length → ∀ e, a.overflow = some e → e.state = .clearedUnack →
            changes t a.entries (some
              { e with
                state := .activeUnack, last := s.time, count := if e.count < 255 then e.count + 1 else 255
                annunciated := !inKinds g.annunciateMask e.kind })))) ∧
      (∀ e, a.find k x = some e →
        (e.state ≠ .clearedUnack → t = s.taking m) ∧
        (e.state = .clearedUnack → (a.entries.map fun e => (e.kind, e.subject)).Nodup →
          changes t (a.entries.map fun e' => if e' = e then
            { e with
              state := .activeUnack, last := s.time, count := if e.count < 255 then e.count + 1 else 255
              annunciated := !inKinds g.annunciateMask k }
            else e') a.overflow))) ∧
  (∀ (s : State) (k : AlarmKind) (x : Subject) (m : Instr), k ≠ .listOverflow →
    m = .alarmClear k x ∨ m = .alarmResetCondition k x → (s.alarms.entries.map fun e => (e.kind, e.subject)).Nodup →
    let a := s.alarms
    let changes := fun (t : State) (entries : List Entry) (overflow : Option Entry) =>
      t = (s.taking m).withAlarms
        (AlarmList.setOutputs s.image.group.routedKinds
          { a with entries := entries, overflow := overflow, changed := true })
    FirstOnItsWay s m →
    ∃ t, exec m s = .next t ∧
      (a.find k x = none → t = s.taking m) ∧
      ∀ e, a.find k x = some e →
        (e.state = .clearedUnack → t = s.taking m) ∧
        (e.state = .activeUnack → changes t
          (a.entries.map fun e' => if e' = e then { e with state := .clearedUnack, last := s.time } else e') a.overflow) ∧
        (e.state = .activeAck →
          (41 < a.entries.length ∨ a.overflow = none → changes t (a.entries.erase e) a.overflow) ∧
          (a.entries.length ≤ 41 → ∀ o, a.overflow = some o →
            (o.state = .activeAck → changes t (a.entries.erase e) none) ∧
            (o.state = .activeUnack → changes t (a.entries.erase e) (some { o with state := .clearedUnack, last := s.time })) ∧
            (o.state = .clearedUnack → changes t (a.entries.erase e) (some o)))))

/-- The end of a store write in flight. A success leaves the active image with its check in non-volatile memory and reports
STORE_FAULT's reset condition; the layout of that copy is the model's choice (entry 31). A failure raises STORE_FAULT, and what
it leaves in non-volatile memory is a free value (entry 9), of which nothing is said. Neither touches an image. With no write in
flight nothing changes (the model's choice, entry 5). -/
def Obligations.StoreWriteEnds : Prop :=
  ∀ s : State,
    (s.store.writing = false → ∀ success, exec (.storeWriteComplete success) s = .next s) ∧
    (s.store.writing = true →
      (∃ t, exec (.storeWriteComplete true) s = .next t ∧
        t = { s with
          inFlight := s.inFlight ++ [.alarmResetCondition .storeFault .group]
          store := { s.store with
            writing := false, outcome := .success
            stored := ⟨imageBytes s.store.active, crc (imageBytes s.store.active)⟩ } }) ∧
      (∃ t, exec (.storeWriteComplete false) s = .next t ∧
        t = { s with
          inFlight := s.inFlight ++ [.alarmRaise .storeFault .group]
          freeDraws := t.freeDraws
          store := { s.store with writing := false, outcome := .failure, stored := t.store.stored } }))

/-! ### The lines -/

/-- The characters of a frame of any kind, with its check, taken by a receiver in HUNT on a line where no reply is being sent.
A frame of a kind below 0x80 to the address in use leaves the request of its kind waiting with its body and the receiver
CLOSED; a broadcast does so for MODE_SET and TIME_SET alone. Any other frame to the part or to broadcast, one of a kind of 0x80
or above among them, and every frame while a restart is awaited, returns the receiver to HUNT. Each of these restarts a
supervised line's silence timer and, where the line was silent, revives it: LINE_SILENT is cleared, and REMOTE_LOST too where
the other line is silent. A frame to another station leaves nothing but the receiver in HUNT. The other line and every other
block stay as they are. That the receiver goes on receiving while a restart is awaited is the model's choice (entry 40), and so
is the order of the two clears (entry 25). -/
def Obligations.FrameIsTakenWhole : Prop :=
  ∀ (s : State) (l : Line) (station kind : Byte) (body : List Byte), (s.port.line l).rx = .hunt →
    (s.port.line l).reply = none → s.port.address ≠ 0 → body.length ≤ 240 →
    let y := s.port.line l
    let hunting : LinePort := { y with rx := .hunt, buffer := [], gap := false }
    let heard : LinePort := if s.port.interval = 0 then hunting
      else { hunting with silence := some s.port.interval, silent := false }
    let revived := if y.silent = false ∨ s.port.interval = 0 then []
      else .alarmClear .lineSilent (.line l) ::
        if (s.port.line (otherLine l)).silent then [.alarmClear .remoteLost .group] else []
    let ours := station = s.port.address.setWidth 8
    let served := kind = 0x06 ∨ kind = 0x18
    ∃ t, execAll (characters l (requestFrame station kind body)) s = .next t ∧ OnlyPort s t ∧
      (ours ∨ station = 0 → t.inFlight = s.inFlight ++ revived) ∧
      (ours → kind.toNat < 0x80 → s.port.restarting = none → t.port = s.port.withLine l
        { heard with rx := .closed, waiting := some (decodeRequest kind ⟨l, false, body⟩) }) ∧
      (station = 0 → served → s.port.restarting = none → t.port = s.port.withLine l
        { heard with rx := .closed, waiting := some (decodeRequest kind ⟨l, true, body⟩) }) ∧
      (ours → 0x80 ≤ kind.toNat ∨ s.port.restarting.isSome = true → t.port = s.port.withLine l heard) ∧
      (station = 0 → ¬served ∨ s.port.restarting.isSome = true → t.port = s.port.withLine l heard) ∧
      (station ≠ 0 → ¬ours → t.port = s.port.withLine l hunting ∧ t.inFlight = s.inFlight)

/-- A frame is abandoned at a bad stop bit or at the expiry of the gap timer, which count a framing error, and
discarded at a check that differs, which counts a check error; the counters stay at 65535. The receiver returns to
HUNT, and LINE_DEGRADED is raised or cleared where the counters come to exceed a threshold or no longer do. A CLOSED
receiver receives and counts nothing, nor does a line on which a reply is being sent (entry 32). -/
def Obligations.BadFramesAreCounted : Prop :=
  ∀ (s : State) (l : Line) (c : Byte),
    let y := s.port.line l
    let counts := fun (m : Instr) (framing check : Nat) =>
      let y' : LinePort := { y with rx := .hunt, buffer := [], gap := false, framingErrors := framing, checkErrors := check }
      let worn := lineDegraded s.image.group y'
      ∃ t, exec m s = .next t ∧ OnlyPort s t ∧ t.port = s.port.withLine l { y' with degraded := worn } ∧
        t.inFlight = s.inFlight ++
          (if worn = y.degraded then []
           else if worn then [.alarmRaise .lineDegraded (.line l)] else [.alarmClear .lineDegraded (.line l)])
    let length := 3 + (byteAt y.buffer 2).toNat
    (y.reply = none → y.rx ≠ .hunt → y.rx ≠ .closed →
      counts (.lineCharacter l c false) (min 65535 (y.framingErrors + 1)) y.checkErrors) ∧
    (y.rx ≠ .hunt → y.rx ≠ .closed → y.gap = true →
      counts (.gapTimerExpiry l) (min 65535 (y.framingErrors + 1)) y.checkErrors) ∧
    (y.reply = none → y.rx = .length → 240 < c.toNat →
      counts (.lineCharacter l c true) (min 65535 (y.framingErrors + 1)) y.checkErrors) ∧
    (y.reply = none → y.rx = .check → y.buffer.length = length + 1 →
      crcBytes (crc (y.buffer.take length)) ≠ [byteAt y.buffer length, c] →
      counts (.lineCharacter l c true) y.framingErrors (min 65535 (y.checkErrors + 1))) ∧
    (y.rx = .closed ∨ y.reply.isSome = true → ∀ good, exec (.lineCharacter l c good) s = .next s)

/-- The expiry of a line's silence timer: the line falls silent and LINE_SILENT is raised. Where the other line is
silent already, REMOTE_LOST is raised, REMOTE_WAS_LOST is set, and with close-on-loss on and the mode LOCAL the mode
becomes CLOSED, with every door's standing authority computed anew: unless the latch is set, every present, not isolated door
is reported CENTRAL, in an order that is the model's choice (entry 25). Flood flags, registrations, isolations and marks stay.
A timer that does not run changes nothing (the model's choice, entry 5). -/
def Obligations.SilenceIsRaised : Prop :=
  ∀ (s : State) (l : Line), StandingInv s →
    let y := s.port.line l
    let silent : LinePort := { y with silence := none, silent := true }
    let closes := s.image.group.closeOnLoss = true ∧ s.resolver.mode = .local_
    (y.silence = none → exec (.silenceTimerExpiry l) s = .next s) ∧
    (y.silence.isSome = true → ∃ t ms, exec (.silenceTimerExpiry l) s = .next t ∧
      t = { s with port := t.port, resolver := t.resolver, inFlight := s.inFlight ++ .alarmRaise .lineSilent (.line l) :: ms } ∧
      ((s.port.line (otherLine l)).silent = false →
        t.port = s.port.withLine l silent ∧ t.resolver = s.resolver ∧ ms = []) ∧
      ((s.port.line (otherLine l)).silent = true →
        t.port = { s.port.withLine l silent with remoteWasLost := true } ∧ ms.head? = some (.alarmRaise .remoteLost .group) ∧
        (¬closes → t.resolver = s.resolver ∧ ms.tail = []) ∧
        (closes → t.resolver.mode = .closed ∧ t.resolver.latch = s.resolver.latch ∧ StandingInv t ∧
          t.resolver.flood = s.resolver.flood ∧
          (∀ d : DoorId, t.resolver.doors[d] =
            { s.resolver.doors[d] with reported := t.resolver.doors[d].reported }) ∧
          ms.tail = (allDoors.filter fun d => !s.resolver.latch && s.image.doors[d].present &&
            !s.resolver.doors[d].isolated).map fun d => .standingAuthorityReport d .central)))

/-- The last character of a reply sent: the line's receiver returns to HUNT, and after a RESTART reply the part restarts by the
request instead, a reply on the other line going on with its receiver in HUNT (the model's reading, entry 32). A line that sends
nothing is as it was (the model's choice, entry 5). A confirm of the reset pin restarts the part by the pin at once, which cuts
off every reply; its first interval restarts nothing. A restart discards the reports, referrals, rulings and arrival notices
between door table and resolver and every message between door table and allocator; an open-handle release notice is kept. Which
messages a restart takes is the model's reading (entries 3 and 20), the order of the owners' reports its choice (entry 25). -/
def Obligations.PartRestarts : Prop :=
  (∀ m : Instr, discardedAtRestart m = true ↔ ∃ d : DoorId,
    (∃ a, m = .standingAuthorityReport d a) ∨ (∃ handle faulted, m = .handleReferral d handle faulted) ∨
    (∃ ruling, m = .handleRuling d ruling) ∨ m = .arrivalNotice d ∨
    m = .withdraw d ∨ m = .release d ∨ m = .handedBack d ∨ m = .pause d ∨
    ∃ dir, m = .join d dir ∨ m = .reversed d dir ∨ m = .taken d dir ∨ m = .grant d dir) ∧
  (∀ (s : State) (l : Line),
     let sent := fun y : LinePort => { y with rx := .hunt, buffer := [], gap := false, reply := none }
     ((s.port.line l).reply = none → exec (.replySent l) s = .next s) ∧
     ((s.port.line l).reply.isSome = true → s.port.restarting ≠ some l →
       exec (.replySent l) s = .next (s.withLine l (sent (s.port.line l)))) ∧
     ((s.port.line l).reply.isSome = true → s.port.restarting = some l → PresenceInv s → AlarmInv s →
       ∃ t, exec (.replySent l) s = .next t ∧
         Restarted .restartRequest (s.withLine l (sent (s.port.line l))) t)) ∧
  (∀ (s : State) (c : Instr) (f : Filter), FilterEnds s c .resetPin f → PresenceInv s → AlarmInv s →
     let u := s.withFilter .resetPin f
     ∃ t, exec c s = .next t ∧ (c = .filterExpiry .resetPin → f.filtered = true → Restarted .resetPin u t) ∧
       (c = .firstIntervalExpiry .resetPin ∨ f.filtered = false → t = u))

/-- Power-on. The stored copy is the active image where it passes its checks and the default image is otherwise, as
it is after a store write that the loss of supply interrupted; every filter starts its first interval, and every
block its power-on values, each field of a door's record among them; the straps give the address, or 31 where their parity is
even or they give 0 or 31. A copy loads only where its check value agrees and its image is valid, every field in its range, with
nothing clamped, and both relations of R157; and the copy that a successful store write of a valid image leaves loads back as
that image. What is raised is on its way to the alarm list (the model's reading, entry 21), CONFIG_DEFAULT before
ADDRESS_FALLBACK (its choice, entry 25); ALARMS_CHANGED clear (entry 18) and the stored copy's layout (entry 31) are its choices
too. -/
def Obligations.PowerOnLoads : Prop :=
  ∀ s : State, ∃ t, exec .powerOn s = .next t ∧
    t.pending = s.pending ∧ t.straps = s.straps ∧ t.time = 0 ∧
    (s.store.writing = false → t.store.stored = s.store.stored ∧
      t.store.defaultLoaded = !storedPasses s.store.stored.bytes s.store.stored.check ∧
      (t.store.defaultLoaded = false → t.image = storedImage s.store.stored.bytes ∧
        s.store.stored.check = crc s.store.stored.bytes ∧ t.image.valid) ∧
      (∀ i : Image, i.valid → s.store.stored = ⟨imageBytes i, crc (imageBytes i)⟩ →
        t.store.defaultLoaded = false ∧ t.image = i)) ∧
    (s.store.writing = true → t.store.defaultLoaded = true) ∧
    (t.store.defaultLoaded = true → t.image = Image.standard) ∧
    t.store.staging = t.image ∧ t.store.writing = false ∧ t.store.outcome = .none ∧
    (∀ i : InputId,
      let raw := decide (15000 < (s.filter i).millivolts)
      t.filter i = ⟨(s.filter i).millivolts, raw, false, none, false,
        some (if raw then (inputTimes t.image.group i).assert else (inputTimes t.image.group i).release)⟩) ∧
    (∀ d : DoorId,
      let x := t.image.doors[d]
      let standing : Standing := if x.present && t.image.group.startMode == .closed then .central else .none
      t.door d =
        { present := x.present, motion := if x.present then .settling else .absent, dir := .cls
          p0 := 500, elapsed := 0, deadline := 10, full := false, authority := .local_, held := false, estimate := 500
          learnedClose := x.nominalClose, learnedOpen := x.nominalOpen, lastStroke := none
          transit := false, transitTimer := none, transitLong := false, warningTimer := none, dwellTimer := none
          edgeWait := .none, edgeTimer := none, drifted := false, standing := standing, tight := false, changed := true
          testResult := .none, test := none, openCheck := ⟨none, false⟩, closeCheck := ⟨none, false⟩, faulted := false
          settle := ⟨false, false, false⟩, travelDrift := false } ∧
      (t.channel d).openValve = false ∧ (t.channel d).closeValve = false ∧ (t.channel d).warning = false ∧
      t.resolver.doors[d] = ⟨false, false, false, standing⟩ ∧ t.alloc.doors[d] = .out ∧ t.alloc.flowShort[d] = false ∧
      t.recorder.doors[d] = ⟨none, ⟨0, 0, 0, 0, 0⟩, false⟩) ∧
    t.resolver.mode = t.image.group.startMode ∧ t.resolver.latch = false ∧ t.resolver.flood = 0 ∧
    (∀ h : HpuId, t.alloc.hpus[h] =
      { capacity := 0, inUse := 0, granted := [], closeQueue := [], openQueue := [], order := [], flowLost := false }) ∧
    t.alloc.onEmergency = false ∧ t.recorder.drive = none ∧ t.alarms.entries = [] ∧ t.alarms.overflow = none ∧
    t.alarms.common = false ∧ t.alarms.routed = false ∧ t.alarms.changed = false ∧
    (let odd := ((List.finRange 5).countP fun k => s.straps.address.getLsbD k.val) % 2 ≠ (if s.straps.parity then 1 else 0)
     let usable := odd ∧ s.straps.address ≠ 0 ∧ s.straps.address ≠ 31
     (usable → t.port.address = s.straps.address ∧ t.port.fallback = false) ∧
     (¬usable → t.port.address = 31 ∧ t.port.fallback = true)) ∧
    t.port.interval = t.image.group.supervision ∧ t.port.fastRate = s.straps.rate ∧ t.port.restarted = true ∧
    t.port.remoteWasLost = false ∧ t.port.cause = .powerOn ∧ t.port.restarting = none ∧
    (let line : LinePort :=
      { rx := .hunt, buffer := [], gap := false, waiting := none, reply := none, checkErrors := 0, framingErrors := 0
        silence := if t.port.interval = 0 then none else some t.port.interval, silent := false, degraded := false }
     t.port.lineA = line ∧ t.port.lineB = line) ∧
    t.inFlight = (if t.store.defaultLoaded then [.alarmRaise .configDefault .group] else []) ++
      (if t.port.fallback then [.alarmRaise .addressFallback .group] else [])

/-! ### Requests -/

/-- The requests that read. Each is answered with its data as they stand and changes nothing but its line, and
IDENTIFY and GROUP_STATUS their own attention flag. CAPTURE_READ, MAINT_READ and CONFIG_READ refuse an index above
23, and CONFIG_READ a selector above 1. That CONFIG_READ gives 1 for a true default-loaded flag is the model's choice (entry
39). -/
def Obligations.ReadRequestsAnswer : Prop :=
  ∀ (s : State) (r : Req),
    let answers := fun (c : Instr) (kind : Byte) (p : Port) (reason : Option Reason) (data : List Byte) =>
      ∃ t, exec c s = .next t ∧ Answered p r kind reason data t ∧ OnlyPort s t ∧ t.inFlight = s.inFlight
    (Waits s (.identify r) r → r.body = [] →
      answers (.identify r) 0x01 { s.port with restarted := false } none (identityBytes s.port)) ∧
    (Waits s (.groupStatus r) r → r.body = [] →
      answers (.groupStatus r) 0x02 { s.port with remoteWasLost := false } none s.groupSummary) ∧
    (Waits s (.driveCaptureRead r) r → r.body = [] →
      answers (.driveCaptureRead r) 0x12 s.port none (driveCaptureBytes s.recorder.drive)) ∧
    (Waits s (.linesRead r) r → r.body = [] → answers (.linesRead r) 0x15 s.port none (linesBytes s.port)) ∧
    (∀ b : Byte, Waits s (.captureRead r) r → r.body = [b] →
      (24 ≤ b.toNat → answers (.captureRead r) 0x11 s.port (some .badValue) []) ∧
      (∀ d : DoorId, d.val = b.toNat →
        answers (.captureRead r) 0x11 s.port none (captureBytes d s.recorder.doors[d].capture))) ∧
    (∀ b : Byte, Waits s (.maintRead r) r → r.body = [b] →
      (24 ≤ b.toNat → answers (.maintRead r) 0x13 s.port (some .badValue) []) ∧
      (∀ d : DoorId, d.val = b.toNat →
        answers (.maintRead r) 0x13 s.port none
          (maintBytes d (s.door d) s.image.doors[d] s.recorder.doors[d].counters))) ∧
    (∀ image record b : Byte, Waits s (.configRead r) r → r.body = [image, record, b] →
      let named := if image = 0 then s.store.active else s.store.staging
      let outcome : Byte := match s.store.outcome with | .none => 0 | .success => 1 | .failure => 2
      let head := [if s.store.writing then 1 else 0, outcome, if s.store.defaultLoaded then 1 else 0, record]
      (1 < image.toNat ∨ 1 < record.toNat ∨ record = 1 ∧ 24 ≤ b.toNat →
        answers (.configRead r) 0x19 s.port (some .badValue) []) ∧
      (image.toNat ≤ 1 → record = 0 → answers (.configRead r) 0x19 s.port none (head ++ groupBytes named.group)) ∧
      (∀ d : DoorId, d.val = b.toNat → image.toNat ≤ 1 → record = 1 →
        answers (.configRead r) 0x19 s.port none (head ++ doorBytes d named.doors[d])))

/-- The bytes of reply data, field by field: a DOOR_STATUS entry, an alarm entry and a page of ALARM_READ, a zone's status and the
group summary, the identity, the captures, the maintenance data and the lines; and the 48 bytes of the group record and the
28 of a door record, as they are sent, and as they are read at staging: which values are allowed, the field each byte gives,
and the range a clamped field is moved into. Before the data of every reply its start byte, address, kind, length and head, and
after them the check, whose computation is stated too; and of the head the five attention flags. What an ABSENT door's fields
read is the model's reading where the tables give no value (entry 15), and so is 1 for a flag that is true its choice where
they give no code (entry 39). -/
def Obligations.ReplyLayouts : Prop :=
  let one := fun (b : List Byte) (k : Nat) => (byteAt b k).toNat
  let two := fun (b : List Byte) (k : Nat) => one b k * 256 + one b (k + 1)
  let four := fun (b : List Byte) (k : Nat) => two b k * 65536 + two b (k + 2)
  let flag := fun x : Bool => if x then 1 else 0
  let motion := fun m : Motion => match m with
    | .settling => 0 | .closed => 1 | .opened => 2 | .stopped => 3 | .warning => 4 | .dwell => 5 | .queued => 6
    | .opening => 7 | .closing => 8 | .isolated => 9 | .absent => 10
  let authority := fun a : MotionAuthority => match a with | .local_ => 0 | .remote => 1 | .central => 2 | .emergency => 3
  let kind := fun k : AlarmKind => match k with
    | .driveFault => 1 | .switchConflict => 2 | .overtravel => 3 | .switchSequence => 4 | .driftOpen => 5
    | .travelDrift => 6 | .wear => 7 | .flowShort => 8 | .transitLong => 9 | .openInhibited => 10 | .flowLost => 11
    | .onEmergencySupply => 12 | .emergencyClose => 13 | .remoteLost => 14 | .lineSilent => 15 | .lineDegraded => 16
    | .addressFallback => 17 | .configDefault => 18 | .storeFault => 19 | .listOverflow => 20
  (∀ (address : BitVec 5) (kind : Byte) (reason : Option Reason) (attention : Byte) (data : List Byte),
    let b := replyFrame address kind reason attention data
    let n := data.length
    b.length = n + 9 ∧ one b 0 = 0xD5 ∧ one b 1 = address.toNat ∧ one b 2 = (kind.toNat + 128) % 256 ∧
    one b 3 = (n + 3) % 256 ∧ one b 4 = flag reason.isSome ∧
    one b 5 = (match reason with
      | none => 0 | some .unknownKind => 1 | some .badLength => 2 | some .badValue => 3 | some .wrongState => 4
      | some .busy => 5 | some .notIsolated => 6 | some .lineActive => 7 | some .invalidConfig => 8) ∧
    byteAt b 6 = attention ∧ (b.drop 7).take n = data ∧ two b (n + 7) = (crc ((b.drop 1).take (n + 6))).toNat) ∧
  (crc [] = 0xFFFF ∧ ∀ (bs : List Byte) (c : Byte), crc (bs ++ [c]) = (List.finRange 8).foldl
    (fun (x : BitVec 16) k => (x <<< 1) ^^^ (if x.msb = c.getLsbD (7 - k.val) then 0 else 0x1021)) (crc bs)) ∧
  (∀ s : State,
    let b := s.attention
    b.getLsbD 0 = decide (∃ d : DoorId, (s.door d).changed = true) ∧ b.getLsbD 1 = s.alarms.changed ∧
    b.getLsbD 2 = s.port.restarted ∧ b.getLsbD 3 = s.resolver.latch ∧ b.getLsbD 4 = s.port.remoteWasLost ∧
    b.getLsbD 5 = false ∧ b.getLsbD 6 = false ∧ b.getLsbD 7 = false) ∧
  (∀ (d : DoorId) (r : Door) (c : Channel),
    let b := doorEntry d r c
    let here := r.motion != .absent
    b.length = 9 ∧ one b 0 = d.val ∧
    one b 1 = (match indicated r c with
      | .closed => 0 | .opened => 1 | .moving => 2 | .partOpen => 3 | .unknown => 4 | .isolated => 5 | .absent => 6) ∧
    one b 2 = motion r.motion ∧
    one b 3 / 16 = (if here then (match r.standing with | .none => 0 | .remote => 1 | .central => 2 | .emergency => 3) else 0) ∧
    one b 3 % 16 = authority r.authority ∧
    (byteAt b 4).getLsbD 0 = (here && r.faulted) ∧ (byteAt b 4).getLsbD 1 = (here && r.transit) ∧
    (byteAt b 4).getLsbD 2 = (here && r.tight) ∧ (byteAt b 4).getLsbD 3 = r.changed ∧
    (byteAt b 4).getLsbD 4 = (r.dir == .opn) ∧ (byteAt b 4).getLsbD 5 = (here && r.held) ∧
    (byteAt b 4).getLsbD 6 = (here && r.drifted) ∧ (byteAt b 4).getLsbD 7 = (here && c.warning) ∧
    two b 5 = r.estimateNow % 65536 ∧ two b 7 = r.elapsed % 65536) ∧
  (∀ e : Entry,
    let b := entryBytes e
    b.length = 15 ∧ one b 0 = kind e.kind ∧
    (one b 1, one b 2) = (match e.subject with
      | .group => (0, 0) | .door d => (1, d.val) | .hpu h => (2, h.val) | .line .a => (3, 0) | .line .b => (3, 1)) ∧
    one b 3 = (match e.state with | .activeUnack => 1 | .activeAck => 2 | .clearedUnack => 3) ∧
    one b 4 = flag (1 ≤ kind e.kind ∧ kind e.kind ≤ 4 ∨ 19 ≤ kind e.kind : Bool) ∧
    one b 5 = flag e.annunciated ∧ one b 6 = e.count % 256 ∧ four b 7 = e.first.toNat ∧ four b 11 = e.last.toNat) ∧
  (∀ s : State,
    let b := s.groupSummary
    b.length = 60 ∧ one b 0 = (match s.resolver.mode with | .local_ => 0 | .closed => 1) ∧
    one b 1 = flag s.resolver.latch ∧ one b 2 = flag s.lines.emergency.filtered ∧
    one b 3 = (if s.lines.mainSupply.filtered then 0 else if s.lines.mainSupply.primed then 1 else 2) ∧
    (∀ h : HpuId, one b (4 + 3 * h.val) = s.alloc.hpus[h].capacity % 256 ∧
      one b (5 + 3 * h.val) = s.alloc.hpus[h].inUse % 256 ∧
      one b (6 + 3 * h.val) = (s.alloc.hpus[h].closeQueue.length + s.alloc.hpus[h].openQueue.length) % 256) ∧
    byteAt b 16 = s.resolver.flood ∧
    (∀ m : Motion, one b (17 + motion m) = allDoors.countP fun d => (s.door d).motion = m) ∧
    (∀ z : ZoneId,
      let here := fun d => (s.door d).present && s.image.doors[d].zone == z
      let tight := fun d => (s.door d).motion = .isolated ∨
        indicated (s.door d) (s.channel d) = .closed ∧ (s.door d).faulted = false
      one b (28 + 4 * z.val) =
        (if ∀ d, here d = false then 0 else if ∀ d, here d = true → tight d then 1 else 2) ∧
      one b (29 + 4 * z.val) = allDoors.countP here ∧
      one b (30 + 4 * z.val) = (allDoors.countP fun d => here d && (s.door d).motion == .isolated) ∧
      one b (31 + 4 * z.val) = (allDoors.countP fun d => here d && (s.door d).faulted))) ∧
  (∀ p : Port,
    let b := identityBytes p
    b.length = 19 ∧ b.take 12 = [84, 69, 76, 85, 87, 65, 78, 32, 50, 52, 68, 32] ∧
    byteAt b 12 = Config.hardwareRevision ∧ byteAt b 13 = Config.programRevision ∧
    one b 14 = p.address.toNat ∧ one b 15 = flag p.fallback ∧ one b 16 = flag p.fastRate ∧
    one b 17 = (match p.cause with | .powerOn => 0 | .resetPin => 1 | .restartRequest => 2) ∧
    one b 18 = flag p.restarted) ∧
  (∀ d : DoorId, captureBytes d none = [byteOf d.val, 0] ∧ ∀ c : Capture,
    let b := captureBytes d (some c)
    b.length = 15 ∧ one b 0 = d.val ∧ one b 1 = 1 ∧
    one b 2 = (match c.kind with | .driveFault => 1 | .switchConflict => 2 | .overtravel => 3 | .switchSequence => 4) ∧
    one b 3 = motion c.data.motion ∧ one b 4 = flag (c.data.dir == .opn) ∧ two b 5 = c.data.estimate % 65536 ∧
    two b 7 = c.data.elapsed % 65536 ∧ one b 9 = authority c.data.authority ∧ four b 10 = c.time.toNat ∧
    one b 14 = c.alsoSeen.toNat) ∧
  (driveCaptureBytes none = [0] ∧ ∀ c : DriveCapture,
    let b := driveCaptureBytes (some c)
    b.length = 8 ∧ one b 0 = 1 ∧ one b 1 = c.door.val ∧ one b 2 = flag (c.valve == .cls) ∧ one b 3 = flag c.expected ∧
    four b 4 = c.time.toNat) ∧
  (∀ (d : DoorId) (r : Door) (x : DoorRecord) (w : Wear),
    let b := maintBytes d r x w
    let held := fun n : Nat => if r.present then n % 65536 else 0
    let stroke := if r.present then r.lastStroke else none
    b.length = 25 ∧ one b 0 = d.val ∧ two b 1 = held w.overtravel ∧ two b 3 = held w.switch ∧
    two b 5 = held w.obstruction ∧ two b 7 = held w.drift ∧ two b 9 = held w.drive ∧
    two b 11 = r.learnedClose % 65536 ∧ two b 13 = r.learnedOpen % 65536 ∧ two b 15 = x.nominalClose % 65536 ∧
    two b 17 = x.nominalOpen % 65536 ∧
    (stroke = none → one b 19 = 0 ∧ two b 20 = 0 ∧ one b 22 = 0 ∧ one b 23 = 0) ∧
    (∀ y, stroke = some y → one b 19 = 1 ∧ two b 20 = y.ticks % 65536 ∧ one b 22 = flag (y.dir == .opn) ∧
      one b 23 = flag (!y.accepted)) ∧
    one b 24 = (match r.testResult with
      | .none => 0 | .running => 1 | .pass => 2 | .failOpen => 3 | .failClose => 4 | .aborted => 5)) ∧
  (∀ p : Port,
    let b := linesBytes p
    b.length = 14 ∧ two b 0 = p.lineA.checkErrors % 65536 ∧ two b 2 = p.lineA.framingErrors % 65536 ∧
    one b 4 = flag p.lineA.silent ∧ two b 5 = p.lineB.checkErrors % 65536 ∧ two b 7 = p.lineB.framingErrors % 65536 ∧
    one b 9 = flag p.lineB.silent ∧ one b 10 = p.interval % 256 ∧ one b 11 = p.address.toNat ∧
    one b 12 = flag p.fallback ∧ one b 13 = flag p.fastRate) ∧
  (∀ (a : AlarmList) (start : Nat), a.all.length ≤ 49 → start ≤ 48 →
    let b := alarmPage a start
    let n := min 12 (a.all.length - start)
    b.length = 3 + 15 * n ∧ one b 0 = a.all.length ∧ one b 1 = start ∧ one b 2 = n ∧
    ∀ k : Fin 12, k.val < n → ∀ e, a.all[start + k.val]? = some e → (b.drop (3 + 15 * k.val)).take 15 = entryBytes e) ∧
  (∀ g : GroupRecord,
    let b := groupBytes g
    let names := fun (at_ : Nat) (x : KindSet) =>
      one b at_ < 16 ∧ ∀ n : Fin 20, (byteAt b (at_ + 2 - n.val / 8)).getLsbD (n.val % 8) = x.getLsbD n.val
    b.length = 48 ∧ one b 0 = (match g.startMode with | .local_ => 0 | .closed => 1) ∧
    one b 1 = g.warningTime % 256 ∧ two b 2 = g.dwellTime % 65536 ∧ one b 4 = g.transitLimit % 256 ∧
    one b 5 = g.driveSettle % 256 ∧ one b 6 = g.edgeClear % 256 ∧ one b 7 = flag g.closeOnLoss ∧
    one b 8 = g.supervision % 256 ∧
    (∀ h : HpuId, one b (9 + 2 * h.val) = g.normalCapacity[h] % 256 ∧ one b (10 + 2 * h.val) = g.emergencyCapacity[h] % 256) ∧
    two b 17 = g.wearThresholds.overtravel % 65536 ∧ two b 19 = g.wearThresholds.switch % 65536 ∧
    two b 21 = g.wearThresholds.obstruction % 65536 ∧ two b 23 = g.wearThresholds.drift % 65536 ∧
    two b 25 = g.wearThresholds.drive % 65536 ∧ two b 27 = g.checkErrorThreshold % 65536 ∧
    two b 29 = g.framingErrorThreshold % 65536 ∧
    names 31 g.recordMask ∧ names 34 g.annunciateMask ∧ names 37 g.routedKinds ∧
    one b 40 = g.endTimes.assert % 256 ∧ one b 41 = g.endTimes.release % 256 ∧
    one b 42 = g.handleTimes.assert % 256 ∧ one b 43 = g.handleTimes.release % 256 ∧
    one b 44 = g.edgeTimes.assert % 256 ∧ one b 45 = g.edgeTimes.release % 256 ∧
    one b 46 = g.lineTimes.assert % 256 ∧ one b 47 = g.lineTimes.release % 256) ∧
  (∀ b : List Byte, b.length = 48 →
    let g := groupOf b
    let x := g.clamped
    let within := fun low high n : Nat => max low (min high n)
    let names := fun (at_ : Nat) (x : KindSet) =>
      ∀ n : Fin 20, x.getLsbD n.val = (byteAt b (at_ + 2 - n.val / 8)).getLsbD (n.val % 8)
    let times := fun (at_ : Nat) (t t' : FilterTimes) => t = ⟨one b at_, one b (at_ + 1)⟩ ∧
      t' = ⟨within 1 255 (one b at_), within 1 255 (one b (at_ + 1))⟩
    (groupChecked b = true ↔ one b 0 ≤ 1 ∧ one b 7 ≤ 1 ∧ one b 31 < 16 ∧ one b 34 < 16 ∧ one b 37 < 16) ∧
    g.startMode = (if one b 0 = 0 then .local_ else .closed) ∧ x.startMode = g.startMode ∧
    g.warningTime = one b 1 ∧ x.warningTime = within 0 100 (one b 1) ∧
    g.dwellTime = two b 2 ∧ x.dwellTime = within 10 300 (two b 2) ∧
    g.transitLimit = one b 4 ∧ x.transitLimit = one b 4 ∧
    g.driveSettle = one b 5 ∧ x.driveSettle = within 2 50 (one b 5) ∧
    g.edgeClear = one b 6 ∧ x.edgeClear = within 5 100 (one b 6) ∧
    g.closeOnLoss = (one b 7 != 0) ∧ x.closeOnLoss = g.closeOnLoss ∧
    g.supervision = one b 8 ∧ x.supervision = one b 8 ∧
    (∀ h : HpuId,
      g.normalCapacity[h] = one b (9 + 2 * h.val) ∧ x.normalCapacity[h] = within 0 31 (one b (9 + 2 * h.val)) ∧
      g.emergencyCapacity[h] = one b (10 + 2 * h.val) ∧ x.emergencyCapacity[h] = within 0 31 (one b (10 + 2 * h.val))) ∧
    g.wearThresholds = ⟨two b 17, two b 19, two b 21, two b 23, two b 25⟩ ∧ x.wearThresholds = g.wearThresholds ∧
    g.checkErrorThreshold = two b 27 ∧ x.checkErrorThreshold = two b 27 ∧
    g.framingErrorThreshold = two b 29 ∧ x.framingErrorThreshold = two b 29 ∧
    names 31 g.recordMask ∧ names 34 g.annunciateMask ∧ names 37 g.routedKinds ∧
    x.recordMask = g.recordMask ∧ x.annunciateMask = g.annunciateMask ∧ x.routedKinds = g.routedKinds ∧
    times 40 g.endTimes x.endTimes ∧ times 42 g.handleTimes x.handleTimes ∧
    times 44 g.edgeTimes x.edgeTimes ∧ times 46 g.lineTimes x.lineTimes) ∧
  (∀ (d : DoorId) (r : DoorRecord), r.label.length ≤ 16 →
    let b := doorBytes d r
    b.length = 28 ∧ one b 0 = d.val ∧ one b 1 = flag r.present ∧ one b 2 = r.zone.val ∧ one b 3 = r.hpu.val ∧
    one b 4 = r.demand % 256 ∧ two b 5 = r.nominalClose % 65536 ∧ two b 7 = r.nominalOpen % 65536 ∧
    one b 9 = r.margin % 256 ∧ (byteAt b 10).getLsbD 0 = r.edgeEnable ∧ (byteAt b 10).getLsbD 1 = r.floodInhibit ∧
    (byteAt b 10).getLsbD 2 = r.driveCheck ∧ one b 10 < 8 ∧ one b 11 = r.label.length ∧
    ∀ k : Fin 16, byteAt b (12 + k.val) = r.label.getD k.val 0x20) ∧
  (∀ b : List Byte, b.length = 28 →
    let r := doorOf b
    let x := r.clamped
    let within := fun low high n : Nat => max low (min high n)
    (doorChecked b = true ↔ one b 0 < 24 ∧ one b 1 ≤ 1 ∧ one b 2 < 8 ∧ one b 3 < 4 ∧ one b 11 ≤ 16 ∧
      ∀ k : Fin 16, k.val < one b 11 → 0x20 ≤ one b (12 + k.val) ∧ one b (12 + k.val) ≤ 0x7E) ∧
    (doorChecked b = true →
      r.present = (one b 1 == 1) ∧ r.zone.val = one b 2 ∧ r.hpu.val = one b 3 ∧
      r.demand = one b 4 ∧ x.demand = within 1 8 (one b 4) ∧
      r.nominalClose = two b 5 ∧ x.nominalClose = within 30 600 (two b 5) ∧
      r.nominalOpen = two b 7 ∧ x.nominalOpen = within 30 600 (two b 7) ∧
      r.margin = one b 9 ∧ x.margin = within 0 100 (one b 9) ∧
      r.edgeEnable = (byteAt b 10).getLsbD 0 ∧ r.floodInhibit = (byteAt b 10).getLsbD 1 ∧
      r.driveCheck = (byteAt b 10).getLsbD 2 ∧ r.label = (b.drop 12).take (one b 11) ∧
      x = { r with
        demand := x.demand, nominalClose := x.nominalClose, nominalOpen := x.nominalOpen, margin := x.margin }))

/-- DOOR_STATUS reports the doors it covers as they stand, and then sets each one's tight latch from its closed
switch and clears its change flag; it changes nothing else, and refuses a first door or a count that does not stay
within the doors. -/
def Obligations.DoorStatusReads : Prop :=
  ∀ (s : State) (r : Req) (first count : Byte), Waits s (.doorStatus r) r → r.body = [first, count] →
    let valid := 1 ≤ count.toNat ∧ first.toNat + count.toNat ≤ 24
    ∃ t, exec (.doorStatus r) s = .next t ∧ t.inFlight = s.inFlight ∧ DoorTableOnly s { t with port := s.port } ∧
      t.channels = s.channels ∧
      (¬valid → Answered s.port r 0x03 (some .badValue) [] t ∧ t.doors = s.doors) ∧
      (valid →
        Answered s.port r 0x03 none
          (first :: count :: ((allDoors.drop first.toNat).take count.toNat).flatMap
            fun d => doorEntry d (s.door d) (s.channel d)) t ∧
        ∀ d : DoorId, t.door d =
          if first.toNat ≤ d.val ∧ d.val < first.toNat + count.toNat then
            { s.door d with
              tight := (s.channel d).closedSwitch.filtered && (s.door d).present, changed := false }
          else s.door d)

/-- ALARM_READ answers with up to twelve entries from its start index and clears ALARMS_CHANGED where it reaches the
end of the list; an index above 48 is refused. ALARM_ACK of all leaves the ACTIVE entries, every one acknowledged,
and both outputs off; the overflow entry is acted on with the others, and an ACTIVE one is then removed where 40 ordinary
entries or fewer are left. An ALARM_ACK of one named entry, LIST_OVERFLOW's too, acknowledges an ACTIVE_UNACK one, removes a
CLEARED_UNACK one, after which the overflow entry is evaluated, and leaves an ACTIVE_ACK one. One whose kind code lies outside
1-20, whose subject has another sort than its kind or an index outside its range, or that names no entry is refused. -/
def Obligations.AlarmRequests : Prop :=
  ∀ (s : State) (r : Req),
    let a := s.alarms
    (∀ b : Byte, Waits s (.alarmRead r) r → r.body = [b] →
      ∃ t, exec (.alarmRead r) s = .next t ∧ t = { s with port := t.port, alarms := t.alarms } ∧
        (48 < b.toNat → Answered s.port r 0x04 (some .badValue) [] t ∧ t.alarms = a) ∧
        (b.toNat ≤ 48 → Answered s.port r 0x04 none (alarmPage a b.toNat) t ∧
          t.alarms = { a with
            changed := a.changed &&
              !(decide (a.all = [] ∧ b = 0) || decide (b.toNat < a.all.length ∧ a.all.length ≤ b.toNat + 12)) })) ∧
    (∀ b : Byte, Waits s (.alarmAck r) r → r.body = [b] →
      ∃ t, exec (.alarmAck r) s = .next t ∧ t = { s with port := t.port, alarms := t.alarms } ∧
        (b ≠ 0 → Answered s.port r 0x05 (some .badValue) [] t ∧ t.alarms = a) ∧
        (b = 0 → Answered s.port r 0x05 none [] t ∧
          (let left := a.entries.filter (·.state != .clearedUnack)
           let acked := fun e : Entry => if e.state = .activeUnack then { e with state := .activeAck, last := s.time } else e
           let changes := a.all.any (·.state != .activeAck) || (a.overflow.isSome && decide (left.length ≤ 40))
           t.alarms = ⟨left.map acked,
             if 40 < left.length then (a.overflow.filter (·.state != .clearedUnack)).map acked else none,
             false, false, a.changed || changes⟩))) ∧
    (∀ (k x n : Byte), Waits s (.alarmAck r) r → r.body = [k, x, n] →
      let sort := x.toNat
      let index := n.toNat
      k = 0 ∨ 20 < k.toNat ∨ 3 < sort ∨ sort = 0 ∧ 1 ≤ index ∨ sort = 1 ∧ 24 ≤ index ∨ sort = 2 ∧ 4 ≤ index ∨
        sort = 3 ∧ 2 ≤ index →
      ∃ t, exec (.alarmAck r) s = .next t ∧ t = { s with port := t.port } ∧ Answered s.port r 0x05 (some .badValue) [] t) ∧
    (∀ (k : AlarmKind) (x : Subject), Waits s (.alarmAck r) r → r.body = byteOf (alarmCode k) :: subjectBytes x →
      (∀ e ∈ a.entries, e.kind ≠ .listOverflow) → (∀ e ∈ a.overflow, e.kind = .listOverflow ∧ e.subject = .group) →
      (a.entries.map fun e => (e.kind, e.subject)).Nodup →
      let changes := fun (t : State) (a' : AlarmList) =>
        t.alarms = AlarmList.setOutputs s.image.group.routedKinds { a' with changed := true }
      ∃ t, exec (.alarmAck r) s = .next t ∧ t = { s with port := t.port, alarms := t.alarms } ∧
        (k.fits x = false ∨ k ≠ .listOverflow ∧ a.find k x = none ∨ k = .listOverflow ∧ a.overflow = none →
          Answered s.port r 0x05 (some .badValue) [] t ∧ t.alarms = a) ∧
        (∀ e, k.fits x = true → k ≠ .listOverflow → a.find k x = some e → Answered s.port r 0x05 none [] t ∧
          (e.state = .activeAck → t.alarms = a) ∧
          (e.state = .activeUnack → changes t
            { a with
              entries := a.entries.map fun e' =>
                if e' = e then { e with state := .activeAck, last := s.time } else e' }) ∧
          (e.state = .clearedUnack → changes t (AlarmList.withRoom s.time { a with entries := a.entries.erase e }))) ∧
        (∀ e, k.fits x = true → k = .listOverflow → a.overflow = some e → Answered s.port r 0x05 none [] t ∧
          (e.state = .activeAck → t.alarms = a) ∧
          (e.state = .activeUnack → changes t { a with overflow := some { e with state := .activeAck, last := s.time } }) ∧
          (e.state = .clearedUnack → changes t { a with overflow := none })))

/-- MODE_SET gives the mode, and every door its standing authority by it, whatever the latch; the mode already in force changes
nothing, and a value above 1 is refused. A broadcast does the same without a reply. EMERGENCY_RELEASE is refused with
LINE_ACTIVE while the filtered emergency-close line is ACTIVE, changes nothing while the latch is clear, and otherwise clears
the latch, after which every door has the standing authority its other sources give. With no message on its way EMERGENCY_CLOSE
is then cleared at the alarm list, and after it TRANSIT_LONG of some doors: where each record holds the standing authority last
reported, those are the doors in transit that fall to NONE. That these are taken before the reply is the model's reading (entry
3), their order its choice (entry 25). -/
def Obligations.ModeAndReleaseRequests : Prop :=
  (∀ (s : State) (r : Req) (b : Byte), (s.port.line r.line).waiting = some (.modeSet r) →
     (s.port.line r.line).reply = none → s.port.restarting = none → r.body = [b] →
     let mode : GroupMode := if b = 0 then .local_ else .closed
     let freed := s.port.withLine r.line
       { s.port.line r.line with rx := .hunt, buffer := [], gap := false, waiting := none }
     ∃ t, exec (.modeSet r) s = .next t ∧ CompletionFrame s t ∧
       (1 < b.toNat → t = { s with port := t.port } ∧
         (r.broadcast = false → Answered s.port r 0x06 (some .badValue) [] t) ∧ (r.broadcast = true → t.port = freed)) ∧
       (b.toNat ≤ 1 →
         (r.broadcast = false → Answered s.port r 0x06 none [] t) ∧ (r.broadcast = true → t.port = freed) ∧
         t.resolver.mode = mode ∧ t.resolver.latch = s.resolver.latch ∧ t.resolver.flood = s.resolver.flood ∧
         (∀ d : DoorId, t.resolver.doors[d] =
           { s.resolver.doors[d] with reported := strongestSource s.image { s.resolver with mode := mode } d }) ∧
         (StandingInv s → s.resolver.mode = mode → t = { s with port := t.port }))) ∧
  (∀ (s : State) (r : Req), Waits s (.emergencyRelease r) r → r.body = [] →
     ∃ t, exec (.emergencyRelease r) s = .next t ∧ CompletionFrame s t ∧
       (s.lines.emergency.filtered = true →
         Answered s.port r 0x0F (some .lineActive) [] t ∧ t = { s with port := t.port }) ∧
       (s.lines.emergency.filtered = false → s.resolver.latch = false →
         Answered s.port r 0x0F none [] t ∧ t = { s with port := t.port }) ∧
       (s.lines.emergency.filtered = false → s.resolver.latch = true →
         Answered s.port r 0x0F none [] t ∧ t.resolver.latch = false ∧ t.resolver.mode = s.resolver.mode ∧
         t.resolver.flood = s.resolver.flood ∧
         (∀ d : DoorId, t.resolver.doors[d] =
           { s.resolver.doors[d] with reported := strongestSource s.image { s.resolver with latch := false } d }) ∧
         (s.inFlight = [] → ∃ ms, t.alarms =
             AlarmList.takeAll s.image s.time (.alarmClear .emergencyClose .group :: ms) s.alarms ∧
           (∀ m ∈ ms, ∃ d : DoorId, m = .alarmClear .transitLong (.door d)) ∧
           (StandingInv s → (∀ d : DoorId, (s.door d).standing = s.resolver.doors[d].reported) →
             let ends := fun d : DoorId => (s.door d).motion ≠ .isolated ∧ (s.door d).motion ≠ .absent ∧
               (s.door d).standing ≠ .none ∧ strongestSource s.image { s.resolver with latch := false } d = .none
             ms = allDoors.flatMap fun d => if ends d then transitMessages d (s.door d) else []))))

/-- CLOSE_DOORS registers each named door that is not ABSENT, ISOLATED or CLOSED; CLOSE_ZONES does so for the
present, not isolated doors of the named zones; RELEASE_DOORS ends the registrations of the named doors. Each leaves
every door with the standing authority its sources then give, and every other door's registration as it was: a present,
not isolated door is reported EMERGENCY while the latch is set, else CENTRAL in the mode CLOSED, else REMOTE where it is
registered, else NONE, and any other door NONE. -/
def Obligations.RegistrationRequests : Prop :=
  ∀ (s : State) (r : Req),
    let registers := fun (c : Instr) (kind : Byte) (after : DoorId → Bool) =>
      ∃ t, exec c s = .next t ∧ CompletionFrame s t ∧ Answered s.port r kind none [] t ∧
        t.resolver.mode = s.resolver.mode ∧ t.resolver.latch = s.resolver.latch ∧
        t.resolver.flood = s.resolver.flood ∧ StandingInv t ∧
        ∀ d : DoorId, t.resolver.doors[d].registered = after d ∧
          t.resolver.doors[d].isolated = s.resolver.doors[d].isolated ∧
          t.resolver.doors[d].mark = s.resolver.doors[d].mark ∧
          (let serves := s.image.doors[d].present = true ∧ s.resolver.doors[d].isolated = false
           let reported := t.resolver.doors[d].reported
           (¬serves → reported = .none) ∧
           (serves → s.resolver.latch = true → reported = .emergency) ∧
           (serves → s.resolver.latch = false → s.resolver.mode = .closed → reported = .central) ∧
           (serves → s.resolver.latch = false → s.resolver.mode = .local_ →
             reported = if after d then .remote else .none))
    let open_ := fun d : DoorId =>
      (s.door d).motion != .absent && (s.door d).motion != .isolated && (s.door d).motion != .closed
    let held := fun d : DoorId => s.resolver.doors[d].registered
    (∀ b2 b1 b0 : Byte, Waits s (.closeDoors r) r → r.body = [b2, b1, b0] →
      registers (.closeDoors r) 0x07 fun d => held d || ((b2 ++ b1 ++ b0).getLsbD d.val && open_ d)) ∧
    (∀ b : Byte, Waits s (.closeZones r) r → r.body = [b] →
      registers (.closeZones r) 0x08 fun d => held d ||
        (s.image.doors[d].present && !s.resolver.doors[d].isolated && b.getLsbD s.image.doors[d].zone.val && open_ d)) ∧
    (∀ b2 b1 b0 : Byte, Waits s (.releaseDoors r) r → r.body = [b2, b1, b0] →
      registers (.releaseDoors r) 0x09 fun d => held d && !(b2 ++ b1 ++ b0).getLsbD d.val)

/-- ISOLATE: an index above 23 and an ABSENT door are refused, an isolated door is left as it is, and any other becomes ISOLATED
with its valves OFF, its stroke or its wait given back, its timers, transit and drift ended, no standing order, registration or
mark, and the estimate its switches give. Of the messages then on their way only reports to the alarm list can have been taken;
rulings and grants stay on theirs (the model's reading, entry 3), and a single message is made. That an isolated door keeps the
held flag of its wait is the model's reading too (entry 12). With no message on its way that a reply waits for, the alarm list
takes the clears of OPEN_INHIBITED, TRANSIT_LONG where the door was in transit, and DRIFT_OPEN: the first and last whether or
not they stand (its reading, entry 24), in an order that is its choice (entry 25). -/
def Obligations.IsolateTakesOutOfService : Prop :=
  ∀ (s : State) (r : Req) (b : Byte), Waits s (.isolate r) r → r.body = [b] →
    ∃ t, exec (.isolate r) s = .next t ∧ CompletionFrame s t ∧ t.recorder = s.recorder ∧
      (24 ≤ b.toNat → Answered s.port r 0x0A (some .badValue) [] t ∧ t = { s with port := t.port }) ∧
      ∀ d : DoorId, d.val = b.toNat →
        ((s.door d).motion = .absent → Answered s.port r 0x0A (some .wrongState) [] t ∧ t = { s with port := t.port }) ∧
        ((s.door d).motion = .isolated → Answered s.port r 0x0A none [] t ∧ t = { s with port := t.port }) ∧
        ((s.door d).motion ≠ .absent → (s.door d).motion ≠ .isolated →
          let moving := isMoving (s.door d).motion
          let c := s.channel d
          let rest := if moving then (s.door d).strokeOver s.image c else s.door d
          Answered s.port r 0x0A none [] t ∧
          t.resolver = { s.resolver with doors := s.resolver.doors.set d ⟨false, true, false, .none⟩ } ∧
          (∀ e, e ≠ d → t.door e = s.door e ∧ t.channel e = s.channel e) ∧
          (t.door d).still = { rest.outOfTransit.still with
            motion := .isolated, standing := .none, drifted := false
            warningTimer := none, dwellTimer := none, edgeWait := .none, edgeTimer := none
            estimate := if c.restsAt .cls then 0 else if c.restsAt .opn then 1000 else clamp 10 990 rest.estimate } ∧
          Drives c (t.channel d) (c.openValve && !(moving && (s.door d).dir == .opn))
            (c.closeValve && !(moving && (s.door d).dir == .cls)) ∧
          (t.inFlight.filter fun m => (alarmOf? m).isNone) = (s.inFlight.filter fun m => (alarmOf? m).isNone) ++
            (if moving then [.release d] else if (s.door d).motion = .queued then [.withdraw d] else []) ∧
          (∀ m ∈ t.inFlight, (alarmOf? m).isSome = true → m ∈ s.inFlight) ∧
          ((∀ m ∈ s.inFlight, completes m = false) →
            t.alarms = AlarmList.takeAll s.image s.time
              (.alarmClear .openInhibited (.door d) :: transitMessages d (s.door d) ++ [.alarmClear .driftOpen (.door d)])
              s.alarms))

/-- RESTORE: an index above 23, an ABSENT door and one in its drive test are refused, a door that is not isolated is left as
it is, and an isolated one enters SETTLING with its two end-switch filters primed again and its standing authority computed
and taken. What the resolver still had on its way to the door has been taken before, by the ISOLATED door (the model's choice,
entry 37), and every other message stays on its way (its reading, entry 3), a referral or notice of the door to the resolver
among them (its choice, entry 37). -/
def Obligations.RestoreReturnsToService : Prop :=
  ∀ (s : State) (r : Req) (b : Byte), Waits s (.restore r) r → r.body = [b] → StandingInv s →
    ∃ t, exec (.restore r) s = .next t ∧ DoorTableOnly s { t with port := s.port, resolver := s.resolver } ∧
      (24 ≤ b.toNat → Answered s.port r 0x0B (some .badValue) [] t ∧ t = { s with port := t.port }) ∧
      ∀ d : DoorId, d.val = b.toNat →
        ((s.door d).motion = .absent → Answered s.port r 0x0B (some .wrongState) [] t ∧ t = { s with port := t.port }) ∧
        ((s.door d).motion ≠ .absent → (s.door d).motion ≠ .isolated →
          Answered s.port r 0x0B none [] t ∧ t = { s with port := t.port }) ∧
        ((s.door d).motion = .isolated → (s.door d).testResult = .running →
          Answered s.port r 0x0B (some .wrongState) [] t ∧ t = { s with port := t.port }) ∧
        ((s.door d).motion = .isolated → (s.door d).testResult ≠ .running → s.image.doors[d].present = true →
          s.resolver.doors[d].isolated = true → (s.door d).standing = .none → (s.door d).transit = false →
          let a := strongestSource s.image { s.resolver with
            doors := s.resolver.doors.set d { s.resolver.doors[d] with isolated := false } } d
          let times := s.image.group.endTimes
          let again := fun f : Filter =>
            { f with primed := false, pending := none, first := some (if f.raw then times.assert else times.release) }
          Answered s.port r 0x0B none [] t ∧
          t.inFlight = s.inFlight.filter (fun m => route? m != some (.toDoorTable d)) ∧
          t.resolver = { s.resolver with
            doors := s.resolver.doors.set d { s.resolver.doors[d] with isolated := false, reported := a } } ∧
          (∀ e, e ≠ d → t.door e = s.door e ∧ t.channel e = s.channel e) ∧
          (t.door d).still = { (s.door d).still with
            motion := .settling, settle := ⟨false, false, false⟩, tight := false, standing := a
            warningTimer := none, dwellTimer := none, edgeWait := .none, edgeTimer := none } ∧
          (t.channel d).inputs = { (s.channel d).inputs with
            closedSwitch := again (s.channel d).closedSwitch, openSwitch := again (s.channel d).openSwitch })

/-- FLOOD_SET sets the flags of the named zones. A present, flood-inhibited door that is not isolated, of a zone whose flag it
sets, has its opening ended, moving or waiting: in transit it goes straight to the close of its standing order, a WARNING or a
wait for flow, and otherwise it comes to rest. A named door in any other state is moved by no flood stop, and every other door
is as it was. Older rulings and reports on their way to the doors that the flags newly bar are taken first, in their order for
each door (the model's reading, entry 29) and the doors in that of their indices (its choice, entry 25), said step by step for
a message whose taking makes none that is taken before the reply; whatever they start, no named door is left opening or waiting
to open, and none of them is left on its way. FLOOD_CLEAR clears the flags of the named zones and moves no door. The model's
readings are which messages are taken before the reply and which stay (entry 3), the held flag that a door keeps as it leaves
its queue (entry 12) and what a close keeps that needs no stroke (entry 27); its choices are LOCAL for a transit close that
finds no standing authority (entry 28) and the motion authority left as it was at a flood stop that warns (entry 34), and the
order among the doors and of each door's messages (entry 25). -/
def Obligations.FloodFlags : Prop :=
  ∀ (s : State) (r : Req) (b : Byte), r.body = [b] →
    let barred := fun d : DoorId => s.image.doors[d].floodInhibit = true ∧
      b.getLsbD s.image.doors[d].zone.val = true ∧ s.resolver.flood.getLsbD s.image.doors[d].zone.val = false
    let named := fun d : DoorId => s.image.doors[d].present = true ∧ s.resolver.doors[d].isolated = false ∧ barred d
    let older := fun d : DoorId => s.inFlight.filter fun m => route? m == some (.toDoorTable d)
    (Waits s (.floodSet r) r →
      ∃ t, exec (.floodSet r) s = .next t ∧ CompletionFrame s t ∧ Answered s.port r 0x0D none [] t ∧
        t.resolver = { s.resolver with flood := s.resolver.flood ||| b } ∧
        (∀ d, named d → ¬((t.door d).motion = .opening ∨ (t.door d).motion = .queued ∧ (t.door d).dir = .opn)) ∧
        (∀ d, barred d → ∀ m ∈ t.inFlight, route? m ≠ some (.toDoorTable d))) ∧
    (∀ d m, Waits s (.floodSet r) r → barred d → (older d).head? = some m → (∀ e, e < d → barred e → older e = []) →
      ∃ u, exec m s = .next u ∧
        (u.inFlight.filter completes = (s.taking m).inFlight.filter completes →
          exec (.floodSet r) s = exec (.floodSet r) u)) ∧
    (Waits s (.floodSet r) r → (∀ d, barred d → older d = []) →
      ∃ t, exec (.floodSet r) s = .next t ∧ t.recorder = s.recorder ∧
        let stopped := fun d => (s.door d).floodStopped s.image (s.channel d)
        let made := fun d => floodMessages s.image d (s.channel d) (s.door d) ++
          proceedMessages s.image d (s.channel d) (stopped d)
        t.inFlight.filter (!completes ·) = s.inFlight.filter (!completes ·) ++
          allDoors.flatMap (fun d => if named d then (made d).filter (!completes ·) else []) ∧
        (∀ m ∈ t.inFlight, completes m = true → m ∈ s.inFlight) ∧
        ∀ d : DoorId,
          let r := s.door d
          let c := s.channel d
          let ends := decide (r.motion = .opening)
          (¬named d → t.door d = r ∧ t.channel d = c) ∧
          (named d → (t.door d).still = ((stopped d).proceeds s.image c).still ∧
            Drives c (t.channel d) (c.openValve && !(ends && r.dir == .opn)) (c.closeValve && !(ends && r.dir == .cls)))) ∧
    (Waits s (.floodClear r) r →
      ∃ t, exec (.floodClear r) s = .next t ∧ Answered s.port r 0x0E none [] t ∧
        t = { s with port := t.port, resolver := { s.resolver with flood := s.resolver.flood &&& ~~~b } })

/-- FAULT_CLEAR of a set of doors, with no message on its way. A named door's capture is emptied, its alarm's reset condition is
met, and it is no longer faulted where no condition persists: a due door then starts its close. A mismatch that the door's
drive-check flag reports and a conflict of its end switches persist: they fill a fresh capture in the same request, by their
priority, with the values and group time of the clear, raise its alarm and leave the door faulted; no counter rises. An ABSENT
door, one without a capture and one not named are passed over. That both conditions make one report is the model's reading
(entry 14), and so are what stays on its way after the reply (entry 3) and the held flag that a door keeps as its wait for flow
ends (entry 12); the order of the reports is its choice (entry 25). COUNTERS_CLEAR sets the counters of the named present doors
to 0, ends their WEAR and clears it where it stood, and leaves captures and every other door's counters alone. -/
def Obligations.ClearRequests : Prop :=
  ∀ (s : State) (r : Req) (b2 b1 b0 : Byte), r.body = [b2, b1, b0] →
    let named := fun d : DoorId => (b2 ++ b1 ++ b0).getLsbD d.val && s.image.doors[d].present
    (Waits s (.faultClear r) r → s.inFlight = [] → FaultedInv s →
      let i := s.image
      let cleared := fun d => named d && s.recorder.doors[d].capture.isSome
      let mismatch := fun d => i.doors[d].driveCheck && ((s.door d).openCheck.reported || (s.door d).closeCheck.reported)
      let conflict := fun d => (s.channel d).closedSwitch.filtered && (s.channel d).openSwitch.filtered &&
        (s.door d).motion != .isolated
      let found := fun d => if mismatch d then FaultKind.driveFault else .switchConflict
      let persists := fun d => cleared d && (mismatch d || conflict d)
      let freed := fun d => ({ s.door d with faulted := false } : Door)
      let refilled := fun d =>
        let x := s.door d
        let y : Door := { x.outOfTransit with
          edgeWait := .none, edgeTimer := none
          settle := { x.settle with conflict := x.settle.conflict || (x.motion == .settling && conflict d) } }
        if x.motion = .queued then y.atRest (s.channel d) else y
      let resets := (allDoors.filter cleared).flatMap fun d =>
        (s.recorder.doors[d].capture.map fun c => Instr.alarmResetCondition (faultAlarm c.kind) (.door d)).toList
      let raises := (allDoors.filter persists).map fun d => Instr.alarmRaise (faultAlarm (found d)) (.door d)
      ∃ t, exec (.faultClear r) s = .next t ∧ CompletionFrame s t ∧ Answered s.port r 0x0C none [] t ∧
        t.resolver = s.resolver ∧ t.recorder.drive = s.recorder.drive ∧
        t.alarms = AlarmList.takeAll i s.time (resets ++ raises) s.alarms ∧
        (t.inFlight = (allDoors.filter fun d => cleared d && !persists d).flatMap
            (fun d => proceedMessages i d (s.channel d) (freed d)) ++
          (allDoors.filter fun d => persists d && (s.door d).motion == .queued).map Instr.withdraw) ∧
        ∀ d : DoorId, Drives (s.channel d) (t.channel d) (s.channel d).openValve (s.channel d).closeValve ∧
          (cleared d = false → t.recorder.doors[d] = s.recorder.doors[d] ∧ t.door d = s.door d) ∧
          (cleared d = true → persists d = false →
            t.recorder.doors[d] = { s.recorder.doors[d] with capture := none } ∧
            (t.door d).still = ((freed d).proceeds i (s.channel d)).still) ∧
          (persists d = true →
            t.recorder.doors[d] = { s.recorder.doors[d] with capture := some ⟨found d, (s.door d).asReported, s.time,
              if mismatch d && conflict d then faultBit .switchConflict else 0⟩ } ∧
            (t.door d).still = (refilled d).still)) ∧
    (Waits s (.countersClear r) r →
      ∃ t, exec (.countersClear r) s = .next t ∧ CompletionFrame s t ∧ Answered s.port r 0x14 none [] t ∧
        t.resolver = s.resolver ∧ t.doors = s.doors ∧ t.channels = s.channels ∧ t.recorder.drive = s.recorder.drive ∧
        (∀ d : DoorId, t.recorder.doors[d] =
          if named d then ⟨s.recorder.doors[d].capture, ⟨0, 0, 0, 0, 0⟩, false⟩ else s.recorder.doors[d]) ∧
        (s.inFlight = [] → t.inFlight = [] ∧ t.alarms = AlarmList.takeAll s.image s.time
          ((allDoors.filter fun d => named d && s.recorder.doors[d].wear).map fun d => Instr.alarmClear .wear (.door d))
          s.alarms))

/-- LINES_CLEAR sets the error counters of the named lines to 0, clears LINE_DEGRADED of each of them where it stood, and
refuses another selector. SUPERVISION_SET gives the interval: 0 ends supervision and silence on both lines and clears
LINE_SILENT of both and REMOTE_LOST, and any other value restarts the timer of each line that is not silent. The clears are
stated for a state with no message on its way that a reply waits for; that they are taken before the reply is the model's
reading (entry 3), and so are clears whether or not the alarm stands (entry 24), while line A before line B is its choice (entry
25). RESTART is answered at once, and until the reply has been sent no further request is taken: one that waits on the other
line is discarded, and that line's receiver returns to HUNT (the model's choice, entry 40). Nothing else changes before the
restart. That a request command on an idle line is its frame's arrival is the
model's choice (entry 11). -/
def Obligations.LinePortRequests : Prop :=
  (∀ (s : State) (r : Req) (b : Byte), r.body = [b] →
    let a := s.port.lineA
    let y := s.port.lineB
    let cleared := fun (z : LinePort) => { z with checkErrors := 0, framingErrors := 0, degraded := false }
    let timed := fun (z : LinePort) => if z.silent then z else { z with silence := some b.toNat }
    let stopped := fun (z : LinePort) => { z with silence := none, silent := false }
    let nothingOwed := ∀ m ∈ s.inFlight, completes m = false
    let alarmsTake := fun (t : State) (ms : List Instr) =>
      t = { s with port := t.port, alarms := AlarmList.takeAll s.image s.time ms s.alarms }
    (Waits s (.linesClear r) r →
      ∃ t, exec (.linesClear r) s = .next t ∧ CompletionFrame s t ∧ t.resolver = s.resolver ∧ t.recorder = s.recorder ∧
        t.doors = s.doors ∧
        (nothingOwed → b.toNat ≤ 2 → alarmsTake t
          ((if b ≠ 1 ∧ a.degraded = true then [.alarmClear .lineDegraded (.line .a)] else []) ++
           (if b ≠ 0 ∧ y.degraded = true then [.alarmClear .lineDegraded (.line .b)] else []))) ∧
        (b = 0 → Answered { s.port with lineA := cleared a } r 0x16 none [] t) ∧
        (b = 1 → Answered { s.port with lineB := cleared y } r 0x16 none [] t) ∧
        (b = 2 → Answered { s.port with lineA := cleared a, lineB := cleared y } r 0x16 none [] t) ∧
        (2 < b.toNat → Answered s.port r 0x16 (some .badValue) [] t ∧ t = { s with port := t.port })) ∧
    (Waits s (.supervisionSet r) r →
      ∃ t, exec (.supervisionSet r) s = .next t ∧ CompletionFrame s t ∧ t.resolver = s.resolver ∧
        t.recorder = s.recorder ∧ t.doors = s.doors ∧
        (nothingOwed → b = 0 → alarmsTake t
          [.alarmClear .lineSilent (.line .a), .alarmClear .lineSilent (.line .b), .alarmClear .remoteLost .group]) ∧
        (b = 0 → Answered { s.port with interval := 0, lineA := stopped a, lineB := stopped y } r 0x17 none [] t) ∧
        (b ≠ 0 → Answered { s.port with interval := b.toNat, lineA := timed a, lineB := timed y } r 0x17 none [] t ∧
          t = { s with port := t.port }))) ∧
  (∀ (s : State) (r : Req), Waits s (.restart r) r → r.body = [] →
    let other := s.port.line (otherLine r.line)
    let freed : LinePort :=
      if other.waiting.isSome then { other with rx := .hunt, buffer := [], gap := false, waiting := none } else other
    ∃ t, exec (.restart r) s = .next t ∧
      Answered { s.port.withLine (otherLine r.line) freed with restarting := some r.line } r 0x1D none [] t ∧
      t = { s with port := t.port } ∧
      ∀ (c : Instr) (r' : Req) (kind : Byte), c = decodeRequest kind r' → kind.toNat < 0x80 → r'.line = otherLine r.line →
        r'.broadcast = false → ∃ u, exec c t = .next u ∧ (u.port.line r'.line).waiting = none ∧
          t.resolver = u.resolver ∧ t.doors = u.doors ∧ t.store = u.store ∧ t.alarms = u.alarms)

/-- CONFIG_STAGE puts a record whose fields hold allowed values into the staging image, clamped into their ranges,
and answers with it as staged; a selector above 1 and a field with another value are refused with BAD_VALUE, and a
selector that does not match the length with BAD_LENGTH. CONFIG_DISCARD makes the staging image a copy of the active
one. Neither touches anything else. -/
def Obligations.StagingRequests : Prop :=
  ∀ (s : State) (r : Req),
    (∀ (selector : Byte) (record : List Byte), Waits s (.configStage r) r → r.body = selector :: record →
      record.length = 28 ∨ record.length = 48 →
      ∃ t, exec (.configStage r) s = .next t ∧ t = { s with port := t.port, store := t.store } ∧
        (1 < selector.toNat → Answered s.port r 0x1A (some .badValue) [] t ∧ t.store = s.store) ∧
        (selector = 0 ∧ record.length = 28 ∨ selector = 1 ∧ record.length = 48 →
          Answered s.port r 0x1A (some .badLength) [] t ∧ t.store = s.store) ∧
        (selector = 0 → record.length = 48 →
          (groupChecked record = false → Answered s.port r 0x1A (some .badValue) [] t ∧ t.store = s.store) ∧
          (groupChecked record = true →
            let group := (groupOf record).clamped
            Answered s.port r 0x1A none (0 :: groupBytes group) t ∧
            t.store = { s.store with staging := { s.store.staging with group := group } })) ∧
        (selector = 1 → record.length = 28 →
          (doorChecked record = false → Answered s.port r 0x1A (some .badValue) [] t ∧ t.store = s.store) ∧
          (doorChecked record = true → ∀ d : DoorId, d.val = (byteAt record 0).toNat →
            let door := (doorOf record).clamped
            Answered s.port r 0x1A none (1 :: doorBytes d door) t ∧
            t.store = { s.store with
              staging := { s.store.staging with doors := s.store.staging.doors.set d door } }))) ∧
    (Waits s (.configDiscard r) r → r.body = [] →
      ∃ t, exec (.configDiscard r) s = .next t ∧ Answered s.port r 0x1C none [] t ∧
        t = { s with port := t.port, store := { s.store with staging := s.store.active } })

/-- CONFIG_COMMIT is refused with BUSY while a door warns, dwells, waits or moves, the latch is set or a store write
is in flight; with INVALID_CONFIG for the first door whose demand is above its HPU's Cn, or else the first HPU whose
Ce is above its Cn; and is taken otherwise: the staging image is active, a store write is in flight, and each door
that is now ABSENT or now present is so, with its valves OFF, while the learned times of the others stay where their
nominal times do. With no message on its way, every block's part: a door made ABSENT drops its capture, counters,
registration and alarm entries; one made present settles at 500 with its stroke record as at power-on and the standing
authority computed for it; TRAVEL_DRIFT, WEAR and LINE_DEGRADED are evaluated by the new image and reported where they
change, a disabled edge ends its wait, after which the door may close at once, every capacity is computed and every queue
served, and a new supervision interval is taken. The order of the reports is the model's choice (entry 25), as is that every
queue is served at each change of a capacity (entry 16) and that a standing still owed a message is kept (entry 30). Its readings
are which messages are taken before the reply (entry 3) and the fields that a door made ABSENT keeps: direction, stroke record,
motion authority, held flag and estimate (entry 15). -/
def Obligations.CommitIsTaken : Prop :=
  ∀ (s : State) (r : Req), Waits s (.configCommit r) r → r.body = [] → PresenceInv s → DriveInv s →
    let x := s.store
    let busy := (∃ d : DoorId, (s.door d).motion = .warning ∨ (s.door d).motion = .dwell ∨
      (s.door d).motion = .queued ∨ isMoving (s.door d).motion = true) ∨ s.resolver.latch = true ∨ x.writing = true
    let heavy := fun d : DoorId => x.staging.doors[d].present = true ∧
      x.staging.group.normalCapacity[x.staging.doors[d].hpu] < x.staging.doors[d].demand
    let above := fun h : HpuId => x.staging.group.normalCapacity[h] < x.staging.group.emergencyCapacity[h]
    ∃ t, exec (.configCommit r) s = .next t ∧
      (busy → Answered s.port r 0x1B (some .busy) [] t ∧ t = { s with port := t.port }) ∧
      (∀ d, ¬busy → heavy d → (∀ e, e < d → ¬heavy e) →
        Answered s.port r 0x1B (some .invalidConfig) [1, byteOf d.val] t ∧ t = { s with port := t.port }) ∧
      (∀ h, ¬busy → (∀ d, ¬heavy d) → above h → (∀ g, g < h → ¬above g) →
        Answered s.port r 0x1B (some .invalidConfig) [2, byteOf h.val] t ∧ t = { s with port := t.port }) ∧
      (¬busy → (∀ d, ¬heavy d) → (∀ h, ¬above h) →
        t.store = { x with active := x.staging, defaultLoaded := false, writing := true } ∧
        Answered (s.port.committed x.active.group x.staging.group) r 0x1B none [1] t ∧
        t.lines = s.lines ∧ t.straps = s.straps ∧ t.time = s.time ∧ t.pending = s.pending ∧ t.freeDraws = s.freeDraws ∧
        t.resolver.mode = s.resolver.mode ∧ t.resolver.latch = s.resolver.latch ∧
        t.resolver.flood = s.resolver.flood ∧ StandingInv t ∧
        (s.inFlight = [] → StandingInv s → FlowInv s → Committed s t) ∧
        ∀ d : DoorId,
          let old := x.active.doors[d]
          let new := x.staging.doors[d]
          (t.door d).present = new.present ∧
          (old.present = true → new.present = false → (t.door d).motion = .absent ∧
            (t.channel d).openValve = false ∧ (t.channel d).closeValve = false ∧
            t.resolver.doors[d] = ⟨false, false, false, .none⟩ ∧ t.recorder.doors[d].capture = none ∧
            t.recorder.doors[d].counters = ⟨0, 0, 0, 0, 0⟩) ∧
          (old.present = false → new.present = true → (t.door d).motion = .settling ∧
            (t.channel d).openValve = false ∧ (t.channel d).closeValve = false ∧
            (t.door d).learnedClose = new.nominalClose ∧ (t.door d).learnedOpen = new.nominalOpen ∧
            (t.channel d).closedSwitch.primed = false ∧ (t.channel d).openSwitch.primed = false) ∧
          (old.present = true → new.present = true →
            (t.door d).learnedClose =
              (if new.nominalClose = old.nominalClose then (s.door d).learnedClose else new.nominalClose) ∧
            (t.door d).learnedOpen =
              (if new.nominalOpen = old.nominalOpen then (s.door d).learnedOpen else new.nominalOpen)))

/-! ### Values worked out from the records -/

/-- The position estimate of a moving door, and the deadline of a stroke that starts: the figures of R51 and R54, in
whole numbers, with the estimate held within 10-990 and the deadline within 10-1200. -/
def Obligations.EstimateAndDeadlineFigures : Prop :=
  (∀ r : Door, (r.motion = .closing ∧ r.dir = .cls ∨ r.motion = .opening ∧ r.dir = .opn) →
    let learned := r.learned r.dir
    let q : Int := ((r.elapsed * 1000 + learned / 2) / learned : Nat)
    let raw : Int := match r.dir with | .cls => r.p0 - q | .opn => r.p0 + q
    (r.estimateNow : Int) = min 990 (max 10 raw)) ∧
  (∀ (w : Work) (dir : Dir) (full : Bool), w.door.estimate ≤ 1000 →
    let x := match dir with
      | .cls => (w.door.estimate * w.door.learnedClose + 999) / 1000
      | .opn => ((1000 - w.door.estimate) * w.door.learnedOpen + 999) / 1000
    (w.beginStroke dir full).door.deadline = min 1200 (max 10 (x + x / 2 + w.config.margin)) ∧
    (w.beginStroke dir full).door.p0 = w.door.estimate ∧ (w.beginStroke dir full).door.elapsed = 0)

/-- The indicated state of a door is that of the first row of R141's table that applies. -/
def Obligations.IndicatedStateTable : Prop :=
  ∀ (r : Door) (c : Channel),
    let closedOn := c.closedSwitch.filtered = true
    let openOn := c.openSwitch.filtered = true
    let waits := r.motion = .warning ∨ r.motion = .dwell ∨ r.motion = .queued
    let settled := r.motion ≠ .absent ∧ r.motion ≠ .isolated ∧ r.motion ≠ .settling
    (r.motion = .absent → indicated r c = .absent) ∧
    (r.motion = .isolated → indicated r c = .isolated) ∧
    (r.motion = .settling → indicated r c = .unknown) ∧
    (settled → closedOn → openOn → indicated r c = .unknown) ∧
    (¬(closedOn ∧ openOn) →
      (r.motion = .opening ∨ r.motion = .closing → indicated r c = .moving) ∧
      (r.motion = .closed → indicated r c = .closed) ∧
      (r.motion = .opened → indicated r c = .opened) ∧
      (r.motion = .stopped → indicated r c = .partOpen) ∧
      (waits → openOn → indicated r c = .opened) ∧
      (waits → ¬openOn → closedOn → indicated r c = .closed) ∧
      (waits → ¬openOn → ¬closedOn → indicated r c = .partOpen))
end

