-- ==== Sys2Proof/Laws/State.lean ====
section
/-! SUPPORT. What each update of the state writes and leaves alone: one lemma per field per update. -/

namespace Sys2Proof.Machine

open Sys2Proof

/-! ### withChannel -/

@[simp] theorem State.withChannel_channels (s : State) (d : DoorId) (c : Channel) : (s.withChannel d c).channels = s.channels.set d c := rfl
@[simp] theorem State.withChannel_lines (s : State) (d : DoorId) (c : Channel) : (s.withChannel d c).lines = s.lines := rfl
@[simp] theorem State.withChannel_straps (s : State) (d : DoorId) (c : Channel) : (s.withChannel d c).straps = s.straps := rfl
@[simp] theorem State.withChannel_doors (s : State) (d : DoorId) (c : Channel) : (s.withChannel d c).doors = s.doors := rfl
@[simp] theorem State.withChannel_resolver (s : State) (d : DoorId) (c : Channel) : (s.withChannel d c).resolver = s.resolver := rfl
@[simp] theorem State.withChannel_alloc (s : State) (d : DoorId) (c : Channel) : (s.withChannel d c).alloc = s.alloc := rfl
@[simp] theorem State.withChannel_recorder (s : State) (d : DoorId) (c : Channel) : (s.withChannel d c).recorder = s.recorder := rfl
@[simp] theorem State.withChannel_alarms (s : State) (d : DoorId) (c : Channel) : (s.withChannel d c).alarms = s.alarms := rfl
@[simp] theorem State.withChannel_store (s : State) (d : DoorId) (c : Channel) : (s.withChannel d c).store = s.store := rfl
@[simp] theorem State.withChannel_port (s : State) (d : DoorId) (c : Channel) : (s.withChannel d c).port = s.port := rfl
@[simp] theorem State.withChannel_time (s : State) (d : DoorId) (c : Channel) : (s.withChannel d c).time = s.time := rfl
@[simp] theorem State.withChannel_inFlight (s : State) (d : DoorId) (c : Channel) : (s.withChannel d c).inFlight = s.inFlight := rfl
@[simp] theorem State.withChannel_pending (s : State) (d : DoorId) (c : Channel) : (s.withChannel d c).pending = s.pending := rfl
@[simp] theorem State.withChannel_freeDraws (s : State) (d : DoorId) (c : Channel) : (s.withChannel d c).freeDraws = s.freeDraws := rfl

/-! ### withDoor -/

@[simp] theorem State.withDoor_channels (s : State) (d : DoorId) (r : Door) : (s.withDoor d r).channels = s.channels := rfl
@[simp] theorem State.withDoor_lines (s : State) (d : DoorId) (r : Door) : (s.withDoor d r).lines = s.lines := rfl
@[simp] theorem State.withDoor_straps (s : State) (d : DoorId) (r : Door) : (s.withDoor d r).straps = s.straps := rfl
@[simp] theorem State.withDoor_doors (s : State) (d : DoorId) (r : Door) : (s.withDoor d r).doors = s.doors.set d r := rfl
@[simp] theorem State.withDoor_resolver (s : State) (d : DoorId) (r : Door) : (s.withDoor d r).resolver = s.resolver := rfl
@[simp] theorem State.withDoor_alloc (s : State) (d : DoorId) (r : Door) : (s.withDoor d r).alloc = s.alloc := rfl
@[simp] theorem State.withDoor_recorder (s : State) (d : DoorId) (r : Door) : (s.withDoor d r).recorder = s.recorder := rfl
@[simp] theorem State.withDoor_alarms (s : State) (d : DoorId) (r : Door) : (s.withDoor d r).alarms = s.alarms := rfl
@[simp] theorem State.withDoor_store (s : State) (d : DoorId) (r : Door) : (s.withDoor d r).store = s.store := rfl
@[simp] theorem State.withDoor_port (s : State) (d : DoorId) (r : Door) : (s.withDoor d r).port = s.port := rfl
@[simp] theorem State.withDoor_time (s : State) (d : DoorId) (r : Door) : (s.withDoor d r).time = s.time := rfl
@[simp] theorem State.withDoor_inFlight (s : State) (d : DoorId) (r : Door) : (s.withDoor d r).inFlight = s.inFlight := rfl
@[simp] theorem State.withDoor_pending (s : State) (d : DoorId) (r : Door) : (s.withDoor d r).pending = s.pending := rfl
@[simp] theorem State.withDoor_freeDraws (s : State) (d : DoorId) (r : Door) : (s.withDoor d r).freeDraws = s.freeDraws := rfl

/-! ### withLine -/

@[simp] theorem State.withLine_channels (s : State) (l : Line) (y : LinePort) : (s.withLine l y).channels = s.channels := rfl
@[simp] theorem State.withLine_lines (s : State) (l : Line) (y : LinePort) : (s.withLine l y).lines = s.lines := rfl
@[simp] theorem State.withLine_straps (s : State) (l : Line) (y : LinePort) : (s.withLine l y).straps = s.straps := rfl
@[simp] theorem State.withLine_doors (s : State) (l : Line) (y : LinePort) : (s.withLine l y).doors = s.doors := rfl
@[simp] theorem State.withLine_resolver (s : State) (l : Line) (y : LinePort) : (s.withLine l y).resolver = s.resolver := rfl
@[simp] theorem State.withLine_alloc (s : State) (l : Line) (y : LinePort) : (s.withLine l y).alloc = s.alloc := rfl
@[simp] theorem State.withLine_recorder (s : State) (l : Line) (y : LinePort) : (s.withLine l y).recorder = s.recorder := rfl
@[simp] theorem State.withLine_alarms (s : State) (l : Line) (y : LinePort) : (s.withLine l y).alarms = s.alarms := rfl
@[simp] theorem State.withLine_store (s : State) (l : Line) (y : LinePort) : (s.withLine l y).store = s.store := rfl
@[simp] theorem State.withLine_port (s : State) (l : Line) (y : LinePort) : (s.withLine l y).port = s.port.withLine l y := rfl
@[simp] theorem State.withLine_time (s : State) (l : Line) (y : LinePort) : (s.withLine l y).time = s.time := rfl
@[simp] theorem State.withLine_inFlight (s : State) (l : Line) (y : LinePort) : (s.withLine l y).inFlight = s.inFlight := rfl
@[simp] theorem State.withLine_pending (s : State) (l : Line) (y : LinePort) : (s.withLine l y).pending = s.pending := rfl
@[simp] theorem State.withLine_freeDraws (s : State) (l : Line) (y : LinePort) : (s.withLine l y).freeDraws = s.freeDraws := rfl

/-! ### withResolver -/

@[simp] theorem State.withResolver_channels (s : State) (r : Resolver) : (s.withResolver r).channels = s.channels := rfl
@[simp] theorem State.withResolver_lines (s : State) (r : Resolver) : (s.withResolver r).lines = s.lines := rfl
@[simp] theorem State.withResolver_straps (s : State) (r : Resolver) : (s.withResolver r).straps = s.straps := rfl
@[simp] theorem State.withResolver_doors (s : State) (r : Resolver) : (s.withResolver r).doors = s.doors := rfl
@[simp] theorem State.withResolver_resolver (s : State) (r : Resolver) : (s.withResolver r).resolver = r := rfl
@[simp] theorem State.withResolver_alloc (s : State) (r : Resolver) : (s.withResolver r).alloc = s.alloc := rfl
@[simp] theorem State.withResolver_recorder (s : State) (r : Resolver) : (s.withResolver r).recorder = s.recorder := rfl
@[simp] theorem State.withResolver_alarms (s : State) (r : Resolver) : (s.withResolver r).alarms = s.alarms := rfl
@[simp] theorem State.withResolver_store (s : State) (r : Resolver) : (s.withResolver r).store = s.store := rfl
@[simp] theorem State.withResolver_port (s : State) (r : Resolver) : (s.withResolver r).port = s.port := rfl
@[simp] theorem State.withResolver_time (s : State) (r : Resolver) : (s.withResolver r).time = s.time := rfl
@[simp] theorem State.withResolver_inFlight (s : State) (r : Resolver) : (s.withResolver r).inFlight = s.inFlight := rfl
@[simp] theorem State.withResolver_pending (s : State) (r : Resolver) : (s.withResolver r).pending = s.pending := rfl
@[simp] theorem State.withResolver_freeDraws (s : State) (r : Resolver) : (s.withResolver r).freeDraws = s.freeDraws := rfl

/-! ### withAlloc -/

@[simp] theorem State.withAlloc_channels (s : State) (a : Alloc) : (s.withAlloc a).channels = s.channels := rfl
@[simp] theorem State.withAlloc_lines (s : State) (a : Alloc) : (s.withAlloc a).lines = s.lines := rfl
@[simp] theorem State.withAlloc_straps (s : State) (a : Alloc) : (s.withAlloc a).straps = s.straps := rfl
@[simp] theorem State.withAlloc_doors (s : State) (a : Alloc) : (s.withAlloc a).doors = s.doors := rfl
@[simp] theorem State.withAlloc_resolver (s : State) (a : Alloc) : (s.withAlloc a).resolver = s.resolver := rfl
@[simp] theorem State.withAlloc_alloc (s : State) (a : Alloc) : (s.withAlloc a).alloc = a := rfl
@[simp] theorem State.withAlloc_recorder (s : State) (a : Alloc) : (s.withAlloc a).recorder = s.recorder := rfl
@[simp] theorem State.withAlloc_alarms (s : State) (a : Alloc) : (s.withAlloc a).alarms = s.alarms := rfl
@[simp] theorem State.withAlloc_store (s : State) (a : Alloc) : (s.withAlloc a).store = s.store := rfl
@[simp] theorem State.withAlloc_port (s : State) (a : Alloc) : (s.withAlloc a).port = s.port := rfl
@[simp] theorem State.withAlloc_time (s : State) (a : Alloc) : (s.withAlloc a).time = s.time := rfl
@[simp] theorem State.withAlloc_inFlight (s : State) (a : Alloc) : (s.withAlloc a).inFlight = s.inFlight := rfl
@[simp] theorem State.withAlloc_pending (s : State) (a : Alloc) : (s.withAlloc a).pending = s.pending := rfl
@[simp] theorem State.withAlloc_freeDraws (s : State) (a : Alloc) : (s.withAlloc a).freeDraws = s.freeDraws := rfl

/-! ### withRecorder -/

@[simp] theorem State.withRecorder_channels (s : State) (r : Recorder) : (s.withRecorder r).channels = s.channels := rfl
@[simp] theorem State.withRecorder_lines (s : State) (r : Recorder) : (s.withRecorder r).lines = s.lines := rfl
@[simp] theorem State.withRecorder_straps (s : State) (r : Recorder) : (s.withRecorder r).straps = s.straps := rfl
@[simp] theorem State.withRecorder_doors (s : State) (r : Recorder) : (s.withRecorder r).doors = s.doors := rfl
@[simp] theorem State.withRecorder_resolver (s : State) (r : Recorder) : (s.withRecorder r).resolver = s.resolver := rfl
@[simp] theorem State.withRecorder_alloc (s : State) (r : Recorder) : (s.withRecorder r).alloc = s.alloc := rfl
@[simp] theorem State.withRecorder_recorder (s : State) (r : Recorder) : (s.withRecorder r).recorder = r := rfl
@[simp] theorem State.withRecorder_alarms (s : State) (r : Recorder) : (s.withRecorder r).alarms = s.alarms := rfl
@[simp] theorem State.withRecorder_store (s : State) (r : Recorder) : (s.withRecorder r).store = s.store := rfl
@[simp] theorem State.withRecorder_port (s : State) (r : Recorder) : (s.withRecorder r).port = s.port := rfl
@[simp] theorem State.withRecorder_time (s : State) (r : Recorder) : (s.withRecorder r).time = s.time := rfl
@[simp] theorem State.withRecorder_inFlight (s : State) (r : Recorder) : (s.withRecorder r).inFlight = s.inFlight := rfl
@[simp] theorem State.withRecorder_pending (s : State) (r : Recorder) : (s.withRecorder r).pending = s.pending := rfl
@[simp] theorem State.withRecorder_freeDraws (s : State) (r : Recorder) : (s.withRecorder r).freeDraws = s.freeDraws := rfl

/-! ### withAlarms -/

@[simp] theorem State.withAlarms_channels (s : State) (a : AlarmList) : (s.withAlarms a).channels = s.channels := rfl
@[simp] theorem State.withAlarms_lines (s : State) (a : AlarmList) : (s.withAlarms a).lines = s.lines := rfl
@[simp] theorem State.withAlarms_straps (s : State) (a : AlarmList) : (s.withAlarms a).straps = s.straps := rfl
@[simp] theorem State.withAlarms_doors (s : State) (a : AlarmList) : (s.withAlarms a).doors = s.doors := rfl
@[simp] theorem State.withAlarms_resolver (s : State) (a : AlarmList) : (s.withAlarms a).resolver = s.resolver := rfl
@[simp] theorem State.withAlarms_alloc (s : State) (a : AlarmList) : (s.withAlarms a).alloc = s.alloc := rfl
@[simp] theorem State.withAlarms_recorder (s : State) (a : AlarmList) : (s.withAlarms a).recorder = s.recorder := rfl
@[simp] theorem State.withAlarms_alarms (s : State) (a : AlarmList) : (s.withAlarms a).alarms = a := rfl
@[simp] theorem State.withAlarms_store (s : State) (a : AlarmList) : (s.withAlarms a).store = s.store := rfl
@[simp] theorem State.withAlarms_port (s : State) (a : AlarmList) : (s.withAlarms a).port = s.port := rfl
@[simp] theorem State.withAlarms_time (s : State) (a : AlarmList) : (s.withAlarms a).time = s.time := rfl
@[simp] theorem State.withAlarms_inFlight (s : State) (a : AlarmList) : (s.withAlarms a).inFlight = s.inFlight := rfl
@[simp] theorem State.withAlarms_pending (s : State) (a : AlarmList) : (s.withAlarms a).pending = s.pending := rfl
@[simp] theorem State.withAlarms_freeDraws (s : State) (a : AlarmList) : (s.withAlarms a).freeDraws = s.freeDraws := rfl

/-! ### withStore -/

@[simp] theorem State.withStore_channels (s : State) (x : Store) : (s.withStore x).channels = s.channels := rfl
@[simp] theorem State.withStore_lines (s : State) (x : Store) : (s.withStore x).lines = s.lines := rfl
@[simp] theorem State.withStore_straps (s : State) (x : Store) : (s.withStore x).straps = s.straps := rfl
@[simp] theorem State.withStore_doors (s : State) (x : Store) : (s.withStore x).doors = s.doors := rfl
@[simp] theorem State.withStore_resolver (s : State) (x : Store) : (s.withStore x).resolver = s.resolver := rfl
@[simp] theorem State.withStore_alloc (s : State) (x : Store) : (s.withStore x).alloc = s.alloc := rfl
@[simp] theorem State.withStore_recorder (s : State) (x : Store) : (s.withStore x).recorder = s.recorder := rfl
@[simp] theorem State.withStore_alarms (s : State) (x : Store) : (s.withStore x).alarms = s.alarms := rfl
@[simp] theorem State.withStore_store (s : State) (x : Store) : (s.withStore x).store = x := rfl
@[simp] theorem State.withStore_port (s : State) (x : Store) : (s.withStore x).port = s.port := rfl
@[simp] theorem State.withStore_time (s : State) (x : Store) : (s.withStore x).time = s.time := rfl
@[simp] theorem State.withStore_inFlight (s : State) (x : Store) : (s.withStore x).inFlight = s.inFlight := rfl
@[simp] theorem State.withStore_pending (s : State) (x : Store) : (s.withStore x).pending = s.pending := rfl
@[simp] theorem State.withStore_freeDraws (s : State) (x : Store) : (s.withStore x).freeDraws = s.freeDraws := rfl

/-! ### withPort -/

@[simp] theorem State.withPort_channels (s : State) (p : Port) : (s.withPort p).channels = s.channels := rfl
@[simp] theorem State.withPort_lines (s : State) (p : Port) : (s.withPort p).lines = s.lines := rfl
@[simp] theorem State.withPort_straps (s : State) (p : Port) : (s.withPort p).straps = s.straps := rfl
@[simp] theorem State.withPort_doors (s : State) (p : Port) : (s.withPort p).doors = s.doors := rfl
@[simp] theorem State.withPort_resolver (s : State) (p : Port) : (s.withPort p).resolver = s.resolver := rfl
@[simp] theorem State.withPort_alloc (s : State) (p : Port) : (s.withPort p).alloc = s.alloc := rfl
@[simp] theorem State.withPort_recorder (s : State) (p : Port) : (s.withPort p).recorder = s.recorder := rfl
@[simp] theorem State.withPort_alarms (s : State) (p : Port) : (s.withPort p).alarms = s.alarms := rfl
@[simp] theorem State.withPort_store (s : State) (p : Port) : (s.withPort p).store = s.store := rfl
@[simp] theorem State.withPort_port (s : State) (p : Port) : (s.withPort p).port = p := rfl
@[simp] theorem State.withPort_time (s : State) (p : Port) : (s.withPort p).time = s.time := rfl
@[simp] theorem State.withPort_inFlight (s : State) (p : Port) : (s.withPort p).inFlight = s.inFlight := rfl
@[simp] theorem State.withPort_pending (s : State) (p : Port) : (s.withPort p).pending = s.pending := rfl
@[simp] theorem State.withPort_freeDraws (s : State) (p : Port) : (s.withPort p).freeDraws = s.freeDraws := rfl

/-! ### send -/

@[simp] theorem State.send_channels (s : State) (ms : List Instr) : (s.send ms).channels = s.channels := rfl
@[simp] theorem State.send_lines (s : State) (ms : List Instr) : (s.send ms).lines = s.lines := rfl
@[simp] theorem State.send_straps (s : State) (ms : List Instr) : (s.send ms).straps = s.straps := rfl
@[simp] theorem State.send_doors (s : State) (ms : List Instr) : (s.send ms).doors = s.doors := rfl
@[simp] theorem State.send_resolver (s : State) (ms : List Instr) : (s.send ms).resolver = s.resolver := rfl
@[simp] theorem State.send_alloc (s : State) (ms : List Instr) : (s.send ms).alloc = s.alloc := rfl
@[simp] theorem State.send_recorder (s : State) (ms : List Instr) : (s.send ms).recorder = s.recorder := rfl
@[simp] theorem State.send_alarms (s : State) (ms : List Instr) : (s.send ms).alarms = s.alarms := rfl
@[simp] theorem State.send_store (s : State) (ms : List Instr) : (s.send ms).store = s.store := rfl
@[simp] theorem State.send_port (s : State) (ms : List Instr) : (s.send ms).port = s.port := rfl
@[simp] theorem State.send_time (s : State) (ms : List Instr) : (s.send ms).time = s.time := rfl
@[simp] theorem State.send_inFlight (s : State) (ms : List Instr) : (s.send ms).inFlight = s.inFlight ++ ms := rfl
@[simp] theorem State.send_pending (s : State) (ms : List Instr) : (s.send ms).pending = s.pending := rfl
@[simp] theorem State.send_freeDraws (s : State) (ms : List Instr) : (s.send ms).freeDraws = s.freeDraws := rfl

/-! ### taking -/

@[simp] theorem State.taking_channels (s : State) (m : Instr) : (s.taking m).channels = s.channels := rfl
@[simp] theorem State.taking_lines (s : State) (m : Instr) : (s.taking m).lines = s.lines := rfl
@[simp] theorem State.taking_straps (s : State) (m : Instr) : (s.taking m).straps = s.straps := rfl
@[simp] theorem State.taking_doors (s : State) (m : Instr) : (s.taking m).doors = s.doors := rfl
@[simp] theorem State.taking_resolver (s : State) (m : Instr) : (s.taking m).resolver = s.resolver := rfl
@[simp] theorem State.taking_alloc (s : State) (m : Instr) : (s.taking m).alloc = s.alloc := rfl
@[simp] theorem State.taking_recorder (s : State) (m : Instr) : (s.taking m).recorder = s.recorder := rfl
@[simp] theorem State.taking_alarms (s : State) (m : Instr) : (s.taking m).alarms = s.alarms := rfl
@[simp] theorem State.taking_store (s : State) (m : Instr) : (s.taking m).store = s.store := rfl
@[simp] theorem State.taking_port (s : State) (m : Instr) : (s.taking m).port = s.port := rfl
@[simp] theorem State.taking_time (s : State) (m : Instr) : (s.taking m).time = s.time := rfl
@[simp] theorem State.taking_inFlight (s : State) (m : Instr) : (s.taking m).inFlight = s.inFlight.erase m := rfl
@[simp] theorem State.taking_pending (s : State) (m : Instr) : (s.taking m).pending = s.pending := rfl
@[simp] theorem State.taking_freeDraws (s : State) (m : Instr) : (s.taking m).freeDraws = s.freeDraws := rfl

/-! ### Reading one record after writing one -/

@[simp] theorem State.withDoor_door (s : State) (d : DoorId) (r : Door) : (s.withDoor d r).door d = r := by
  simp [State.door]

theorem State.withDoor_door_ne (s : State) {d e : DoorId} (r : Door) (h : e ≠ d) :
    (s.withDoor d r).door e = s.door e := by
  have : d.val ≠ e.val := fun k => h (Fin.ext k.symm)
  simp [State.door, this]

@[simp] theorem State.withChannel_channel (s : State) (d : DoorId) (c : Channel) : (s.withChannel d c).channel d = c := by
  simp [State.channel]

theorem State.withChannel_channel_ne (s : State) {d e : DoorId} (c : Channel) (h : e ≠ d) :
    (s.withChannel d c).channel e = s.channel e := by
  have : d.val ≠ e.val := fun k => h (Fin.ext k.symm)
  simp [State.channel, this]

@[simp] theorem State.withChannel_door (s : State) (d e : DoorId) (c : Channel) :
    (s.withChannel d c).door e = s.door e := rfl

@[simp] theorem State.withDoor_channel (s : State) (d e : DoorId) (r : Door) :
    (s.withDoor d r).channel e = s.channel e := rfl

@[simp] theorem State.send_door (s : State) (ms : List Instr) (d : DoorId) : (s.send ms).door d = s.door d := rfl

@[simp] theorem State.send_channel (s : State) (ms : List Instr) (d : DoorId) :
    (s.send ms).channel d = s.channel d := rfl

@[simp] theorem State.send_image (s : State) (ms : List Instr) : (s.send ms).image = s.image := rfl

@[simp] theorem State.taking_door (s : State) (m : Instr) (d : DoorId) : (s.taking m).door d = s.door d := rfl

@[simp] theorem State.taking_channel (s : State) (m : Instr) (d : DoorId) : (s.taking m).channel d = s.channel d := rfl

@[simp] theorem State.taking_image (s : State) (m : Instr) : (s.taking m).image = s.image := rfl

@[simp] theorem State.withDoor_image (s : State) (d : DoorId) (r : Door) : (s.withDoor d r).image = s.image := rfl

@[simp] theorem State.withChannel_image (s : State) (d : DoorId) (c : Channel) :
    (s.withChannel d c).image = s.image := rfl

@[simp] theorem Port.withLine_line (p : Port) (l : Line) (y : LinePort) : (p.withLine l y).line l = y := by
  cases l <;> rfl

theorem Port.withLine_line_ne (p : Port) {l m : Line} (y : LinePort) (h : m ≠ l) : (p.withLine l y).line m = p.line m := by
  cases l <;> cases m <;> first | rfl | exact absurd rfl h

@[simp] theorem Channel.withFilter_filter (c : Channel) (k : DoorInput) (f : Filter) : (c.withFilter k f).filter k = f := by
  cases k <;> rfl

theorem Channel.withFilter_filter_ne (c : Channel) {k j : DoorInput} (f : Filter) (h : j ≠ k) :
    (c.withFilter k f).filter j = c.filter j := by
  cases k <;> cases j <;> first | rfl | exact absurd rfl h

/-- A filter that has been written reads as written. -/
@[simp] theorem State.withFilter_filter (s : State) (i : InputId) (f : Filter) : (s.withFilter i f).filter i = f := by
  cases i <;> simp [State.withFilter, State.filter]

/-- Writing one filter leaves every other as it was. -/
theorem State.withFilter_filter_ne (s : State) {i j : InputId} (f : Filter) (h : j ≠ i) :
    (s.withFilter i f).filter j = s.filter j := by
  cases i with
  | door d k =>
    cases j with
    | door e m =>
      by_cases hd : e = d
      · subst hd
        have : m ≠ k := fun hk => h (by rw [hk])
        simp [State.withFilter, State.filter, Channel.withFilter_filter_ne _ _ this]
      · simp [State.withFilter, State.filter, State.withChannel_channel_ne _ _ hd]
    | _ => rfl
  | pressure a =>
    cases j with
    | pressure b =>
      have : a.val ≠ b.val := fun k => h (by rw [Fin.ext k])
      simp [State.withFilter, State.filter, this]
    | _ => rfl
  | emergency => cases j <;> first | rfl | exact absurd rfl h
  | mainSupply => cases j <;> first | rfl | exact absurd rfl h
  | resetPin => cases j <;> first | rfl | exact absurd rfl h

end Sys2Proof.Machine
end

