-- ==== Sys2Proof/Laws/Blocks.lean ====
section
/-! SUPPORT. What one event of each block can change, and what the completion of messages can change, and what an
event leaves of the capacities. -/

namespace Sys2Proof.Machine

open Sys2Proof

/-! ### The door table -/

/-- The record a door event leaves: that of its work. -/
@[simp] theorem State.doorEvent_door (s before : State) (d : DoorId) (f : Work → Work) :
    (s.doorEvent before d f).door d = ((s.work d).event (before.door d) (before.channel d) f).door := by
  simp [State.doorEvent, State.finish]

/-- The channel a door event leaves: that of its work. -/
@[simp] theorem State.doorEvent_channel (s before : State) (d : DoorId) (f : Work → Work) :
    (s.doorEvent before d f).channel d = ((s.work d).event (before.door d) (before.channel d) f).channel := by
  simp [State.doorEvent, State.finish]

/-- The messages a door event makes: those of its work, after the older ones. -/
@[simp] theorem State.doorEvent_inFlight (s before : State) (d : DoorId) (f : Work → Work) :
    (s.doorEvent before d f).inFlight =
      s.inFlight ++ ((s.work d).event (before.door d) (before.channel d) f).out := rfl

/-- A door event changes nothing but its own door and the messages on their way. -/
theorem State.doorEvent_onlyDoor (s before : State) (d : DoorId) (f : Work → Work) :
    OnlyDoor d s (s.doorEvent before d f) where
  lines := rfl
  straps := rfl
  resolver := rfl
  alloc := rfl
  recorder := rfl
  alarms := rfl
  store := rfl
  port := rfl
  time := rfl
  pending := rfl
  freeDraws := rfl
  doors e h := by simp [State.doorEvent, State.finish, State.withDoor_door_ne _ _ h]
  channels e h := by simp [State.doorEvent, State.finish, State.withChannel_channel_ne _ _ h]

/-- A frame around one door is a frame around the door table. -/
theorem OnlyDoor.trans {d : DoorId} {s t u : State} (h : OnlyDoor d s t) (k : OnlyDoor d t u) : OnlyDoor d s u where
  lines := k.lines.trans h.lines
  straps := k.straps.trans h.straps
  resolver := k.resolver.trans h.resolver
  alloc := k.alloc.trans h.alloc
  recorder := k.recorder.trans h.recorder
  alarms := k.alarms.trans h.alarms
  store := k.store.trans h.store
  port := k.port.trans h.port
  time := k.time.trans h.time
  pending := k.pending.trans h.pending
  freeDraws := k.freeDraws.trans h.freeDraws
  doors e he := (k.doors e he).trans (h.doors e he)
  channels e he := (k.channels e he).trans (h.channels e he)

/-- The taking of a message is within the frame of any door. -/
theorem State.taking_onlyDoor (s : State) (m : Instr) (d : DoorId) : OnlyDoor d s (s.taking m) where
  lines := rfl
  straps := rfl
  resolver := rfl
  alloc := rfl
  recorder := rfl
  alarms := rfl
  store := rfl
  port := rfl
  time := rfl
  pending := rfl
  freeDraws := rfl
  doors _ _ := rfl
  channels _ _ := rfl

/-! ### The other blocks -/

/-- An event of the order resolver changes nothing else but the messages on their way. -/
theorem State.ordersEvent_onlyResolver (s : State) (f : Orders → Orders) : OnlyResolver s (s.ordersEvent f) :=
  ⟨rfl, rfl, rfl, rfl, rfl, rfl, rfl, rfl, rfl, rfl, rfl, rfl⟩

/-- The resolver and the messages an event of the resolver leaves. -/
@[simp] theorem State.ordersEvent_resolver (s : State) (f : Orders → Orders) :
    (s.ordersEvent f).resolver = (f s.orders).resolver := rfl

@[simp] theorem State.ordersEvent_inFlight (s : State) (f : Orders → Orders) :
    (s.ordersEvent f).inFlight = s.inFlight ++ (f s.orders).out := rfl

/-- An event of the flow allocator changes nothing else but the messages on their way. -/
theorem State.flowEvent_onlyAllocator (s : State) (f : Flow → Flow) : OnlyAllocator s (s.flowEvent f) :=
  ⟨rfl, rfl, rfl, rfl, rfl, rfl, rfl, rfl, rfl, rfl, rfl, rfl⟩

/-- The allocator and the messages an event of the allocator leaves. -/
@[simp] theorem State.flowEvent_alloc (s : State) (f : Flow → Flow) : (s.flowEvent f).alloc = (f s.flow).alloc := rfl

@[simp] theorem State.flowEvent_inFlight (s : State) (f : Flow → Flow) :
    (s.flowEvent f).inFlight = s.inFlight ++ (f s.flow).out := rfl

/-- An event of the fault recorder changes nothing else but the messages on their way. -/
theorem State.logEvent_onlyRecorder (s : State) (f : Log → Log) : OnlyRecorder s (s.logEvent f) :=
  ⟨rfl, rfl, rfl, rfl, rfl, rfl, rfl, rfl, rfl, rfl, rfl, rfl⟩

/-- The recorder and the messages an event of the recorder leaves. -/
@[simp] theorem State.logEvent_recorder (s : State) (f : Log → Log) : (s.logEvent f).recorder = (f s.log).recorder := rfl

@[simp] theorem State.logEvent_inFlight (s : State) (f : Log → Log) :
    (s.logEvent f).inFlight = s.inFlight ++ (f s.log).out := rfl

/-- An event of the line port changes nothing else but the messages on their way. -/
theorem State.serialEvent_onlyPort (s : State) (f : Serial → Serial) : OnlyPort s (s.serialEvent f) :=
  ⟨rfl, rfl, rfl, rfl, rfl, rfl, rfl, rfl, rfl, rfl, rfl, rfl⟩

/-- The line port and the messages an event of the line port leaves. -/
@[simp] theorem State.serialEvent_port (s : State) (f : Serial → Serial) : (s.serialEvent f).port = (f s.serial).port := rfl

@[simp] theorem State.serialEvent_inFlight (s : State) (f : Serial → Serial) :
    (s.serialEvent f).inFlight = s.inFlight ++ (f s.serial).out := rfl

/-- An event of the alarm list changes the alarm list alone. -/
theorem State.alarmEvent_eq (s : State) (f : Image → GroupTime → AlarmList → AlarmList) :
    s.alarmEvent f = { s with alarms := f s.image s.time s.alarms } := rfl

/-- The resolver computes the standing authority of the strongest source (R66). -/
theorem standingOf_eq_strongestSource (i : Image) (r : Resolver) (d : DoorId) :
    standingOf i r d = strongestSource i r d := by
  unfold standingOf strongestSource
  cases i.doors[d].present <;> cases r.doors[d].isolated <;> cases r.latch <;> cases r.mode <;>
    cases r.doors[d].registered <;> rfl

/-- A door whose standing authority is computed afresh holds that of its strongest source as last reported (R67). -/
@[simp] theorem Orders.recompute_reported (o : Orders) (d : DoorId) :
    ((o.recompute d).door d).reported = strongestSource o.image o.resolver d := by
  simp only [Orders.recompute, ← standingOf_eq_strongestSource]
  split <;> simp [Orders.door, Orders.withDoor, Orders.send]

/-! ### The order of messages -/

/-- Nothing is ahead of a message whose turn has come. -/
theorem State.ahead_of_first {s : State} {m : Instr} (h : FirstOnItsWay s m) : s.ahead m = [] := by
  simpa [State.ahead, FirstOnItsWay] using h

/-- A message whose turn has come is taken alone. -/
@[simp] theorem State.inOrder_of_first {s : State} {m : Instr} (h : FirstOnItsWay s m) : s.inOrder m = s := by
  simp [State.inOrder, State.ahead_of_first h]

/-! ### Completion -/

/-- What a completion leaves alone: all but the door table, the fault recorder and the alarm list. -/
structure Completes (s t : State) : Prop extends CompletionFrame s t where
  resolver : t.resolver = s.resolver
  port : t.port = s.port

theorem Completes.refl (s : State) : Completes s s := ⟨⟨rfl, rfl, rfl, rfl, rfl, rfl, rfl⟩, rfl, rfl⟩

theorem Completes.trans {s t u : State} (h : Completes s t) (k : Completes t u) : Completes s u :=
  ⟨⟨k.lines.trans h.lines, k.straps.trans h.straps, k.alloc.trans h.alloc, k.store.trans h.store,
    k.time.trans h.time, k.pending.trans h.pending, k.freeDraws.trans h.freeDraws⟩,
   k.resolver.trans h.resolver, k.port.trans h.port⟩

/-- The ways of the messages that complete. -/
def completesWay : Route → Bool
  | .toDoorTable _ | .toRecorder _ | .fromRecorder _ | .alarm .. => true
  | .referral _ | .arrival _ | .handleNotice _ | .toAllocator _ | .fromAllocator _ => false

/-- A message that completes goes one of those ways. -/
theorem route_of_completes {m : Instr} (h : completes m = true) : ∃ w, route? m = some w ∧ completesWay w = true := by
  cases m <;> simp_all [completes, route?, completesWay]

/-- Taking a message that goes one of those ways leaves everything but the door table, the recorder and the alarm list
alone. -/
theorem State.deliver_completes {m : Instr} {w : Route} (s : State) (h : route? m = some w)
    (hw : completesWay w = true) : Completes s (s.deliver m) := by
  cases m <;> simp_all [route?] <;> subst h <;> first
    | exact ⟨⟨rfl, rfl, rfl, rfl, rfl, rfl, rfl⟩, rfl, rfl⟩
    | simp [completesWay] at hw

/-- The message owed goes one of those ways. -/
theorem State.owed_way {s : State} {mark : Nat} {m : Instr} {older : Bool} (h : s.owed mark = some (m, older)) :
    ∃ w, route? m = some w ∧ completesWay w = true := by
  unfold State.owed at h
  split at h
  · cases h
  · next n hn =>
    obtain ⟨w, hw, hc⟩ := route_of_completes (List.find?_some hn)
    split at h
    · next o ho =>
      cases h
      have := List.find?_some ho
      exact ⟨w, by simpa [hw] using this, hc⟩
    · split at h
      · next o ho =>
        cases h
        have := List.find?_some ho
        exact ⟨w, by simpa [hw] using this, hc⟩
      · cases h

/-- A completion leaves everything but the door table, the recorder, the alarm list and the messages alone. -/
theorem State.completeFrom_completes (fuel mark : Nat) (s : State) : Completes s (s.completeFrom fuel mark) := by
  induction fuel generalizing mark s with
  | zero => exact .refl s
  | succ n ih =>
    unfold State.completeFrom
    split
    · exact .refl s
    · next m older h =>
      obtain ⟨w, hw, hc⟩ := State.owed_way h
      exact (s.deliver_completes hw hc).trans (ih _ _)

/-- A completion leaves everything but the door table, the recorder, the alarm list and the messages alone. -/
theorem State.complete_completes (mark : Nat) (s : State) : Completes s (s.complete mark) :=
  s.completeFrom_completes _ _

/-- Where nothing made since completes, a completion changes nothing. -/
theorem State.complete_of_none {s : State} {mark : Nat} (h : ∀ m ∈ s.inFlight.drop mark, completes m = false) :
    s.complete mark = s := by
  have ho : s.owed mark = none := by
    have : (s.inFlight.drop mark).find? completes = none := by
      simpa using h
    simp [State.owed, this]
  unfold State.complete State.completeFrom
  simp [ho]

/-! ### The capacities of one event -/

/-- The capacities and the image are as they were. -/
def SameCapacities (f g : Flow) : Prop := g.image = f.image ∧ ∀ h : HpuId, (g.hpu h).capacity = (f.hpu h).capacity

theorem SameCapacities.refl (f : Flow) : SameCapacities f f := ⟨rfl, fun _ => rfl⟩

theorem SameCapacities.trans {f g k : Flow} (a : SameCapacities f g) (b : SameCapacities g k) : SameCapacities f k :=
  ⟨b.1.trans a.1, fun h => (b.2 h).trans (a.2 h)⟩

theorem Flow.withHpu_sameCapacities (f : Flow) (h : HpuId) (x : Hpu) (e : x.capacity = (f.hpu h).capacity) :
    SameCapacities f (f.withHpu h x) := by
  refine ⟨rfl, fun k => ?_⟩
  by_cases hk : h = k
  · subst hk; simpa [Flow.hpu, Flow.withHpu] using e
  · have : h.val ≠ k.val := fun n => hk (Fin.ext n)
    simp [Flow.hpu, Flow.withHpu, this]

theorem Flow.leaveGranted_sameCapacities (f : Flow) (d : DoorId) : SameCapacities f (f.leaveGranted d) := by
  unfold Flow.leaveGranted
  split
  · exact Flow.withHpu_sameCapacities f _ _ rfl
  · exact Flow.withHpu_sameCapacities f _ _ rfl
  · exact .refl f
  · exact .refl f

theorem Flow.placed_sameCapacities (f : Flow) (h : HpuId) (c : Dir) (ds : List DoorId) (d : DoorId) (a : AllocStanding) :
    SameCapacities f ((f.withHpu h ((f.hpu h).withQueue c ds)).withStanding d a) :=
  f.withHpu_sameCapacities h _ (by cases c <;> rfl)

theorem Flow.takeBack_sameCapacities (f : Flow) (d : DoorId) : SameCapacities f (f.takeBack d) := by
  have l := f.leaveGranted_sameCapacities d
  unfold Flow.takeBack
  generalize f.leaveGranted d = g at l
  split
  · exact l.trans (g.placed_sameCapacities _ _ _ _ _)
  · exact l.trans (g.placed_sameCapacities _ _ _ _ _)
  · exact l.trans (g.placed_sameCapacities _ _ _ _ _)
  · exact l
  · exact .refl f
  · exact .refl f

theorem Flow.pauseUntilFits_sameCapacities (h : HpuId) (ds : List DoorId) :
    ∀ f : Flow, SameCapacities f (f.pauseUntilFits h ds) := by
  induction ds with
  | nil => exact SameCapacities.refl
  | cons d rest ih =>
    intro f
    simp only [Flow.pauseUntilFits]
    split
    · exact .refl f
    · exact (f.takeBack_sameCapacities d).trans (ih _)

/-- What a capacity computed afresh leaves: R90's capacity at its own HPU, and every other as it was. -/
theorem Flow.compute_capacity (f : Flow) (l : GroupLines) (h k : HpuId) :
    (f.compute l h).image = f.image ∧
    ((f.compute l h).hpu k).capacity = if h = k then capacityOf f.image.group l h else (f.hpu k).capacity := by
  simp only [Flow.compute]
  split
  · refine ⟨rfl, ?_⟩
    split <;> simp_all
  · obtain ⟨a, b⟩ := Flow.pauseUntilFits_sameCapacities h
      ((f.withHpu h { f.hpu h with capacity := capacityOf f.image.group l h }).hpu h).granted.reverse
      (f.withHpu h { f.hpu h with capacity := capacityOf f.image.group l h })
    refine ⟨a, (b k).trans ?_⟩
    by_cases hk : h = k
    · subst hk; simp [Flow.hpu, Flow.withHpu]
    · have : h.val ≠ k.val := fun n => hk (Fin.ext n)
      simp [Flow.hpu, Flow.withHpu, this, hk]

/-- What the capacities of one event leave: R90's capacity at each HPU named, and every other as it was. -/
theorem Flow.computeEach_capacity (l : GroupLines) (hs : List HpuId) (k : HpuId) : ∀ f : Flow,
    (f.computeEach l hs).image = f.image ∧
    ((f.computeEach l hs).hpu k).capacity = if k ∈ hs then capacityOf f.image.group l k else (f.hpu k).capacity := by
  induction hs with
  | nil => exact fun f => ⟨rfl, rfl⟩
  | cons h rest ih =>
    intro f
    obtain ⟨a, b⟩ := ih (f.compute l h)
    obtain ⟨c, e⟩ := f.compute_capacity l h k
    refine ⟨a.trans c, b.trans ?_⟩
    rw [c, e]
    by_cases m : k ∈ rest
    · simp [m]
    · by_cases n : h = k
      · simp [m, n]
      · simp [m, n, Ne.symm n]

end Sys2Proof.Machine
end

