-- ==== Sys2Proof/Laws/Doors.lean ====
section
/-! SUPPORT. Each shared procedure of the door table said once, in the terms of Safety.lean: what it makes of a door's record,
its channel and its messages. -/

namespace Sys2Proof.Machine

open Sys2Proof

/-! ### What follows every event -/

/-- Apart from its change flag, the record an event leaves is that of the reaction and R21. -/
theorem Work.event_still (w : Work) (b : Door) (bc : Channel) (f : Work → Work) :
    (w.event b bc f).door.still = (f w).startIfDue.door.still := by
  unfold Work.event Work.flagChange
  split <;> rfl

/-- Apart from the warning output, the channel an event leaves is that of the reaction and R21. -/
theorem Work.event_channel (w : Work) (b : Door) (bc : Channel) (f : Work → Work) :
    (w.event b bc f).channel =
      { (f w).startIfDue.channel with warning := warningOn (f w).startIfDue.door } := by
  unfold Work.event Work.flagChange
  split <;> rfl

/-- The messages of an event are those of the reaction and R21. -/
theorem Work.event_out (w : Work) (b : Door) (bc : Channel) (f : Work → Work) :
    (w.event b bc f).out = (f w).startIfDue.out := by
  unfold Work.event Work.flagChange
  split <;> rfl

/-! ### Rest and movement -/

/-- Coming to rest (R20). -/
theorem Work.rest_eq (w : Work) :
    w.rest =
      { w with
        door := w.door.atRest w.channel
        out := w.out ++ (if w.door.motion = .queued then [.withdraw w.id] else []) ++
          restMessages w.id w.channel w.door } := by
  unfold Work.rest Door.atRest restMessages transitMessages Channel.restsAt
  rcases h1 : w.channel.closedSwitch.filtered <;> rcases h2 : w.channel.openSwitch.filtered <;>
    by_cases h3 : w.door.motion = .queued <;> rcases h4 : w.door.transit <;>
    simp [restOf, h1, h2, h3, h4, Work.send, Work.stopTimers, Work.endEdgeWait, Work.clearTransit, Channel.endActive,
      Dir.flip, Door.outOfTransit]

/-- Starting a movement from rest (R29). -/
theorem Work.startMove_eq (w : Work) (dir : Dir) (a : MotionAuthority) (held : Bool) (h : w.door.motion ≠ .queued) :
    w.startMove dir a held =
      { w with
        door := w.door.startsMove w.channel dir a held
        out := w.out ++ moveMessages w.id w.channel dir w.door } := by
  unfold Work.startMove Door.startsMove moveMessages Work.restsAt Channel.restsAt
  simp only [Work.rest_eq, Work.stopTimers, Work.endEdgeWait]
  split <;>
    simp_all [Work.send, Door.atRest, restMessages, transitMessages, Channel.restsAt, Door.outOfTransit]

/-- Starting a close under the standing order (R21). -/
theorem Work.startClose_eq (w : Work) (h : w.door.motion ≠ .queued) :
    w.startClose =
      { w with
        door := w.door.startsClose w.image w.channel
        out := w.out ++ closeMessages w.image w.id w.channel w.door } := by
  unfold Work.startClose Door.startsClose closeMessages Work.group
  split
  · rw [Work.startMove_eq _ _ _ _ h]
  · simp

/-- A due door is not QUEUED. -/
theorem Door.due_motion {r : Door} (h : r.due = true) : r.motion = .opened ∨ r.motion = .stopped := by
  simp only [Door.due, Bool.and_eq_true, Bool.or_eq_true, beq_iff_eq] at h
  exact h.1.1.1.1

/-- R21 after an event that does not bar it. -/
theorem Work.startIfDue_eq (w : Work) (h : w.dueBarred = false) :
    w.startIfDue =
      { w with
        door := w.door.proceeds w.image w.channel
        out := w.out ++ proceedMessages w.image w.id w.channel w.door } := by
  unfold Work.startIfDue Door.proceeds proceedMessages
  rcases w with ⟨i, d, r, c, o, b⟩
  cases h
  by_cases hd : r.due = true
  · have hm : r.motion ≠ .queued := by
      intro hq
      rcases Door.due_motion hd with hm | hm <;> simp [hq] at hm
    simp [hd, Work.startClose_eq, hm]
  · simp [hd]

/-- R21 in an event that bars it. -/
theorem Work.startIfDue_barred (w : Work) (h : w.dueBarred = true) : w.startIfDue = w := by
  simp [Work.startIfDue, h]

/-- A door that is not due does not proceed. -/
theorem Door.proceeds_of_not_due (i : Image) (c : Channel) {r : Door} (h : r.due = false) : r.proceeds i c = r := by
  simp [Door.proceeds, h]

theorem proceedMessages_of_not_due (i : Image) (d : DoorId) (c : Channel) {r : Door} (h : r.due = false) :
    proceedMessages i d c r = [] := by
  simp [proceedMessages, h]

/-! ### Valves -/

/-- A drive check brought up to date (R11). -/
theorem Work.recheck_eq (w : Work) (v : Dir) :
    w.recheck v = { w with door := w.door.valveAt w.image w.channel v (w.channel.valve v) } := by
  rcases w with ⟨i, d, r, c, o, b⟩
  unfold Work.recheck Work.checkRuns Door.valveAt checkAfter Work.group
  rcases hb : (r.present && r.testResult != .running && (c.readback v).primed)
  · simp
  · by_cases ha : c.valve v = (c.readback v).filtered
    · simp [ha]
    · rcases r with ⟨⟩
      cases v <;> simp_all [Door.check, Door.withCheck] <;> split <;> simp_all

/-- A valve switched (R2, R11). -/
theorem Work.switchValve_eq (w : Work) (v : Dir) (on : Bool) :
    w.switchValve v on =
      { w with
        door := w.door.valveAt w.image w.channel v on
        channel := w.channel.withValve v on } := by
  rw [Work.switchValve, Work.recheck_eq]
  cases v <;> simp [Channel.withValve, Channel.valve, Door.valveAt, Channel.readback]

/-- A stroke ended for any cause but an arrival, a pause or a reversal (R19). -/
theorem Work.endStroke_other (w : Work) :
    w.endStroke .other =
      { w with
        door := w.door.strokeOver w.image w.channel
        channel := w.channel.withValve w.door.dir false
        out := w.out ++ [.release w.id] } := by
  simp [Work.endStroke, Work.switchValve_eq, Door.strokeOver, Work.send]

/-- The end switches are no concern of a valve. -/
@[simp] theorem Channel.withValve_endActive (c : Channel) (v : Dir) (on : Bool) (e : Dir) :
    (c.withValve v on).endActive e = c.endActive e := by
  cases v <;> cases e <;> rfl

@[simp] theorem Channel.withValve_restsAt (c : Channel) (v : Dir) (on : Bool) (e : Dir) :
    (c.withValve v on).restsAt e = c.restsAt e := by
  simp [Channel.restsAt]

@[simp] theorem Door.atRest_withValve (c : Channel) (v : Dir) (on : Bool) (r : Door) :
    r.atRest (c.withValve v on) = r.atRest c := by
  cases v <;> rfl

@[simp] theorem restMessages_withValve (d : DoorId) (c : Channel) (v : Dir) (on : Bool) (r : Door) :
    restMessages d (c.withValve v on) r = restMessages d c r := by
  simp [restMessages]

/-- What a check brought up to date leaves alone. -/
@[simp] theorem Door.valveAt_transit (i : Image) (c : Channel) (v : Dir) (on : Bool) (r : Door) :
    (r.valveAt i c v on).transit = r.transit := by
  unfold Door.valveAt; split <;> (try split) <;> (try split) <;> cases v <;> rfl

@[simp] theorem Door.valveAt_motion (i : Image) (c : Channel) (v : Dir) (on : Bool) (r : Door) :
    (r.valveAt i c v on).motion = r.motion := by
  unfold Door.valveAt; split <;> (try split) <;> (try split) <;> cases v <;> rfl

/-- A stroke over and at rest (R19, R20). -/
theorem Work.endStroke_rest (w : Work) (h : w.door.motion ≠ .queued) :
    (w.endStroke .other).rest =
      { w with
        door := (w.door.strokeOver w.image w.channel).atRest w.channel
        channel := w.channel.withValve w.door.dir false
        out := w.out ++ [.release w.id] ++ restMessages w.id w.channel w.door } := by
  rw [Work.endStroke_other, Work.rest_eq]
  simp [Door.strokeOver, h, restMessages, transitMessages]

/-! ### One event as a whole -/

/-- R21 looks at the end switches alone. -/
theorem Door.proceeds_channel (i : Image) (d : DoorId) (r : Door) {c c' : Channel}
    (h1 : c'.closedSwitch = c.closedSwitch) (h2 : c'.openSwitch = c.openSwitch) :
    r.proceeds i c' = r.proceeds i c ∧ proceedMessages i d c' r = proceedMessages i d c r := by
  simp [Door.proceeds, proceedMessages, Door.startsClose, closeMessages, Door.startsMove, moveMessages,
    Channel.restsAt, restMessages, Door.atRest, Channel.endActive, Dir.flip, h1, h2]

/-- A door event whose reaction leaves this record, these valves and these messages, and does not bar R21. -/
theorem State.doorEvent_leaves (s before : State) (d : DoorId) (f : Work → Work) (r : Door) (o c : Bool)
    (ms : List Instr)
    (hf : f (s.work d) = ⟨s.image, d, r, { s.channel d with openValve := o, closeValve := c }, ms, false⟩) :
    Leaves d s (s.doorEvent before d f) (r.proceeds s.image (s.channel d)) o c
      (ms ++ proceedMessages s.image d (s.channel d) r) := by
  have h := Door.proceeds_channel s.image d r (c := s.channel d)
    (c' := { s.channel d with openValve := o, closeValve := c }) rfl rfl
  refine ⟨s.doorEvent_onlyDoor before d f, ?_, ?_, ?_⟩
  · simp [Work.event_still, hf, Work.startIfDue_eq, h.1]
  · constructor <;> simp [Work.event_channel, hf, Work.startIfDue_eq, Channel.inputs]
  · simp [Work.event_out, hf, Work.startIfDue_eq, h.2]

/-- `State.doorEvent_leaves` for a reaction that switches no valve. -/
theorem State.doorEvent_leavesUndriven (s before : State) (d : DoorId) (f : Work → Work) (r : Door) (ms : List Instr)
    (hf : f (s.work d) = ⟨s.image, d, r, s.channel d, ms, false⟩) :
    LeavesUndriven d s (s.doorEvent before d f) (r.proceeds s.image (s.channel d))
      (ms ++ proceedMessages s.image d (s.channel d) r) :=
  s.doorEvent_leaves before d f r _ _ ms hf

/-- `State.doorEvent_leaves` for a reaction that bars R21. -/
theorem State.doorEvent_leaves_barred (s before : State) (d : DoorId) (f : Work → Work) (r : Door) (o c : Bool)
    (ms : List Instr)
    (hf : f (s.work d) = ⟨s.image, d, r, { s.channel d with openValve := o, closeValve := c }, ms, true⟩) :
    Leaves d s (s.doorEvent before d f) r o c ms := by
  refine ⟨s.doorEvent_onlyDoor before d f, ?_, ?_, ?_⟩
  · simp [Work.event_still, hf, Work.startIfDue_barred]
  · constructor <;> simp [Work.event_channel, hf, Work.startIfDue_barred, Channel.inputs]
  · simp [Work.event_out, hf, Work.startIfDue_barred]

end Sys2Proof.Machine
end

