-- ==== Sys2Proof/Tests/Slice0.lean ====
section
/-! SUPPORT. Tests: ill-formed commands that `Instr.wellFormed` refuses, figures worked in the manual, and for each
statement with hypotheses one theorem `witness_<Name>` that its hypotheses can be met, clause by clause. -/

namespace Sys2Proof.Tests

open Sys2Proof Sys2Proof.Machine

set_option Elab.async false

/-! ### Small states -/

/-- The part after reset, with what power-on raised already taken. -/
def quiet : State := { State.reset with inFlight := [] }

/-- A state with one door's record changed. -/
def record (d : DoorId) (f : Door → Door) (s : State) : State := s.withDoor d (f (s.door d))

/-- A state with one door's channel changed. -/
def wired (d : DoorId) (f : Channel → Channel) (s : State) : State := s.withChannel d (f (s.channel d))

/-- A filter that is primed and filtered ACTIVE. -/
def active : Filter := ⟨24000, true, true, none, true, none⟩

/-- A primed filter whose timer is about to confirm. -/
def confirming : Filter := ⟨24000, true, false, some ⟨true, 10⟩, true, none⟩

/-- A request on line A. -/
def ask (body : List Byte) : Req := ⟨.a, false, body⟩

/-- A state in which a command waits on its request's line. -/
def asked (c : Instr) (r : Req) (s : State) : State :=
  s.withLine r.line { s.port.line r.line with rx := .closed, waiting := some c }

/-- A request put on the idle line of a state waits there. -/
theorem asked_waits (c : Instr) (r : Req) (s : State) (h : (s.port.line r.line).reply = none)
    (k : s.port.restarting = none) (b : r.broadcast = false) : Waits (asked c r s) c r := by
  have hr : (s.port.withLine r.line { s.port.line r.line with rx := .closed, waiting := some c }).restarting = none := by
    rw [← k]; cases r.line <;> rfl
  constructor <;> simp_all [asked, State.withLine]

/-- A request put on line A of a part whose line port is as after reset waits there. -/
theorem quiet_waits (c : Instr) (body : List Byte) (s : State) (h : s.port = quiet.port) :
    Waits (asked c (ask body) s) c (ask body) :=
  asked_waits _ _ _ (by rw [h]; rfl) (by rw [h]; rfl) rfl

/-- A state whose active image declares door 0 by this record. -/
def declared (x : DoorRecord) (s : State) : State :=
  { s with store := { s.store with active := { s.store.active with doors := s.store.active.doors.set 0 x } } }

/-- Door 0 declared ABSENT. -/
def undeclared (s : State) : State := declared { DoorRecord.standard with present := false } s

/-! ### Commands that name no event -/

/-- A body longer than a frame holds (R162). -/
theorem test_long_body_refused : (Instr.alarmAck (ask (List.replicate 241 0))).wellFormed = false := by
  decide +kernel

/-- A broadcast of a kind that none is taken of (R166). -/
theorem test_broadcast_isolate_refused : (Instr.isolate ⟨.a, true, [0]⟩).wellFormed = false := by decide

/-- A broadcast MODE_SET names an event (R166). -/
theorem test_broadcast_mode_accepted : (Instr.modeSet ⟨.b, true, [0]⟩).wellFormed = true := by decide

/-- A fault report of an ABSENT door (R110). -/
theorem test_absent_report_refused :
    (Instr.faultReport 0 .overtravel none false ⟨.absent, .cls, 0, 0, .local_⟩).wellFormed = false := by decide

/-- An estimate above 1000 (R110). -/
theorem test_high_estimate_refused :
    (Instr.faultReport 0 .overtravel none false ⟨.stopped, .cls, 1001, 0, .local_⟩).wellFormed = false := by decide

/-- An E above 1200 (R54, R110). -/
theorem test_high_elapsed_refused :
    (Instr.faultReport 0 .overtravel none false ⟨.stopped, .cls, 0, 1201, .local_⟩).wellFormed = false := by decide

/-- Two kinds named in the wrong order (R109). -/
theorem test_kind_order_refused :
    (Instr.faultReport 0 .overtravel (some .driveFault) false ⟨.stopped, .cls, 0, 0, .local_⟩).wellFormed = false := by
  decide

/-- A subject that the kind does not have (R123). -/
theorem test_subject_refused : (Instr.alarmRaise .flowLost (.door 0)).wellFormed = false := by decide

/-- A raise of the kind the list itself raises (R124). -/
theorem test_overflow_raise_refused : (Instr.alarmRaise .listOverflow .group).wellFormed = false := by decide

/-- A clear of a LATCHED kind (R123). -/
theorem test_latched_clear_refused : (Instr.alarmClear .overtravel (.door 0)).wellFormed = false := by decide

/-- A reset condition of a LEVEL kind (R123). -/
theorem test_level_reset_refused : (Instr.alarmResetCondition .wear (.door 0)).wellFormed = false := by decide

/-- A listed kind code named as unknown (R173). -/
theorem test_listed_kind_refused : (Instr.unknownKindRequest 0x1D (ask [])).wellFormed = false := by decide

/-! ### Figures of the manual -/

/-- R164: the check over the characters "1" to "9". -/
theorem test_check : crc [0x31, 0x32, 0x33, 0x34, 0x35, 0x36, 0x37, 0x38, 0x39] = 0x29B1 := by decide +kernel

/-- Section 3.3, worked figures: the deadline. -/
theorem test_deadlines :
    strokeDeadline .cls 1000 180 20 = 290 ∧ strokeDeadline .cls 750 184 20 = 227 ∧
    strokeDeadline .cls 783 184 20 = 237 ∧ strokeDeadline .opn 0 400 20 = 620 ∧
    strokeDeadline .opn 990 200 20 = 23 ∧ strokeDeadline .cls 10 30 0 = 10 ∧
    strokeDeadline .opn 0 600 100 = 1000 := by decide

/-- Section 3.2, worked figures: the estimate of door 6, closing from 1000 with Lc = 180. -/
theorem test_estimates :
    [0, 1, 2, 45, 90, 178, 179, 200].map (fun e => (strokeEstimate .cls 1000 e 180)) =
      [990, 990, 989, 750, 500, 11, 10, 10] := by decide

/-- Section 3.5, worked figures: learning; and the mean kept within 30-600 (R60). -/
theorem test_learning :
    relearned 180 196 = 184 ∧ relearned 240 230 = 238 ∧ strokeAccepted 180 196 = true ∧ strokeAccepted 180 70 = false ∧
    strokeAccepted 180 90 = true ∧ strokeAccepted 180 360 = true ∧ strokeAccepted 180 361 = false ∧ relearned 600 1200 = 600 := by decide

/-- R64: for a nominal time of 180 the condition holds at 134 and 226, not at 135 and 225. -/
theorem test_travel_drift :
    [134, 135, 225, 226].map (fun l =>
      travelDrifts { quiet.door 0 with learnedClose := l } { DoorRecord.standard with nominalClose := 180 }) =
      [true, false, false, true] := by decide +kernel

/-- Section 1.4, a bouncing closed switch: the timer runs for 10 filter steps, stops at the bounce and runs anew. -/
theorem test_bounce :
    let t := GroupRecord.standard.endTimes
    let f := Filter.firstExpired (Filter.atPowerOn t 0)
    (f.onVoltage t 24000).pending = some ⟨true, 10⟩ ∧ ((f.onVoltage t 24000).onVoltage t 0).pending = none ∧
    (((f.onVoltage t 24000).onVoltage t 0).onVoltage t 24000).pending = some ⟨true, 10⟩ := by decide

/-- R152, R153: an image is 48 + 24 x 28 bytes, and the default image passes the power-on checks (R160). -/
theorem test_default_image : (imageBytes Image.standard).length = 720 := by decide +kernel

/-! ### Hypotheses that can be met -/

/-- Whether an outcome is a next state of which `p` holds. -/
def goes (o : Host.Outcome State Fault Refusal) (p : State → Bool) : Bool :=
  match o with
  | .next t => p t
  | .fault _ | .refused _ => false

theorem goes_next {o : Host.Outcome State Fault Refusal} {p : State → Bool} (h : goes o p = true) :
    ∃ t, o = .next t ∧ p t = true := by
  cases o <;> simp_all [goes]

/-- A door closing with this E and deadline. -/
def closing (e deadline : Nat) : State :=
  record 0 (fun r => { r with motion := .closing, dir := .cls, elapsed := e, deadline := deadline }) quiet

theorem witness_IdleStepOrder :
    State.reset.pending = [] ∧ State.reset.inFlight ≠ [] ∧
    (let s := asked (.identify (ask [])) (ask []) quiet; s.inFlight = [] ∧ s.port.lineA.waiting.isSome = true) ∧
    (let r : Req := ⟨.b, false, []⟩; let s := asked (.identify r) r quiet
     s.inFlight = [] ∧ s.port.lineA.waiting = none ∧ s.port.lineB.waiting.isSome = true) ∧
    (quiet.inFlight = [] ∧ quiet.port.lineA.waiting = none ∧ quiet.port.lineB.waiting = none) ∧
    isMoving (quiet.door 0).motion = false ∧
    (let r := (closing 8 10).door 0; isMoving r.motion = true ∧ r.elapsed + 1 < r.deadline) ∧
    (let r := (closing 9 10).door 0; isMoving r.motion = true ∧ r.deadline ≤ r.elapsed + 1) := by decide +kernel

/-- Every invariant holds of the state after reset, and reset has a step. -/
theorem witness_Kept :
    StrokeInv State.reset ∧ LearnedInv State.reset ∧ StandingInv State.reset ∧ CapacityInv State.reset ∧
    FlowInv State.reset ∧ ServedInv State.reset ∧ AlarmInv State.reset ∧ RecorderInv State.reset ∧
    WarningInv State.reset ∧ ∃ t, step State.reset = .next t := by
  refine ⟨?_, ?_, ?_, ?_, ?_, ?_, ?_, ?_, ?_, _, rfl⟩
  · unfold StrokeInv; decide +kernel
  · unfold LearnedInv nominalOk; decide +kernel
  · unfold StandingInv; decide +kernel
  · unfold CapacityInv; decide +kernel
  · unfold FlowInv FlowOk; decide +kernel
  · unfold ServedInv; decide +kernel
  · unfold AlarmInv; decide +kernel
  · unfold RecorderInv; decide +kernel
  · unfold WarningInv; decide +kernel

theorem witness_PresenceInv : PresenceInv State.reset := by
  unfold PresenceInv; decide +kernel

theorem witness_IsolationInv : IsolationInv State.reset := by
  refine ⟨witness_PresenceInv, ?_⟩
  decide +kernel

/-- A part at rest, without a drive test and with every valve OFF, meets R18. -/
theorem driveInv_of_rest {s : State} (p : PresenceInv s)
    (h : ∀ d : DoorId, isMoving (s.door d).motion = false ∧ (s.door d).testResult = .none ∧
      (s.door d).test = none ∧ (s.channel d).openValve = false ∧ (s.channel d).closeValve = false) : DriveInv s := by
  refine ⟨p, fun d => ?_⟩
  obtain ⟨a, b, c, e, f⟩ := h d
  refine ⟨?_, ?_, by simp [b, c], by simp [c], by simp [e], by simp [f], by simp [c]⟩ <;>
    intro m <;> simp [m, isMoving] at a

theorem witness_DriveInv : DriveInv State.reset :=
  driveInv_of_rest witness_PresenceInv (by decide +kernel)

theorem witness_EstimateLawKept : EstimateInv State.reset := by
  refine ⟨witness_PresenceInv, ?_⟩
  decide +kernel

/-- A queue and lines that hold no message. -/
theorem witness_FaultedFollowsCapture : FaultedInv State.reset ∧ TakesItsMessage State.reset := by
  refine ⟨⟨witness_PresenceInv, by decide +kernel⟩, ?_, ?_⟩
  · intro c cs h
    cases h
  · intro l c h
    have : (State.reset.port.line l).waiting = none := by cases l <;> decide +kernel
    simp [this] at h

theorem witness_PortInv : PortInv State.reset := by
  unfold PortInv LineOk
  refine ⟨by decide +kernel, by decide +kernel, by decide +kernel, ?_⟩
  intro l h
  have : State.reset.port.restarting = none := by decide +kernel
  simp [this] at h

/-- A door that is at rest with its change flag clear. -/
theorem witness_ChangeIsNeverLost :
    goes (exec .groupTimeSecond (record 0 (fun r => { r with changed := false }) quiet))
      (fun t => !(t.door 0).changed) = true := by decide +kernel

theorem witness_LatchReleasedOnlyByRelease :
    let s := { quiet with resolver := { quiet.resolver with latch := true } }
    s.resolver.latch = true ∧
    goes (exec (.emergencyRelease (ask [])) (asked (.emergencyRelease (ask [])) (ask []) s)) (fun t => !t.resolver.latch) ∧
    goes (exec .powerOn s) (fun t => !t.resolver.latch) := by decide +kernel

/-- Two messages on one way, the younger taken by its command. -/
theorem witness_MessagesKeepTheirOrder :
    let m : Instr := .pause 0
    let o : Instr := .grant 0 .cls
    let s : State := { quiet with inFlight := [.alarmRaise .wear (.door 0), o, m] }
    s.inFlight = [.alarmRaise .wear (.door 0)] ++ o :: [m] ∧ m ∉ [Instr.alarmRaise .wear (.door 0)] ∧ m ≠ o ∧
    (route? m).isSome = true ∧ route? o = route? m ∧ (∀ x ∈ [Instr.alarmRaise .wear (.door 0)], route? x ≠ route? m) ∧
    goes (exec o s) (fun _ => true) = true := by decide +kernel

theorem witness_RequestCompletesItsMessages :
    let c := decodeRequest 0x06 (ask [0])
    let s := asked c (ask [0]) quiet
    (0x06 : Byte).toNat < 0x80 ∧ Waits s c (ask [0]) ∧ s.inFlight = [] ∧ goes (exec c s) (fun _ => true) :=
  ⟨by decide, quiet_waits _ _ _ rfl, by decide +kernel, by decide +kernel⟩

/-- An ISOLATE of door 24; kinds that no row lists and a body longer than its row gives. -/
theorem witness_RefusalsChangeNothing :
    (let c := decodeRequest 0x0A (ask [24])
     let s := asked c (ask [24]) quiet
     (0x0A : Byte).toNat < 0x80 ∧ Waits s c (ask [24]) ∧
     ∃ t, exec c s = .next t ∧ Answered s.port (ask [24]) 0x0A (some .badValue) [] t) ∧
    (∀ kind : Byte, Waits (asked (decodeRequest kind (ask [0])) (ask [0]) quiet) (decodeRequest kind (ask [0])) (ask [0])) ∧
    (0x7F : Byte).toNat < 0x80 ∧ bodyLengths 0x00 = none ∧ bodyLengths 0x1E = none ∧ bodyLengths 0x7F = none ∧
    bodyLengths 0x1D = some [0] ∧ (ask [0]).body.length ∉ [0] := by
  refine ⟨⟨by decide, quiet_waits _ _ _ rfl, _, rfl, ?_⟩, fun _ => quiet_waits _ _ _ rfl, by decide⟩
  unfold Answered
  decide +kernel

/-- The expiry of a primed filter's pending timer delivers what it confirms or releases. -/
theorem expiry_delivers {s : State} {i : InputId} {p : Pending} (h : (s.filter i).primed = true)
    (k : (s.filter i).pending = some p) :
    Delivers s (.filterExpiry i) i { s.filter i with filtered := p.target, pending := none } :=
  ⟨.inl ⟨p, h, k, rfl, rfl⟩, nofun⟩

/-- The end of a first interval delivers a value that differs from the filtered one. -/
theorem first_delivers {s : State} {i : InputId} (h : (s.filter i).first.isSome = true)
    (k : (s.filter i).raw ≠ (s.filter i).filtered) :
    Delivers s (.firstIntervalExpiry i) i { s.filter i with filtered := (s.filter i).raw, primed := true, first := none } :=
  ⟨.inr ⟨h, rfl, rfl⟩, fun _ => k⟩

/-- A filter whose pending timer is about to confirm or to release. -/
def turning (on : Bool) : Filter := { active with filtered := !on, pending := some ⟨on, 10⟩ }

/-- A filter whose first interval is about to end with this raw value, filtered INACTIVE so far. -/
def priming (raw : Bool) : Filter := ⟨24000, raw, false, none, false, some 10⟩

/-- Any input can be made to deliver either value, by either interval. -/
theorem witness_Delivers (s : State) (i : InputId) (on : Bool) :
    (∃ f, Delivers (s.withFilter i (turning on)) (.filterExpiry i) i f ∧ f.filtered = on) ∧
    (∃ f, Delivers (s.withFilter i (priming true)) (.firstIntervalExpiry i) i f ∧ f.filtered = true) ∧
    ∃ f, FilterEnds (s.withFilter i (priming on)) (.firstIntervalExpiry i) i f ∧ f.filtered = on :=
  ⟨⟨_, expiry_delivers (p := ⟨on, 10⟩) (by simp [turning, active]) (by simp [turning]), rfl⟩,
   ⟨_, first_delivers (by simp [priming]) (by simp [priming]), by simp [priming]⟩,
   _, .inr ⟨by simp [priming], rfl, rfl⟩, by simp [priming]⟩

/-- 6 V and 15 V keep the raw value and one step beyond them moves it (R1); each kind of strap; a timer that runs, one that
does not, and a first interval. -/
theorem witness_FiltersAndStraps :
    rawAfter true 6000 = true ∧ rawAfter true 5999 = false ∧ rawAfter false 15000 = false ∧
    rawAfter false 15001 = true ∧ (∀ i, Wire.parityStrap ≠ .input i) ∧ (∀ i, Wire.rateStrap ≠ .input i) ∧
    (∀ i, Wire.addressStrap 4 ≠ .input i) ∧ confirming.primed = true ∧ confirming.pending = some ⟨true, 10⟩ ∧
    active.pending = none ∧ (quiet.filter .emergency).primed = false ∧
    (quiet.filter .emergency).first.isSome = true := by
  refine ⟨by decide, by decide, by decide, by decide, nofun, nofun, nofun, ?_⟩
  decide +kernel

/-- A full and a partial stroke, to either end, under an order and without one. -/
theorem witness_ArrivalEndsStroke : ∀ full : Bool, ∀ dir ∈ [Dir.opn, Dir.cls], ∀ a ∈ [Standing.none, .central],
    let s := wired 0 (fun c => { c with closedSwitch := confirming, openSwitch := confirming })
      (record 0 (fun r => { r with motion := movingMotion dir, dir := dir, full := full, standing := a }) quiet)
    let input : DoorInput := match dir with | .cls => .closedSwitch | .opn => .openSwitch
    (s.door 0).motion = movingMotion dir ∧ (s.door 0).dir = dir ∧ (s.filter (.door 0 input)).primed = true ∧
    (s.filter (.door 0 input)).pending = some ⟨true, 10⟩ ∧ (s.channel 0).endActive dir.flip = false ∧
    (s.door 0).standing = a ∧ (s.door 0).full = full := by decide +kernel

/-- Each motion state and direction, with an end switch about to turn either way and the other end's switch at either
level. Both filters of a SETTLING door are not yet primed. -/
theorem witness_EndSwitchEvents : ∀ e ∈ [Dir.opn, .cls], ∀ dir ∈ [Dir.opn, .cls], ∀ on other : Bool, ∀ m : Motion,
    let input : DoorInput := match e with | .cls => .closedSwitch | .opn => .openSwitch
    let away : DoorInput := match e with | .cls => .openSwitch | .opn => .closedSwitch
    let s := (record 0 (fun r => { r with motion := m, dir := dir }) quiet).withFilter
      (.door 0 away) { active with filtered := other }
    let t := s.withFilter (.door 0 input) (turning on)
    (∃ f, Delivers t (.filterExpiry (.door 0 input)) (.door 0 input) f ∧ f.filtered = on) ∧
    (∃ f, FilterEnds (s.withFilter (.door 0 input) (priming on)) (.firstIntervalExpiry (.door 0 input)) (.door 0 input) f ∧
      f.filtered = on) ∧ (t.door 0).motion = m ∧ (t.door 0).dir = dir ∧ (t.channel 0).endActive e.flip = other := by
  intro e _ dir _ on other m
  refine ⟨(witness_Delivers _ _ on).1, (witness_Delivers _ _ on).2.2, ?_, ?_, ?_⟩ <;>
    cases e <;> rfl

/-- An end switch that confirms in DWELL ends an edge wait kept into it (R36); the open one sets the estimate (R24). -/
theorem test_confirm_in_dwell_ends_edge_wait :
    let r : Door := { quiet.door 0 with motion := .dwell, edgeWait := .clearing, edgeTimer := some 10, dwellTimer := some 50 }
    let s := (record 0 (fun _ => r) quiet).withFilter (.door 0 .openSwitch) (turning true)
    goes (exec (.filterExpiry (.door 0 .openSwitch)) s) (fun t =>
      (t.door 0).edgeWait == .none && (t.door 0).edgeTimer == none && (t.door 0).motion == .dwell &&
      (t.door 0).dwellTimer == some 50 && (t.door 0).estimate == 1000) = true := by decide +kernel

/-- Either handle at a door that serves and at one that does not, and an edge, enabled and not, that turns either way under
a door that closes and under one that waits for it. -/
theorem witness_HandleAndEdgeEvents : ∀ k ∈ [DoorInput.openHandle, .closeHandle, .leafEdge], ∀ on : Bool, ∀ m : Motion,
    ∀ x : EdgeWait,
    let s := (record 0 (fun r => { r with motion := m, edgeWait := x }) quiet).withFilter (.door 0 k) (turning on)
    let f : Filter := { s.filter (.door 0 k) with filtered := on, pending := none }
    Delivers s (.filterExpiry (.door 0 k)) (.door 0 k) f ∧ f.filtered = on ∧ (s.door 0).motion = m ∧
    (s.door 0).edgeWait = x ∧ s.image.doors[(0 : DoorId)].edgeEnable = true ∧
    (declared { DoorRecord.standard with edgeEnable := false } s).image.doors[(0 : DoorId)].edgeEnable = false := by
  intro k hk on m x
  have he : quiet.image.doors[(0 : DoorId)].edgeEnable = true := by decide +kernel
  refine ⟨expiry_delivers (p := ⟨on, 10⟩) (by simp [turning, active]) (by simp [turning]), rfl, ?_⟩
  simp only [List.mem_cons, List.not_mem_nil, or_false] at hk
  rcases hk with rfl | rfl | rfl <;> exact ⟨rfl, rfl, he, rfl⟩

/-- A held movement of each direction, and each held ruling with its handle released. -/
theorem witness_HandleReleases : ∀ handle ∈ [Dir.opn, .cls], ∀ m : Motion, ∀ transit : Bool,
    let input : DoorInput := match handle with | .opn => .openHandle | .cls => .closeHandle
    let s := record 0 (fun r => { r with motion := m, dir := handle, held := true, transit := transit }) quiet
    (∃ f, Delivers (s.withFilter (.door 0 input) (turning false)) (.filterExpiry (.door 0 input)) (.door 0 input) f ∧
      f.filtered = false) ∧
    (s.door 0).motion = m ∧ (s.door 0).dir = handle ∧ (s.door 0).held = true ∧ (s.door 0).transit = transit ∧
    ((quiet.channel 0).openHandle.filtered = false ∧ (quiet.channel 0).closeHandle.filtered = false) ∧
    ∀ ruling, FirstOnItsWay quiet (.handleRuling 0 ruling) := by
  intro handle _ m transit
  refine ⟨(witness_Delivers _ _ false).1, rfl, rfl, rfl, rfl, by decide +kernel, fun ruling => ?_⟩
  have : quiet.inFlight = [] := rfl
  simp [FirstOnItsWay, this]

/-- The latch clear and the latch set, at a confirm and at a release. -/
theorem witness_EmergencyLineConfirm : ∀ on : Bool,
    let s := quiet.withFilter .emergency (turning on)
    let s' : State := { s with resolver := { s.resolver with
      latch := true, doors := Vector.ofFn fun _ => ⟨false, false, false, .emergency⟩ } }
    (∃ f, Delivers s (.filterExpiry .emergency) .emergency f ∧ f.filtered = on) ∧
    (∃ f, Delivers s' (.filterExpiry .emergency) .emergency f ∧ f.filtered = on) ∧
    StandingInv s ∧ s.resolver.latch = false ∧ StandingInv s' ∧ s'.resolver.latch = true := by
  intro on
  refine ⟨(witness_Delivers _ _ on).1, ⟨_, expiry_delivers (p := ⟨on, 10⟩) rfl rfl, rfl⟩, ?_⟩
  unfold StandingInv
  cases on <;> decide +kernel

/-- Every line of the supply, at either interval, with and without a change of value. -/
theorem witness_CapacityChanges :
    (∀ i ∈ InputId.mainSupply :: allHpus.map .pressure, ∀ on : Bool,
      let s := quiet.withFilter i (priming on)
      let f : Filter := { s.filter i with filtered := on, primed := true, first := none }
      FlowInv s ∧ FilterEnds s (.firstIntervalExpiry i) i f ∧ (on = true → Delivers s (.firstIntervalExpiry i) i f) ∧
      (on = false → ¬Delivers s (.firstIntervalExpiry i) i f)) := by
  intro i hi on
  have hf : FlowInv quiet := by unfold FlowInv FlowOk; decide +kernel
  have hs : (quiet.withFilter i (priming on)).alloc = quiet.alloc := by
    cases i <;> simp_all [State.withFilter]
  have he : FilterEnds (quiet.withFilter i (priming on)) (.firstIntervalExpiry i) i
      { (quiet.withFilter i (priming on)).filter i with filtered := on, primed := true, first := none } :=
    .inr ⟨by simp [priming], rfl, by simp [priming]⟩
  refine ⟨by simpa [FlowInv, hs] using hf, he, ?_, ?_⟩
  · rintro rfl
    exact ⟨he, fun _ => by simp [priming]⟩
  · rintro rfl h
    exact h.2 rfl (by simp [priming])

/-- Either readback about to turn and about to be primed, and a check timer that runs, at a door that rests and at one that
moves. -/
theorem witness_DriveChecks :
    (∀ v ∈ [Dir.opn, .cls], ∀ on : Bool,
      let input : DoorInput := match v with | .opn => .openReadback | .cls => .closeReadback
      (∃ f, FilterEnds (quiet.withFilter (.door 0 input) (turning on)) (.filterExpiry (.door 0 input)) (.door 0 input) f) ∧
      (∃ f, FilterEnds (quiet.withFilter (.door 0 input) (priming on)) (.firstIntervalExpiry (.door 0 input))
        (.door 0 input) f) ∧ (((quiet.door 0).withCheck v ⟨some 20, false⟩).check v).timer.isSome = true) ∧
    isMoving (quiet.door 0).motion = false ∧ isMoving ((closing 0 10).door 0).motion = true ∧
    (closing 0 10).image.doors[(0 : DoorId)].driveCheck = true ∧
    (declared { DoorRecord.standard with driveCheck := false } quiet).image.doors[(0 : DoorId)].driveCheck = false := by
  refine ⟨fun v _ on => ?_, by decide +kernel⟩
  intro input
  obtain ⟨f, h, _⟩ := (witness_Delivers quiet (.door 0 input) on).1
  obtain ⟨g, k, _⟩ := (witness_Delivers quiet (.door 0 input) on).2.2
  exact ⟨⟨f, h.1⟩, ⟨g, k⟩, by cases v <;> rfl⟩

theorem witness_DriveTest_request :
    let s := fun (m : Motion) (x : TestResult) (b : Byte) =>
      asked (.driveTest (ask [b])) (ask [b]) (record 23 (fun r => { r with motion := m, testResult := x }) quiet)
    (∀ m x b, Waits (s m x b) (.driveTest (ask [b])) (ask [b])) ∧
    24 ≤ (24 : Byte).toNat ∧ (23 : DoorId).val = (23 : Byte).toNat ∧
    ((s .closed .none 23).door 23).motion ≠ .isolated ∧
    (((s .isolated .pass 23).door 23).motion = .isolated ∧ ((s .isolated .pass 23).door 23).testResult ≠ .running) ∧
    ((s .isolated .running 23).door 23).motion = .isolated ∧
    ((s .isolated .running 23).door 23).testResult = .running :=
  ⟨fun _ _ _ => quiet_waits _ _ _ rfl, by decide +kernel⟩

/-- A test in its open phase, with its hold, its on-check or its off-check running, and either readback. -/
theorem witness_DriveTest_phases : ∀ hold onCheck onPassed offCheck on : Bool,
    let x : TestRun := ⟨.opn, 20, hold, onCheck, onPassed, offCheck⟩
    let s := wired 0 (fun c => { c with openReadback := { active with filtered := on } })
      (record 0 (fun r => { r with motion := .isolated, testResult := .running, test := some x }) quiet)
    (s.door 0).motion = .isolated ∧ (s.door 0).test = some x ∧ ((s.channel 0).readback x.phase).filtered = on := by
  decide +kernel

theorem witness_DoorTimersExpire :
    (let r := (record 0 (fun r => { r with motion := .warning, warningTimer := some 50 }) quiet).door 0
     r.motion = .warning ∧ r.warningTimer.isSome = true) ∧
    (let r := (record 0 (fun r => { r with motion := .dwell, dwellTimer := some 50 }) quiet).door 0
     r.motion = .dwell ∧ r.dwellTimer.isSome = true) ∧
    (let r := (record 0 (fun r => { r with motion := .stopped, edgeWait := .clearing, edgeTimer := some 10 }) quiet).door 0
     r.edgeWait = .clearing ∧ r.edgeTimer.isSome = true) ∧
    (let r := (record 0 (fun r => { r with transit := true, transitTimer := some 60 }) quiet).door 0
     r.transitTimer.isSome = true ∧ r.transit = true) ∧
    isMoving ((closing 9 10).door 0).motion = true := by decide +kernel

/-- Nothing is on its way in a quiet state, and a message that leads its way may be taken. -/
theorem witness_FirstOnItsWay :
    (∀ m, FirstOnItsWay quiet m) ∧
    FirstOnItsWay { quiet with inFlight := [.alarmRaise .wear (.door 0), .grant 0 .cls, .pause 0] } (.grant 0 .cls) := by
  refine ⟨fun m => ?_, by unfold FirstOnItsWay; decide +kernel⟩
  have : quiet.inFlight = [] := rfl
  simp [FirstOnItsWay, this]

theorem witness_GroupTimeCountsAndIsSet :
    let r : Req := ⟨.a, true, [0xFF, 0xFF, 0xFF, 0xFF]⟩
    let s := asked (.timeSet r) r quiet
    r.broadcast = true ∧ (s.port.line .a).waiting = some (.timeSet r) ∧ (s.port.line .a).reply = none ∧
    s.port.restarting = none ∧ goes (exec (.timeSet r) s) (fun t => t.time == 0xFFFFFFFF) := by decide +kernel

/-- Each case of a report: the motion state, direction, authority, held flag and standing authority that it names. -/
theorem witness_StandingReportMoves :
    let s := fun (m : Motion) (dir : Dir) (a : MotionAuthority) (held transit : Bool) (x : Standing) =>
      (record 0 (fun r => { r with
        motion := m, dir := dir, authority := a, held := held, transit := transit, standing := x }) quiet).door 0
    (s .isolated .cls .local_ false false .none).motion = .isolated ∧
    (s .opening .opn .local_ false false .none).held = false ∧ (s .queued .opn .local_ false false .none).dir = .opn ∧
    (s .closing .cls .local_ false false .none).authority = .local_ ∧
    (s .opened .opn .local_ true false .none).standing = .none ∧
    (s .warning .cls .local_ false true .central).standing ≠ .none ∧
    (s .queued .cls .central false true .central).authority ≠ .local_ ∧
    (s .closing .cls .remote false true .remote).authority ≠ .local_ ∧
    (s .opening .opn .local_ true true .central).transit = true ∧
    (s .stopped .opn .local_ false true .central).motion = .stopped ∧
    (s .closed .cls .local_ false false .central).motion = .closed ∧
    Standing.remote ≠ (s .warning .cls .local_ false false .central).standing := by decide +kernel

/-- Each state at rest, with both handles held. -/
theorem witness_RulingStartsMovement : ∀ m : Motion,
    m ∈ [Motion.settling, .isolated, .absent, .closed, .opened, .stopped, .warning, .dwell] →
    let s := wired 0 (fun c => { c with openHandle := active, closeHandle := active })
      (record 0 (fun r => { r with motion := m }) quiet)
    (s.door 0).motion = m ∧ (s.channel 0).openHandle.filtered = true ∧ (s.channel 0).closeHandle.filtered = true := by
  intro m
  cases m <;> decide +kernel

/-- A door moving or waiting against each ruling and along it, with each pair of end switches, the edge active and not. -/
theorem witness_RulingReversesMovement : ∀ target ∈ [Dir.opn, Dir.cls], ∀ closed opened edge : Bool,
    let ends := wired 0 (fun c => { c with
      closedSwitch := { active with filtered := closed }, openSwitch := { active with filtered := opened }
      leafEdge := { active with filtered := edge } }) quiet
    let moving := record 0 (fun r => { r with motion := movingMotion target.flip, dir := target.flip }) ends
    let waiting := record 0 (fun r => { r with motion := .queued, dir := target }) ends
    (moving.door 0).motion = movingMotion target.flip ∧ (moving.door 0).dir = target.flip ∧
    (moving.channel 0).endActive target = (match target with | .cls => closed | .opn => opened) ∧
    (moving.channel 0).endActive target.flip = (match target with | .cls => opened | .opn => closed) ∧
    edgeMeets moving.image 0 (moving.channel 0) .cls = edge ∧ edgeMeets moving.image 0 (moving.channel 0) .opn = false ∧
    (waiting.door 0).motion = .queued ∧ (waiting.door 0).dir = target := by decide +kernel

/-- A closing wait whose edge is free, and one whose edge is active; a door that does not wait; one that moves. -/
theorem witness_GrantAndPause :
    (∀ edge : Bool,
      let s := wired 0 (fun c => { c with leafEdge := { active with filtered := edge } })
        (record 0 (fun r => { r with motion := .queued, dir := .cls }) quiet)
      (s.door 0).motion = .queued ∧ (s.door 0).dir = .cls ∧ edgeMeets s.image 0 (s.channel 0) .cls = edge) ∧
    (quiet.door 0).motion ≠ .queued ∧ isMoving (quiet.door 0).motion = false ∧
    isMoving ((closing 0 10).door 0).motion = true := by decide +kernel

/-- With and without a mismatch, with and without a conflict. -/
theorem witness_CaptureNotices : ∀ mismatch conflict : Bool,
    let end_ : Filter := { active with filtered := conflict }
    let s := wired 0 (fun c => { c with closedSwitch := end_, openSwitch := end_ })
      (record 0 (fun r => { r with faulted := true, openCheck := ⟨none, mismatch⟩ }) quiet)
    (s.door 0).motion ≠ .absent ∧ s.image.doors[(0 : DoorId)].present = true ∧
    s.image.doors[(0 : DoorId)].driveCheck = true ∧ (s.door 0).openCheck.reported = mismatch ∧
    (s.channel 0).conflict = conflict := by decide +kernel

/-- A zone's flag set over a flood-inhibited door. -/
def flooded (s : State) : State :=
  { declared { DoorRecord.standard with floodInhibit := true } s with resolver := { s.resolver with flood := 1 } }

theorem witness_ResolverNotices :
    (let s := flooded quiet
     s.image.doors[(0 : DoorId)].present = true ∧ s.resolver.doors[(0 : DoorId)].isolated = false ∧
     s.image.doors[(0 : DoorId)].floodInhibit = true ∧
     s.resolver.flood.getLsbD s.image.doors[(0 : DoorId)].zone.val = true ∧
     (s.channel 0).openHandle.filtered = false ∧ StandingInv s) ∧
    quiet.image.doors[(0 : DoorId)].floodInhibit = false ∧ StandingInv quiet ∧
    quiet.resolver.doors[(0 : DoorId)].reported = .central ∧
    (let s : State := { quiet with resolver := { quiet.resolver with
       mode := .local_, doors := Vector.ofFn fun d => ⟨d == 0, false, false, if d = 0 then .remote else .none⟩ } }
     StandingInv s ∧ s.resolver.doors[(0 : DoorId)].reported = .remote ∧
     s.resolver.doors[(1 : DoorId)].reported = .none) := by
  unfold StandingInv
  decide +kernel

/-- An allocator in which door 0's HPU has a capacity of 4 and this standing is door 0's. -/
def allocated (x : AllocStanding) (inUse : Nat) (granted closeQueue : List DoorId) : State :=
  { quiet with alloc :=
    { quiet.alloc with
      hpus := quiet.alloc.hpus.set 0 { Hpu.empty with
        capacity := 4, inUse := inUse, granted := granted, closeQueue := closeQueue }
      doors := quiet.alloc.doors.set 0 x } }

/-- A door that is OUT, one that waits, paused and not, one that is OFFERED with each pending notice, and one that is HELD. -/
theorem witness_AllocatorNotices :
    FlowInv (allocated .out 0 [] []) ∧ (∀ paused : Bool, FlowInv (allocated (.waiting 0 .cls paused 5) 0 [] [0])) ∧
    (∀ p ∈ [PendingNotice.none, .withdrawn, .joined .opn 3 1], FlowInv (allocated (.offered 0 .cls 4 p) 4 [0] [])) ∧
    FlowInv (allocated (.held 0 .opn 4) 4 [0] []) ∧ ∀ m, FirstOnItsWay (allocated .out 0 [] []) m := by
  refine ⟨?_, ?_, ?_, ?_, witness_FirstOnItsWay.1⟩ <;> unfold FlowInv FlowOk <;> decide +kernel

/-- Behind a close that can be served, but not yet. -/
theorem witness_AllocatorNotices_behind :
    let s : State := { quiet with alloc :=
      { quiet.alloc with
        hpus := quiet.alloc.hpus.set 0 { Hpu.empty with
          capacity := 4, inUse := 4, granted := [1], closeQueue := [2] }
        doors := (quiet.alloc.doors.set 1 (.held 0 .cls 4)).set 2 (.waiting 0 .cls false 4) } }
    FlowInv s ∧ s.alloc.doors[(0 : DoorId)] = .out ∧ s.alloc.doors[(2 : DoorId)].demand = 4 := by
  unfold FlowInv FlowOk
  decide +kernel

/-- An empty capture and an occupied one, with reports of one kind and of two; a present door and an absent one. -/
theorem witness_RecorderTakesReports :
    (none : Option FaultKind) ≠ some FaultKind.overtravel ∧ some FaultKind.switchConflict ≠ some FaultKind.driveFault ∧
    quiet.image.doors[(0 : DoorId)].present = true ∧ (undeclared quiet).image.doors[(0 : DoorId)].present = false ∧
    quiet.recorder.doors[(0 : DoorId)].capture = none ∧
    (let y : Capture := ⟨.overtravel, (quiet.door 0).asReported, 0, 0⟩
     (quiet.recorder.doors.set 0 ⟨some y, ⟨1, 0, 0, 0, 0⟩, false⟩)[(0 : DoorId)].capture = some y) := by decide +kernel

/-- An alarm list of `n` entries, with the overflow entry or without it. -/
def listed (n : Nat) (e : Entry) (overflow : Option Entry) : State :=
  { quiet with alarms := ⟨(allDoors.flatMap fun d =>
      [{ e with kind := .wear, subject := .door d }, { e with kind := .driftOpen, subject := .door d }]).take n,
    overflow, false, false, false⟩ }

/-- Lists of 41, 42, 47 and 48 entries, with each state of an entry and of the overflow entry. -/
theorem witness_AlarmListTakesReports : ∀ x ∈ [EntryState.activeUnack, .activeAck, .clearedUnack],
    let e : Entry := ⟨.wear, .door 0, x, true, 0, 0, 255⟩
    let o : Entry := ⟨.listOverflow, .group, x, true, 0, 0, 254⟩
    (listed 47 e none).alarms.entries.length < 48 ∧ 48 ≤ (listed 48 e (some o)).alarms.entries.length ∧
    41 < (listed 42 e (some o)).alarms.entries.length ∧ (listed 41 e (some o)).alarms.entries.length ≤ 41 ∧
    (listed 41 e (some o)).alarms.overflow = some o ∧ (listed 48 e none).alarms.overflow = none ∧
    (∀ n ∈ [41, 42, 47, 48], (listed n e none).alarms.find .overtravel (.door 0) = none ∧
      (listed n e none).alarms.find .wear (.door 0) = some e ∧
      ((listed n e none).alarms.entries.map fun e => (e.kind, e.subject)).Nodup) ∧
    absentSubject quiet.image (.door 0) = false ∧ absentSubject (undeclared quiet).image (.door 0) = true := by
  decide +kernel

theorem witness_StoreWriteEnds :
    quiet.store.writing = false ∧ ({ quiet.store with writing := true } : Store).writing = true := by decide +kernel

/-- An empty body and one of 240 bytes, for this station, for broadcast and for another, of a kind below and at 0x80, on a line
that is silent and while a restart is awaited. -/
theorem witness_FrameIsTakenWhole :
    (quiet.port.line .b).rx = .hunt ∧ (quiet.port.line .b).reply = none ∧ quiet.port.restarting = none ∧ quiet.port.address ≠ 0 ∧
    ([] : List Byte).length ≤ 240 ∧ (List.replicate 240 (0 : Byte)).length ≤ 240 ∧
    (31 : Byte) = quiet.port.address.setWidth 8 ∧ (30 : Byte) ≠ quiet.port.address.setWidth 8 ∧
    (0x7F : Byte).toNat < 0x80 ∧ 0x80 ≤ (0x80 : Byte).toNat ∧
    (let s := quiet.withLine .b { quiet.port.line .b with silence := none, silent := true }
     let t : State := { s with port := { s.port with restarting := some .a } }
     (t.port.line .b).silent = true ∧ t.port.interval ≠ 0 ∧ t.port.restarting.isSome = true ∧
     (t.port.line .b).rx = .hunt ∧ (t.port.line .b).reply = none) := by decide +kernel

/-- R164, case 3, and R171: a frame of a reply kind to this station revives a silent line and leaves no request. -/
theorem test_reply_kind_revives :
    let s := quiet.withLine .b { quiet.port.line .b with silence := none, silent := true }
    goes (execAll (characters .b (requestFrame 31 0x80 [])) s)
      (fun t => t.port.lineB.silent == false && t.port.lineB.rx == .hunt && t.port.lineB.waiting == none &&
        t.inFlight == [.alarmClear .lineSilent (.line .b)]) = true := by decide +kernel

/-- The statement's own run: a broadcast TIME_SET arrives character by character. -/
theorem test_broadcast_arrives :
    goes (execAll (characters .a (requestFrame 0 0x18 [0, 0, 0, 9])) quiet)
      (fun t => t.port.lineA.waiting == some (.timeSet ⟨.a, true, [0, 0, 0, 9]⟩)) = true := by decide +kernel

theorem witness_BadFramesAreCounted :
    let y := quiet.port.line .a
    let badCheck : LinePort := { y with rx := .check, buffer := [31, 1, 0, 0], gap := true }
    badCheck.rx ≠ .hunt ∧ badCheck.rx ≠ .closed ∧ badCheck.gap = true ∧ ({ y with rx := .length } : LinePort).rx = .length ∧
    240 < (241 : Byte).toNat ∧ badCheck.buffer.length = 3 + (byteAt badCheck.buffer 2).toNat + 1 ∧
    crcBytes (crc (badCheck.buffer.take 3)) ≠ [byteAt badCheck.buffer 3, 0] ∧
    badCheck.reply = none ∧ ({ y with rx := .closed } : LinePort).rx = .closed ∧
    ({ y with reply := some [0xD5] } : LinePort).reply.isSome = true := by decide +kernel

/-- LOCAL with close-on-loss and CLOSED, with the other line silent and not. -/
theorem witness_SilenceIsRaised :
    let s : State := { quiet with
      resolver := { quiet.resolver with mode := .local_, doors := Vector.replicate 24 ⟨false, false, false, .none⟩ } }
    let lost := (s.withLine .a { s.port.line .a with silence := some 20 }).withLine .b
      { s.port.line .b with silence := none, silent := true }
    StandingInv lost ∧ (lost.port.line .a).silence.isSome = true ∧ (lost.port.line .b).silent = true ∧
    lost.image.group.closeOnLoss = true ∧ lost.resolver.mode = .local_ ∧ (s.port.line .b).silent = false ∧
    quiet.resolver.mode ≠ .local_ := by
  unfold StandingInv
  decide +kernel

/-- A line that sends nothing, one that sends a reply, one that sends the reply to a RESTART; either interval of the reset
pin. -/
theorem witness_PartRestarts :
    (let s := quiet.withLine .a { quiet.port.line .a with reply := some [0xD5] }
     let t : State := { s with port := { s.port with restarting := some .a } }
     (s.port.line .a).reply.isSome = true ∧ s.port.restarting ≠ some .a ∧
     (t.port.line .a).reply.isSome = true ∧ t.port.restarting = some .a ∧ PresenceInv t ∧ AlarmInv t) ∧ (quiet.port.line .a).reply = none ∧
    (∀ on : Bool,
      (∃ f, FilterEnds (quiet.withFilter .resetPin (turning on)) (.filterExpiry .resetPin) .resetPin f ∧
        f.filtered = on) ∧
      (∃ f, FilterEnds (quiet.withFilter .resetPin (priming on)) (.firstIntervalExpiry .resetPin) .resetPin f)) ∧
    PresenceInv quiet ∧ AlarmInv quiet := by
  have p : PresenceInv quiet := witness_PresenceInv
  have a : AlarmInv quiet := by unfold AlarmInv; decide +kernel
  refine ⟨⟨by decide +kernel, by decide +kernel, by decide +kernel, by decide +kernel, p, a⟩, by decide +kernel,
    fun on => ⟨?_, ?_⟩, p, a⟩
  · obtain ⟨f, h, k⟩ := (witness_Delivers quiet .resetPin on).1
    exact ⟨f, h.1, k⟩
  · obtain ⟨f, h, _⟩ := (witness_Delivers quiet .resetPin on).2.2
    exact ⟨f, h⟩

/-- A restart finds room for the condition that stands after it, and enters it. -/
theorem witness_PartRestarts_entered :
    let s := quiet.withLine .a { quiet.port.line .a with reply := some [0xD5] }
    let t : State := { s with port := { s.port with restarting := some .a } }
    goes (exec (.replySent .a) t) (fun u =>
      decide (t.alarms.entries.length + restartEntries t u ≤ 48) && restartEnters u .configDefault .group &&
      u.alarms.has .configDefault .group) = true := by decide +kernel

/-- A stored copy of a valid image, a store with a write in flight, and straps of each kind. -/
theorem witness_PowerOnLoads :
    let i := Image.standard
    let s : State := { quiet with store := { quiet.store with stored := ⟨imageBytes i, crc (imageBytes i)⟩ } }
    i.valid ∧ s.store.writing = false ∧ s.store.stored = ⟨imageBytes i, crc (imageBytes i)⟩ ∧
    ({ quiet.store with writing := true } : Store).writing = true ∧
    ((List.finRange 5).countP fun k => (7 : BitVec 5).getLsbD k.val) % 2 ≠ 0 ∧
    ((List.finRange 5).countP fun k => (5 : BitVec 5).getLsbD k.val) % 2 = 0 := by
  refine ⟨by unfold Image.valid GroupRecord.inRange DoorRecord.inRange; decide +kernel, by decide +kernel, rfl, ?_⟩
  decide +kernel

/-- A stored copy whose check value matches fails the load where it holds a value that staging would clamp (R160). -/
theorem test_clamped_value_fails_load :
    let bs := imageBytes { Image.standard with group := { GroupRecord.standard with warningTime := 101 } }
    storedPasses bs (crc bs) = false := by
  intro bs
  have h : decide ((groupOf (bs.take 48)).clamped = groupOf (bs.take 48)) = false := by decide +kernel
  simp [storedPasses, h]

/-- An empty list and a full one with its overflow entry; records of 48 and 28 bytes; no label and the longest. -/
theorem witness_ReplyLayouts :
    (listed 0 ⟨.wear, .door 0, .activeUnack, true, 0, 0, 1⟩ none).alarms.all.length ≤ 49 ∧
    (listed 48 ⟨.wear, .door 0, .activeUnack, true, 0, 0, 1⟩
      (some ⟨.listOverflow, .group, .activeAck, true, 0, 0, 1⟩)).alarms.all.length = 49 ∧ 48 ≤ 48 ∧
    (groupBytes .standard).length = 48 ∧ (doorBytes 23 .standard).length = 28 ∧ doorChecked (doorBytes 23 .standard) = true ∧
    DoorRecord.standard.label.length ≤ 16 ∧
    ({ DoorRecord.standard with label := List.replicate 16 0x41 } : DoorRecord).label.length ≤ 16 := by decide +kernel

theorem witness_ReadRequestsAnswer :
    (∀ c body, Waits (asked c (ask body) quiet) c (ask body)) ∧ (ask []).body = [] ∧ 24 ≤ (24 : Byte).toNat ∧
    (23 : DoorId).val = (23 : Byte).toNat ∧ (ask [1, 1, 23]).body = [1, 1, 23] ∧ (1 : Byte).toNat ≤ 1 ∧
    1 < (2 : Byte).toNat :=
  ⟨fun _ _ => quiet_waits _ _ _ rfl, by decide⟩

/-- The last door alone, all of them, and one too many. -/
theorem witness_DoorStatusReads :
    (∀ a b, Waits (asked (.doorStatus (ask [a, b])) (ask [a, b]) quiet) (.doorStatus (ask [a, b])) (ask [a, b])) ∧
    (1 ≤ (1 : Byte).toNat ∧ (23 : Byte).toNat + (1 : Byte).toNat ≤ 24) ∧
    (1 ≤ (24 : Byte).toNat ∧ (0 : Byte).toNat + (24 : Byte).toNat ≤ 24) ∧
    ¬(1 ≤ (24 : Byte).toNat ∧ (1 : Byte).toNat + (24 : Byte).toNat ≤ 24) :=
  ⟨fun _ _ => quiet_waits _ _ _ rfl, by decide⟩

/-- Entries and overflow entries in each state, in lists of 40, 41 and 48; a list without them; and three bytes at each edge of
what a kind code, a sort and an index may be. -/
theorem witness_AlarmRequests :
    (∀ c body n e o, Waits (asked c (ask body) (listed n e o)) c (ask body)) ∧
    ∀ x ∈ [EntryState.activeUnack, .activeAck, .clearedUnack],
      let e : Entry := ⟨.wear, .door 0, x, true, 0, 0, 1⟩
      let r := ask (byteOf (alarmCode .wear) :: subjectBytes (.door 0))
      let s := asked (.alarmAck r) r (listed 48 e none)
      48 < (49 : Byte).toNat ∧ (48 : Byte).toNat ≤ 48 ∧ AlarmKind.wear.fits (.door 0) = true ∧
      AlarmKind.wear.fits .group = false ∧ s.alarms.find .wear (.door 0) = some e ∧
      (s.alarms.entries.map fun e => (e.kind, e.subject)).Nodup ∧ s.alarms.overflow = none ∧
      s.alarms.find .overtravel (.door 0) = none ∧
      (∀ n ∈ [40, 41, 48],
        let o : Entry := ⟨.listOverflow, .group, x, true, 0, 0, 1⟩
        let r := ask [20, 0, 0]
        let s := asked (.alarmAck r) r (listed n e (some o))
        r.body = byteOf (alarmCode .listOverflow) :: subjectBytes .group ∧ AlarmKind.listOverflow.fits .group = true ∧
        s.alarms.overflow = some o ∧ (∀ e ∈ s.alarms.entries, e.kind ≠ .listOverflow)) ∧
      20 < (21 : Byte).toNat ∧ 3 < (4 : Byte).toNat ∧ 24 ≤ (24 : Byte).toNat :=
  ⟨fun _ _ _ _ _ => quiet_waits _ _ _ rfl, by decide +kernel⟩

theorem witness_ModeAndReleaseRequests :
    (∀ s ∈ [quiet, { quiet with resolver := { quiet.resolver with latch := true } }, quiet.withFilter .emergency active],
      Waits (asked (.emergencyRelease (ask [])) (ask []) s) (.emergencyRelease (ask [])) (ask [])) ∧
    (let r : Req := ⟨.a, true, [2]⟩
     let s := asked (.modeSet r) r quiet
     (s.port.line .a).waiting = some (.modeSet r) ∧ (s.port.line .a).reply = none ∧ s.port.restarting = none) ∧
    1 < (2 : Byte).toNat ∧ (1 : Byte).toNat ≤ 1 ∧ StandingInv quiet ∧ quiet.resolver.mode = .closed ∧
    quiet.lines.emergency.filtered = false ∧ (quiet.withFilter .emergency active).lines.emergency.filtered = true ∧
    quiet.inFlight = [] ∧
    (let o : Resolver := { quiet.resolver with
       latch := true, mode := .local_, doors := Vector.replicate 24 ⟨false, false, false, .emergency⟩ }
     let s : State := { quiet with resolver := o, doors := quiet.doors.map fun x => { x with standing := .emergency, transit := true } }
     StandingInv s ∧ (∀ d : DoorId, (s.door d).standing = s.resolver.doors[d].reported) ∧ s.inFlight = [] ∧
     s.resolver.latch = true ∧ s.lines.emergency.filtered = false ∧ (s.door 0).motion ≠ .isolated ∧
     (s.door 0).standing ≠ .none ∧ strongestSource s.image { s.resolver with latch := false } 0 = .none ∧
     transitMessages 0 (s.door 0) ≠ []) := by
  refine ⟨?_, ?_⟩
  · intro s hs
    simp only [List.mem_cons, List.not_mem_nil, or_false] at hs
    rcases hs with rfl | rfl | rfl <;> exact quiet_waits _ _ _ rfl
  · unfold StandingInv
    decide +kernel

theorem witness_RegistrationRequests :
    ((∀ c body, Waits (asked c (ask body) quiet) c (ask body)) ∧ (ask [0, 0, 1]).body = [0, 0, 1] ∧
     (ask [1]).body = [1]) ∧
    (quiet.image.doors[(0 : DoorId)].present = true ∧ quiet.resolver.doors[(0 : DoorId)].isolated = false ∧
     quiet.resolver.latch = false ∧ quiet.resolver.mode = .closed) ∧
    ∀ latch : Bool, ∀ mode ∈ [GroupMode.local_, .closed],
      let s : State := { quiet with resolver := { quiet.resolver with latch := latch, mode := mode } }
      ∀ c body, Waits (asked c (ask body) s) c (ask body) :=
  ⟨⟨fun _ _ => quiet_waits _ _ _ rfl, rfl, rfl⟩, by decide +kernel, fun _ _ _ _ _ => quiet_waits _ _ _ rfl⟩

/-- R66's table at a present door: the latch over the mode, the mode over a registration, which counts in LOCAL alone. -/
theorem test_strongest_source :
    let authority := fun (latch : Bool) (mode : GroupMode) (registered : Bool) =>
      standingOf quiet.image
        { quiet.resolver with
          latch := latch, mode := mode, doors := quiet.resolver.doors.set 0 ⟨registered, false, false, .none⟩ } 0
    (∀ mode ∈ [GroupMode.local_, .closed], ∀ registered, authority true mode registered = .emergency) ∧
    (∀ registered, authority false .closed registered = .central) ∧
    authority false .local_ true = .remote ∧ authority false .local_ false = .none := by
  decide +kernel

/-- An ABSENT, an ISOLATED and a moving door. -/
theorem witness_IsolateTakesOutOfService : ∀ m ∈ [Motion.absent, .isolated, .closing, .queued, .settling],
    let s := asked (.isolate (ask [23])) (ask [23]) (record 23 (fun r => { r with motion := m }) quiet)
    Waits s (.isolate (ask [23])) (ask [23]) ∧ (ask [23]).body = [23] ∧ s.inFlight = [] ∧
    (23 : DoorId).val = (23 : Byte).toNat ∧ (s.door 23).motion = m := by
  intro m _
  exact ⟨quiet_waits _ _ _ rfl, rfl, rfl, by decide, by cases m <;> decide +kernel⟩

/-- An ISOLATED door with and without a running drive test. -/
theorem witness_RestoreReturnsToService : ∀ running : Bool,
    let result : TestResult := if running then .running else .none
    let s : State := asked (.restore (ask [23])) (ask [23])
      (record 23 (fun r => { r with motion := .isolated, standing := .none, transit := false, testResult := result })
        { quiet with resolver := { quiet.resolver with
          doors := quiet.resolver.doors.set 23 ⟨false, true, false, .none⟩ } })
    Waits s (.restore (ask [23])) (ask [23]) ∧ (ask [23]).body = [23] ∧
    (StandingInv s ∧ s.inFlight = [] ∧ (s.door 23).motion = .isolated ∧ (s.door 23).testResult = result ∧
     (s.door 23).transit = false ∧ (s.door 23).standing = .none ∧
     s.image.doors[(23 : DoorId)].present = true ∧ s.resolver.doors[(23 : DoorId)].isolated = true) := by
  intro running
  refine ⟨quiet_waits _ _ _ rfl, rfl, ?_⟩
  unfold StandingInv
  cases running <;> decide +kernel

/-- An older ruling to a door that the flag bars, the first of the lowest such door, whose taking makes nothing that
completes. -/
theorem witness_FloodFlags_older :
    let s := asked (.floodSet (ask [1])) (ask [1]) (wired 0 (fun c => { c with openHandle := active })
      (record 0 (fun x => { x with motion := .stopped, standing := .none })
        { flooded quiet with resolver := quiet.resolver, inFlight := [.handleRuling 0 .latchOpen] }))
    let m : Instr := .handleRuling 0 .latchOpen
    (s.inFlight.filter fun x => route? x == some (.toDoorTable 0)).head? = some m ∧ (∀ e : DoorId, ¬e < 0) ∧
    goes (exec m s) (fun u => u.inFlight.filter completes == (s.taking m).inFlight.filter completes) = true := by
  decide +kernel

/-- A named door and one that is not, in each motion state. -/
theorem witness_FloodFlags : ∀ m : Motion,
    let s := asked (.floodSet (ask [1])) (ask [1])
      (record 0 (fun r => { r with motion := m }) { flooded quiet with resolver := quiet.resolver })
    Waits s (.floodSet (ask [1])) (ask [1]) ∧ (ask [1]).body = [1] ∧
    (s.inFlight = [] ∧ s.image.doors[(0 : DoorId)].present = true ∧ s.resolver.doors[(0 : DoorId)].isolated = false ∧
     s.image.doors[(0 : DoorId)].floodInhibit = true ∧ s.image.doors[(1 : DoorId)].floodInhibit = false ∧
     (1 : Byte).getLsbD s.image.doors[(0 : DoorId)].zone.val = true ∧
     s.resolver.flood.getLsbD s.image.doors[(0 : DoorId)].zone.val = false ∧ (s.door 0).motion = m) ∧
    Waits (asked (.floodClear (ask [1])) (ask [1]) quiet) (.floodClear (ask [1])) (ask [1]) := by
  intro m
  exact ⟨quiet_waits _ _ _ rfl, rfl, by cases m <;> decide +kernel, quiet_waits _ _ _ rfl⟩

/-- Door 0 with a capture, and with each pair of conditions that may persist. -/
def captured (mismatch conflict : Bool) : State :=
  let end_ : Filter := { active with filtered := conflict }
  wired 0 (fun c => { c with closedSwitch := end_, openSwitch := end_ })
    (record 0 (fun r => { r with motion := .stopped, faulted := true, openCheck := ⟨none, mismatch⟩ })
      { quiet with recorder := { quiet.recorder with
        doors := quiet.recorder.doors.set 0 ⟨some ⟨.overtravel, ⟨.closing, .cls, 10, 290, .remote⟩, 0, 0⟩, .zero, true⟩ } })

/-- A captured door named, with each pair of persisting conditions, and doors without a capture, named and not. -/
theorem witness_ClearRequests : ∀ mismatch conflict : Bool,
    let s := asked (.faultClear (ask [0x80, 0, 1])) (ask [0x80, 0, 1]) (captured mismatch conflict)
    Waits s (.faultClear (ask [0x80, 0, 1])) (ask [0x80, 0, 1]) ∧ (ask [0x80, 0, 1]).body = [0x80, 0, 1] ∧
    FaultedInv s ∧
    (s.inFlight = [] ∧ s.recorder.doors[(0 : DoorId)].capture.isSome = true ∧ s.image.doors[(0 : DoorId)].present = true ∧
     s.image.doors[(0 : DoorId)].driveCheck = true ∧ (s.door 0).openCheck.reported = mismatch ∧
     (s.channel 0).conflict = conflict ∧ s.recorder.doors[(23 : DoorId)].capture = none ∧
     ((0x80 : Byte) ++ (0 : Byte) ++ (1 : Byte)).getLsbD (23 : DoorId).val = true ∧
     ((0x80 : Byte) ++ (0 : Byte) ++ (1 : Byte)).getLsbD (1 : DoorId).val = false ∧
     s.recorder.doors[(0 : DoorId)].wear = true) := by
  intro mismatch conflict
  refine ⟨quiet_waits _ _ _ rfl, rfl, ⟨?_, ?_⟩, ?_⟩
  · unfold PresenceInv; cases mismatch <;> cases conflict <;> decide +kernel
  · cases mismatch <;> cases conflict <;> decide +kernel
  · cases mismatch <;> cases conflict <;> decide +kernel

/-- Each selector and interval; a RESTART on line A while an IDENTIFY waits on line B. -/
theorem witness_LinePortRequests :
    ((∀ c b, Waits (asked c (ask [b]) quiet) c (ask [b])) ∧ (ask [2]).body = [2] ∧ 2 < (3 : Byte).toNat ∧
     (255 : Byte) ≠ 0) ∧
    (∀ c b, ∀ m ∈ (asked c (ask [b]) quiet).inFlight, completes m = false) ∧
    (let r : Req := ⟨.b, false, []⟩
     let s := asked (.restart (ask [])) (ask []) (asked (.identify r) r quiet)
     Waits s (.restart (ask [])) (ask []) ∧ (ask []).body = [] ∧ (s.port.line .b).waiting.isSome = true ∧
     r.line = otherLine (ask []).line ∧ (0x01 : Byte).toNat < 0x80) :=
  ⟨⟨fun _ _ => quiet_waits _ _ _ rfl, by decide⟩, fun _ _ _ h => absurd h List.not_mem_nil,
    asked_waits _ _ _ rfl rfl rfl, by decide +kernel⟩

/-- LINES_CLEAR of both lines clears LINE_DEGRADED of the line on which it stood before the reply. -/
theorem test_lines_clear_ends_degraded :
    let entry : Entry := ⟨.lineDegraded, .line .b, .activeUnack, true, 0, 0, 1⟩
    let s := (quiet.withLine .b { quiet.port.line .b with checkErrors := 101, degraded := true }).withAlarms
      { quiet.alarms with entries := [entry] }
    ∃ t, exec (.linesClear (ask [2])) (asked (.linesClear (ask [2])) (ask [2]) s) = .next t ∧
      t.alarms.entries.map Entry.state = [.clearedUnack] :=
  ⟨_, rfl, by decide +kernel⟩

/-- A group record and a door record that pass the checks, and one of each that does not. -/
theorem witness_StagingRequests :
    (∀ c body, Waits (asked c (ask body) quiet) c (ask body)) ∧
    (groupBytes .standard).length = 48 ∧ groupChecked (groupBytes .standard) = true ∧
    groupChecked ((groupBytes .standard).set 0 2) = false ∧ (doorBytes 23 .standard).length = 28 ∧
    doorChecked (doorBytes 23 .standard) = true ∧ doorChecked ((doorBytes 23 .standard).set 0 24) = false ∧
    (23 : DoorId).val = (byteAt (doorBytes 23 .standard) 0).toNat :=
  ⟨fun _ _ => quiet_waits _ _ _ rfl, by decide +kernel⟩

/-- Every door SETTLING; a demand above its Cn; a Ce above its Cn. -/
theorem witness_CommitIsTaken :
    let s := asked (.configCommit (ask [])) (ask []) quiet
    Waits s (.configCommit (ask [])) (ask []) ∧ (ask []).body = [] ∧
    (∀ d : DoorId, (s.door d).motion = .settling) ∧ s.resolver.latch = false ∧ s.store.writing = false ∧
    commitFailure s.store.staging = none ∧
    commitFailure ⟨.standard, s.store.staging.doors.set 23 { DoorRecord.standard with demand := 5 }⟩ =
      some (.demandOverCn 23) ∧
    commitFailure ⟨{ GroupRecord.standard with emergencyCapacity := #v[4, 4, 4, 5] }, s.store.staging.doors⟩ =
      some (.ceOverCn 3) :=
  ⟨quiet_waits _ _ _ rfl, by decide +kernel⟩

/-- The invariants that CONFIG_COMMIT asks for hold while it waits, of a part whose every door stays declared, and of one
in which it declares door 0. -/
theorem witness_CommitIsTaken_invariants :
    (let s := asked (.configCommit (ask [])) (ask []) State.reset
     PresenceInv s ∧ DriveInv s) ∧
    (let s := asked (.configCommit (ask [])) (ask [])
       (record 0 (fun r => { r with present := false, motion := .absent }) (undeclared State.reset))
     PresenceInv s ∧ DriveInv s ∧ s.store.active.doors[(0 : DoorId)].present = false ∧
     s.store.staging.doors[(0 : DoorId)].present = true) ∧
    (let s := asked (.configCommit (ask [])) (ask []) quiet
     s.inFlight = [] ∧ StandingInv s ∧ FlowInv s ∧ keptPresent s.image s.store.staging 0 = true ∧
     madeAbsent s.image (undeclared s).image 0 = true ∧ madePresent (undeclared s).image s.store.staging 0 = true) := by
  have h : PresenceInv (record 0 (fun r => { r with present := false, motion := .absent }) (undeclared State.reset)) := by
    unfold PresenceInv; decide +kernel
  refine ⟨⟨witness_PresenceInv, witness_DriveInv⟩, ⟨h, driveInv_of_rest h (by decide +kernel), by decide +kernel⟩, ?_⟩
  unfold StandingInv FlowInv FlowOk
  decide +kernel

/-- Both directions of a stroke, from either end. -/
theorem witness_EstimateAndDeadlineFigures :
    (let r := (closing 45 290).door 0; r.motion = .closing ∧ r.dir = .cls) ∧
    (let r := (record 0 (fun r => { r with motion := .opening, dir := .opn }) quiet).door 0
     r.motion = .opening ∧ r.dir = .opn) ∧ (quiet.door 0).estimate ≤ 1000 := by decide +kernel

/-- Each motion state, with each pair of switches. -/
theorem witness_IndicatedStateTable : ∀ a b : Bool, ∀ m : Motion,
    let s := wired 0 (fun c => { c with closedSwitch := { active with filtered := a }
                                        openSwitch := { active with filtered := b } })
      (record 0 (fun r => { r with motion := m }) quiet)
    (s.door 0).motion = m ∧ (s.channel 0).closedSwitch.filtered = a ∧ (s.channel 0).openSwitch.filtered = b := by
  intro a b m
  cases a <;> cases b <;> cases m <;> decide +kernel

/-! ### Rules that meet in one event -/

/-- R35: a conflict at a SETTLING door moves its estimate off the end. -/
theorem test_settling_conflict_clamps :
    let s := (wired 0 (fun c => { c with closedSwitch := active }) (record 0 (fun r => { r with estimate := 0 })
      quiet)).withFilter (.door 0 .openSwitch) confirming
    goes (exec (.filterExpiry (.door 0 .openSwitch)) s)
      (fun t => (t.door 0).estimate == 10 && (t.door 0).motion == .settling) = true := by decide +kernel

/-- R38, R32, R35: a reversal between two ACTIVE end switches ends STOPPED. -/
theorem test_reversal_in_conflict_stops :
    let s := wired 0 (fun c => { c with closedSwitch := active, openSwitch := active })
      (record 0 (fun r => { r with standing := .none }) (closing 8 100))
    goes (exec (.handleRuling 0 .latchOpen) s) (fun t => (t.door 0).motion == .stopped) = true := by decide +kernel

/-- R81: a TRANSIT_OPEN ruled before the bridge releases the registration becomes a latching opening. -/
theorem test_ruling_before_report :
    let r := ask [0, 0, 1]
    let s : State := wired 0 (fun c => { c with openHandle := active })
      (record 0 (fun x => { x with motion := .closed, standing := .remote }) { quiet with
        inFlight := [.handleRuling 0 .transitOpen]
        resolver := { quiet.resolver with
          mode := .local_, doors := Vector.ofFn fun d => ⟨d == 0, false, false, if d = 0 then .remote else .none⟩ } })
    goes (exec (.releaseDoors r) (asked (.releaseDoors r) r s)) (fun t =>
      (t.door 0).motion == .queued && (t.door 0).dir == .opn && !(t.door 0).transit && !(t.door 0).held &&
      (t.door 0).standing == .none) = true := by decide +kernel

/-- R78: an older LATCH_OPEN starts no opening under the flag that a FLOOD_SET sets. -/
theorem test_flood_ends_older_ruling :
    let s : State := wired 0 (fun c => { c with openHandle := active })
      (record 0 (fun x => { x with motion := .stopped, standing := .none })
        { flooded quiet with resolver := quiet.resolver, inFlight := [.handleRuling 0 .latchOpen] })
    goes (exec (.floodSet (ask [1])) (asked (.floodSet (ask [1])) (ask [1]) s)) (fun t =>
      (t.door 0).motion == .stopped && !t.inFlight.contains (.handleRuling 0 .latchOpen)) = true := by decide +kernel

/-- R81, R84: a TRANSIT_OPEN made before a fault and taken after its notice gets the faulted door no transit and no wait for
flow. -/
theorem test_faulted_door_makes_no_transit :
    let s : State := wired 0 (fun c => { c with openHandle := active })
      (record 0 (fun x => { x with motion := .stopped, faulted := true }) quiet)
    goes (exec (.handleRuling 0 .transitOpen) s) (fun t =>
      (t.door 0).motion == .stopped && !(t.door 0).transit && (t.door 0).faulted) = true := by decide +kernel

/-- R84, section 2.12: a CLOSE_NOW made before a fault ends a held opening and moves the faulted door no further. -/
theorem test_faulted_door_is_not_reversed :
    let s : State := record 0 (fun x => { x with
      motion := .opening, dir := .opn, held := true, faulted := true, standing := .central }) quiet
    goes (exec (.handleRuling 0 .closeNow) s) (fun t =>
      (t.door 0).motion == .stopped && !(t.channel 0).closeValve && t.inFlight == [.reversed 0 .cls, .release 0]) = true := by
  decide +kernel

/-- R23, R44: a conflict that a SETTLING door reports as persisting is not reported again as its settling ends. -/
theorem test_settling_conflict_is_reported_once :
    let s : State := wired 0 (fun c => { c with closedSwitch := active, openSwitch := active })
      (record 0 (fun x => { x with faulted := true, settle := ⟨true, false, false⟩ }) quiet)
    goes (exec (.captureEmptiedNotice 0) s) (fun t =>
      t.inFlight == [.faultReport 0 .switchConflict none true (s.door 0).asReported] && (t.door 0).settle.conflict) = true := by
  decide +kernel

/-- R96, section 5.2: a door that takes an older CLOSE grant while it is OFFERED for OPEN is HELD for CLOSE. -/
theorem test_taken_names_the_direction :
    let s : State := { quiet with alloc := { quiet.alloc with doors := quiet.alloc.doors.set 0 (.offered 0 .opn 4 .none) } }
    goes (exec (.taken 0 .cls) s) (fun t => t.alloc.doors[(0 : DoorId)] == .held 0 .cls 4) = true := by decide +kernel

/-- R80, R89: a report made before ISOLATE and still on its way at RESTORE leaves the restored door with NONE. -/
theorem test_restore_takes_the_old_report :
    let s : State := record 0 (fun x => { x with motion := .isolated, standing := .none })
      { quiet with
        inFlight := [.standingAuthorityReport 0 .central]
        resolver := { quiet.resolver with mode := .local_, doors := Vector.ofFn fun d => ⟨false, d == 0, false, .none⟩ } }
    goes (exec (.restore (ask [0])) (asked (.restore (ask [0])) (ask [0]) s)) (fun t =>
      (t.door 0).motion == .settling && (t.door 0).standing == .none && t.inFlight == []) = true := by decide +kernel

/-- R4: a restart by request leaves the other line's reply going on. -/
theorem test_restart_keeps_other_reply :
    let s := (quiet.withLine .a { quiet.port.line .a with reply := some [0xD5] }).withLine .b
      { quiet.port.line .b with reply := some [0xD5, 1] }
    goes (exec (.replySent .a) { s with port := { s.port with restarting := some .a } }) (fun t =>
      t.port.cause == .restartRequest && t.port.lineA.reply == none && t.port.lineB.reply == some [0xD5, 1]) = true := by
  decide +kernel

/-- R119, R128: a door made ABSENT with a capture has its kind's reset condition reported; one that stays present
reports nothing. -/
theorem test_absent_door_ends_its_fault :
    (Log.commitDoor ⟨Image.standard, 0, { quiet.recorder with
        doors := quiet.recorder.doors.set 0 ⟨some ⟨.overtravel, (quiet.door 0).asReported, 0, 0⟩, .zero, false⟩ }, []⟩
      DoorRecord.standard 0).out = [] ∧
    (Log.commitDoor ⟨(undeclared quiet).image, 0, { quiet.recorder with
        doors := quiet.recorder.doors.set 0 ⟨some ⟨.overtravel, (quiet.door 0).asReported, 0, 0⟩, .zero, false⟩ }, []⟩
      DoorRecord.standard 0).out = [.alarmResetCondition .overtravel (.door 0), .captureEmptiedNotice 0] := by decide +kernel

end Sys2Proof.Tests
end

/-! The figures of a stroke: the position estimate while the door moves (R51) and the deadline with which a
stroke starts (R54). -/

namespace Sys2Proof.Machine

open Sys2Proof

/-! ### Clamping -/

/-- A number held within a range is moved to the nearer end where it falls outside. -/
theorem clamp_eq_min_max {lo hi : Nat} (h : lo ≤ hi) (x : Nat) : clamp lo hi x = min hi (max lo x) := by
  unfold clamp
  split
  · omega
  · split <;> omega

/-- A clamped number lies within its range. -/
theorem clamp_mem_range {lo hi : Nat} (h : lo ≤ hi) (x : Nat) : lo ≤ clamp lo hi x ∧ clamp lo hi x ≤ hi := by
  rw [clamp_eq_min_max h]
  omega

/-- A difference held above 0 is the same in whole numbers: where it is negative, both are at the low end. -/
theorem cast_clamp_sub {lo hi : Nat} (h : lo ≤ hi) (p q : Nat) :
    ((clamp lo hi (p - q) : Nat) : Int) = min (hi : Int) (max lo (p - q)) := by
  rw [clamp_eq_min_max h]
  omega

theorem cast_clamp_add {lo hi : Nat} (h : lo ≤ hi) (p q : Nat) :
    ((clamp lo hi (p + q) : Nat) : Int) = min (hi : Int) (max lo (p + q)) := by
  rw [clamp_eq_min_max h]
  omega

/-! ### The estimate of a moving door (R51) -/

/-- A moving door's estimate is that of its stroke. -/
theorem Door.estimateNow_of_moving {r : Door} (h : isMoving r.motion = true) :
    r.estimateNow = strokeEstimate r.dir r.p0 r.elapsed (r.learned r.dir) := by
  simp [Door.estimateNow, h]

/-! ### The record of a stroke that starts (R30, R54) -/

/-- A drive check brought up to date leaves the stroke's record alone. -/
theorem Door.valveAt_stroke (i : Image) (c : Channel) (v : Dir) (on : Bool) (r : Door) :
    (r.valveAt i c v on).p0 = r.p0 ∧ (r.valveAt i c v on).elapsed = r.elapsed ∧
      (r.valveAt i c v on).deadline = r.deadline := by
  have checked (k : Check) :
      (r.withCheck v k).p0 = r.p0 ∧ (r.withCheck v k).elapsed = r.elapsed ∧ (r.withCheck v k).deadline = r.deadline := by
    cases v <;> exact ⟨rfl, rfl, rfl⟩
  unfold Door.valveAt
  split
  · split
    · exact checked _
    · split
      · exact ⟨rfl, rfl, rfl⟩
      · exact checked _
  · exact ⟨rfl, rfl, rfl⟩

/-- A stroke starts from the stored estimate with nothing elapsed and its own deadline. -/
theorem Work.beginStroke_stroke (w : Work) (dir : Dir) (full : Bool) :
    (w.beginStroke dir full).door.p0 = w.door.estimate ∧ (w.beginStroke dir full).door.elapsed = 0 ∧
      (w.beginStroke dir full).door.deadline =
        strokeDeadline dir w.door.estimate (w.door.learned dir) w.config.margin := by
  rw [Work.beginStroke, Work.switchValve_eq]
  exact Door.valveAt_stroke _ _ _ _ _

/-- Settles O59: the estimate direction by direction, held above 0 where P0 - Q falls below it; the deadline by what
`Work.beginStroke` writes. -/
theorem estimateAndDeadlineFigures : Obligations.EstimateAndDeadlineFigures := by
  unfold Obligations.EstimateAndDeadlineFigures
  constructor
  · intro r hm
    have moving : isMoving r.motion = true := by
      rcases hm with ⟨h, -⟩ | ⟨h, -⟩ <;> rw [h] <;> rfl
    rw [Door.estimateNow_of_moving moving]
    cases r.dir with
    | cls => exact cast_clamp_sub (by decide) r.p0 _
    | opn => exact cast_clamp_add (by decide) r.p0 _
  · intro w dir full _
    obtain ⟨hp0, helapsed, hdeadline⟩ := w.beginStroke_stroke dir full
    refine ⟨?_, hp0, helapsed⟩
    rw [hdeadline, strokeDeadline, clamp_eq_min_max (by decide)]
    cases dir <;> rfl

end Sys2Proof.Machine

/-! What a property of the state needs so that a step keeps it: the shared procedures that take messages and
requests keep whatever their parts keep. -/

namespace Sys2Proof.Machine

open Sys2Proof

/-- A command's meaning, where it has a next state, has one with the property. -/
def LeadsTo (P : State → Prop) : Result → Prop
  | .next t => P t
  | .fault _ | .refused _ => True

/-- A request's owner, where it does its part, leaves a state with the property. -/
def Answer.Leaves (P : State → Prop) : Answer → Prop
  | .refused .. => True
  | .accepted t _ | .completed t _ => P t

/-- However a request command meets its line, it leaves a state with the property. -/
def Admission.Leaves (P : State → Prop) : Admission → Prop
  | .taken t | .lost t => P t

/-- A message between blocks is taken behind those ahead of it on its way. -/
theorem exec_message {m : Instr} (h : (route? m).isSome = true) (s : State) :
    exec m s = .next ((s.inOrder m).deliver m) := by
  cases m <;> first | rfl | cases h

/-! ### Messages taken in turn -/

section
variable {P : State → Prop} (deliver : ∀ m s, P s → P (State.deliver m s))
include deliver

theorem State.deliverAll_keeps (ms : List Instr) {s : State} (h : P s) : P (ms.foldl (fun s x => s.deliver x) s) :=
  List.foldlRecOn ms _ h fun s hs m _ => deliver m s hs

theorem State.inOrder_keeps (m : Instr) {s : State} (h : P s) : P (s.inOrder m) := deliverAll_keeps deliver _ h

theorem State.settleDoors_keeps (ds : List DoorId) {s : State} (h : P s) : P (s.settleDoors ds).1 :=
  List.foldlRecOn ds _ h fun _ hs _ _ => deliverAll_keeps deliver _ hs

theorem State.completeFrom_keeps (fuel mark : Nat) {s : State} (h : P s) : P (s.completeFrom fuel mark) := by
  induction fuel generalizing mark s with
  | zero => exact h
  | succ n ih =>
    unfold State.completeFrom
    split
    · exact h
    · exact ih _ (deliver _ _ h)

theorem State.complete_keeps (mark : Nat) {s : State} (h : P s) : P (s.complete mark) :=
  completeFrom_keeps deliver _ _ h

end

/-! ### Requests -/

/-- What the taking of a request does outside its owner's part keeps `P`. -/
structure KeptInTaking (P : State → Prop) : Prop where
  deliver : ∀ m s, P s → P (State.deliver m s)
  withLine : ∀ l y s, P s → P (State.withLine s l y)
  hear : ∀ l s, P s → P (State.hear l s)

section
variable {P : State → Prop} (kept : KeptInTaking P)
include kept

theorem State.reply_keeps (kind : Byte) (r : Req) (reason : Option Reason) (data : List Byte) {s : State} (h : P s) :
    P (s.reply kind r reason data) := by
  unfold State.reply
  split
  · exact kept.withLine _ _ _ h
  · exact kept.withLine _ _ _ h

theorem State.carryOut_leaves {owner : List Byte → State → Answer} {r : Req} {s : State} (lens : List Nat)
    (part : (owner r.body s).Leaves P) : (s.carryOut lens owner r).Leaves P := by
  unfold State.carryOut
  split
  · split <;> rename_i answered <;> rw [answered] at part
    · trivial
    · exact complete_keeps kept.deliver _ part
    · exact part
  · trivial

theorem State.answer_keeps {owner : List Byte → State → Answer} {r : Req} {s : State} (kind : Byte) (lens : List Nat)
    (h : P s) (part : (owner r.body s).Leaves P) : P (s.answer kind r lens owner) := by
  have carried := carryOut_leaves kept lens part
  unfold State.answer
  split <;> rename_i answered <;> rw [answered] at carried
  · exact reply_keeps kept _ _ _ _ h
  · exact reply_keeps kept _ _ _ _ carried
  · exact reply_keeps kept _ _ _ _ carried

theorem State.meet_leaves (c : Instr) (r : Req) (wanted : Bool) {s : State} (h : P s) :
    (s.meet c r wanted).Leaves P := by
  have freed (t : State) (ht : P t) (y y' : LinePort) (b : Bool) :
      (if b then Admission.lost (t.withLine r.line y) else .taken (t.withLine r.line y')).Leaves P := by
    cases b <;> exact kept.withLine _ _ _ ht
  unfold State.meet
  dsimp only
  split
  · exact h
  · split
    · split
      · exact h
      · exact freed s h _ _ _
    · exact freed _ (kept.hear _ _ h) _ _ _

/-- A request served keeps what its owner's part keeps. -/
theorem State.serve_keeps {owner : List Byte → State → Answer} (c : Instr) (kind : Byte) (r : Req) (lens : List Nat)
    (part : ∀ s, P s → (owner r.body s).Leaves P) {s : State} (h : P s) : P (s.serve c kind r lens owner) := by
  have met := meet_leaves kept c r (!r.broadcast || takenByBroadcast kind) h
  unfold State.serve
  split <;> rename_i admitted <;> rw [admitted] at met
  · exact met
  · exact answer_keeps kept _ _ met (part _ met)

/-- A request of an unlisted kind is answered without an owner. -/
theorem execUnknownKindRequest_leadsTo (kind : Byte) (r : Req) {s : State} (h : P s) :
    LeadsTo P (execUnknownKindRequest kind r s) := by
  have met := State.meet_leaves kept (.unknownKindRequest kind r) r (!r.broadcast) h
  unfold execUnknownKindRequest
  split
  · split <;> rename_i admitted <;> rw [admitted] at met
    · exact met
    · exact State.reply_keeps kept _ _ _ _ met
  · trivial

end

/-! ### One step -/

/-- What every command keeps on any queue, and a stroke tick keeps, a step keeps. -/
theorem step_leadsTo {P : State → Prop} (queue : ∀ s cs, P s → P { s with pending := cs })
    (command : ∀ c s, P s → LeadsTo P (exec c s)) (tick : ∀ s, P s → P s.tick) {s : State} (h : P s) :
    LeadsTo P (step s) := by
  unfold step
  split
  · exact command _ _ (queue _ _ h)
  · unfold State.idle
    split
    · exact command _ _ h
    · split
      · exact command _ _ h
      · split
        · exact command _ _ h
        · exact tick _ h

end Sys2Proof.Machine

/-! Every procedure of the door table keeps the learned times of its door within 30-600 (R60). Three write them:
learning clamps (R59), and a commit takes nominal times, which are within 30-600 by R153 (R47, R63). -/

namespace Sys2Proof.Machine

open Sys2Proof

/-- The learned times of a door record lie within 30-600 (R60). -/
def Door.TimesInRange (r : Door) : Prop :=
  30 ≤ r.learnedClose ∧ r.learnedClose ≤ 600 ∧ 30 ≤ r.learnedOpen ∧ r.learnedOpen ≤ 600

/-- The learned times of the door at work lie within 30-600, as do the nominal times of the image it works under. -/
def Work.TimesInRange (w : Work) : Prop := nominalOk w.image ∧ w.door.TimesInRange

theorem LearnedInv.active {s : State} (h : LearnedInv s) : nominalOk s.store.active := h.1

theorem LearnedInv.staging {s : State} (h : LearnedInv s) : nominalOk s.store.staging := h.2.1

theorem LearnedInv.door {s : State} (h : LearnedInv s) (d : DoorId) : (s.door d).TimesInRange := h.2.2 d

theorem Work.TimesInRange.image {w : Work} (h : w.TimesInRange) : nominalOk w.image := h.1

theorem Work.TimesInRange.door {w : Work} (h : w.TimesInRange) : w.door.TimesInRange := h.2

/-! ### What writes the learned times -/

theorem relearned_mem_range (learned measured : Nat) :
    30 ≤ relearned learned measured ∧ relearned learned measured ≤ 600 :=
  clamp_mem_range (by decide) _

/-- A learned time that follows its nominal time where that changes is one of the two (R63). -/
theorem followed_mem_range {learned nominal : Nat} (old : Nat) (new : 30 ≤ nominal ∧ nominal ≤ 600)
    (kept : 30 ≤ learned ∧ learned ≤ 600) :
    30 ≤ (if nominal = old then learned else nominal) ∧ (if nominal = old then learned else nominal) ≤ 600 := by
  split
  · exact kept
  · exact new

theorem Door.TimesInRange.withLearned {r : Door} (h : r.TimesInRange) (dir : Dir) {t : Nat} (ht : 30 ≤ t ∧ t ≤ 600) :
    (r.withLearned dir t).TimesInRange := by
  obtain ⟨closeLow, closeHigh, openLow, openHigh⟩ := h
  cases dir with
  | cls => exact ⟨ht.1, ht.2, openLow, openHigh⟩
  | opn => exact ⟨closeLow, closeHigh, ht.1, ht.2⟩

theorem Door.TimesInRange.withCheck {r : Door} (h : r.TimesInRange) (v : Dir) (c : Check) :
    (r.withCheck v c).TimesInRange := by
  cases v <;> exact h

theorem Door.TimesInRange.atRest {r : Door} (h : r.TimesInRange) (c : Channel) : (r.atRest c).TimesInRange := by
  unfold Door.atRest
  dsimp only
  split <;> exact h

/-- A record as at power-on learns from its nominal times (R48). -/
theorem nominalOk.atPowerOn {i : Image} (h : nominalOk i) (d : DoorId) (a : Standing) :
    (Door.atPowerOn i.doors[d] a).TimesInRange := h d

/-! Where a procedure writes neither the image nor a learned time, what holds before is what holds after, and the hypothesis
itself is the proof. -/

namespace Work.TimesInRange

theorem ite {c : Prop} [Decidable c] {w w' : Work} (h : w.TimesInRange) (h' : w'.TimesInRange) :
    (if c then w else w').TimesInRange := by
  split
  · exact h
  · exact h'

variable {w : Work} (h : w.TimesInRange)
include h

theorem send (m : Instr) : (w.send m).TimesInRange := h

/-! ### Valves, flags and timers -/

theorem recheck (v : Dir) : (w.recheck v).TimesInRange := .ite ⟨h.image, h.door.withCheck _ _⟩ h

theorem switchValve (v : Dir) (on : Bool) : (w.switchValve v on).TimesInRange :=
  recheck (w := { w with channel := w.channel.withValve v on }) h v

theorem clearChecks : w.clearChecks.TimesInRange := h

theorem recheckBoth : w.recheckBoth.TimesInRange := (h.recheck _).recheck _

theorem clearTransit : w.clearTransit.TimesInRange := .ite h h

theorem setTransit : w.setTransit.TimesInRange := .ite h h

theorem endEdgeWait : w.endEdgeWait.TimesInRange := h

theorem stopTimers : w.stopTimers.TimesInRange := h

theorem clearDrift : w.clearDrift.TimesInRange := .ite h h

theorem report (k : FaultKind) (second : Option FaultKind) (persisting : Bool) :
    (w.report k second persisting).TimesInRange := h

/-! ### Rest and movement -/

theorem endStroke (how : StrokeEnd) : (w.endStroke how).TimesInRange :=
  .ite (h.switchValve _ _) (h.switchValve _ _)

theorem rest : w.rest.TimesInRange := by
  rw [Work.rest_eq]
  exact ⟨h.image, h.door.atRest _⟩

theorem startMove (dir : Dir) (a : MotionAuthority) (held : Bool) : (w.startMove dir a held).TimesInRange :=
  .ite h.stopTimers.endEdgeWait.rest h

theorem startClose : w.startClose.TimesInRange := .ite (h.startMove _ _ _) h

theorem enterDwell : w.enterDwell.TimesInRange :=
  ite (c := w.door.motion = .queued) (h.send (.withdraw w.id)) h

/-! ### Strokes -/

theorem evalTravelDrift : w.evalTravelDrift.TimesInRange := .ite h (.ite h h)

theorem learn : w.learn.TimesInRange :=
  .ite (evalTravelDrift ⟨h.image, .withLearned (by exact h.door) _ (relearned_mem_range _ _)⟩) h

theorem learnIf {c : Prop} [Decidable c] : (if c then w.learn else w).TimesInRange := .ite h.learn h

theorem arrive : w.arrive.TimesInRange := by
  have ended := h.endStroke .arrival
  unfold Work.arrive
  dsimp only
  split
  · exact learnIf (by exact ended)
  · exact clearDrift (clearTransit (send (learnIf (by exact ended)) _))

theorem meetTarget : w.meetTarget.TimesInRange := .ite ((h.report _ _ _).endStroke _).rest h.arrive

theorem obstruct : w.obstruct.TimesInRange := h.endStroke .other

theorem edgeAtStart : w.edgeAtStart.TimesInRange := .ite h.obstruct h

theorem beginStroke (dir : Dir) (full : Bool) : (w.beginStroke dir full).TimesInRange :=
  switchValve (by exact h) _ _

theorem takeGrant (dir : Dir) : (w.takeGrant dir).TimesInRange :=
  .ite ((h.beginStroke _ _).send _).edgeAtStart h

theorem takePause : w.takePause.TimesInRange := .ite (h.endStroke .pause) h

theorem reverseMoving (a : MotionAuthority) (held : Bool) : (w.reverseMoving a held).TimesInRange := by
  have begun := (h.endStroke .reversal).beginStroke w.door.dir.flip false
  exact .ite (meetTarget begun) (edgeAtStart begun)

theorem reverseQueued (a : MotionAuthority) (held : Bool) : (w.reverseQueued a held).TimesInRange := .ite h.rest h

theorem reverse (a : MotionAuthority) (held : Bool) : (w.reverse a held).TimesInRange :=
  .ite (h.reverseMoving _ _) (h.reverseQueued _ _)

theorem stopAndRest : w.stopAndRest.TimesInRange := (ite (h.endStroke .other) h).rest

/-! ### What follows every event -/

theorem startIfDue : w.startIfDue.TimesInRange := .ite h.startClose h

omit h in
theorem event (before : Door) (c : Channel) {f : Work → Work} (hf : (f w).TimesInRange) :
    (w.event before c f).TimesInRange := by
  unfold Work.event Work.flagChange
  exact .ite hf.startIfDue hf.startIfDue

/-! ### End switches -/

theorem withEstimate (e : Nat) : (w.withEstimate e).TimesInRange := h

theorem conflictAtRest : w.conflictAtRest.TimesInRange := (h.report _ _ _).rest

theorem confirmMoving (end_ : Dir) : (w.confirmMoving end_).TimesInRange :=
  .ite h.meetTarget (.ite ((h.report _ _ _).endStroke _).rest ((h.report _ _ _).endStroke _).rest)

theorem noteConflict : w.noteConflict.TimesInRange := .ite h h

theorem endConfirm (end_ : Dir) : (w.endConfirm end_).TimesInRange := by
  unfold Work.endConfirm
  split
  · exact h
  · exact h.withEstimate _
  · exact .ite ((h.report _ _ _).noteConflict.withEstimate _) h
  · exact h.confirmMoving _
  · exact h.confirmMoving _
  · exact .ite h.conflictAtRest h.endEdgeWait
  · exact .ite h.conflictAtRest h.endEdgeWait
  · exact .ite h.conflictAtRest h.rest
  · refine .ite h.conflictAtRest ?_
    cases end_ <;> [exact h.endEdgeWait.withEstimate _; exact h.rest]
  · refine .ite h.conflictAtRest ?_
    cases end_ <;> [exact h.endEdgeWait.withEstimate _; exact h.rest]
  · exact .ite h.conflictAtRest (.ite h.rest (h.endEdgeWait.withEstimate _))

theorem drift : w.drift.TimesInRange := h

theorem endRelease (end_ : Dir) : (w.endRelease end_).TimesInRange := by
  unfold Work.endRelease
  split
  case h_7 => exact .ite h.rest (h.withEstimate _)
  all_goals exact h

theorem endSwitch (end_ : Dir) (active : Bool) : (w.endSwitch end_ active).TimesInRange := by
  unfold Work.endSwitch
  refine .ite h ?_
  split
  · exact h.clearDrift.endConfirm _
  · exact endRelease (by exact h) _
  · exact h.endConfirm _
  · exact h.endRelease _

theorem endPrimed (end_ : Dir) : (w.endPrimed end_).TimesInRange :=
  .ite (.ite (rest (.ite h h)) h) h

/-! ### Leaf edge and handles -/

theorem leafEdge (active : Bool) : (w.leafEdge active).TimesInRange := by
  refine .ite h ?_
  split
  · exact h.obstruct
  all_goals exact h

theorem edgeClearExpiry : w.edgeClearExpiry.TimesInRange := .ite h.endEdgeWait h

theorem openRelease : w.openRelease.TimesInRange := by
  unfold Work.openRelease
  split
  case h_1 => exact .ite (.ite h.enterDwell h.rest) h
  case h_2 => exact .ite (.ite (h.endStroke _).enterDwell (h.endStroke _).rest) h
  case h_3 | h_4 => exact .ite h.enterDwell h
  all_goals exact h

theorem closeRelease : w.closeRelease.TimesInRange := by
  unfold Work.closeRelease
  split
  case h_1 => exact .ite h.rest h
  case h_2 => exact .ite (h.endStroke _).rest h
  all_goals exact h

theorem handle (handle : Dir) (active : Bool) : (w.handle handle active).TimesInRange := by
  unfold Work.handle
  split
  · split <;> exact h
  · exact .ite h (h.openRelease.send _)
  · exact h.closeRelease

theorem markHeld : w.markHeld.TimesInRange := h

theorem ruleOpening (held : Bool) : (w.ruleOpening held).TimesInRange := by
  unfold Work.ruleOpening
  split
  case h_1 | h_2 | h_3 | h_4 => exact h.startMove _ _ _
  case h_5 | h_6 => exact .ite h.markHeld h
  case h_7 | h_8 => exact h.reverse _ _
  all_goals exact h

theorem ruleClosing (a : MotionAuthority) (held : Bool) : (w.ruleClosing a held).TimesInRange := by
  unfold Work.ruleClosing
  split
  case h_1 | h_2 | h_3 | h_4 => exact h.startMove _ _ _
  case h_5 | h_6 => exact h.reverse _ _
  case h_7 | h_8 => exact .ite h.markHeld h
  all_goals exact h

theorem releasedMeanwhile (handle : Dir) : (w.releasedMeanwhile handle).TimesInRange := by
  cases handle with
  | opn => exact .ite h h.openRelease
  | cls => exact .ite h h.closeRelease

theorem obey (r : Ruling) : (w.obey r).TimesInRange := by
  cases r with
  | ignore => exact h
  | latchOpen => exact h.ruleOpening _
  | latchClose => exact h.ruleClosing _ _
  | transitOpen => exact (h.setTransit.ruleOpening _).releasedMeanwhile _
  | closeNow => exact h.ruleClosing _ _
  | holdOpen => exact (h.ruleOpening _).releasedMeanwhile _
  | holdClose => exact (h.ruleClosing _ _).releasedMeanwhile _

theorem heldByFault : w.heldByFault.TimesInRange := by
  unfold Work.heldByFault
  dsimp only
  split
  case h_1 | h_2 | h_3 => exact h.clearTransit.rest
  all_goals exact h.clearTransit.endEdgeWait

theorem faultAfterRuling (dir : Dir) : (w.faultAfterRuling dir).TimesInRange :=
  .ite (h.heldByFault.endStroke _).rest h.heldByFault

theorem rule (r : Ruling) : (w.rule r).TimesInRange := by
  unfold Work.rule
  split
  case h_1 | h_2 | h_3 => exact h
  all_goals exact .ite ((h.obey _).faultAfterRuling _) (h.obey _)

/-! ### Standing orders -/

theorem withStanding (a : Standing) : (w.withStanding a).TimesInRange := h

theorem withAuthority (a : MotionAuthority) : (w.withAuthority a).TimesInRange := h

theorem orderRises (a : Standing) : (w.orderRises a).TimesInRange := by
  unfold Work.orderRises
  split
  case h_1 | h_2 => exact h.stopAndRest
  case h_3 | h_4 => exact .ite (h.withAuthority _) h
  all_goals exact h

theorem orderChanges (a : Standing) : (w.orderChanges a).TimesInRange := by
  unfold Work.orderChanges
  split
  case h_1 => exact h.withAuthority _
  case h_2 | h_3 => exact .ite h (h.withAuthority _)
  all_goals exact h

theorem orderEnds (transit : Bool) : (w.orderEnds transit).TimesInRange := by
  unfold Work.orderEnds
  split
  case h_1 | h_2 => exact h.rest
  case h_3 => exact .ite h h.rest
  case h_4 => exact .ite h (h.withAuthority _)
  case h_5 | h_6 => exact .ite h h
  case h_7 => exact h.endEdgeWait
  all_goals exact h

theorem order (a : Standing) : (w.order a).TimesInRange := by
  have taken := h.withStanding a
  unfold Work.order
  split
  case h_1 | h_2 => exact h.withStanding _
  all_goals exact .ite h (.ite (taken.orderRises _) (.ite (taken.clearTransit.orderEnds _) (taken.orderChanges _)))

theorem floodStop : w.floodStop.TimesInRange := by
  unfold Work.floodStop
  split
  case h_1 => exact .ite (startClose h) h.rest
  case h_2 => exact .ite (h.endStroke _).startClose (h.endStroke _).rest
  all_goals exact h

/-! ### Timers, drive checks and the drive test -/

theorem warningExpiry : w.warningExpiry.TimesInRange := .ite (h.startMove _ _ _) h

theorem dwellExpiry : w.dwellExpiry.TimesInRange := .ite h.startClose h

theorem transitExpiry : w.transitExpiry.TimesInRange := .ite h h

theorem deadlineExpiry : w.deadlineExpiry.TimesInRange := .ite (rest (endStroke (by exact h) _)) h

theorem checkExpiry (v : Dir) : (w.checkExpiry v).TimesInRange := by
  have noted : Work.TimesInRange { w with door := w.door.withCheck v ⟨none, true⟩ } := ⟨h.image, h.door.withCheck _ _⟩
  exact .ite (.ite (.ite (rest (endStroke (by exact noted) _)) noted) noted) h

theorem beginTest : w.beginTest.TimesInRange := h

theorem beginPhase (phase : Dir) (settle : Nat) : (w.beginPhase phase settle).TimesInRange := h

theorem endTest (result : TestResult) : (w.endTest result).TimesInRange := recheckBoth (by exact h)

theorem failTest (t : TestRun) (expected : Bool) : (w.failTest t expected).TimesInRange := h.endTest _

theorem switchOff (t : TestRun) : (w.switchOff t).TimesInRange := h

theorem withTest (t : TestRun) : (w.withTest t).TimesInRange := h

theorem holdExpiry : w.holdExpiry.TimesInRange := by
  unfold Work.holdExpiry
  split
  · exact h
  · exact .ite (.ite (h.switchOff _) (h.withTest _)) h

theorem onCheckExpiry : w.onCheckExpiry.TimesInRange := by
  unfold Work.onCheckExpiry
  split
  · exact h
  · exact .ite (.ite (.ite (h.withTest _) (h.switchOff _)) (h.failTest _ _)) h

theorem offCheckExpiry : w.offCheckExpiry.TimesInRange := by
  unfold Work.offCheckExpiry
  split
  · exact h
  · refine .ite (.ite (h.failTest _ _) ?_) h
    split
    · exact h.beginPhase _ _
    · exact h.endTest _

/-! ### Faulted doors -/

theorem occupied : w.occupied.TimesInRange := .ite h (heldByFault h)

theorem emptied : w.emptied.TimesInRange := by
  have noted : Work.TimesInRange { w with door := { w.door with faulted := false } } := h
  unfold Work.emptied
  refine .ite h ?_
  split
  · exact (noted.report _ _ _).noteConflict
  · exact noted
  · exact (noted.report _ _ _).noteConflict
  · exact noted

/-! ### Isolation, presence and restart -/

theorem isolate : w.isolate.TimesInRange := by
  have left : (if isMoving w.door.motion then w.endStroke .other
      else if w.door.motion = .queued then w.send (.withdraw w.id) else w).TimesInRange :=
    .ite (h.endStroke _) (.ite (h.send _) h)
  exact .ite h left.stopTimers.endEdgeWait.clearTransit

theorem enterSettling : w.enterSettling.TimesInRange := h

theorem abortTest : w.abortTest.TimesInRange := .ite h h

theorem makeAbsent : w.makeAbsent.TimesInRange := by
  have cleared := h.abortTest.stopTimers.endEdgeWait.clearTransit.clearDrift.clearChecks
  exact ite (w := Work.send _ _) cleared cleared

/-- A door made present learns from the nominal times of the new image (R63). -/
theorem makePresent (a : Standing) : (w.makePresent a).TimesInRange :=
  recheckBoth ⟨h.image, h.image.atPowerOn w.id a⟩

/-- A learned time follows its nominal time where that changes (R63). -/
theorem keepPresent (old : DoorRecord) : (w.keepPresent old).TimesInRange := by
  obtain ⟨nominal, closeLow, closeHigh, openLow, openHigh⟩ := h
  obtain ⟨nominalCloseLow, nominalCloseHigh, nominalOpenLow, nominalOpenHigh⟩ := nominal w.id
  have closeTime := followed_mem_range old.nominalClose ⟨nominalCloseLow, nominalCloseHigh⟩ ⟨closeLow, closeHigh⟩
  have openTime := followed_mem_range old.nominalOpen ⟨nominalOpenLow, nominalOpenHigh⟩ ⟨openLow, openHigh⟩
  refine .ite (evalTravelDrift ?_) (endEdgeWait (evalTravelDrift ?_))
  all_goals exact ⟨nominal, closeTime.1, closeTime.2, openTime.1, openTime.2⟩

theorem commit (old : DoorRecord) (a : Standing) : (w.commit old a).TimesInRange := by
  unfold Work.commit
  split
  · exact h.makeAbsent
  · exact h.makePresent _
  · exact h.keepPresent _
  · exact h

theorem restartMotion : w.restartMotion.TimesInRange := by
  unfold Work.restartMotion
  split <;> exact h

theorem restartReports : w.restartReports.TimesInRange := .ite h h

theorem restart : w.restart.TimesInRange := restartReports (recheckBoth (clearChecks (by exact h.restartMotion)))

/-! ### Inputs -/

theorem inputEvent (k : DoorInput) (active : Bool) : (w.inputEvent k active).TimesInRange := by
  cases k with
  | closedSwitch => exact h.endSwitch _ _
  | openSwitch => exact h.endSwitch _ _
  | openHandle => exact h.handle _ _
  | closeHandle => exact h.handle _ _
  | leafEdge => exact h.leafEdge _
  | openReadback => exact h.recheck _
  | closeReadback => exact h.recheck _

theorem inputPrimed (k : DoorInput) : (w.inputPrimed k).TimesInRange := by
  cases k with
  | closedSwitch => exact h.endPrimed _
  | openSwitch => exact h.endPrimed _
  | openReadback => exact h.recheck _
  | closeReadback => exact h.recheck _
  | openHandle => exact h
  | closeHandle => exact h
  | leafEdge => exact h

end Work.TimesInRange
end Sys2Proof.Machine

/-! Every step keeps the learned times within 30-600 (R60): each event of the door table by what its work keeps, the
configuration store by its clamping and its power-on checks (R154, R160), and every other block by leaving both alone. -/

namespace Sys2Proof.Machine

open Sys2Proof

/-! ### Images -/

/-- A door record that has been clamped has nominal times within 30-600 (R153, R154). -/
theorem DoorRecord.clamped_nominal (r : DoorRecord) :
    30 ≤ r.clamped.nominalClose ∧ r.clamped.nominalClose ≤ 600 ∧
      30 ≤ r.clamped.nominalOpen ∧ r.clamped.nominalOpen ≤ 600 :=
  have closeTime := clamp_mem_range (lo := 30) (hi := 600) (by decide) r.nominalClose
  have openTime := clamp_mem_range (lo := 30) (hi := 600) (by decide) r.nominalOpen
  ⟨closeTime.1, closeTime.2, openTime.1, openTime.2⟩

theorem nominalOk_standard : nominalOk Image.standard := by
  intro d
  have record : Image.standard.doors[d] = .standard := by simp [Image.standard]
  rw [record]
  decide

/-- A stored image that passes the power-on checks has nothing to clamp (R160). -/
theorem nominalOk_storedImage {bs : List Byte} {check : BitVec 16} (h : storedPasses bs check = true) :
    nominalOk (storedImage bs) := by
  intro d
  have unclamped : (doorOf (storedDoor bs d)).clamped = doorOf (storedDoor bs d) := by
    simp only [storedPasses, Bool.and_eq_true, List.all_eq_true, decide_eq_true_eq] at h
    obtain ⟨⟨-, doors⟩, -⟩ := h
    exact (doors d (List.mem_finRange d)).2
  have record : (storedImage bs).doors[d] = doorOf (storedDoor bs d) := by simp [storedImage]
  rw [record, ← unclamped]
  exact DoorRecord.clamped_nominal _

/-- The active image after power-on passed the checks or is the default image (R160). -/
theorem nominalOk_atPowerOn (stored : Stored) : nominalOk (Store.atPowerOn stored).active := by
  simp only [Store.atPowerOn]
  split
  · next passes => exact nominalOk_storedImage passes
  · exact nominalOk_standard

/-- A door record staged into an image is clamped first (R154). -/
theorem nominalOk.set {i : Image} (h : nominalOk i) (d : DoorId) (r : DoorRecord) :
    nominalOk { i with doors := i.doors.set d r.clamped } := by
  intro e
  by_cases he : d = e
  · subst he
    simpa using r.clamped_nominal
  · have : d.val ≠ e.val := fun k => he (Fin.ext k)
    simpa [this] using h e

/-! ### Events of the blocks -/

/-- Power-on gives every door its nominal times (R48). -/
theorem learnedInv_poweredUp (channels : Vector Channel 24) (lines : GroupLines) (straps : Straps) (stored : Stored)
    (pending : List Instr) (n : Nat) : LearnedInv (.poweredUp channels lines straps stored pending n) := by
  have active := nominalOk_atPowerOn stored
  refine ⟨active, active, fun d => ?_⟩
  change Door.TimesInRange (Vector.ofFn _)[d]
  rw [Fin.getElem_fin, Vector.getElem_ofFn]
  exact active.atPowerOn d _

namespace LearnedInv

/-- Where the active and the staging image and every door record are as they were, so is the invariant. -/
theorem congr {s t : State} (h : LearnedInv s) (store : t.store = s.store) (doors : t.doors = s.doors) :
    LearnedInv t := by
  simpa only [LearnedInv, State.door, store, doors] using h

variable {s : State} (h : LearnedInv s)
include h

theorem withDoor (d : DoorId) {r : Door} (hr : r.TimesInRange) : LearnedInv (s.withDoor d r) := by
  refine ⟨h.active, h.staging, fun e => ?_⟩
  change ((s.withDoor d r).door e).TimesInRange
  by_cases he : e = d
  · rw [he, State.withDoor_door]
    exact hr
  · rw [State.withDoor_door_ne _ _ he]
    exact h.door e

theorem work (d : DoorId) : (s.work d).TimesInRange := ⟨h.active, h.door d⟩

theorem doorEvent (before : State) (d : DoorId) {f : Work → Work} (hf : (f (s.work d)).TimesInRange) :
    LearnedInv (s.doorEvent before d f) :=
  congr (h.withDoor d (Work.TimesInRange.event _ _ hf).door) rfl rfl

theorem ordersEvent (f : Orders → Orders) : LearnedInv (s.ordersEvent f) :=
  have frame := s.ordersEvent_onlyResolver f
  h.congr frame.store frame.doors

theorem flowEvent (f : Flow → Flow) : LearnedInv (s.flowEvent f) :=
  have frame := s.flowEvent_onlyAllocator f
  h.congr frame.store frame.doors

theorem logEvent (f : Log → Log) : LearnedInv (s.logEvent f) :=
  have frame := s.logEvent_onlyRecorder f
  h.congr frame.store frame.doors

theorem serialEvent (f : Serial → Serial) : LearnedInv (s.serialEvent f) :=
  have frame := s.serialEvent_onlyPort f
  h.congr frame.store frame.doors

theorem alarmEvent (f : Image → GroupTime → AlarmList → AlarmList) : LearnedInv (s.alarmEvent f) := h.congr rfl rfl

theorem taking (m : Instr) : LearnedInv (s.taking m) := h.congr rfl rfl

theorem withFilter (i : InputId) (f : Filter) : LearnedInv (s.withFilter i f) := by
  cases i <;> exact h.congr rfl rfl

theorem withLine (l : Line) (y : LinePort) : LearnedInv (s.withLine l y) := h.congr rfl rfl

/-- An event of the door table for each door of a list. -/
theorem doorEvents (ds : List DoorId) {f : State → DoorId → Work → Work}
    (hf : ∀ t d, LearnedInv t → (f t d (t.work d)).TimesInRange) :
    LearnedInv (ds.foldl (fun t d => t.doorEvent t d (f t d)) s) :=
  List.foldlRecOn ds _ h fun t ht d _ => ht.doorEvent t d (hf t d ht)

/-! ### Messages -/

theorem deliver (m : Instr) : LearnedInv (s.deliver m) := by
  have taken := h.taking m
  cases m with
  | standingAuthorityReport d a => exact taken.doorEvent _ _ ((taken.work d).order a)
  | handleRuling d r => exact taken.doorEvent _ _ ((taken.work d).rule r)
  | grant d dir => exact taken.doorEvent _ _ ((taken.work d).takeGrant dir)
  | pause d => exact taken.doorEvent _ _ (taken.work d).takePause
  | captureOccupiedNotice d => exact taken.doorEvent _ _ (taken.work d).occupied
  | captureEmptiedNotice d => exact taken.doorEvent _ _ (taken.work d).emptied
  | handleReferral | arrivalNotice | openHandleReleaseNotice => exact taken.ordersEvent _
  | join | withdraw | release | reversed | taken | handedBack => exact taken.flowEvent _
  | faultReport | mismatchReport | obstructionNotice | driftNotice => exact taken.logEvent _
  | alarmRaise | alarmClear | alarmResetCondition => exact taken.alarmEvent _
  | _ => exact h

end LearnedInv

/-- The learned times are no concern of the taking of a request but for its owner's part. -/
theorem learnedInv_keptInTaking : KeptInTaking LearnedInv where
  deliver m _ h := h.deliver m
  withLine l y _ h := h.withLine l y
  hear _ _ h := h.serialEvent _

namespace LearnedInv

variable {s : State} (h : LearnedInv s)
include h

theorem complete (mark : Nat) : LearnedInv (s.complete mark) :=
  State.complete_keeps learnedInv_keptInTaking.deliver mark h

theorem settleDoors (ds : List DoorId) : LearnedInv (s.settleDoors ds).1 :=
  State.settleDoors_keeps learnedInv_keptInTaking.deliver ds h

/-! ### Supply, restart and commit -/

omit h in
theorem powerOn (s : State) : LearnedInv s.powerOn := by
  unfold State.powerOn
  split
  · exact learnedInv_poweredUp ..
  · exact learnedInv_poweredUp ..

theorem restartStore : LearnedInv s.restartStore := ⟨h.active, h.active, h.door⟩

theorem restartDoors : LearnedInv s.restartDoors := h.doorEvents _ fun _ d ht => (ht.work d).restart

theorem restart (cause : StartCause) : LearnedInv (s.restart cause) := by
  have discarded : LearnedInv s.discardMessages := h.congr rfl rfl
  have blocks : LearnedInv (s.restartBlocks cause) :=
    (((discarded.restartDoors.ordersEvent _).flowEvent _).logEvent _).restartStore.serialEvent _
  unfold State.restart
  exact (blocks.complete _).alarmEvent _

theorem commitDoors (old : Image) : LearnedInv (s.commitDoors old) :=
  h.doorEvents _ fun _ d ht => (ht.work d).commit _ _

/-- The staging image becomes the active one (R158). -/
theorem commit : LearnedInv s.commit := by
  have active : LearnedInv ((s.withStore { s.store with
      active := s.store.staging, defaultLoaded := false, writing := true }).send [.alarmClear .configDefault .group]) :=
    ⟨h.staging, h.staging, h.door⟩
  have committed := (active.alarmEvent fun i t a => a.commit s.image i t).commitDoors s.image
  unfold State.commit
  exact (((committed.ordersEvent _).flowEvent _).logEvent _).serialEvent _

/-! ### Inputs -/

theorem inputEvent (before : State) (i : InputId) (active : Bool) : LearnedInv (s.inputEvent before i active) := by
  cases i with
  | door d k => exact h.doorEvent _ _ ((h.work d).inputEvent k active)
  | emergency => cases active <;> [exact h; exact h.ordersEvent _]
  | mainSupply => exact h.flowEvent _
  | pressure => exact h.flowEvent _
  | resetPin => cases active <;> [exact h; exact h.restart _]

theorem firstEvent (before : State) (i : InputId) (active : Bool) : LearnedInv (s.firstEvent before i active) := by
  cases i with
  | resetPin => exact h
  | _ => exact h.inputEvent _ _ _

theorem inputPrimed (i : InputId) : LearnedInv (s.inputPrimed i) := by
  cases i with
  | door d k => exact h.doorEvent _ _ ((h.work d).inputPrimed k)
  | mainSupply => exact h.flowEvent _
  | pressure => exact h.flowEvent _
  | emergency => exact h
  | resetPin => exact h

theorem filterExpiry (i : InputId) : LearnedInv (s.filterExpiry i) := by
  unfold State.filterExpiry
  dsimp only
  split
  · exact (h.withFilter _ _).inputEvent _ _ _
  · exact h

theorem firstIntervalExpiry (i : InputId) : LearnedInv (s.firstIntervalExpiry i) := by
  unfold State.firstIntervalExpiry
  dsimp only
  split
  · split
    · exact (h.withFilter _ _).inputPrimed _
    · exact ((h.withFilter _ _).firstEvent _ _ _).inputPrimed _
  · exact h

theorem voltage (w : Wire) (millivolts : Nat) : LearnedInv (s.voltage w millivolts) := by
  cases w with
  | input i => exact h.withFilter _ _
  | _ => exact h.congr rfl rfl

/-! ### Requests -/

/-- A reply to DOOR_STATUS reads each door it names (R144, R146). -/
theorem doorStatus (body : List Byte) : (s.doorStatus body).Leaves LearnedInv := by
  unfold State.doorStatus
  split
  · trivial
  · next ds _ => exact List.foldlRecOn ds _ h fun t ht d _ => ht.withDoor d (ht.door d)

theorem driveTest (body : List Byte) : (s.driveTest body).Leaves LearnedInv := by
  unfold State.driveTest
  split
  · trivial
  · next d _ =>
    split
    · trivial
    · split
      · trivial
      · exact h.doorEvent _ _ (h.work d).beginTest

theorem maintRead (body : List Byte) : (s.maintRead body).Leaves LearnedInv := by
  unfold State.maintRead
  split
  · trivial
  · exact h

theorem captureRead (body : List Byte) : (s.captureRead body).Leaves LearnedInv := by
  unfold State.captureRead
  split
  · trivial
  · exact h

theorem alarmRead (body : List Byte) : (s.alarmRead body).Leaves LearnedInv := by
  unfold State.alarmRead
  dsimp only
  split
  · trivial
  · dsimp only [Answer.Leaves]
    split
    · exact h.congr rfl rfl
    · exact h

theorem alarmAckOne (body : List Byte) : (s.alarmAckOne body).Leaves LearnedInv := by
  unfold State.alarmAckOne
  split
  · split
    · exact h.alarmEvent _
    · trivial
  · trivial

theorem alarmAck (body : List Byte) : (s.alarmAck body).Leaves LearnedInv := by
  unfold State.alarmAck
  split
  · split
    · exact h.alarmEvent _
    · trivial
  · exact h.alarmAckOne _

theorem modeSet (body : List Byte) : (s.modeSet body).Leaves LearnedInv := by
  unfold State.modeSet
  split
  · trivial
  · exact h.ordersEvent _

theorem isolate (body : List Byte) : (s.isolate body).Leaves LearnedInv := by
  unfold State.isolate
  split
  · trivial
  · next d _ =>
    split
    · trivial
    · split
      · exact h
      · have ordered := h.ordersEvent fun o => o.isolate d
        exact ordered.doorEvent _ _ (ordered.work d).isolate

theorem restore (body : List Byte) : (s.restore body).Leaves LearnedInv := by
  unfold State.restore
  split
  · trivial
  · next d _ =>
    have settled := h.settleDoors [d]
    have settling := settled.doorEvent (s.settleDoors [d]).1 d (settled.work d).enterSettling
    have restored := settling.ordersEvent fun o => o.restore d
    split
    · trivial
    · split
      · exact h
      · split
        · trivial
        · exact restored.complete _

theorem floodSet (body : List Byte) : (s.floodSet body).Leaves LearnedInv := by
  have flagged := (h.settleDoors (allDoors.filter (floodNewlyBars s.image s.resolver (byteAt body 0)))).ordersEvent
    fun o => o.floodSet (byteAt body 0)
  exact (flagged.doorEvents _ fun _ d ht => (ht.work d).floodStop).complete _

theorem emergencyRelease (body : List Byte) : (s.emergencyRelease body).Leaves LearnedInv := by
  unfold State.emergencyRelease
  split
  · trivial
  · exact h.ordersEvent _

theorem linesClear (body : List Byte) : (s.linesClear body).Leaves LearnedInv := by
  unfold State.linesClear
  split
  · trivial
  · exact h.serialEvent _

theorem restartRequested (l : Line) (body : List Byte) : (s.restartRequested l body).Leaves LearnedInv := by
  unfold State.restartRequested
  dsimp only
  split
  · exact h.congr rfl rfl
  · exact h.congr rfl rfl

theorem configRead (body : List Byte) : (s.configRead body).Leaves LearnedInv := by
  unfold State.configRead
  dsimp only
  split
  · trivial
  · split
    · exact h
    · split
      · trivial
      · exact h

/-- What is staged has been clamped first (R154). -/
theorem configStage (body : List Byte) : (s.configStage body).Leaves LearnedInv := by
  unfold State.configStage
  dsimp only
  split
  · trivial
  · split
    · trivial
    · split
      · split
        · exact ⟨h.active, h.staging, h.door⟩
        · trivial
      · split
        · exact ⟨h.active, h.staging.set _ _, h.door⟩
        · trivial

theorem configDiscard (body : List Byte) : (s.configDiscard body).Leaves LearnedInv := ⟨h.active, h.active, h.door⟩

theorem configCommit (body : List Byte) : (s.configCommit body).Leaves LearnedInv := by
  unfold State.configCommit
  split
  · trivial
  · split
    · trivial
    · exact (h.settleDoors _).commit.complete _

theorem serve {owner : List Byte → State → Answer} (c : Instr) (kind : Byte) (r : Req) (lens : List Nat)
    (part : ∀ s, LearnedInv s → (owner r.body s).Leaves LearnedInv) : LearnedInv (s.serve c kind r lens owner) :=
  State.serve_keeps learnedInv_keptInTaking c kind r lens part h

/-! ### Commands and ticks -/

/-- A message between blocks is taken behind those ahead of it on its way. -/
theorem message (m : Instr) (hm : (route? m).isSome = true) : LeadsTo LearnedInv (exec m s) := by
  rw [exec_message hm]
  exact (State.inOrder_keeps learnedInv_keptInTaking.deliver m h).deliver m

/-- A store write ends without touching either image (R159). -/
theorem writeSucceeded : LearnedInv s.writeSucceeded := by
  simpa [State.writeSucceeded, LearnedInv, State.door] using h

theorem writeFailed : LearnedInv s.writeFailed := by
  simpa [State.writeFailed, LearnedInv, State.door] using h

theorem storeWriteComplete (success : Bool) : LeadsTo LearnedInv (execStoreWriteComplete success s) := by
  unfold execStoreWriteComplete
  split
  · cases success with
    | true => exact h.writeSucceeded
    | false => exact h.writeFailed
  · exact h

theorem silenceTimerExpiry (l : Line) : LeadsTo LearnedInv (execSilenceTimerExpiry l s) := by
  have finished : LearnedInv (s.finishSerial (s.serial.silenceExpired l).1) := h.congr rfl rfl
  unfold execSilenceTimerExpiry
  dsimp only [LeadsTo]
  split
  · exact finished.ordersEvent _
  · exact finished

theorem replySent (l : Line) : LeadsTo LearnedInv (execReplySent l s) := by
  unfold execReplySent
  dsimp only
  split
  · exact h
  · have hunting := h.withLine l { (s.port.line l).hunting with reply := none }
    dsimp only [LeadsTo]
    split
    · exact hunting.restart _
    · exact hunting

theorem tick : LearnedInv s.tick := by
  refine List.foldlRecOn allDoors _ h fun t ht d _ => ?_
  dsimp only
  split
  · split
    · exact ht.withDoor d (ht.door d)
    · exact ht.doorEvent _ _ (ht.work d).deadlineExpiry
  · exact ht

end LearnedInv

/-- Every command keeps the learned times within 30-600. -/
theorem exec_learnedInv (c : Instr) (s : State) (h : LearnedInv s) : LeadsTo LearnedInv (exec c s) := by
  cases c with
  | powerOn => exact .powerOn s
  | rawInputChange w mv => exact h.voltage w mv
  | filterExpiry i => exact h.filterExpiry i
  | firstIntervalExpiry i => exact h.firstIntervalExpiry i
  | checkTimerExpiry d v => exact h.doorEvent _ _ ((h.work d).checkExpiry v)
  | driveTestHoldExpiry d => exact h.doorEvent _ _ (h.work d).holdExpiry
  | driveTestOnCheckExpiry d => exact h.doorEvent _ _ (h.work d).onCheckExpiry
  | driveTestOffCheckExpiry d => exact h.doorEvent _ _ (h.work d).offCheckExpiry
  | warningTimerExpiry d => exact h.doorEvent _ _ (h.work d).warningExpiry
  | dwellTimerExpiry d => exact h.doorEvent _ _ (h.work d).dwellExpiry
  | edgeClearTimerExpiry d => exact h.doorEvent _ _ (h.work d).edgeClearExpiry
  | transitLimitExpiry d => exact h.doorEvent _ _ (h.work d).transitExpiry
  | deadlineExpiry d => exact h.doorEvent _ _ (h.work d).deadlineExpiry
  | groupTimeSecond => exact h.congr rfl rfl
  | storeWriteComplete success => exact h.storeWriteComplete success
  | lineCharacter | gapTimerExpiry => exact h.serialEvent _
  | silenceTimerExpiry l => exact h.silenceTimerExpiry l
  | replySent l => exact h.replySent l
  | unknownKindRequest kind r => exact execUnknownKindRequest_leadsTo learnedInv_keptInTaking kind r h
  | identify r | groupStatus r | timeSet r => exact h.serve _ _ r _ fun _ k => k.congr rfl rfl
  | linesRead r | driveCaptureRead r => exact h.serve _ _ r _ fun _ k => k
  | doorStatus r => exact h.serve _ _ r _ fun _ k => k.doorStatus _
  | alarmRead r => exact h.serve _ _ r _ fun _ k => k.alarmRead _
  | alarmAck r => exact h.serve _ _ r _ fun _ k => k.alarmAck _
  | modeSet r => exact h.serve _ _ r _ fun _ k => k.modeSet _
  | closeDoors r | closeZones r | releaseDoors r | floodClear r => exact h.serve _ _ r _ fun _ k => k.ordersEvent _
  | isolate r => exact h.serve _ _ r _ fun _ k => k.isolate _
  | restore r => exact h.serve _ _ r _ fun _ k => k.restore _
  | floodSet r => exact h.serve _ _ r _ fun _ k => k.floodSet _
  | emergencyRelease r => exact h.serve _ _ r _ fun _ k => k.emergencyRelease _
  | driveTest r => exact h.serve _ _ r _ fun _ k => k.driveTest _
  | faultClear r | countersClear r => exact h.serve _ _ r _ fun _ k => k.logEvent _
  | captureRead r => exact h.serve _ _ r _ fun _ k => k.captureRead _
  | maintRead r => exact h.serve _ _ r _ fun _ k => k.maintRead _
  | linesClear r => exact h.serve _ _ r _ fun _ k => k.linesClear _
  | supervisionSet r => exact h.serve _ _ r _ fun _ k => k.serialEvent _
  | configRead r => exact h.serve _ _ r _ fun _ k => k.configRead _
  | configStage r => exact h.serve _ _ r _ fun _ k => k.configStage _
  | configCommit r => exact h.serve _ _ r _ fun _ k => k.configCommit _
  | configDiscard r => exact h.serve _ _ r _ fun _ k => k.configDiscard _
  | restart r => exact h.serve _ _ r _ fun _ k => k.restartRequested _ _
  | _ => exact h.message _ rfl

/-- Settles O5: every command and the stroke tick keep the learned times within 30-600, together with the nominal times
of the active and the staging image, from which a commit takes them. -/
theorem learnedTimesKept : Obligations.LearnedTimesKept := by
  unfold Obligations.LearnedTimesKept
  intro s t h hstep
  have kept := step_leadsTo (fun _ _ k => k.congr rfl rfl) exec_learnedInv (fun _ k => k.tick) h
  rwa [hstep] at kept

end Sys2Proof.Machine

/-! What each procedure of the flow allocator leaves of the capacities: the computing of R91, R105 and R107 gives them by
R90, and no other procedure writes one. -/

namespace Sys2Proof.Machine

open Sys2Proof

/-! ### Procedures that write no capacity -/

namespace SameCapacities

theorem ite {f g k : Flow} {c : Prop} [Decidable c] (h : SameCapacities f g) (h' : SameCapacities f k) :
    SameCapacities f (if c then g else k) := by
  split
  · exact h
  · exact h'

variable {f g : Flow} (h : SameCapacities f g)
include h

theorem capacity (k : HpuId) : (g.hpu k).capacity = (f.hpu k).capacity := h.2 k

theorem send (m : Instr) : SameCapacities f (g.send m) := h

theorem withStanding (d : DoorId) (a : AllocStanding) : SameCapacities f (g.withStanding d a) := h

theorem withHpu (k : HpuId) {x : Hpu} (e : x.capacity = (g.hpu k).capacity) : SameCapacities f (g.withHpu k x) :=
  h.trans (g.withHpu_sameCapacities k x e)

/-! #### Queues and granted lists -/

theorem leaveQueue (d : DoorId) : SameCapacities f (g.leaveQueue d) := by
  unfold Flow.leaveQueue
  split
  case h_1 => exact (h.withHpu _ (by rfl)).withStanding _ _
  all_goals exact h

theorem leaveGranted (d : DoorId) : SameCapacities f (g.leaveGranted d) := h.trans (g.leaveGranted_sameCapacities d)

theorem enqueueTail (d : DoorId) (k : HpuId) (c : Dir) (demand : Nat) :
    SameCapacities f (g.enqueueTail d k c demand) :=
  h.trans (g.placed_sameCapacities _ _ _ _ _)

theorem enqueuePaused (d : DoorId) (k : HpuId) (c : Dir) (demand : Nat) :
    SameCapacities f (g.enqueuePaused d k c demand) :=
  h.trans (g.placed_sameCapacities _ _ _ _ _)

theorem note (d : DoorId) (n : PendingNotice) : SameCapacities f (g.note d n) := by
  unfold Flow.note
  split
  case h_1 => exact h.withStanding _ _
  all_goals exact h

/-! #### Alarm conditions (R102, R103) -/

theorem evalShort (d : DoorId) : SameCapacities f (g.evalShort d) := .ite h (.ite h h)

theorem evalShortAll : SameCapacities f g.evalShortAll :=
  List.foldlRecOn allDoors _ h fun _ hg d _ => hg.evalShort d

theorem evalLost (l : GroupLines) (k : HpuId) : SameCapacities f (g.evalLost l k) :=
  have noted := h.withHpu k (x := { g.hpu k with flowLost := flowLost g.image l k }) rfl
  .ite noted (.ite noted noted)

theorem evalLostAll (l : GroupLines) (hs : List HpuId) :
    SameCapacities f (hs.foldl (fun f k => f.evalLost l k) g) :=
  List.foldlRecOn hs _ h fun _ hg k _ => hg.evalLost l k

theorem evalSupply (l : GroupLines) : SameCapacities f (g.evalSupply l) := .ite h (.ite h h)

/-! #### Service (R97 to R99) -/

theorem grantDoor (d : DoorId) : SameCapacities f (g.grantDoor d) := by
  unfold Flow.grantDoor
  split
  case h_1 => exact (((h.withHpu _ (by rfl)).withStanding _ _).send _).evalShort _
  all_goals exact h

theorem scan (k : HpuId) (ds : List DoorId) : SameCapacities f (g.scan k ds) := by
  induction ds generalizing g with
  | nil => exact h
  | cons d rest ih =>
    unfold Flow.scan
    exact .ite (ih h) (.ite (ih (h.grantDoor d)) h)

theorem serve (k : HpuId) : SameCapacities f (g.serve k) := .ite (h.scan _ _) ((h.scan _ _).scan _ _)

theorem serveAll : SameCapacities f g.serveAll := List.foldlRecOn allHpus _ h fun _ hg k _ => hg.serve k

/-! #### Notices from the door table (R96) -/

theorem join (d : DoorId) (c : Dir) : SameCapacities f (g.join d c) := by
  unfold Flow.join
  dsimp only
  split
  · exact ((h.enqueueTail _ _ _ _).serve _).evalShort _
  · exact ((((h.leaveQueue _).enqueueTail _ _ _ _).serve _).serve _).evalShort _
  · exact h.note _ _
  · exact h

theorem withdraw (d : DoorId) : SameCapacities f (g.withdraw d) := by
  unfold Flow.withdraw
  split
  · exact ((h.leaveQueue _).serve _).evalShort _
  · exact h.note _ _
  · exact h
  · exact h

theorem release (d : DoorId) : SameCapacities f (g.release d) := by
  unfold Flow.release
  split
  · exact ((h.leaveQueue _).serve _).evalShort _
  · exact (h.leaveGranted _).serve _
  · exact h
  · exact h

theorem reversed (d : DoorId) (dir : Dir) : SameCapacities f (g.reversed d dir) := by
  unfold Flow.reversed
  split
  case h_1 => exact (((h.leaveQueue _).enqueuePaused _ _ _ _).serve _).evalShort _
  case h_2 => exact h.withStanding _ _
  all_goals exact h

theorem taken (d : DoorId) (dir : Dir) : SameCapacities f (g.taken d dir) := by
  unfold Flow.taken
  dsimp only
  split
  · exact (((h.send _).enqueuePaused _ _ _ _).serve _).evalShort _
  · exact ((((h.send _).leaveQueue _).enqueuePaused _ _ _ _).serve _).evalShort _
  · exact h.withStanding _ _
  · exact h

theorem handedBack (d : DoorId) : SameCapacities f (g.handedBack d) := by
  unfold Flow.handedBack
  split
  · exact ((((h.leaveGranted _).enqueueTail _ _ _ _).serve _).serve _).evalShort _
  · exact (h.leaveGranted _).serve _
  all_goals exact h

end SameCapacities

/-! ### Procedures that compute capacities -/

/-- An event of a line leaves R90's capacity at each HPU it names, and every other as it was (R91). -/
theorem Flow.capacityEvent_capacity (f : Flow) (l : GroupLines) (hs : List HpuId) (k : HpuId) :
    (f.capacityEvent l hs).image = f.image ∧
    ((f.capacityEvent l hs).hpu k).capacity = if k ∈ hs then capacityOf f.image.group l k else (f.hpu k).capacity := by
  unfold Flow.capacityEvent
  split
  · next unchanged =>
    refine ⟨rfl, ?_⟩
    split
    · next named => exact (beq_iff_eq.mp (List.all_eq_true.mp unchanged k named)).symm
    · rfl
  · obtain ⟨image, computed⟩ := f.computeEach_capacity l hs k
    have same := (SameCapacities.refl (f.computeEach l hs)).serveAll.evalShortAll
    exact ⟨same.1.trans image, (same.capacity k).trans computed⟩

/-- A commit leaves R90's capacity at every HPU (R105). -/
theorem Flow.commit_capacity (f : Flow) (l : GroupLines) (k : HpuId) :
    ((f.commit l).hpu k).capacity = capacityOf f.image.group l k := by
  obtain ⟨-, computed⟩ := f.computeEach_capacity l allHpus k
  have same := ((SameCapacities.refl (f.computeEach l allHpus)).evalLostAll l allHpus).serveAll.evalShortAll
  exact (same.capacity k).trans (computed.trans (if_pos (List.mem_finRange k)))

/-- A restart leaves R90's capacity at every HPU (R107). -/
theorem Flow.restart_capacity (f : Flow) (l : GroupLines) (k : HpuId) :
    ((f.restart l).hpu k).capacity = capacityOf f.image.group l k := by
  simp [Flow.restart, Flow.hpu]

end Sys2Proof.Machine

/-! Every step keeps each HPU's capacity the one R90 gives: an event of a line, a commit and a restart compute it, and every
other event leaves the allocator, the filtered lines and the active image alone or writes no capacity. -/

namespace Sys2Proof.Machine

open Sys2Proof

/-! ### The invariant by R90's table -/

/-- The table of R90, row by row. -/
theorem eq_capacityOf_iff (g : GroupRecord) (l : GroupLines) (h : HpuId) (c : Nat) :
    c = capacityOf g l h ↔
      (l.pressure[h].filtered = false → c = 0) ∧
      (l.pressure[h].filtered = true → l.mainSupply.filtered = true → c = g.normalCapacity[h]) ∧
      (l.pressure[h].filtered = true → l.mainSupply.filtered = false → c = g.emergencyCapacity[h]) := by
  unfold capacityOf
  cases l.pressure[h].filtered with
  | false => simp
  | true => cases l.mainSupply.filtered <;> simp

theorem capacityInv_iff (s : State) :
    CapacityInv s ↔ ∀ h : HpuId, (s.flow.hpu h).capacity = capacityOf s.image.group s.lines h :=
  forall_congr' fun _ => (eq_capacityOf_iff ..).symm

/-- A capacity rests on two filtered values of the lines. -/
theorem State.capacityOf_congr {s t : State} (g : GroupRecord) (h : HpuId)
    (main : (t.filter .mainSupply).filtered = (s.filter .mainSupply).filtered)
    (pressure : (t.filter (.pressure h)).filtered = (s.filter (.pressure h)).filtered) :
    capacityOf g t.lines h = capacityOf g s.lines h := by
  simp only [State.filter] at main pressure
  rw [capacityOf, main, pressure, capacityOf]

/-! ### Filters -/

/-- A filter is no record of the allocator. -/
@[simp] theorem State.withFilter_flow (s : State) (i : InputId) (f : Filter) : (s.withFilter i f).flow = s.flow := by
  cases i <;> rfl

@[simp] theorem State.withFilter_image (s : State) (i : InputId) (f : Filter) : (s.withFilter i f).image = s.image := by
  cases i <;> rfl

/-- A terminal's voltage writes no filtered value (R5, R8). -/
@[simp] theorem Filter.onVoltage_filtered (t : FilterTimes) (millivolts : Nat) (f : Filter) :
    (f.onVoltage t millivolts).filtered = f.filtered := by
  unfold Filter.onVoltage
  dsimp only
  split
  · rfl
  · split <;> rfl

/-! ### What leaves the allocator alone -/

/-- What the capacities rest on, and the allocator itself, are as they were. -/
structure AllocatorUntouched (s t : State) : Prop where
  lines : t.lines = s.lines
  image : t.image = s.image
  alloc : t.alloc = s.alloc

namespace AllocatorUntouched

theorem refl (s : State) : AllocatorUntouched s s := ⟨rfl, rfl, rfl⟩

theorem trans {s t u : State} (h : AllocatorUntouched s t) (k : AllocatorUntouched t u) : AllocatorUntouched s u :=
  ⟨k.lines.trans h.lines, k.image.trans h.image, k.alloc.trans h.alloc⟩

/-- What is left alone at each of a list is left alone by the whole. -/
theorem foldl {α : Type} {f : State → α → State} (step : ∀ s x, AllocatorUntouched s (f s x)) (xs : List α) (s : State) :
    AllocatorUntouched s (xs.foldl f s) :=
  List.foldlRecOn xs f (refl s) fun t h x _ => h.trans (step t x)

end AllocatorUntouched

namespace State

/-! #### Events of the other blocks -/

theorem doorEvent_untouched (s before : State) (d : DoorId) (f : Work → Work) :
    AllocatorUntouched s (s.doorEvent before d f) := ⟨rfl, rfl, rfl⟩

theorem withDoor_untouched (s : State) (d : DoorId) (r : Door) : AllocatorUntouched s (s.withDoor d r) :=
  ⟨rfl, rfl, rfl⟩

theorem ordersEvent_untouched (s : State) (f : Orders → Orders) : AllocatorUntouched s (s.ordersEvent f) :=
  ⟨rfl, rfl, rfl⟩

theorem logEvent_untouched (s : State) (f : Log → Log) : AllocatorUntouched s (s.logEvent f) := ⟨rfl, rfl, rfl⟩

theorem serialEvent_untouched (s : State) (f : Serial → Serial) : AllocatorUntouched s (s.serialEvent f) :=
  ⟨rfl, rfl, rfl⟩

theorem alarmEvent_untouched (s : State) (f : Image → GroupTime → AlarmList → AlarmList) :
    AllocatorUntouched s (s.alarmEvent f) := ⟨rfl, rfl, rfl⟩

theorem withLine_untouched (s : State) (l : Line) (y : LinePort) : AllocatorUntouched s (s.withLine l y) :=
  ⟨rfl, rfl, rfl⟩

theorem send_untouched (s : State) (ms : List Instr) : AllocatorUntouched s (s.send ms) := ⟨rfl, rfl, rfl⟩

/-- The store written with its active image as it was. -/
theorem withStore_untouched (s : State) {x : Store} (active : x.active = s.store.active) :
    AllocatorUntouched s (s.withStore x) := ⟨rfl, active, rfl⟩

theorem restartStore_untouched (s : State) : AllocatorUntouched s s.restartStore :=
  (s.withStore_untouched (by rfl)).trans (send_untouched _ _)

theorem writeSucceeded_untouched (s : State) : AllocatorUntouched s s.writeSucceeded :=
  (s.withStore_untouched (by rfl)).trans (send_untouched _ _)

theorem writeFailed_untouched (s : State) : AllocatorUntouched s s.writeFailed := ⟨rfl, rfl, rfl⟩

theorem tick_untouched (s : State) : AllocatorUntouched s s.tick := by
  refine .foldl (fun t d => ?_) _ s
  dsimp only
  split
  · split
    · exact t.withDoor_untouched d _
    · exact t.doorEvent_untouched t d _
  · exact .refl t

end State

/-! ### The owners of requests that leave the allocator alone -/

/-- What holds of every state an owner can leave may be weakened. -/
theorem Answer.Leaves.imp {P Q : State → Prop} {a : Answer} (h : a.Leaves P) (mono : ∀ t, P t → Q t) : a.Leaves Q := by
  cases a with
  | refused => trivial
  | accepted t | completed t => exact mono t h

namespace State

variable (body : List Byte) (s : State)

theorem doorStatus_untouched : (s.doorStatus body).Leaves (AllocatorUntouched s) := by
  unfold doorStatus
  split
  · trivial
  · exact .foldl (fun t d => t.withDoor_untouched d _) _ s

theorem driveTest_untouched : (s.driveTest body).Leaves (AllocatorUntouched s) := by
  unfold driveTest
  split
  · trivial
  · split
    · trivial
    · split
      · trivial
      · exact s.doorEvent_untouched s _ _

theorem maintRead_untouched : (s.maintRead body).Leaves (AllocatorUntouched s) := by
  unfold maintRead
  split
  · trivial
  · exact .refl s

theorem captureRead_untouched : (s.captureRead body).Leaves (AllocatorUntouched s) := by
  unfold captureRead
  split
  · trivial
  · exact .refl s

theorem alarmRead_untouched : (s.alarmRead body).Leaves (AllocatorUntouched s) := by
  unfold alarmRead
  dsimp only
  split
  · trivial
  · dsimp only [Answer.Leaves]
    split
    · exact ⟨rfl, rfl, rfl⟩
    · exact .refl s

theorem alarmAck_untouched : (s.alarmAck body).Leaves (AllocatorUntouched s) := by
  unfold alarmAck alarmAckOne
  split
  · split
    · exact s.alarmEvent_untouched _
    · trivial
  · split
    · split
      · exact s.alarmEvent_untouched _
      · trivial
    · trivial

theorem modeSet_untouched : (s.modeSet body).Leaves (AllocatorUntouched s) := by
  unfold modeSet
  split
  · trivial
  · exact s.ordersEvent_untouched _

theorem isolate_untouched : (s.isolate body).Leaves (AllocatorUntouched s) := by
  unfold isolate
  split
  · trivial
  · split
    · trivial
    · split
      · exact .refl s
      · exact (s.ordersEvent_untouched _).trans (doorEvent_untouched _ _ _ _)

theorem emergencyRelease_untouched : (s.emergencyRelease body).Leaves (AllocatorUntouched s) := by
  unfold emergencyRelease
  split
  · trivial
  · exact s.ordersEvent_untouched _

theorem linesClear_untouched : (s.linesClear body).Leaves (AllocatorUntouched s) := by
  unfold linesClear
  split
  · trivial
  · exact s.serialEvent_untouched _

theorem restartRequested_untouched (l : Line) : (s.restartRequested l body).Leaves (AllocatorUntouched s) := by
  unfold restartRequested
  dsimp only
  split
  · exact ⟨rfl, rfl, rfl⟩
  · exact ⟨rfl, rfl, rfl⟩

theorem configRead_untouched : (s.configRead body).Leaves (AllocatorUntouched s) := by
  unfold configRead
  dsimp only
  split
  · trivial
  · split
    · exact .refl s
    · split
      · trivial
      · exact .refl s

/-- Staging leaves the active image alone (R154). -/
theorem configStage_untouched : (s.configStage body).Leaves (AllocatorUntouched s) := by
  unfold configStage
  dsimp only
  split
  · trivial
  · split
    · trivial
    · split
      · split
        · exact ⟨rfl, rfl, rfl⟩
        · trivial
      · split
        · exact ⟨rfl, rfl, rfl⟩
        · trivial

end State

/-! ### What keeps the invariant -/

/-- Power-on gives every HPU the capacity 0, every pressure line being filtered INACTIVE (R8, R90, R106). -/
theorem capacityInv_poweredUp (channels : Vector Channel 24) (lines : GroupLines) (straps : Straps) (stored : Stored)
    (pending : List Instr) (n : Nat) : CapacityInv (.poweredUp channels lines straps stored pending n) := by
  rw [capacityInv_iff]
  intro h
  simp [State.poweredUp, State.flow, Flow.hpu, Alloc.empty, Hpu.empty, capacityOf, GroupLines.atPowerOn, Filter.atPowerOn]

theorem capacityInv_powerOn (s : State) : CapacityInv s.powerOn := by
  unfold State.powerOn
  split
  · exact capacityInv_poweredUp _ _ _ _ _ _
  · exact capacityInv_poweredUp _ _ _ _ _ _

/-- An event of the allocator that leaves R90's capacity at every HPU gives the invariant. -/
theorem capacityInv_flowEvent {s : State} {f : Flow → Flow}
    (computed : ∀ h, ((f s.flow).hpu h).capacity = capacityOf s.image.group s.lines h) : CapacityInv (s.flowEvent f) :=
  (capacityInv_iff _).mpr computed

namespace CapacityInv

variable {s : State} (h : CapacityInv s)
include h

theorem capacity (k : HpuId) : (s.flow.hpu k).capacity = capacityOf s.image.group s.lines k :=
  (capacityInv_iff s).mp h k

theorem untouched {t : State} (same : AllocatorUntouched s t) : CapacityInv t := by
  obtain ⟨lines, image, alloc⟩ := same
  simpa only [CapacityInv, lines, image, alloc] using h

/-- An event of the allocator that writes no capacity. -/
theorem flowEvent {f : Flow → Flow} (same : SameCapacities s.flow (f s.flow)) : CapacityInv (s.flowEvent f) :=
  capacityInv_flowEvent fun k => (same.capacity k).trans (h.capacity k)

/-! #### Messages between blocks -/

theorem deliver (m : Instr) : CapacityInv (s.deliver m) := by
  have taken : CapacityInv (s.taking m) := h.untouched ⟨rfl, rfl, rfl⟩
  have begun := SameCapacities.refl (s.taking m).flow
  cases m with
  | join d c => exact taken.flowEvent (begun.join d c)
  | withdraw d => exact taken.flowEvent (begun.withdraw d)
  | release d => exact taken.flowEvent (begun.release d)
  | reversed d dir => exact taken.flowEvent (begun.reversed d dir)
  | taken d dir => exact taken.flowEvent (begun.taken d dir)
  | handedBack d => exact taken.flowEvent (begun.handedBack d)
  | _ => exact h.untouched ⟨rfl, rfl, rfl⟩

end CapacityInv

theorem capacityInv_keptInTaking : KeptInTaking CapacityInv where
  deliver m _ h := h.deliver m
  withLine l y s h := h.untouched (s.withLine_untouched l y)
  hear _ s h := h.untouched (s.serialEvent_untouched _)

theorem CapacityInv.complete {s : State} (h : CapacityInv s) (mark : Nat) : CapacityInv (s.complete mark) :=
  State.complete_keeps capacityInv_keptInTaking.deliver mark h

theorem CapacityInv.settleDoors {s : State} (h : CapacityInv s) (ds : List DoorId) : CapacityInv (s.settleDoors ds).1 :=
  State.settleDoors_keeps capacityInv_keptInTaking.deliver ds h

/-! ### Restart and commit -/

/-- A restart computes every capacity from the lines (R107). -/
theorem capacityInv_restart (cause : StartCause) (s : State) : CapacityInv (s.restart cause) := by
  have blocks : CapacityInv (s.restartBlocks cause) := by
    unfold State.restartBlocks
    refine .untouched (.untouched (.untouched ?_ (State.logEvent_untouched _ _)) (State.restartStore_untouched _))
      (State.serialEvent_untouched _ _)
    exact capacityInv_flowEvent fun k => Flow.restart_capacity _ _ k
  unfold State.restart
  exact (blocks.complete _).untouched (State.alarmEvent_untouched _ _)

/-- A commit computes every capacity from the new image (R105). -/
theorem capacityInv_commit (s : State) : CapacityInv s.commit := by
  unfold State.commit
  refine .untouched (.untouched ?_ (State.logEvent_untouched _ _)) (State.serialEvent_untouched _ _)
  exact capacityInv_flowEvent fun k => Flow.commit_capacity _ _ k

theorem capacityInv_configCommit (body : List Byte) (s : State) : (s.configCommit body).Leaves CapacityInv := by
  unfold State.configCommit
  split
  · trivial
  · split
    · trivial
    · exact (capacityInv_commit _).complete _

namespace CapacityInv

variable {s : State} (h : CapacityInv s)
include h

/-! ### Inputs -/

/-- A filter written leaves the capacities of R90 where no value that they rest on is new. -/
theorem capacity_withFilter (i : InputId) (f : Filter) (k : HpuId)
    (main : ((s.withFilter i f).filter .mainSupply).filtered = (s.filter .mainSupply).filtered)
    (pressure : ((s.withFilter i f).filter (.pressure k)).filtered = (s.filter (.pressure k)).filtered) :
    ((s.withFilter i f).flow.hpu k).capacity = capacityOf (s.withFilter i f).image.group (s.withFilter i f).lines k := by
  rw [State.withFilter_flow, State.withFilter_image, State.capacityOf_congr _ _ main pressure]
  exact h.capacity k

/-- A filter written with its filtered value as it was. -/
theorem withFilter (i : InputId) {f : Filter} (same : f.filtered = (s.filter i).filtered) :
    CapacityInv (s.withFilter i f) := by
  have kept (j : InputId) : ((s.withFilter i f).filter j).filtered = (s.filter j).filtered := by
    by_cases hj : j = i
    · rw [hj, State.withFilter_filter, same]
    · rw [State.withFilter_filter_ne _ _ hj]
  exact (capacityInv_iff _).mpr fun k => h.capacity_withFilter i f k (kept _) (kept _)

/-- A filter's new value, with what its event brings: where the value is one that capacities rest on, the event computes
them (R91). -/
theorem withFilter_inputEvent (before : State) (i : InputId) (f : Filter) (active : Bool) :
    CapacityInv ((s.withFilter i f).inputEvent before i active) := by
  cases i with
  | door d k => exact h.untouched ⟨rfl, rfl, rfl⟩
  | emergency =>
    have filtered : CapacityInv (s.withFilter .emergency f) := h
    cases active with
    | false => exact filtered
    | true => exact filtered.untouched (State.ordersEvent_untouched _ _)
  | mainSupply =>
    refine capacityInv_flowEvent fun k => ?_
    obtain ⟨-, computed⟩ := (s.withFilter .mainSupply f).flow.capacityEvent_capacity _ allHpus k
    exact (((SameCapacities.refl _).evalSupply _).capacity k).trans (computed.trans (if_pos (List.mem_finRange k)))
  | pressure j =>
    refine capacityInv_flowEvent fun k => ?_
    obtain ⟨-, computed⟩ := (s.withFilter (.pressure j) f).flow.capacityEvent_capacity _ [j] k
    refine (((SameCapacities.refl _).evalLost _ _).capacity k).trans (computed.trans ?_)
    split
    · rfl
    · next other =>
      have ne : InputId.pressure k ≠ .pressure j := fun e => other (by simpa using e)
      exact h.capacity_withFilter _ f k rfl (by rw [State.withFilter_filter_ne _ _ ne])
  | resetPin =>
    cases active with
    | false => exact h
    | true => exact capacityInv_restart _ _

theorem inputPrimed (i : InputId) : CapacityInv (s.inputPrimed i) := by
  cases i with
  | door d k => exact h.untouched (s.doorEvent_untouched s d _)
  | mainSupply => exact h.flowEvent ((SameCapacities.refl _).evalSupply _)
  | pressure k => exact h.flowEvent ((SameCapacities.refl _).evalLost _ _)
  | emergency => exact h
  | resetPin => exact h

theorem filterExpiry (i : InputId) : CapacityInv (s.filterExpiry i) := by
  unfold State.filterExpiry
  dsimp only
  split
  · exact h.withFilter_inputEvent _ _ _ _
  · exact h

/-- The confirm or release that ends a first interval; the reset pin's leaves all but its own filter alone (R8). -/
theorem withFilter_firstEvent (before : State) (i : InputId) (f : Filter) (active : Bool) :
    CapacityInv ((s.withFilter i f).firstEvent before i active) := by
  cases i with
  | resetPin => exact h
  | _ => exact h.withFilter_inputEvent _ _ _ _

theorem firstIntervalExpiry (i : InputId) : CapacityInv (s.firstIntervalExpiry i) := by
  unfold State.firstIntervalExpiry
  dsimp only
  split
  · split
    · next unchanged => exact (h.withFilter i unchanged).inputPrimed i
    · exact (h.withFilter_firstEvent _ _ _ _).inputPrimed i
  · exact h

theorem voltage (w : Wire) (millivolts : Nat) : CapacityInv (s.voltage w millivolts) := by
  cases w with
  | input i => exact h.withFilter i (Filter.onVoltage_filtered _ _ _)
  | _ => exact h.untouched ⟨rfl, rfl, rfl⟩

/-! ### Requests -/

theorem restore (body : List Byte) : (s.restore body).Leaves CapacityInv := by
  unfold State.restore
  split
  · trivial
  · next d _ =>
    split
    · trivial
    · split
      · exact h
      · split
        · trivial
        · have restored : CapacityInv ((s.settleDoors [d]).1.restoreDoor d) :=
            (h.settleDoors [d]).untouched ⟨rfl, rfl, rfl⟩
          exact restored.complete _

theorem floodSet (body : List Byte) : (s.floodSet body).Leaves CapacityInv := by
  have settled := h.settleDoors (allDoors.filter (floodNewlyBars s.image s.resolver (byteAt body 0)))
  have flagged := settled.untouched (State.ordersEvent_untouched _ fun o => o.floodSet (byteAt body 0))
  exact (flagged.untouched (.foldl (fun t d => t.doorEvent_untouched t d _) _ _)).complete _

theorem serve {owner : List Byte → State → Answer} (c : Instr) (kind : Byte) (r : Req) (lens : List Nat)
    (part : ∀ s, CapacityInv s → (owner r.body s).Leaves CapacityInv) : CapacityInv (s.serve c kind r lens owner) :=
  State.serve_keeps capacityInv_keptInTaking c kind r lens part h

/-- A request whose owner leaves the allocator alone. -/
theorem serveUntouched {owner : List Byte → State → Answer} (c : Instr) (kind : Byte) (r : Req) (lens : List Nat)
    (part : ∀ s, (owner r.body s).Leaves (AllocatorUntouched s)) : CapacityInv (s.serve c kind r lens owner) :=
  h.serve c kind r lens fun t ht => (part t).imp fun _ => ht.untouched

/-! ### Commands -/

/-- A message between blocks is taken behind those ahead of it on its way. -/
theorem message (m : Instr) (hm : (route? m).isSome = true) : LeadsTo CapacityInv (exec m s) := by
  rw [exec_message hm]
  exact (State.inOrder_keeps capacityInv_keptInTaking.deliver m h).deliver m

/-- A store write ends without touching the active image (R159). -/
theorem storeWriteComplete (success : Bool) : LeadsTo CapacityInv (execStoreWriteComplete success s) := by
  unfold execStoreWriteComplete
  split
  · cases success with
    | true => exact h.untouched s.writeSucceeded_untouched
    | false => exact h.untouched s.writeFailed_untouched
  · exact h

theorem silenceTimerExpiry (l : Line) : LeadsTo CapacityInv (execSilenceTimerExpiry l s) := by
  unfold execSilenceTimerExpiry
  dsimp only [LeadsTo]
  split
  · exact h.untouched ⟨rfl, rfl, rfl⟩
  · exact h.untouched ⟨rfl, rfl, rfl⟩

theorem replySent (l : Line) : LeadsTo CapacityInv (execReplySent l s) := by
  unfold execReplySent
  dsimp only
  split
  · exact h
  · dsimp only [LeadsTo]
    split
    · exact capacityInv_restart _ _
    · exact h.untouched (s.withLine_untouched l _)

end CapacityInv

/-- Every command keeps the capacities that R90 gives. -/
theorem exec_capacityInv (c : Instr) (s : State) (h : CapacityInv s) : LeadsTo CapacityInv (exec c s) := by
  cases c with
  | powerOn => exact capacityInv_powerOn s
  | rawInputChange w mv => exact h.voltage w mv
  | filterExpiry i => exact h.filterExpiry i
  | firstIntervalExpiry i => exact h.firstIntervalExpiry i
  | checkTimerExpiry d | driveTestHoldExpiry d | driveTestOnCheckExpiry d | driveTestOffCheckExpiry d
  | warningTimerExpiry d | dwellTimerExpiry d | edgeClearTimerExpiry d | transitLimitExpiry d | deadlineExpiry d =>
    exact h.untouched (s.doorEvent_untouched s d _)
  | groupTimeSecond => exact h
  | storeWriteComplete success => exact h.storeWriteComplete success
  | lineCharacter | gapTimerExpiry => exact h.untouched (s.serialEvent_untouched _)
  | silenceTimerExpiry l => exact h.silenceTimerExpiry l
  | replySent l => exact h.replySent l
  | unknownKindRequest kind r => exact execUnknownKindRequest_leadsTo capacityInv_keptInTaking kind r h
  | identify r | groupStatus r | timeSet r | configDiscard r => exact h.serveUntouched _ _ r _ fun _ => ⟨rfl, rfl, rfl⟩
  | linesRead r | driveCaptureRead r => exact h.serveUntouched _ _ r _ fun s => .refl s
  | doorStatus r => exact h.serveUntouched _ _ r _ (State.doorStatus_untouched _)
  | alarmRead r => exact h.serveUntouched _ _ r _ (State.alarmRead_untouched _)
  | alarmAck r => exact h.serveUntouched _ _ r _ (State.alarmAck_untouched _)
  | modeSet r => exact h.serveUntouched _ _ r _ (State.modeSet_untouched _)
  | closeDoors r | closeZones r | releaseDoors r | floodClear r =>
    exact h.serveUntouched _ _ r _ fun s => s.ordersEvent_untouched _
  | isolate r => exact h.serveUntouched _ _ r _ (State.isolate_untouched _)
  | restore r => exact h.serve _ _ r _ fun _ k => k.restore _
  | floodSet r => exact h.serve _ _ r _ fun _ k => k.floodSet _
  | emergencyRelease r => exact h.serveUntouched _ _ r _ (State.emergencyRelease_untouched _)
  | driveTest r => exact h.serveUntouched _ _ r _ (State.driveTest_untouched _)
  | faultClear r | countersClear r => exact h.serveUntouched _ _ r _ fun s => s.logEvent_untouched _
  | captureRead r => exact h.serveUntouched _ _ r _ (State.captureRead_untouched _)
  | maintRead r => exact h.serveUntouched _ _ r _ (State.maintRead_untouched _)
  | linesClear r => exact h.serveUntouched _ _ r _ (State.linesClear_untouched _)
  | supervisionSet r => exact h.serveUntouched _ _ r _ fun s => s.serialEvent_untouched _
  | configRead r => exact h.serveUntouched _ _ r _ (State.configRead_untouched _)
  | configStage r => exact h.serveUntouched _ _ r _ (State.configStage_untouched _)
  | configCommit r => exact h.serve _ _ r _ fun s _ => capacityInv_configCommit _ s
  | restart r => exact h.serveUntouched _ _ r _ fun s => s.restartRequested_untouched _ _
  | _ => exact h.message _ rfl

/-- Settles O9: the events that change a filtered value R90 reads, a commit and a restart compute the capacities afresh,
and no other command or stroke tick changes a capacity or what R90 gives it by. -/
theorem capacityKept : Obligations.CapacityKept := by
  unfold Obligations.CapacityKept
  intro s t h hstep
  have kept := step_leadsTo (fun _ _ k => k) exec_capacityInv (fun s k => k.untouched s.tick_untouched) h
  rwa [hstep] at kept

end Sys2Proof.Machine

/-! What every event of the alarm list leaves of it: the keys of its entries as R124 has them, and both outputs set afresh
from the entries (R134, R135). -/

namespace Sys2Proof.Machine

open Sys2Proof

/-! ### Well-formed lists (R124) -/

/-- What R124 has once in the list: an entry's kind and subject. -/
def Entry.key (e : Entry) : AlarmKind × Subject := (e.kind, e.subject)

/-- At most 48 keys, each once, none of them the overflow entry's kind (R124). -/
def KeysOk (ks : List (AlarmKind × Subject)) : Prop :=
  ks.length ≤ listLimit ∧ ks.Nodup ∧ ∀ k ∈ ks, k.1 ≠ .listOverflow

/-- Only LIST_OVERFLOW, with the group as its subject, is held as the overflow entry (R124, R130). -/
def OverflowOk (o : Option Entry) : Prop := ∀ e ∈ o, e.key = (.listOverflow, .group)

/-- What R124 has of the entries. -/
def AlarmList.WellFormed (a : AlarmList) : Prop := KeysOk (a.entries.map Entry.key) ∧ OverflowOk a.overflow

/-- A well-formed list whose outputs are as R134 and R135 set them. -/
def AlarmList.Kept (routed : KindSet) (a : AlarmList) : Prop := a.WellFormed ∧ a.setOutputs routed = a

theorem AlarmList.setOutputs_eq_self_iff (routed : KindSet) (a : AlarmList) :
    a.setOutputs routed = a ↔
      a.common = a.all.any Entry.calls ∧ a.routed = a.all.any fun e => e.calls && inKinds routed e.kind := by
  obtain ⟨entries, overflow, common, routedOutput, changed⟩ := a
  simp [AlarmList.setOutputs, AlarmList.all, eq_comm]

theorem alarmInv_iff (s : State) : AlarmInv s ↔ s.alarms.Kept s.image.group.routedKinds := by
  rw [AlarmList.Kept, AlarmList.setOutputs_eq_self_iff]
  simp only [AlarmInv, AlarmList.WellFormed, KeysOk, OverflowOk, Entry.key, listLimit, List.length_map,
    List.forall_mem_map, Prod.mk.injEq, and_assoc]
  rfl

theorem KeysOk.sublist {ks ks' : List (AlarmKind × Subject)} (h : KeysOk ks) (sub : ks'.Sublist ks) : KeysOk ks' := by
  obtain ⟨short, distinct, ordinary⟩ := h
  exact ⟨sub.length_le.trans short, distinct.sublist sub, fun k hk => ordinary k (sub.subset hk)⟩

theorem KeysOk.append {ks : List (AlarmKind × Subject)} (h : KeysOk ks) {k : AlarmKind} {x : Subject}
    (room : ks.length < listLimit) (ordinary : k ≠ .listOverflow) (new : (k, x) ∉ ks) : KeysOk (ks ++ [(k, x)]) := by
  obtain ⟨-, distinct, others⟩ := h
  refine ⟨?_, List.concat_eq_append ▸ distinct.concat new, ?_⟩
  · rw [List.length_append]
    exact room
  · simpa [or_imp, forall_and] using ⟨fun k' x' hk => others (k', x') hk, ordinary⟩

/-! ### The keys of entries -/

theorem Entry.isOf_iff (e : Entry) (k : AlarmKind) (x : Subject) : e.isOf k x = true ↔ e.key = (k, x) := by
  simp [Entry.isOf, Entry.key]

@[simp] theorem Entry.reraised_key (g : GroupRecord) (t : GroupTime) (e : Entry) : (e.reraised g t).key = e.key := by
  unfold Entry.reraised
  split <;> rfl

/-- An acknowledged entry that stays is of its kind and subject (R129). -/
theorem Entry.acked_key {t : GroupTime} {e e' : Entry} (h : e.acked t = some e') : e'.key = e.key := by
  unfold Entry.acked at h
  split at h <;> cases h <;> rfl

/-- What an acknowledgement of every entry leaves are some of the entries, in their order (R129, R137). -/
theorem keys_filterMap_acked_sublist (t : GroupTime) (es : List Entry) :
    ((es.filterMap (Entry.acked t)).map Entry.key).Sublist (es.map Entry.key) := by
  induction es with
  | nil => exact .slnil
  | cons e es ih =>
    rw [List.filterMap_cons, List.map_cons]
    split
    · exact ih.cons _
    · next kept =>
      rw [List.map_cons, Entry.acked_key kept]
      exact ih.cons_cons _

/-- The list holds the key of no entry that it does not find. -/
theorem AlarmList.key_notMem_of_find_none {a : AlarmList} {k : AlarmKind} {x : Subject} (h : a.find k x = none) :
    (k, x) ∉ a.entries.map Entry.key := by
  simp only [List.mem_map, not_exists, not_and]
  intro e he hk
  exact List.find?_eq_none.mp h e he ((e.isOf_iff k x).mpr hk)

/-- An update that keeps the key of every entry keeps the keys of the list. -/
theorem AlarmList.update_keys (a : AlarmList) (k : AlarmKind) (x : Subject) {f : Entry → Entry}
    (same : ∀ e, (f e).key = e.key) : (a.update k x f).entries.map Entry.key = a.entries.map Entry.key := by
  simp only [AlarmList.update, List.map_map]
  refine List.map_congr_left fun e _ => ?_
  dsimp only [Function.comp_apply]
  split
  · exact same e
  · rfl

/-- A lost raise leaves LIST_OVERFLOW in the overflow entry (R130). -/
theorem overflowRaised_key (g : GroupRecord) (t : GroupTime) {o : Option Entry} (h : OverflowOk o) :
    (overflowRaised g t o).key = (.listOverflow, .group) := by
  unfold overflowRaised
  split
  · rfl
  · next e =>
    have key := h e rfl
    split
    · rw [Entry.reraised_key, key]
    · exact key
    · exact key

/-! ### The list's own procedures

Marking the list as changed and setting its outputs touch no entry, so what holds before is what holds after. -/

namespace AlarmList.WellFormed

variable {a : AlarmList} (h : a.WellFormed)
include h

theorem keys : KeysOk (a.entries.map Entry.key) := h.1

theorem overflow : OverflowOk a.overflow := h.2

theorem touched : a.touched.WellFormed := h

theorem setOutputs (routed : KindSet) : (a.setOutputs routed).Kept routed := ⟨h, rfl⟩

/-- Entries removed, the others closing up (R124). -/
theorem filter (p : Entry → Bool) : AlarmList.WellFormed { a with entries := a.entries.filter p } :=
  ⟨h.keys.sublist (List.filter_sublist.map _), h.overflow⟩

theorem remove (k : AlarmKind) (x : Subject) : (a.remove k x).WellFormed := h.filter _

theorem update (k : AlarmKind) (x : Subject) {f : Entry → Entry} (same : ∀ e, (f e).key = e.key) :
    (a.update k x f).WellFormed := by
  refine ⟨?_, h.overflow⟩
  rw [a.update_keys k x same]
  exact h.keys

/-- An entry marked with a state and the time (R127, R129). -/
theorem mark (k : AlarmKind) (x : Subject) (state : EntryState) (t : GroupTime) :
    (a.update k x fun e => { e with state := state, last := t }).WellFormed := h.update k x fun _ => rfl

theorem overflowed (g : GroupRecord) (t : GroupTime) : (a.overflowed g t).WellFormed := by
  refine ⟨h.keys, fun e he => ?_⟩
  cases he
  exact overflowRaised_key g t h.overflow

theorem evalOverflow (t : GroupTime) : (a.evalOverflow t).WellFormed := by
  unfold AlarmList.evalOverflow
  split
  · exact h
  · split
    · exact h
    · next e held =>
      split
      · refine ⟨h.keys, fun e' he' => ?_⟩
        cases he'
        exact h.overflow e held
      · exact ⟨h.keys, fun _ held => nomatch held⟩
      · exact h

/-- A new ordinary entry at the end of the list (R124, R125). -/
theorem append (g : GroupRecord) (t : GroupTime) {k : AlarmKind} {x : Subject} (room : a.entries.length < listLimit)
    (ordinary : k ≠ .listOverflow) (absent : a.find k x = none) :
    AlarmList.WellFormed { a with entries := a.entries ++ [.new g t k x] } := by
  refine ⟨?_, h.overflow⟩
  rw [List.map_append]
  exact h.keys.append (by rwa [List.length_map]) ordinary (AlarmList.key_notMem_of_find_none absent)

/-- Every entry acknowledged (R129, R137). -/
theorem ackEntries (t : GroupTime) : AlarmList.WellFormed { a with
    entries := a.entries.filterMap (Entry.acked t), overflow := a.overflow.bind (Entry.acked t) } := by
  refine ⟨h.keys.sublist (keys_filterMap_acked_sublist t _), fun e' he' => ?_⟩
  obtain ⟨e, he, acked⟩ := Option.mem_bind_iff.mp he'
  rw [Entry.acked_key acked]
  exact h.overflow e he

/-- The overflow entry acknowledged (R129). -/
theorem ackOverflow (t : GroupTime) {e : Entry} (held : a.overflow = some e) :
    AlarmList.WellFormed { a with overflow := e.acked t } := by
  refine ⟨h.keys, fun e' he' => ?_⟩
  rw [Entry.acked_key he']
  exact h.overflow e held

/-- The list's part of a commit sets the outputs from the new image's sets, whatever they were (R139). -/
theorem commit (old new : Image) (t : GroupTime) : (a.commit old new t).Kept new.group.routedKinds := by
  unfold AlarmList.commit
  refine setOutputs (evalOverflow ?_ t) _
  split
  · exact (h.filter _).touched
  · exact h.filter _

end AlarmList.WellFormed

/-! ### The list's events -/

namespace AlarmList.Kept

theorem empty (routed : KindSet) : AlarmList.empty.Kept routed :=
  ⟨⟨⟨Nat.zero_le _, .nil, fun _ hk => nomatch hk⟩, fun _ held => nomatch held⟩, rfl⟩

variable {a : AlarmList} {i : Image} (h : a.Kept i.group.routedKinds)
include h

theorem wellFormed : a.WellFormed := h.1

/-- A raise re-raises an entry, counts at the overflow entry, enters a new entry or changes nothing (R125, R126, R130). -/
theorem raise (t : GroupTime) (k : AlarmKind) (x : Subject) : (a.raise i t k x).Kept i.group.routedKinds := by
  have list := h.wellFormed
  unfold AlarmList.raise
  dsimp only
  split
  · exact (list.overflowed _ t).setOutputs _
  · next ordinary =>
    split
    · split
      · exact (list.update k x (Entry.reraised_key _ t)).touched.setOutputs _
      · exact h
      · exact h
    · next absent =>
      split
      · exact h
      · split
        · exact (list.overflowed _ t).setOutputs _
        · next room => exact (list.append _ t (Nat.lt_of_not_le room) ordinary absent).touched.setOutputs _

/-- The end of a condition marks its entry cleared, removes it or changes nothing (R127, R128). -/
theorem conditionEnds (t : GroupTime) (k : AlarmKind) (x : Subject) :
    (a.conditionEnds i t k x).Kept i.group.routedKinds := by
  have list := h.wellFormed
  unfold AlarmList.conditionEnds
  dsimp only
  split
  · exact (list.evalOverflow t).setOutputs _
  · split
    · exact h
    · split
      · exact (list.mark k x _ t).touched.setOutputs _
      · exact ((list.remove k x).touched.evalOverflow t).setOutputs _
      · exact h

theorem ackAll (t : GroupTime) : (a.ackAll i t).Kept i.group.routedKinds := by
  have acked := h.wellFormed.ackEntries t
  unfold AlarmList.ackAll
  refine WellFormed.setOutputs (WellFormed.evalOverflow ?_ t) _
  split
  · exact acked
  · exact acked.touched

theorem ackOne (t : GroupTime) (k : AlarmKind) (x : Subject) : (a.ackOne i t k x).Kept i.group.routedKinds := by
  have list := h.wellFormed
  unfold AlarmList.ackOne
  dsimp only
  split
  · split
    · exact h
    · next held =>
      split
      · exact h
      · exact (list.ackOverflow t held).touched.setOutputs _
  · split
    · exact h
    · split
      · exact (list.mark k x _ t).touched.setOutputs _
      · exact ((list.remove k x).touched.evalOverflow t).setOutputs _
      · exact h

/-- A reply that reaches the end of the list clears ALARMS_CHANGED alone (R136). -/
theorem read : AlarmList.Kept i.group.routedKinds { a with changed := false } := by
  obtain ⟨list, outputs⟩ := h
  refine ⟨list, ?_⟩
  rw [setOutputs_eq_self_iff] at outputs ⊢
  exact outputs

end AlarmList.Kept
end Sys2Proof.Machine

/-! Every step keeps the alarm list well formed and both alarm outputs as its entries give them: the list's own events, a
commit and a restart by what they leave of it, and every other event by leaving the list and the active image alone. -/

namespace Sys2Proof.Machine

open Sys2Proof

/-! ### What leaves the alarm list alone -/

/-- The alarm list, and the active image with the kinds routed, are as they were. -/
structure AlarmListUntouched (s t : State) : Prop where
  alarms : t.alarms = s.alarms
  image : t.image = s.image

namespace AlarmListUntouched

theorem refl (s : State) : AlarmListUntouched s s := ⟨rfl, rfl⟩

theorem trans {s t u : State} (h : AlarmListUntouched s t) (k : AlarmListUntouched t u) : AlarmListUntouched s u :=
  ⟨k.alarms.trans h.alarms, k.image.trans h.image⟩

/-- What is left alone at each of a list is left alone by the whole. -/
theorem foldl {α : Type} {f : State → α → State} (step : ∀ s x, AlarmListUntouched s (f s x)) (xs : List α) (s : State) :
    AlarmListUntouched s (xs.foldl f s) :=
  List.foldlRecOn xs f (refl s) fun t h x _ => h.trans (step t x)

theorem ite {s t u : State} {c : Prop} [Decidable c] (h : AlarmListUntouched s t) (k : AlarmListUntouched s u) :
    AlarmListUntouched s (if c then t else u) := by
  split
  · exact h
  · exact k

variable (s : State)

/-! #### Events of the other blocks -/

theorem withFilter (i : InputId) (f : Filter) : AlarmListUntouched s (s.withFilter i f) := by
  cases i <;> exact ⟨rfl, rfl⟩

theorem withDoor (d : DoorId) (r : Door) : AlarmListUntouched s (s.withDoor d r) := ⟨rfl, rfl⟩

theorem doorEvent (before : State) (d : DoorId) (f : Work → Work) : AlarmListUntouched s (s.doorEvent before d f) :=
  ⟨rfl, rfl⟩

theorem ordersEvent (f : Orders → Orders) : AlarmListUntouched s (s.ordersEvent f) := ⟨rfl, rfl⟩

theorem flowEvent (f : Flow → Flow) : AlarmListUntouched s (s.flowEvent f) := ⟨rfl, rfl⟩

theorem logEvent (f : Log → Log) : AlarmListUntouched s (s.logEvent f) := ⟨rfl, rfl⟩

theorem serialEvent (f : Serial → Serial) : AlarmListUntouched s (s.serialEvent f) := ⟨rfl, rfl⟩

theorem withLine (l : Line) (y : LinePort) : AlarmListUntouched s (s.withLine l y) := ⟨rfl, rfl⟩

/-- The store written with its active image as it was. -/
theorem withStore {x : Store} (active : x.active = s.store.active) : AlarmListUntouched s (s.withStore x) :=
  ⟨rfl, active⟩

theorem send (ms : List Instr) : AlarmListUntouched s (s.send ms) := ⟨rfl, rfl⟩

theorem writeSucceeded : AlarmListUntouched s s.writeSucceeded := (withStore s (by rfl)).trans (send _ _)

theorem writeFailed : AlarmListUntouched s s.writeFailed := ⟨rfl, rfl⟩

theorem restartStore : AlarmListUntouched s s.restartStore := ⟨rfl, rfl⟩

theorem restartDoors : AlarmListUntouched s s.restartDoors := foldl (fun t d => doorEvent t t d _) _ s

theorem commitDoors (old : Image) : AlarmListUntouched s (s.commitDoors old) := foldl (fun t d => doorEvent t t d _) _ s

/-- Every block's part of a restart; the alarm list's own comes after their reports (R140). -/
theorem restartBlocks (cause : StartCause) : AlarmListUntouched s (s.restartBlocks cause) := by
  have discarded : AlarmListUntouched s s.discardMessages := ⟨rfl, rfl⟩
  have doors := discarded.trans (restartDoors _)
  unfold State.restartBlocks
  exact ((((doors.trans (ordersEvent _ _)).trans (flowEvent _ _)).trans (logEvent _ _)).trans (restartStore _)).trans
    (serialEvent _ _)

theorem tick : AlarmListUntouched s s.tick := by
  refine foldl (fun t d => ?_) _ s
  exact ite (ite (withDoor t d _) (doorEvent t t d _)) (refl t)

end AlarmListUntouched

/-! ### The owners of requests that leave the alarm list alone -/

theorem Answer.Leaves.ite {P : State → Prop} {c : Prop} [Decidable c] {a b : Answer} (h : a.Leaves P) (k : b.Leaves P) :
    (if c then a else b).Leaves P := by
  split
  · exact h
  · exact k

namespace AlarmListUntouched

variable (body : List Byte) (s : State)

theorem doorStatus : (s.doorStatus body).Leaves (AlarmListUntouched s) := by
  unfold State.doorStatus
  split
  · trivial
  · exact foldl (fun t d => withDoor t d _) _ s

theorem driveTest : (s.driveTest body).Leaves (AlarmListUntouched s) := by
  unfold State.driveTest
  split
  · trivial
  · exact .ite trivial (.ite trivial (doorEvent s s _ _))

theorem maintRead : (s.maintRead body).Leaves (AlarmListUntouched s) := by
  unfold State.maintRead
  split
  · trivial
  · exact refl s

theorem captureRead : (s.captureRead body).Leaves (AlarmListUntouched s) := by
  unfold State.captureRead
  split
  · trivial
  · exact refl s

theorem modeSet : (s.modeSet body).Leaves (AlarmListUntouched s) := by
  unfold State.modeSet
  split
  · trivial
  · exact ordersEvent s _

theorem isolate : (s.isolate body).Leaves (AlarmListUntouched s) := by
  unfold State.isolate
  split
  · trivial
  · exact .ite trivial (.ite (refl s) ((ordersEvent s _).trans (doorEvent _ _ _ _)))

theorem emergencyRelease : (s.emergencyRelease body).Leaves (AlarmListUntouched s) :=
  .ite trivial (ordersEvent s _)

theorem linesClear : (s.linesClear body).Leaves (AlarmListUntouched s) := by
  unfold State.linesClear
  split
  · trivial
  · exact serialEvent s _

theorem restartRequested (l : Line) : (s.restartRequested l body).Leaves (AlarmListUntouched s) :=
  (ite (withLine s _ _) (refl s)).trans ⟨rfl, rfl⟩

theorem configRead : (s.configRead body).Leaves (AlarmListUntouched s) := by
  refine .ite trivial (.ite (refl s) ?_)
  split
  · trivial
  · exact refl s

/-- Staging leaves the active image alone (R154). -/
theorem configStage : (s.configStage body).Leaves (AlarmListUntouched s) :=
  .ite trivial (.ite trivial (.ite (.ite (withStore s rfl) trivial) (.ite (withStore s rfl) trivial)))

end AlarmListUntouched

/-! ### What keeps the invariant -/

/-- Power-on begins with an empty list and both outputs inactive (R140). -/
theorem alarmInv_powerOn (s : State) : AlarmInv s.powerOn := by
  rw [alarmInv_iff]
  unfold State.powerOn
  split
  · exact .empty _
  · exact .empty _

/-- An event of the alarm list that keeps it as the active image has it. -/
theorem alarmInv_alarmEvent {s : State} {f : Image → GroupTime → AlarmList → AlarmList}
    (kept : (f s.image s.time s.alarms).Kept s.image.group.routedKinds) : AlarmInv (s.alarmEvent f) :=
  (alarmInv_iff _).mpr kept

namespace AlarmInv

variable {s : State} (h : AlarmInv s)
include h

theorem kept : s.alarms.Kept s.image.group.routedKinds := (alarmInv_iff s).mp h

theorem untouched {t : State} (same : AlarmListUntouched s t) : AlarmInv t := by
  obtain ⟨alarms, image⟩ := same
  rw [alarmInv_iff, alarms, image]
  exact h.kept

/-! #### Messages between blocks -/

theorem deliver (m : Instr) : AlarmInv (s.deliver m) := by
  have taken : AlarmInv (s.taking m) := h.untouched ⟨rfl, rfl⟩
  cases m with
  | alarmRaise k x => exact alarmInv_alarmEvent (taken.kept.raise _ k x)
  | alarmClear k x | alarmResetCondition k x => exact alarmInv_alarmEvent (taken.kept.conditionEnds _ k x)
  | _ => exact h.untouched ⟨rfl, rfl⟩

end AlarmInv

theorem alarmInv_keptInTaking : KeptInTaking AlarmInv where
  deliver m _ h := h.deliver m
  withLine l y s h := h.untouched (.withLine s l y)
  hear _ s h := h.untouched (.serialEvent s _)

namespace AlarmInv

variable {s : State} (h : AlarmInv s)
include h

theorem complete (mark : Nat) : AlarmInv (s.complete mark) :=
  State.complete_keeps alarmInv_keptInTaking.deliver mark h

theorem settleDoors (ds : List DoorId) : AlarmInv (s.settleDoors ds).1 :=
  State.settleDoors_keeps alarmInv_keptInTaking.deliver ds h

/-! #### Restart and commit -/

/-- A restart takes its reports first, then evaluates the overflow entry and sets the outputs (R140). -/
theorem restart (cause : StartCause) : AlarmInv (s.restart cause) := by
  have reported := (h.untouched (.restartBlocks s cause)).complete s.discardMessages.inFlight.length
  unfold State.restart
  exact alarmInv_alarmEvent ((reported.kept.wellFormed.evalOverflow _).setOutputs _)

/-- Under the new image the outputs are set before any other block has its part of the commit (R139, R158). -/
theorem commit : AlarmInv s.commit := by
  have list : AlarmInv (((s.withStore { s.store with
      active := s.store.staging, defaultLoaded := false, writing := true }).send
        [.alarmClear .configDefault .group]).alarmEvent fun i t a => a.commit s.image i t) :=
    (alarmInv_iff _).mpr (h.kept.wellFormed.commit _ _ _)
  have doors := list.untouched (.commitDoors _ s.image)
  unfold State.commit
  exact (((doors.untouched (.ordersEvent _ _)).untouched (.flowEvent _ _)).untouched (.logEvent _ _)).untouched
    (.serialEvent _ _)

/-! #### Inputs -/

theorem inputEvent (before : State) (i : InputId) (active : Bool) : AlarmInv (s.inputEvent before i active) := by
  cases i with
  | door d k => exact h.untouched (.doorEvent s before d _)
  | emergency => exact h.untouched (.ite (.ordersEvent s _) (.refl s))
  | mainSupply | pressure => exact h.untouched ⟨rfl, rfl⟩
  | resetPin => cases active <;> [exact h; exact h.restart _]

theorem firstEvent (before : State) (i : InputId) (active : Bool) : AlarmInv (s.firstEvent before i active) := by
  cases i with
  | resetPin => exact h
  | _ => exact h.inputEvent _ _ _

theorem inputPrimed (i : InputId) : AlarmInv (s.inputPrimed i) := by
  cases i with
  | door d k => exact h.untouched (.doorEvent s s d _)
  | mainSupply | pressure => exact h.untouched ⟨rfl, rfl⟩
  | emergency | resetPin => exact h

theorem filterExpiry (i : InputId) : AlarmInv (s.filterExpiry i) := by
  unfold State.filterExpiry
  dsimp only
  split
  · exact (h.untouched (.withFilter s i _)).inputEvent _ _ _
  · exact h

theorem firstIntervalExpiry (i : InputId) : AlarmInv (s.firstIntervalExpiry i) := by
  have filtered (f : Filter) := h.untouched (.withFilter s i f)
  unfold State.firstIntervalExpiry
  dsimp only
  split
  · split
    · exact (filtered _).inputPrimed i
    · exact ((filtered _).firstEvent _ _ _).inputPrimed i
  · exact h

theorem voltage (w : Wire) (millivolts : Nat) : AlarmInv (s.voltage w millivolts) := by
  cases w with
  | input i => exact h.untouched (.withFilter s i _)
  | _ => exact h.untouched ⟨rfl, rfl⟩

/-! #### Requests -/

theorem alarmRead (body : List Byte) : (s.alarmRead body).Leaves AlarmInv := by
  have read : AlarmInv (s.withAlarms { s.alarms with changed := false }) := (alarmInv_iff _).mpr h.kept.read
  refine .ite trivial ?_
  dsimp only [Answer.Leaves]
  split
  · exact read
  · exact h

theorem alarmAck (body : List Byte) : (s.alarmAck body).Leaves AlarmInv := by
  refine .ite (.ite (alarmInv_alarmEvent (h.kept.ackAll _)) trivial) ?_
  unfold State.alarmAckOne
  split
  · exact .ite (alarmInv_alarmEvent (h.kept.ackOne _ _ _)) trivial
  · trivial

theorem restore (body : List Byte) : (s.restore body).Leaves AlarmInv := by
  unfold State.restore
  split
  · trivial
  · next d _ =>
    have restored := (h.settleDoors [d]).untouched (t := (s.settleDoors [d]).1.restoreDoor d) ⟨rfl, rfl⟩
    exact .ite trivial (.ite h (.ite trivial (restored.complete _)))

theorem floodSet (body : List Byte) : (s.floodSet body).Leaves AlarmInv := by
  have settled := h.settleDoors (allDoors.filter (floodNewlyBars s.image s.resolver (byteAt body 0)))
  have flagged := settled.untouched (.ordersEvent _ fun o => o.floodSet (byteAt body 0))
  exact (flagged.untouched (.foldl (fun t d => .doorEvent t t d _) _ _)).complete _

theorem configCommit (body : List Byte) : (s.configCommit body).Leaves AlarmInv := by
  refine .ite trivial ?_
  split
  · trivial
  · exact (h.settleDoors _).commit.complete _

theorem serve {owner : List Byte → State → Answer} (c : Instr) (kind : Byte) (r : Req) (lens : List Nat)
    (part : ∀ s, AlarmInv s → (owner r.body s).Leaves AlarmInv) : AlarmInv (s.serve c kind r lens owner) :=
  State.serve_keeps alarmInv_keptInTaking c kind r lens part h

/-- A request whose owner leaves the alarm list alone. -/
theorem serveUntouched {owner : List Byte → State → Answer} (c : Instr) (kind : Byte) (r : Req) (lens : List Nat)
    (part : ∀ s, (owner r.body s).Leaves (AlarmListUntouched s)) : AlarmInv (s.serve c kind r lens owner) :=
  h.serve c kind r lens fun t ht => (part t).imp fun _ => ht.untouched

/-! #### Commands -/

/-- A message between blocks is taken behind those ahead of it on its way. -/
theorem message (m : Instr) (hm : (route? m).isSome = true) : LeadsTo AlarmInv (exec m s) := by
  rw [exec_message hm]
  exact (State.inOrder_keeps alarmInv_keptInTaking.deliver m h).deliver m

/-- A store write ends without touching the active image; what it reports is still on its way (R159). -/
theorem storeWriteComplete (success : Bool) : LeadsTo AlarmInv (execStoreWriteComplete success s) := by
  unfold execStoreWriteComplete
  split
  · cases success with
    | true => exact h.untouched (.writeSucceeded s)
    | false => exact h.untouched (.writeFailed s)
  · exact h

theorem silenceTimerExpiry (l : Line) : LeadsTo AlarmInv (execSilenceTimerExpiry l s) :=
  h.untouched (.ite ⟨rfl, rfl⟩ ⟨rfl, rfl⟩)

theorem replySent (l : Line) : LeadsTo AlarmInv (execReplySent l s) := by
  have sent (y : LinePort) := h.untouched (.withLine s l y)
  unfold execReplySent
  dsimp only
  split
  · exact h
  · dsimp only [LeadsTo]
    split
    · exact (sent _).restart _
    · exact sent _

end AlarmInv

/-- Every command keeps the alarm list well formed and its outputs as its entries give them. -/
theorem exec_alarmInv (c : Instr) (s : State) (h : AlarmInv s) : LeadsTo AlarmInv (exec c s) := by
  cases c with
  | powerOn => exact alarmInv_powerOn s
  | rawInputChange w mv => exact h.voltage w mv
  | filterExpiry i => exact h.filterExpiry i
  | firstIntervalExpiry i => exact h.firstIntervalExpiry i
  | checkTimerExpiry d | driveTestHoldExpiry d | driveTestOnCheckExpiry d | driveTestOffCheckExpiry d
  | warningTimerExpiry d | dwellTimerExpiry d | edgeClearTimerExpiry d | transitLimitExpiry d | deadlineExpiry d =>
    exact h.untouched (.doorEvent s s d _)
  | groupTimeSecond => exact h.untouched ⟨rfl, rfl⟩
  | storeWriteComplete success => exact h.storeWriteComplete success
  | lineCharacter | gapTimerExpiry => exact h.untouched (.serialEvent s _)
  | silenceTimerExpiry l => exact h.silenceTimerExpiry l
  | replySent l => exact h.replySent l
  | unknownKindRequest kind r => exact execUnknownKindRequest_leadsTo alarmInv_keptInTaking kind r h
  | identify r | groupStatus r | timeSet r | configDiscard r => exact h.serveUntouched _ _ r _ fun _ => ⟨rfl, rfl⟩
  | linesRead r | driveCaptureRead r => exact h.serveUntouched _ _ r _ fun s => .refl s
  | doorStatus r => exact h.serveUntouched _ _ r _ (AlarmListUntouched.doorStatus _)
  | alarmRead r => exact h.serve _ _ r _ fun _ k => k.alarmRead _
  | alarmAck r => exact h.serve _ _ r _ fun _ k => k.alarmAck _
  | modeSet r => exact h.serveUntouched _ _ r _ (AlarmListUntouched.modeSet _)
  | closeDoors r | closeZones r | releaseDoors r | floodClear r =>
    exact h.serveUntouched _ _ r _ fun s => .ordersEvent s _
  | isolate r => exact h.serveUntouched _ _ r _ (AlarmListUntouched.isolate _)
  | restore r => exact h.serve _ _ r _ fun _ k => k.restore _
  | floodSet r => exact h.serve _ _ r _ fun _ k => k.floodSet _
  | emergencyRelease r => exact h.serveUntouched _ _ r _ (AlarmListUntouched.emergencyRelease _)
  | driveTest r => exact h.serveUntouched _ _ r _ (AlarmListUntouched.driveTest _)
  | faultClear r | countersClear r => exact h.serveUntouched _ _ r _ fun s => AlarmListUntouched.logEvent s _
  | captureRead r => exact h.serveUntouched _ _ r _ (AlarmListUntouched.captureRead _)
  | maintRead r => exact h.serveUntouched _ _ r _ (AlarmListUntouched.maintRead _)
  | linesClear r => exact h.serveUntouched _ _ r _ (AlarmListUntouched.linesClear _)
  | supervisionSet r => exact h.serveUntouched _ _ r _ fun s => .serialEvent s _
  | configRead r => exact h.serveUntouched _ _ r _ (AlarmListUntouched.configRead _)
  | configStage r => exact h.serveUntouched _ _ r _ (AlarmListUntouched.configStage _)
  | configCommit r => exact h.serve _ _ r _ fun _ k => k.configCommit _
  | restart r => exact h.serveUntouched _ _ r _ fun s => AlarmListUntouched.restartRequested _ s _
  | _ => exact h.message _ rfl

/-- Settles O10: each event of the alarm list, a commit and a restart among them, either changes nothing or leaves a
well-formed list with its outputs set from it, and no other command or stroke tick changes the list or the kinds routed. -/
theorem alarmListKept : Obligations.AlarmListKept := by
  unfold Obligations.AlarmListKept
  intro s t h hstep
  have kept := step_leadsTo (fun _ _ k => k) exec_alarmInv (fun s k => k.untouched (.tick s)) h
  rwa [hstep] at kept

end Sys2Proof.Machine

/-! The indicated state of a door row by row of R141's table: the rows that a motion state decides alone, the conflict of
both end switches above the rest, and the switches of a door that waits. -/

namespace Sys2Proof.Machine

open Sys2Proof

theorem Channel.conflict_iff (c : Channel) :
    c.conflict = true ↔ c.closedSwitch.filtered = true ∧ c.openSwitch.filtered = true := by
  simp [Channel.conflict]

section
variable {r : Door} {c : Channel}

/-! ### Rows 1 to 4 -/

theorem indicated_of_absent (h : r.motion = .absent) : indicated r c = .absent := by
  simp [indicated, h]

theorem indicated_of_isolated (h : r.motion = .isolated) : indicated r c = .isolated := by
  simp [indicated, h]

theorem indicated_of_settling (h : r.motion = .settling) : indicated r c = .unknown := by
  simp [indicated, h]

/-- Both switches ACTIVE stand above every motion state but those of rows 1 and 2; row 3 gives the same. -/
theorem indicated_of_conflict (present : r.motion ≠ .absent) (connected : r.motion ≠ .isolated)
    (conflict : c.conflict = true) : indicated r c = .unknown := by
  unfold indicated
  split
  · exact absurd ‹_› present
  · exact absurd ‹_› connected
  · rfl
  · rw [if_pos conflict]

/-! ### Rows 5 to 11, with no conflict -/

theorem indicated_of_moving (clear : ¬c.conflict = true) (h : r.motion = .opening ∨ r.motion = .closing) :
    indicated r c = .moving := by
  rcases h with h | h <;> simp [indicated, h, clear]

theorem indicated_of_closed (clear : ¬c.conflict = true) (h : r.motion = .closed) : indicated r c = .closed := by
  simp [indicated, h, clear]

theorem indicated_of_opened (clear : ¬c.conflict = true) (h : r.motion = .opened) : indicated r c = .opened := by
  simp [indicated, h, clear]

theorem indicated_of_stopped (clear : ¬c.conflict = true) (h : r.motion = .stopped) : indicated r c = .partOpen := by
  simp [indicated, h, clear]

/-- A door that waits is indicated by its switches, the open switch first. -/
theorem indicated_of_waiting (clear : ¬c.conflict = true)
    (h : r.motion = .warning ∨ r.motion = .dwell ∨ r.motion = .queued) :
    indicated r c =
      if c.openSwitch.filtered then .opened else if c.closedSwitch.filtered then .closed else .partOpen := by
  rcases h with h | h | h <;> simp [indicated, h, clear]

end

/-- Settles O60: R141's table, row by row. -/
theorem indicatedStateTable : Obligations.IndicatedStateTable := by
  unfold Obligations.IndicatedStateTable
  intro r c closedOn openOn waits settled
  refine ⟨indicated_of_absent, indicated_of_isolated, indicated_of_settling, ?conflict, ?clear⟩
  case conflict =>
    rintro ⟨present, connected, -⟩ hclosed hopen
    exact indicated_of_conflict present connected (c.conflict_iff.mpr ⟨hclosed, hopen⟩)
  case clear =>
    intro apart
    have clear : ¬c.conflict = true := mt c.conflict_iff.mp apart
    refine ⟨indicated_of_moving clear, indicated_of_closed clear, indicated_of_opened clear, indicated_of_stopped clear,
      ?_, ?_, ?_⟩
    · intro waiting hopen
      rw [indicated_of_waiting clear waiting, if_pos hopen]
    · intro waiting notOpen hclosed
      rw [indicated_of_waiting clear waiting, if_neg notOpen, if_pos hclosed]
    · intro waiting notOpen notClosed
      rw [indicated_of_waiting clear waiting, if_neg notOpen, if_neg notClosed]

end Sys2Proof.Machine

/-! What a step is made of: the events from which every command's meaning is put together, and the chain of them that each
command and the stroke tick are. A property that every event keeps, a step keeps. -/

namespace Sys2Proof.Machine

open Sys2Proof

/-! ### The events -/

/-- Reactions of the door table to events of one door that neither a filter nor a message brings. -/
inductive DoorReaction (r : Door) : (Work → Work) → Prop
  | checkExpiry (v : Dir) : DoorReaction r fun w => w.checkExpiry v
  | holdExpiry : DoorReaction r Work.holdExpiry
  | onCheckExpiry : DoorReaction r Work.onCheckExpiry
  | offCheckExpiry : DoorReaction r Work.offCheckExpiry
  | warningExpiry : DoorReaction r Work.warningExpiry
  | dwellExpiry : DoorReaction r Work.dwellExpiry
  | edgeClearExpiry : DoorReaction r Work.edgeClearExpiry
  | transitExpiry : DoorReaction r Work.transitExpiry
  | deadlineExpiry : DoorReaction r Work.deadlineExpiry
  | floodStop : DoorReaction r Work.floodStop
  | beginTest (isolated : r.motion = .isolated) (idle : r.testResult ≠ .running) : DoorReaction r Work.beginTest

/-- Reactions of the order resolver to requests and to the loss of both lines. -/
inductive OrdersReaction (c : Instr) (s : State) : (Orders → Orders) → Prop
  | setMode (m : GroupMode) : OrdersReaction c s fun o => o.setMode m
  | closeDoors (named : DoorId → Bool) :
      OrdersReaction c s fun o => o.closeDoors (fun d => (s.door d).motion) named
  | releaseDoors (named : DoorId → Bool) : OrdersReaction c s fun o => o.releaseDoors named
  | floodSet (z : ZoneSet) : OrdersReaction c s fun o => o.floodSet z
  | floodClear (z : ZoneSet) : OrdersReaction c s fun o => o.floodClear z
  | remoteLost : OrdersReaction c s Orders.remoteLost
  | releaseLatch (r : Req) (request : c = .emergencyRelease r) (inactive : s.lines.emergency.filtered = false) :
      OrdersReaction c s Orders.releaseLatch

/-- Reactions of the line port but for a commit's and a restart's. -/
inductive PortReaction : (Serial → Serial) → Prop
  | character (l : Line) (c : Byte) (goodStop : Bool) : PortReaction fun x => x.character l c goodStop
  | gapExpired (l : Line) : PortReaction fun x => x.gapExpired l
  | heard (l : Line) : PortReaction fun x => x.heard l
  | silenceExpired (l : Line) : PortReaction fun x => (x.silenceExpired l).1
  | clearErrors (ls : List Line) : PortReaction fun x => ls.foldl Serial.clearErrors x
  | setInterval (n : Byte) : PortReaction fun x => x.setInterval n.toNat

/-- Reactions of the fault recorder to requests. -/
inductive LogReaction : (Log → Log) → Prop
  | clearFault (ds : List DoorId) : LogReaction fun l => ds.foldl Log.clearFault l
  | clearCounters (ds : List DoorId) : LogReaction fun l => ds.foldl Log.clearCounters l

/-- What the taking of a request makes of its line (R166, R167, R168). -/
inductive LineReaction (y : LinePort) : LinePort → Prop
  | freed : LineReaction y y.freed
  | busyTaking : LineReaction y y.busyTaking
  | replies (frame : List Byte) : LineReaction y { y.busyTaking with reply := some frame }

/-- A line whose reply has been sent (R167). -/
def State.replyGone (s : State) (l : Line) : State := s.withLine l { (s.port.line l).hunting with reply := none }

/-- A RESTART taken, its reply being sent on line `l` (R179). -/
def State.restartAwaited (s : State) (l : Line) (frame : List Byte) : State :=
  (s.withPort { s.port with restarting := some l }).withLine l { (s.port.line l).busyTaking with reply := some frame }

/-- The events of which the meaning of the command `c` is made. A message on its way is taken when it is the first there; any
other is taken as the command itself alone, where `strays`. -/
inductive Event (c : Instr) (strays : Prop) (s : State) : State → Prop
  | powerOn (command : c = .powerOn) : Event c strays s s.powerOn
  | straps (x : Straps) : Event c strays s { s with straps := x }
  | time (x : GroupTime) : Event c strays s { s with time := x }
  | filter (i : InputId) (f : Filter) (same : i ≠ .resetPin → f.filtered = (s.filter i).filtered)
      (command : (∃ w mv, c = .rawInputChange w mv) ∨ FilterEnds s c i f) : Event c strays s (s.withFilter i f)
  | input (i : InputId) (f : Filter) (ends : FilterEnds s c i f) (line : i ≠ .resetPin) :
      Event c strays s ((s.withFilter i f).inputEvent s i f.filtered)
  | primed (i : InputId) : Event c strays s (s.inputPrimed i)
  | door (d : DoorId) {f : Work → Work} (reaction : DoorReaction (s.door d) f) : Event c strays s (s.doorEvent s d f)
  | tick (d : DoorId) (moving : isMoving (s.door d).motion = true) (short : (s.door d).elapsed + 1 < (s.door d).deadline) :
      Event c strays s (s.withDoor d (s.door d).tick)
  | readDoor (d : DoorId) (r : Req) (command : c = .doorStatus r) :
      Event c strays s (s.withDoor d (readDoor (s.channel d) (s.door d)))
  | deliver (m : Instr) (between : (route? m).isSome = true)
      (turn : m ∈ s.inFlight ∧ FirstOnItsWay s m ∨ strays ∧ c = m) : Event c strays s (s.deliver m)
  | orders {f : Orders → Orders} (reaction : OrdersReaction c s f) : Event c strays s (s.ordersEvent f)
  | isolateDoor (d : DoorId) (present : (s.door d).motion ≠ .absent) (connected : (s.door d).motion ≠ .isolated) :
      Event c strays s (s.isolateDoor d)
  | restoreDoor (d : DoorId) (isolated : (s.door d).motion = .isolated) (idle : (s.door d).testResult ≠ .running) :
      Event c strays s (s.restoreDoor d)
  | log {f : Log → Log} (reaction : LogReaction f) : Event c strays s (s.logEvent f)
  | alarms (a : AlarmList) : Event c strays s (s.withAlarms a)
  | store (x : Store) (active : x.active = s.store.active) : Event c strays s (s.withStore x)
  | written (x : Store) (active : x.active = s.store.active) (draws : Nat) {m : Instr}
      (outcome : m = .alarmResetCondition .storeFault .group ∨ m = .alarmRaise .storeFault .group) :
      Event c strays s (State.send { s with store := x, freeDraws := draws } [m])
  | commit : Event c strays s s.commit
  | serial {f : Serial → Serial} (reaction : PortReaction f) : Event c strays s (s.serialEvent f)
  | line (l : Line) {y : LinePort} (reaction : LineReaction (s.port.line l) y) : Event c strays s (s.withLine l y)
  | attention (a b : Bool) : Event c strays s (s.withPort { s.port with restarted := a, remoteWasLost := b })
  | restartAwaited (l : Line) (frame : List Byte) : Event c strays s (s.restartAwaited l frame)
  | replyGone (l : Line) (sends : (s.port.line l).reply.isSome = true) (goesOn : s.port.restarting ≠ some l) :
      Event c strays s (s.replyGone l)
  | pinRestart : Event c strays s (s.restartBlocks .resetPin)
  | replyRestart (l : Line) : Event c strays s ((s.replyGone l).restartBlocks .restartRequest)

/-- A chain of events. -/
abbrev Events (c : Instr) (strays : Prop) : State → State → Prop := Relation.ReflTransGen (Event c strays)

/-- What every event keeps, a chain of events keeps. -/
theorem Events.keeps {c : Instr} {strays : Prop} {P : State → Prop} (kept : ∀ s t, Event c strays s t → P s → P t)
    {s t : State} (events : Events c strays s t) (h : P s) : P t := by
  induction events with
  | refl => exact h
  | tail _ event ih => exact kept _ _ event ih

theorem State.writeSucceeded_event (c : Instr) {strays : Prop} (s : State) : Event c strays s s.writeSucceeded := by
  unfold State.writeSucceeded
  exact .written _ (by rfl) s.freeDraws (.inl rfl)

theorem State.writeFailed_event (c : Instr) {strays : Prop} (s : State) : Event c strays s s.writeFailed := by
  unfold State.writeFailed
  exact .written _ (by rfl) _ (.inr rfl)

/-! ### Messages in their order -/

/-- The messages on their way on one way, oldest first. -/
def State.onWay (s : State) (w : Option Route) : List Instr := s.inFlight.filter fun x => route? x == w

theorem filter_takeWhile_ne_of_head {p : Instr → Bool} {m : Instr} {rest : List Instr} (ms : List Instr)
    (h : ms.filter p = m :: rest) : (ms.takeWhile (· != m)).filter p = [] := by
  induction ms with
  | nil => rfl
  | cons x xs ih =>
    by_cases hx : x = m
    · simp [hx]
    · have hp : p x = false := by
        by_contra hp
        rw [List.filter_cons_of_pos (by simpa using hp)] at h
        exact hx (List.cons.inj h).1
      rw [List.filter_cons_of_neg (by simp [hp])] at h
      simpa [hx, hp] using ih h

/-- The oldest message of a way is the first on its way. -/
theorem State.first_of_onWay {s : State} {m : Instr} {rest : List Instr} (h : s.onWay (route? m) = m :: rest) :
    FirstOnItsWay s m := by
  intro x hx
  have none := List.filter_eq_nil_iff.mp (filter_takeWhile_ne_of_head s.inFlight h) x hx
  simpa using none

theorem State.mem_of_onWay {s : State} {m : Instr} {w : Option Route} {rest : List Instr} (h : s.onWay w = m :: rest) :
    m ∈ s.inFlight :=
  (List.mem_filter.mp (h ▸ List.mem_cons_self)).1

/-- The taking of a message adds to those on their way behind the ones that remain. -/
theorem State.deliver_inFlight {m : Instr} (s : State) (h : (route? m).isSome = true) :
    ∃ made, (s.deliver m).inFlight = s.inFlight.erase m ++ made := by
  cases m <;> first | exact ⟨_, rfl⟩ | exact ⟨[], (List.append_nil _).symm⟩ | cases h

/-- The taking of the oldest message of a way leaves the others of it in their order, with new ones behind them. -/
theorem State.deliver_onWay {s : State} {m : Instr} {w : Option Route} {rest : List Instr}
    (between : (route? m).isSome = true) (h : s.onWay w = m :: rest) :
    ∃ made, (s.deliver m).onWay w = rest ++ made := by
  obtain ⟨made, hmade⟩ := s.deliver_inFlight between
  refine ⟨made.filter fun x => route? x == w, ?_⟩
  rw [State.onWay, hmade, List.filter_append, ← List.erase_filter, ← State.onWay, h, List.erase_cons_head]

/-- The taking of another message leaves one on its way. -/
theorem State.mem_deliver {s : State} {m x : Instr} (between : (route? x).isSome = true) (h : m ∈ s.inFlight)
    (ne : m ≠ x) : m ∈ (s.deliver x).inFlight := by
  obtain ⟨made, hmade⟩ := s.deliver_inFlight between
  rw [hmade]
  exact List.mem_append_left _ ((List.mem_erase_of_ne ne).mpr h)

section
variable {c : Instr} {strays : Prop}

/-- The oldest messages of a way taken in turn. -/
theorem State.deliverAll_events {w : Option Route} (way : w.isSome = true) (ms : List Instr) :
    ∀ s : State, (∃ rest, s.onWay w = ms ++ rest) →
      Events c strays s (ms.foldl (fun s x => s.deliver x) s) ∧
      ∃ made, ∀ rest, s.onWay w = ms ++ rest → (ms.foldl (fun s x => s.deliver x) s).onWay w = rest ++ made := by
  induction ms with
  | nil => exact fun s _ => ⟨.refl, [], fun rest h => by simpa using h⟩
  | cons m ms ih =>
    rintro s ⟨rest, h⟩
    have hm : route? m = w := by
      have mem : m ∈ s.onWay w := h ▸ List.mem_cons_self
      simpa using (List.mem_filter.mp mem).2
    have between : (route? m).isSome = true := hm ▸ way
    obtain ⟨made, hmade⟩ := State.deliver_onWay between h
    obtain ⟨events, made', hmade'⟩ := ih (s.deliver m) ⟨rest ++ made, by rw [hmade]; exact List.append_assoc ..⟩
    refine ⟨.head (.deliver m between (.inl ⟨State.mem_of_onWay h, State.first_of_onWay (hm ▸ h)⟩)) events,
      made ++ made', fun rest' h' => ?_⟩
    have same : rest' = rest := by simpa [h] using h'.symm
    rw [List.foldl_cons, hmade' (rest ++ made) (by rw [hmade]; exact List.append_assoc ..), same, List.append_assoc]

/-- A message takes the older ones of its way first, and is then the first of it if it is on its way. -/
theorem State.inOrder_events (m : Instr) (between : (route? m).isSome = true) (s : State) :
    Events c strays s (s.inOrder m) ∧
      (m ∈ s.inFlight → m ∈ (s.inOrder m).inFlight ∧ FirstOnItsWay (s.inOrder m) m) := by
  have split : s.onWay (route? m) = s.ahead m ++
      (s.inFlight.dropWhile (· != m)).filter fun x => route? x == route? m := by
    rw [State.ahead, ← List.filter_append, List.takeWhile_append_dropWhile, State.onWay]
  obtain ⟨events, made, left⟩ := State.deliverAll_events (c := c) (strays := strays) between _ s ⟨_, split⟩
  have way : (s.inOrder m).onWay (route? m) = _ := left _ split
  refine ⟨events, fun hm => ?_⟩
  obtain ⟨younger, h⟩ : ∃ younger, s.inFlight.dropWhile (· != m) = m :: younger := by
    cases h : s.inFlight.dropWhile (· != m) with
    | nil => simpa using List.dropWhile_eq_nil_iff.mp h m hm
    | cons x xs =>
      have head := List.head_dropWhile_not (· != m) (l := s.inFlight) (by simp [h])
      simp only [h, List.head_cons, bne_eq_false_iff_eq] at head
      exact ⟨xs, by rw [head]⟩
  rw [h, List.filter_cons_of_pos (by simp), List.cons_append] at way
  exact ⟨State.mem_of_onWay way, State.first_of_onWay way⟩

/-- Everything the resolver has on its way to a door taken in turn. -/
theorem State.settleDoor_events (d : DoorId) (s : State) : Events c strays s (s.settleDoor d) :=
  (State.deliverAll_events (w := some (.toDoorTable d)) rfl _ s ⟨[], (List.append_nil _).symm⟩).1

theorem State.settleDoors_events (ds : List DoorId) (s : State) : Events c strays s (s.settleDoors ds).1 :=
  List.foldlRecOn ds _ .refl fun t ht d _ => ht.trans (t.settleDoor_events d)

/-- The oldest message of a way, by the part of the messages in which it is found. -/
theorem State.onWay_of_find {s : State} {w : Option Route} {m : Instr} (mark : Nat)
    (found : ((s.inFlight.take mark).find? fun x => route? x == w) = some m ∨
      ((s.inFlight.take mark).find? fun x => route? x == w) = none ∧
      ((s.inFlight.drop mark).find? fun x => route? x == w) = some m) :
    route? m = w ∧ ∃ rest, s.onWay (route? m) = m :: rest := by
  have all : (s.inFlight.find? fun x => route? x == w) = some m := by
    rw [← List.take_append_drop mark s.inFlight, List.find?_append]
    rcases found with found | ⟨older, found⟩
    · rw [found, Option.some_or]
    · rw [older, found, Option.none_or]
  have way : route? m = w := by simpa using List.find?_some all
  refine ⟨way, ?_⟩
  rw [way, State.onWay]
  exact ⟨_, List.eq_cons_of_mem_head? (by rw [List.head?_filter]; exact all)⟩

/-- The message owed is the oldest of its way. -/
theorem State.owed_onWay {s : State} {mark : Nat} {m : Instr} {older : Bool} (h : s.owed mark = some (m, older)) :
    (route? m).isSome = true ∧ ∃ rest, s.onWay (route? m) = m :: rest := by
  obtain ⟨w, way, -⟩ := State.owed_way h
  refine ⟨by rw [way]; rfl, ?_⟩
  unfold State.owed at h
  split at h
  · cases h
  · split at h
    · next found => cases h; exact (State.onWay_of_find mark (.inl found)).2
    · next older =>
      split at h
      · next found => cases h; exact (State.onWay_of_find mark (.inr ⟨older, found⟩)).2
      · cases h

/-- A completion takes messages in their order. -/
theorem State.completeFrom_events (fuel mark : Nat) (s : State) : Events c strays s (s.completeFrom fuel mark) := by
  induction fuel generalizing mark s with
  | zero => exact .refl
  | succ n ih =>
    unfold State.completeFrom
    split
    · exact .refl
    · next m older owed =>
      obtain ⟨between, rest, way⟩ := State.owed_onWay owed
      exact .head (.deliver m between (.inl ⟨State.mem_of_onWay way, State.first_of_onWay way⟩)) (ih _ _)

theorem State.complete_events (mark : Nat) (s : State) : Events c strays s (s.complete mark) := s.completeFrom_events _ _

/-! ### Requests -/

theorem State.line_events {y : LinePort} (l : Line) (s : State) (reaction : LineReaction (s.port.line l) y) :
    Events c strays s (s.withLine l y) := .single (.line l reaction)

theorem State.meet_events (command : Instr) (r : Req) (wanted : Bool) (s : State) :
    (s.meet command r wanted).Leaves (Events c strays s) := by
  have met (t : State) (events : Events c strays s t) (b : Bool) :
      (if b then Admission.lost (t.withLine r.line (t.port.line r.line).freed)
        else .taken (t.withLine r.line (t.port.line r.line).busyTaking)).Leaves (Events c strays s) := by
    cases b with
    | false => exact events.trans (t.line_events _ .busyTaking)
    | true => exact events.trans (t.line_events _ .freed)
  unfold State.meet
  dsimp only
  split
  · exact .refl
  · split
    · split
      · exact .refl
      · exact met s .refl _
    · exact met _ (.single (.serial (.heard _))) _

theorem State.reply_events (kind : Byte) (r : Req) (reason : Option Reason) (data : List Byte) (s : State) :
    Events c strays s (s.reply kind r reason data) := by
  unfold State.reply
  dsimp only
  split
  · exact s.line_events _ .freed
  · exact s.line_events _ (.replies _)

theorem State.answer_events {owner : List Byte → State → Answer} {r : Req} (kind : Byte) (lens : List Nat) (s : State)
    (part : (owner r.body s).Leaves (Events c strays s)) : Events c strays s (s.answer kind r lens owner) := by
  have carried : (s.carryOut lens owner r).Leaves (Events c strays s) := by
    unfold State.carryOut
    split
    · split <;> rename_i answered <;> rw [answered] at part
      · trivial
      · exact Relation.ReflTransGen.trans part (State.complete_events _ _)
      · exact part
    · trivial
  unfold State.answer
  split <;> rename_i answered <;> rw [answered] at carried
  · exact s.reply_events _ _ _ _
  · exact Relation.ReflTransGen.trans carried (State.reply_events _ _ _ _ _)
  · exact Relation.ReflTransGen.trans carried (State.reply_events _ _ _ _ _)

/-- A request served is a chain of events where its owner's part is. -/
theorem State.serve_events {owner : List Byte → State → Answer} (command : Instr) (kind : Byte) (r : Req)
    (lens : List Nat) (s : State) (part : ∀ t, (owner r.body t).Leaves (Events c strays t)) :
    Events c strays s (s.serve command kind r lens owner) := by
  have met := s.meet_events (c := c) (strays := strays) command r (!r.broadcast || takenByBroadcast kind)
  unfold State.serve
  split <;> rename_i admitted <;> rw [admitted] at met
  · exact met
  · exact Relation.ReflTransGen.trans met (State.answer_events _ _ _ (part _))

/-- What is not wanted is not taken (R166). -/
theorem State.meet_unwanted (command : Instr) (r : Req) (s : State) : ∃ t, s.meet command r false = .lost t := by
  unfold State.meet
  dsimp only
  split
  · exact ⟨_, rfl⟩
  · split
    · split
      · exact ⟨_, rfl⟩
      · exact ⟨_, if_pos (by simp)⟩
    · exact ⟨_, if_pos (by simp)⟩

/-- A RESTART that is taken is answered before anything else happens (R179). -/
theorem State.restart_answer_events (r : Req) (addressed : r.broadcast = false) (s : State) :
    Events c strays s (s.answer 0x1D r [0] (State.restartRequested r.line)) := by
  unfold State.answer State.carryOut
  split_ifs with len
  · unfold State.restartRequested
    dsimp only
    generalize ht : (if (s.port.line (otherLine r.line)).waiting.isSome = true then
      s.withLine (otherLine r.line) (s.port.line (otherLine r.line)).freed else s) = t
    have freed : Events c strays s t := by
      rw [← ht]
      split
      · exact s.line_events _ .freed
      · exact .refl
    have quiet : t.inFlight = s.inFlight := by
      rw [← ht]
      split <;> rfl
    rw [State.complete_of_none (by simp [quiet]), State.reply]
    simp only [addressed, Bool.false_eq_true, if_false]
    refine freed.tail ?_
    convert Event.restartAwaited (c := c) (strays := strays) (s := t) r.line _ using 2
    cases r.line <;> rfl
  · exact s.reply_events _ _ _ _

theorem State.restart_serve_events (r : Req) (s : State) :
    Events c strays s (s.serve (.restart r) 0x1D r [0] (State.restartRequested r.line)) := by
  cases addressed : r.broadcast with
  | true =>
    have met := s.meet_events (c := c) (strays := strays) (.restart r) r false
    obtain ⟨t, lost⟩ := s.meet_unwanted (.restart r) r
    rw [lost] at met
    have wanted : (!r.broadcast || takenByBroadcast 0x1D) = false := by rw [addressed]; rfl
    rw [State.serve, wanted, lost]
    exact met
  | false =>
    have met := s.meet_events (c := c) (strays := strays) (.restart r) r (!r.broadcast || takenByBroadcast 0x1D)
    unfold State.serve
    split <;> rename_i admitted <;> rw [admitted] at met
    · exact met
    · exact Relation.ReflTransGen.trans met (State.restart_answer_events r addressed _)

/-! ### The owners' parts -/

section
variable (body : List Byte) (s : State)

theorem State.doorStatus_events (r : Req) (command : c = .doorStatus r) :
    (s.doorStatus body).Leaves (Events c strays s) := by
  unfold State.doorStatus
  split
  · trivial
  · next ds _ => exact List.foldlRecOn ds _ .refl fun t ht d _ => ht.tail (.readDoor d r command)

theorem State.driveTest_events : (s.driveTest body).Leaves (Events c strays s) := by
  unfold State.driveTest
  split
  · trivial
  · split
    · trivial
    · next isolated =>
      split
      · trivial
      · next idle => exact .single (.door _ (.beginTest (not_not.mp isolated) idle))

theorem State.alarmRead_events : (s.alarmRead body).Leaves (Events c strays s) := by
  refine .ite trivial ?_
  dsimp only [Answer.Leaves]
  split
  · exact .single (.alarms _)
  · exact .refl

theorem State.alarmAck_events : (s.alarmAck body).Leaves (Events c strays s) := by
  refine .ite (.ite (.single (.alarms _)) trivial) ?_
  unfold State.alarmAckOne
  split
  · exact .ite (.single (.alarms _)) trivial
  · trivial

theorem State.modeSet_events : (s.modeSet body).Leaves (Events c strays s) := by
  unfold State.modeSet
  split
  · trivial
  · exact .single (.orders (.setMode _))

theorem State.isolate_events : (s.isolate body).Leaves (Events c strays s) := by
  unfold State.isolate
  split
  · trivial
  · split
    · trivial
    · next present =>
      split
      · exact .refl
      · next connected => exact .single (.isolateDoor _ present connected)

/-- An isolated door acts on nothing that the resolver has on its way to it. -/
theorem State.settleDoor_isolated (d : DoorId) {s : State} (isolated : (s.door d).motion = .isolated) :
    ((s.settleDoor d).door d).motion = .isolated ∧ ((s.settleDoor d).door d).testResult = (s.door d).testResult := by
  have still (w : Work) (b : Door) (bc : Channel) (f : Work → Work) (a : Standing)
      (hf : f w = w ∨ f w = w.withStanding a) (h : w.door.motion = .isolated) :
      (w.event b bc f).door.motion = .isolated ∧ (w.event b bc f).door.testResult = w.door.testResult := by
    have notDue : (f w).startIfDue = f w := by
      rcases hf with hf | hf <;> simp [hf, Work.startIfDue, Door.due, Work.withStanding, h]
    unfold Work.event Work.flagChange
    rw [notDue]
    rcases hf with hf | hf <;> rw [hf] <;> split <;> exact ⟨h, rfl⟩
  refine List.foldlRecOn (motive := fun t : State => (t.door d).motion = .isolated ∧
    (t.door d).testResult = (s.door d).testResult) _ _ ⟨isolated, rfl⟩ fun t ht m hm => ?_
  obtain ⟨motion, result⟩ := ht
  have way : route? m = some (.toDoorTable d) := by simpa using (List.mem_filter.mp hm).2
  cases m <;> cases way
  case standingAuthorityReport a =>
    have kept := still ((t.taking (.standingAuthorityReport d a)).work d) (t.door d) (t.channel d) (fun w => w.order a)
      .none (.inr (by simp only [Work.order]; rw [show ((t.taking _).work d).door.motion = .isolated from motion])) motion
    rw [State.deliver, State.takeReport]
    simp only [State.doorEvent_door]
    exact ⟨kept.1, kept.2.trans result⟩
  case handleRuling r =>
    have kept := still ((t.taking (.handleRuling d r)).work d) (t.door d) (t.channel d) (fun w => w.rule r)
      .none (.inl (by simp only [Work.rule]; rw [show ((t.taking _).work d).door.motion = .isolated from motion])) motion
    rw [State.deliver, State.takeRuling]
    simp only [State.doorEvent_door]
    exact ⟨kept.1, kept.2.trans result⟩

theorem State.restore_events : (s.restore body).Leaves (Events c strays s) := by
  unfold State.restore
  split
  · trivial
  · next d _ =>
    split
    · trivial
    · split
      · exact .refl
      · next isolated =>
        split
        · trivial
        · next idle =>
          obtain ⟨still, result⟩ := State.settleDoor_isolated d (not_not.mp isolated)
          have restored : Event c strays (s.settleDoor d) ((s.settleDoor d).restoreDoor d) :=
            .restoreDoor d still (by rwa [result])
          exact ((s.settleDoor_events d).tail restored).trans (State.complete_events _ _)

theorem State.floodSet_events : (s.floodSet body).Leaves (Events c strays s) := by
  have flagged := (s.settleDoors_events (c := c) (strays := strays)
    (allDoors.filter (floodNewlyBars s.image s.resolver (byteAt body 0)))).tail (.orders (.floodSet (byteAt body 0)))
  have stopped := List.foldlRecOn (motive := Events c strays s)
    (allDoors.filter (floodNamed s.image s.resolver (byteAt body 0))) (fun t d => t.doorEvent t d Work.floodStop) flagged
    fun t ht d _ => ht.tail (.door d .floodStop)
  exact stopped.trans (State.complete_events _ _)

theorem State.emergencyRelease_events (r : Req) (command : c = .emergencyRelease r) :
    (s.emergencyRelease body).Leaves (Events c strays s) := by
  unfold State.emergencyRelease
  split
  · trivial
  · next inactive => exact .single (.orders (.releaseLatch r command (by simpa using inactive)))

theorem State.maintRead_events : (s.maintRead body).Leaves (Events c strays s) := by
  unfold State.maintRead
  split
  · trivial
  · exact .refl

theorem State.captureRead_events : (s.captureRead body).Leaves (Events c strays s) := by
  unfold State.captureRead
  split
  · trivial
  · exact .refl

theorem State.linesClear_events : (s.linesClear body).Leaves (Events c strays s) := by
  unfold State.linesClear
  split
  · trivial
  · exact .single (.serial (.clearErrors _))

theorem State.configRead_events : (s.configRead body).Leaves (Events c strays s) := by
  refine .ite trivial (.ite .refl ?_)
  split
  · trivial
  · exact .refl

theorem State.configStage_events : (s.configStage body).Leaves (Events c strays s) :=
  .ite trivial (.ite trivial (.ite (.ite (.single (.store _ rfl)) trivial) (.ite (.single (.store _ rfl)) trivial)))

theorem State.configCommit_events : (s.configCommit body).Leaves (Events c strays s) := by
  refine .ite trivial ?_
  split
  · trivial
  · exact ((s.settleDoors_events _).tail .commit).trans (State.complete_events _ _)

end

/-! ### Commands -/

theorem State.inputEnds_events (i : InputId) {f : Filter} (s : State) (ends : FilterEnds s c i f) (line : i ≠ .resetPin) :
    Events c strays s ((s.withFilter i f).inputEvent s i f.filtered) := .single (.input i f ends line)

/-- A restart is its blocks' part, their reports taken and the alarm list's own part. -/
theorem State.restart_events (cause : StartCause) {s t : State} (blocks : Events c strays t (s.restartBlocks cause)) :
    Events c strays t (s.restart cause) := by
  unfold State.restart
  exact (blocks.trans (State.complete_events _ _)).tail (.alarms _)

theorem State.filterExpiry_events (i : InputId) (s : State) (command : c = .filterExpiry i) :
    Events c strays s (s.filterExpiry i) := by
  unfold State.filterExpiry
  dsimp only
  split
  · next p primed pending =>
    have ends : FilterEnds s c i ((s.filter i).expired p) := .inl ⟨p, primed, pending, command, rfl⟩
    by_cases line : i = .resetPin
    · subst line
      have written : Events c strays s (s.withFilter .resetPin ((s.filter .resetPin).expired p)) :=
        .single (.filter _ _ (fun h => absurd rfl h) (.inr ends))
      unfold State.inputEvent
      dsimp only
      split
      · exact State.restart_events _ (written.tail .pinRestart)
      · exact written
    · exact s.inputEnds_events i ends line
  · exact .refl

theorem State.firstIntervalExpiry_events (i : InputId) (s : State) (command : c = .firstIntervalExpiry i) :
    Events c strays s (s.firstIntervalExpiry i) := by
  unfold State.firstIntervalExpiry
  dsimp only
  split
  · next runs =>
    have ends : FilterEnds s c i (s.filter i).firstExpired := .inr ⟨runs, command, rfl⟩
    refine Relation.ReflTransGen.tail ?_ (.primed i)
    split
    · next same => exact .single (.filter _ _ (fun _ => same) (.inr ends))
    · by_cases line : i = .resetPin
      · subst line
        exact .single (.filter _ _ (fun h => absurd rfl h) (.inr ends))
      · have event : (s.withFilter i (s.filter i).firstExpired).firstEvent s i (s.filter i).raw =
            (s.withFilter i (s.filter i).firstExpired).inputEvent s i (s.filter i).firstExpired.filtered := by
          cases i <;> first | rfl | exact absurd rfl line
        rw [event]
        exact s.inputEnds_events i ends line
  · exact .refl

theorem State.voltage_events (w : Wire) (millivolts : Nat) (s : State) (command : c = .rawInputChange w millivolts) :
    Events c strays s (s.voltage w millivolts) := by
  cases w with
  | input i => exact .single (.filter _ _ (fun _ => Filter.onVoltage_filtered _ _ _) (.inl ⟨_, _, command⟩))
  | _ => exact .single (.straps _)

/-- Each command is a chain of events; the message that a command takes is a stray where it is not on its way. -/
theorem exec_events (c : Instr) (s : State) : LeadsTo (Events c (c ∉ s.inFlight) s) (exec c s) := by
  have message (between : (route? c).isSome = true) : LeadsTo (Events c (c ∉ s.inFlight) s) (exec c s) := by
    rw [exec_message between]
    obtain ⟨events, turn⟩ := s.inOrder_events (c := c) (strays := c ∉ s.inFlight) c between
    refine events.tail (.deliver c between ?_)
    by_cases made : c ∈ s.inFlight
    · exact .inl (turn made)
    · exact .inr ⟨made, rfl⟩
  cases c with
  | powerOn => exact .single (.powerOn rfl)
  | rawInputChange w mv => exact s.voltage_events w mv rfl
  | filterExpiry i => exact s.filterExpiry_events i rfl
  | firstIntervalExpiry i => exact s.firstIntervalExpiry_events i rfl
  | checkTimerExpiry d v => exact .single (.door d (.checkExpiry v))
  | driveTestHoldExpiry d => exact .single (.door d .holdExpiry)
  | driveTestOnCheckExpiry d => exact .single (.door d .onCheckExpiry)
  | driveTestOffCheckExpiry d => exact .single (.door d .offCheckExpiry)
  | warningTimerExpiry d => exact .single (.door d .warningExpiry)
  | dwellTimerExpiry d => exact .single (.door d .dwellExpiry)
  | edgeClearTimerExpiry d => exact .single (.door d .edgeClearExpiry)
  | transitLimitExpiry d => exact .single (.door d .transitExpiry)
  | deadlineExpiry d => exact .single (.door d .deadlineExpiry)
  | groupTimeSecond => exact .single (.time _)
  | storeWriteComplete success =>
    simp only [exec, execStoreWriteComplete]
    split
    · cases success with
      | true => exact .single (s.writeSucceeded_event _)
      | false => exact .single (s.writeFailed_event _)
    · exact .refl
  | lineCharacter l ch stop => exact .single (.serial (.character l ch stop))
  | gapTimerExpiry l => exact .single (.serial (.gapExpired l))
  | silenceTimerExpiry l =>
    have expired : Event (.silenceTimerExpiry l) (.silenceTimerExpiry l ∉ s.inFlight) s
        (s.finishSerial (s.serial.silenceExpired l).1) := .serial (.silenceExpired l)
    simp only [exec, execSilenceTimerExpiry, LeadsTo]
    split
    · exact .tail (.single expired) (.orders .remoteLost)
    · exact .single expired
  | replySent l =>
    simp only [exec, execReplySent]
    split
    · exact .refl
    · next sends =>
      simp only [LeadsTo]
      split
      · exact State.restart_events _ (.single (.replyRestart l))
      · next goesOn => exact .single (.replyGone l (by simpa [Option.isSome_iff_ne_none] using sends) goesOn)
  | unknownKindRequest kind r =>
    simp only [exec, execUnknownKindRequest]
    have met := s.meet_events (c := .unknownKindRequest kind r) (strays := .unknownKindRequest kind r ∉ s.inFlight)
      (.unknownKindRequest kind r) r (!r.broadcast)
    split
    · split <;> rename_i admitted <;> rw [admitted] at met
      · exact met
      · exact Relation.ReflTransGen.trans met (State.reply_events _ _ _ _ _)
    · trivial
  | identify r | groupStatus r => exact s.serve_events _ _ r _ fun _ => .single (.attention _ _)
  | timeSet r => exact s.serve_events _ _ r _ fun _ => .single (.time _)
  | configDiscard r => exact s.serve_events _ _ r _ fun _ => .single (.store _ rfl)
  | linesRead r | driveCaptureRead r => exact s.serve_events _ _ r _ fun _ => .refl
  | doorStatus r => exact s.serve_events _ _ r _ fun t => t.doorStatus_events _ r rfl
  | alarmRead r => exact s.serve_events _ _ r _ fun t => t.alarmRead_events _
  | alarmAck r => exact s.serve_events _ _ r _ fun t => t.alarmAck_events _
  | modeSet r => exact s.serve_events _ _ r _ fun t => t.modeSet_events _
  | closeDoors r | closeZones r => exact s.serve_events _ _ r _ fun _ => .single (.orders (.closeDoors _))
  | releaseDoors r => exact s.serve_events _ _ r _ fun _ => .single (.orders (.releaseDoors _))
  | floodClear r => exact s.serve_events _ _ r _ fun _ => .single (.orders (.floodClear _))
  | isolate r => exact s.serve_events _ _ r _ fun t => t.isolate_events _
  | restore r => exact s.serve_events _ _ r _ fun t => t.restore_events _
  | floodSet r => exact s.serve_events _ _ r _ fun t => t.floodSet_events _
  | emergencyRelease r => exact s.serve_events _ _ r _ fun t => t.emergencyRelease_events _ r rfl
  | driveTest r => exact s.serve_events _ _ r _ fun t => t.driveTest_events _
  | faultClear r => exact s.serve_events _ _ r _ fun _ => .single (.log (.clearFault _))
  | countersClear r => exact s.serve_events _ _ r _ fun _ => .single (.log (.clearCounters _))
  | captureRead r => exact s.serve_events _ _ r _ fun t => t.captureRead_events _
  | maintRead r => exact s.serve_events _ _ r _ fun t => t.maintRead_events _
  | linesClear r => exact s.serve_events _ _ r _ fun t => t.linesClear_events _
  | supervisionSet r => exact s.serve_events _ _ r _ fun _ => .single (.serial (.setInterval _))
  | configRead r => exact s.serve_events _ _ r _ fun t => t.configRead_events _
  | configStage r => exact s.serve_events _ _ r _ fun t => t.configStage_events _
  | configCommit r => exact s.serve_events _ _ r _ fun t => t.configCommit_events _
  | restart r => exact s.restart_serve_events r
  | _ => exact message rfl

/-! ### Steps -/

/-- A stroke tick is a chain of ticks and deadlines. -/
theorem State.tick_events (s : State) : Events c strays s s.tick := by
  refine List.foldlRecOn (motive := Events c strays s) allDoors _ .refl fun t ht d _ => ?_
  dsimp only
  split
  · next moving =>
    split
    · next short => exact ht.tail (.tick d moving short)
    · exact ht.tail (.door d .deadlineExpiry)
  · exact ht

end

/-- The command that a step takes, and the chain of events that the step is. -/
theorem step_events {s t : State} (h : step s = .next t) :
    ∃ c s', (s' = s ∨ ∃ cs, s' = { s with pending := cs }) ∧ Events c (c ∉ s.inFlight) s' t ∧
      (TakesItsMessage s → (route? c).isSome = true → c ∈ s.inFlight) := by
  have meaning {c : Instr} {s' : State} (quiet : s'.inFlight = s.inFlight) (h : exec c s' = .next t) :
      Events c (c ∉ s.inFlight) s' t := by
    have events := exec_events c s'
    rw [h, quiet] at events
    exact events
  unfold step at h
  split at h
  · next c rest pending =>
    exact ⟨c, { s with pending := rest }, .inr ⟨rest, rfl⟩, meaning rfl h, fun own => own.1 c rest pending⟩
  · unfold State.idle at h
    split at h
    · next m ms inFlight => exact ⟨m, s, .inl rfl, meaning rfl h, fun _ _ => by simp [inFlight]⟩
    · split at h
      · next c waits => exact ⟨c, s, .inl rfl, meaning rfl h, fun own => own.2 .a c waits⟩
      · split at h
        · next c waits => exact ⟨c, s, .inl rfl, meaning rfl h, fun own => own.2 .b c waits⟩
        · rw [← Host.Outcome.next.inj h]
          exact ⟨.groupTimeSecond, s, .inl rfl, s.tick_events, fun _ between => absurd between Bool.false_ne_true⟩

/-- What every event keeps, on any queue, a step keeps. -/
theorem step_keeps {P : State → Prop} (queue : ∀ s cs, P s → P { s with pending := cs })
    (event : ∀ c strays s t, Event c strays s t → P s → P t) {s t : State} (h : P s) (hstep : step s = .next t) : P t := by
  obtain ⟨c, s', begun, events, -⟩ := step_events hstep
  refine events.keeps (event c _) ?_
  rcases begun with rfl | ⟨cs, rfl⟩
  · exact h
  · exact queue s cs h

/-- What every event keeps but for the taking of a stray message, a step keeps that takes no message but one on its way. -/
theorem step_keeps_own {P : State → Prop} (queue : ∀ s cs, P s → P { s with pending := cs })
    (event : ∀ c strays s t, ((route? c).isSome = true → ¬strays) → Event c strays s t → P s → P t) {s t : State}
    (h : P s) (own : TakesItsMessage s) (hstep : step s = .next t) : P t := by
  obtain ⟨c, s', begun, events, made⟩ := step_events hstep
  refine events.keeps (event c _ · · fun between stray => stray (made own between)) ?_
  rcases begun with rfl | ⟨cs, rfl⟩
  · exact h
  · exact queue s cs h

end Sys2Proof.Machine

/-! Events of the door table for several doors in turn, and what a commit and a restart make of each block. -/

namespace Sys2Proof.Machine

open Sys2Proof

theorem mem_allDoors (d : DoorId) : d ∈ allDoors := List.mem_finRange d

theorem nodup_allDoors : allDoors.Nodup := List.nodup_finRange 24

theorem DoorTableOnly.refl (s : State) : DoorTableOnly s s := ⟨rfl, rfl, rfl, rfl, rfl, rfl, rfl, rfl, rfl, rfl, rfl⟩

theorem DoorTableOnly.trans {s t u : State} (h : DoorTableOnly s t) (k : DoorTableOnly t u) : DoorTableOnly s u :=
  ⟨k.lines.trans h.lines, k.straps.trans h.straps, k.resolver.trans h.resolver, k.alloc.trans h.alloc,
    k.recorder.trans h.recorder, k.alarms.trans h.alarms, k.store.trans h.store, k.port.trans h.port,
    k.time.trans h.time, k.pending.trans h.pending, k.freeDraws.trans h.freeDraws⟩

theorem DoorTableOnly.image {s t : State} (h : DoorTableOnly s t) : t.image = s.image :=
  congrArg Store.active h.store

/-! ### Door events in turn -/

/-- An event of the door table for each of some doors, in the order of the list. -/
@[irreducible] def State.doorEvents (s : State) (ds : List DoorId) (f : DoorId → Work → Work) : State :=
  ds.foldl (fun t d => t.doorEvent t d (f d)) s

/-- The work of the door table on a door through an event that finds the door as it stands. -/
def State.worked (s : State) (d : DoorId) (f : Work → Work) : Work :=
  (s.work d).event (s.door d) (s.channel d) f

section
variable (f : DoorId → Work → Work)

theorem State.doorEvents_frame (ds : List DoorId) (s : State) : DoorTableOnly s (s.doorEvents ds f) := by
  unfold State.doorEvents
  exact List.foldlRecOn ds _ (DoorTableOnly.refl s) fun t h d _ => h.trans (t.doorEvent_onlyDoor t d (f d)).toDoorTableOnly

theorem State.doorEvents_cons (d : DoorId) (ds : List DoorId) (s : State) :
    s.doorEvents (d :: ds) f = (s.doorEvent s d (f d)).doorEvents ds f := by
  unfold State.doorEvents
  rfl

theorem State.doorEvents_nil (s : State) : s.doorEvents [] f = s := by
  unfold State.doorEvents
  rfl

/-- A door that the events do not name is as it was. -/
theorem State.doorEvents_of_notMem {ds : List DoorId} {e : DoorId} (h : e ∉ ds) (s : State) :
    (s.doorEvents ds f).door e = s.door e ∧ (s.doorEvents ds f).channel e = s.channel e := by
  unfold State.doorEvents
  refine List.foldlRecOn (motive := fun t : State => t.door e = s.door e ∧ t.channel e = s.channel e) ds _ ⟨rfl, rfl⟩
    fun t ht d hd => ?_
  have other : e ≠ d := fun he => h (he ▸ hd)
  have frame := t.doorEvent_onlyDoor t d (f d)
  exact ⟨(frame.doors e other).trans ht.1, (frame.channels e other).trans ht.2⟩

/-- An event for one door leaves the work on another as it was. -/
theorem State.worked_doorEvent {d e : DoorId} (other : e ≠ d) (g k : Work → Work) (s : State) :
    (s.doorEvent s d g).worked e k = s.worked e k := by
  have frame := s.doorEvent_onlyDoor s d g
  rw [State.worked, State.work, frame.toDoorTableOnly.image, frame.doors e other, frame.channels e other]
  rfl

/-- A door that the events name once is left as its own event leaves it. -/
theorem State.doorEvents_of_mem {ds : List DoorId} (once : ds.Nodup) {e : DoorId} (h : e ∈ ds) (s : State) :
    (s.doorEvents ds f).door e = (s.worked e (f e)).door ∧
      (s.doorEvents ds f).channel e = (s.worked e (f e)).channel := by
  induction ds generalizing s with
  | nil => cases h
  | cons d ds ih =>
    obtain ⟨fresh, once⟩ := List.nodup_cons.mp once
    rw [State.doorEvents_cons]
    by_cases he : e = d
    · subst he
      obtain ⟨door, channel⟩ := State.doorEvents_of_notMem f fresh (s.doorEvent s e (f e))
      rw [door, channel]
      exact ⟨State.doorEvent_door _ _ _ _, State.doorEvent_channel _ _ _ _⟩
    · rw [← State.worked_doorEvent he (f d) (f e) s]
      exact ih once ((List.mem_cons.mp h).resolve_left he) _

/-- The messages of events in turn. -/
theorem State.doorEvents_inFlight {ds : List DoorId} (once : ds.Nodup) (s : State) :
    (s.doorEvents ds f).inFlight = s.inFlight ++ ds.flatMap fun d => (s.worked d (f d)).out := by
  induction ds generalizing s with
  | nil => rw [State.doorEvents_nil, List.flatMap_nil, List.append_nil]
  | cons d ds ih =>
    obtain ⟨fresh, once⟩ := List.nodup_cons.mp once
    have others : (ds.flatMap fun e => ((s.doorEvent s d (f d)).worked e (f e)).out) =
        ds.flatMap fun e => (s.worked e (f e)).out := by
      refine List.flatMap_congr fun e he => ?_
      have other : e ≠ d := fun h => fresh (h ▸ he)
      rw [State.worked_doorEvent other]
    rw [State.doorEvents_cons, ih once, others, List.flatMap_cons, ← List.append_assoc]
    rfl

end

/-! ### The work of the other blocks behind the door table's -/

section
variable {s t : State} (frame : DoorTableOnly s t)
include frame

theorem DoorTableOnly.orders : t.orders = s.orders := by
  rw [State.orders, frame.image, frame.resolver]
  rfl

theorem DoorTableOnly.flow : t.flow = s.flow := by
  rw [State.flow, frame.image, frame.alloc]
  rfl

theorem DoorTableOnly.log : t.log = s.log := by
  rw [State.log, frame.image, frame.recorder, frame.time]
  rfl

theorem DoorTableOnly.serial : t.serial = s.serial := by
  rw [State.serial, frame.image, frame.port]
  rfl

end

/-! ### A restart's blocks -/

theorem State.restartDoors_eq (s : State) : s.restartDoors = s.doorEvents allDoors fun _ => Work.restart := by
  unfold State.doorEvents
  rfl

/-- The blocks' part of a restart behind that of the door table. -/
def State.restartRest (cause : StartCause) (t : State) : State :=
  let s2 := t.ordersEvent Orders.restart
  let s3 := s2.flowEvent fun f => f.restart s2.lines
  let s4 := s3.logEvent Log.restart
  let s5 := s4.restartStore
  s5.serialEvent fun x => x.restart s5.straps cause

/-- What the blocks behind the door table make of the state at a restart, their messages in the order of the blocks (entry 25). -/
theorem State.restartRest_eq (cause : StartCause) (t : State) : t.restartRest cause =
    { t with
      resolver := (Orders.restart t.orders).resolver
      alloc := (t.flow.restart t.lines).alloc
      recorder := (Log.restart t.log).recorder
      store := { t.store with staging := t.store.active }
      port := (t.serial.restart t.straps cause).port
      inFlight := t.inFlight ++ (Orders.restart t.orders).out ++ (t.flow.restart t.lines).out ++ (Log.restart t.log).out ++
        [if t.store.defaultLoaded then .alarmRaise .configDefault .group else .alarmClear .configDefault .group] ++
        (t.serial.restart t.straps cause).out } := by
  simp [State.restartRest, State.ordersEvent, State.finishOrders, State.flowEvent, State.finishFlow, State.logEvent,
    State.finishLog, State.restartStore, State.serialEvent, State.finishSerial, State.orders, State.flow, State.log,
    State.serial, State.image, State.send, State.withResolver, State.withAlloc, State.withRecorder, State.withStore,
    State.withPort]

theorem State.restartBlocks_eq (cause : StartCause) (s : State) :
    s.restartBlocks cause = (s.discardMessages.doorEvents allDoors fun _ => Work.restart).restartRest cause := by
  rw [← State.restartDoors_eq]
  rfl

theorem State.restartBlocks_frame (s : State) :
    DoorTableOnly s (s.discardMessages.doorEvents allDoors fun _ => Work.restart) :=
  (DoorTableOnly.mk rfl rfl rfl rfl rfl rfl rfl rfl rfl rfl rfl : DoorTableOnly s s.discardMessages).trans
    (State.doorEvents_frame _ _ _)

section
variable (cause : StartCause) (s : State)

theorem State.restartBlocks_lines : (s.restartBlocks cause).lines = s.lines := by
  rw [State.restartBlocks_eq, State.restartRest_eq, (State.restartBlocks_frame s).lines]

theorem State.restartBlocks_straps : (s.restartBlocks cause).straps = s.straps := by
  rw [State.restartBlocks_eq, State.restartRest_eq, (State.restartBlocks_frame s).straps]

theorem State.restartBlocks_alarms : (s.restartBlocks cause).alarms = s.alarms := by
  rw [State.restartBlocks_eq, State.restartRest_eq, (State.restartBlocks_frame s).alarms]

theorem State.restartBlocks_time : (s.restartBlocks cause).time = s.time := by
  rw [State.restartBlocks_eq, State.restartRest_eq, (State.restartBlocks_frame s).time]

theorem State.restartBlocks_pending : (s.restartBlocks cause).pending = s.pending := by
  rw [State.restartBlocks_eq, State.restartRest_eq, (State.restartBlocks_frame s).pending]

theorem State.restartBlocks_freeDraws : (s.restartBlocks cause).freeDraws = s.freeDraws := by
  rw [State.restartBlocks_eq, State.restartRest_eq, (State.restartBlocks_frame s).freeDraws]


theorem State.restartBlocks_store : (s.restartBlocks cause).store = { s.store with staging := s.store.active } := by
  rw [← (State.restartBlocks_frame s).store, State.restartBlocks_eq, State.restartRest_eq]

theorem State.restartBlocks_resolver : (s.restartBlocks cause).resolver = (Orders.restart s.orders).resolver := by
  rw [← (State.restartBlocks_frame s).orders, State.restartBlocks_eq, State.restartRest_eq]

theorem State.restartBlocks_alloc : (s.restartBlocks cause).alloc = (s.flow.restart s.lines).alloc := by
  rw [← (State.restartBlocks_frame s).flow, ← (State.restartBlocks_frame s).lines, State.restartBlocks_eq, State.restartRest_eq]

theorem State.restartBlocks_recorder : (s.restartBlocks cause).recorder = (Log.restart s.log).recorder := by
  rw [← (State.restartBlocks_frame s).log, State.restartBlocks_eq, State.restartRest_eq]

theorem State.restartBlocks_port : (s.restartBlocks cause).port = (s.serial.restart s.straps cause).port := by
  rw [← (State.restartBlocks_frame s).serial, ← (State.restartBlocks_frame s).straps, State.restartBlocks_eq, State.restartRest_eq]

/-- A restart leaves each door as its own part of it does. -/
theorem State.restartBlocks_door (d : DoorId) :
    (s.restartBlocks cause).door d = (s.worked d Work.restart).door ∧
      (s.restartBlocks cause).channel d = (s.worked d Work.restart).channel := by
  have part := State.doorEvents_of_mem (fun _ => Work.restart) nodup_allDoors (mem_allDoors d) s.discardMessages
  have doors : (s.restartBlocks cause).doors = (s.discardMessages.doorEvents allDoors fun _ => Work.restart).doors := by
    rw [State.restartBlocks_eq, State.restartRest_eq]
  have channels : (s.restartBlocks cause).channels =
      (s.discardMessages.doorEvents allDoors fun _ => Work.restart).channels := by
    rw [State.restartBlocks_eq, State.restartRest_eq]
  rw [State.door, State.channel, doors, channels]
  exact part

end

/-! ### A commit's blocks -/

/-- The door table's part of a commit reads the image and the resolver as they stand when it begins (R47). -/
theorem State.commitDoors_eq (old : Image) (s : State) :
    s.commitDoors old = s.doorEvents allDoors fun d w =>
      w.commit old.doors[d] (standingOfFresh s.image s.resolver d) := by
  have part (ds : List DoorId) : ∀ t : State, t.image = s.image → t.resolver = s.resolver →
      ds.foldl (fun t d => t.doorEvent t d fun w => w.commit old.doors[d] (standingOfFresh t.image t.resolver d)) t =
        t.doorEvents ds fun d w => w.commit old.doors[d] (standingOfFresh s.image s.resolver d) := by
    induction ds with
    | nil => exact fun t _ _ => (State.doorEvents_nil _ t).symm
    | cons d ds ih =>
      intro t image resolver
      rw [State.doorEvents_cons, List.foldl_cons, image, resolver]
      exact ih _ image resolver
  exact part allDoors s rfl rfl

/-- The store's and the alarm list's part of a commit, which come first (R139, R158). -/
def State.commitBegun (s : State) : State :=
  ((s.withStore { s.store with active := s.store.staging, defaultLoaded := false, writing := true }).send
    [.alarmClear .configDefault .group]).alarmEvent fun i t a => a.commit s.image i t

/-- The blocks' part of a commit behind that of the door table. -/
def State.commitRest (old : Image) (t : State) : State :=
  let s4 := t.ordersEvent fun o => o.commit old
  let s5 := s4.flowEvent fun f => f.commit s4.lines
  let s6 := s5.logEvent fun l => l.commit old
  s6.serialEvent fun x => x.commit old

/-- What the blocks behind the door table make of the state at a commit, their messages in the order of the blocks (entry 25). -/
theorem State.commitRest_eq (old : Image) (t : State) : t.commitRest old =
    { t with
      resolver := (Orders.commit old t.orders).resolver
      alloc := (t.flow.commit t.lines).alloc
      recorder := (Log.commit old t.log).recorder
      port := (t.serial.commit old).port
      inFlight := t.inFlight ++ (Orders.commit old t.orders).out ++ (t.flow.commit t.lines).out ++ (Log.commit old t.log).out ++
        (t.serial.commit old).out } := by
  simp [State.commitRest, State.ordersEvent, State.finishOrders, State.flowEvent, State.finishFlow, State.logEvent,
    State.finishLog, State.serialEvent, State.finishSerial, State.orders, State.flow, State.log, State.serial, State.image,
    State.send, State.withResolver, State.withAlloc, State.withRecorder, State.withPort]

theorem State.commit_eq (s : State) :
    s.commit = (s.commitBegun.doorEvents allDoors fun d w =>
      w.commit s.image.doors[d] (standingOfFresh s.store.staging s.resolver d)).commitRest s.image := by
  have doors := State.commitDoors_eq s.image s.commitBegun
  have resolver : s.commitBegun.resolver = s.resolver := rfl
  have image : s.commitBegun.image = s.store.staging := rfl
  rw [resolver, image] at doors
  rw [← doors]
  rfl

theorem State.commit_frame (s : State) :
    DoorTableOnly s.commitBegun (s.commitBegun.doorEvents allDoors fun d w =>
      w.commit s.image.doors[d] (standingOfFresh s.store.staging s.resolver d)) :=
  State.doorEvents_frame _ _ _

section
variable (s : State)

theorem State.commit_lines : s.commit.lines = s.lines := by
  rw [State.commit_eq, State.commitRest_eq, s.commit_frame.lines]
  rfl

theorem State.commit_straps : s.commit.straps = s.straps := by
  rw [State.commit_eq, State.commitRest_eq, s.commit_frame.straps]
  rfl

theorem State.commit_time : s.commit.time = s.time := by
  rw [State.commit_eq, State.commitRest_eq, s.commit_frame.time]
  rfl

theorem State.commit_pending : s.commit.pending = s.pending := by
  rw [State.commit_eq, State.commitRest_eq, s.commit_frame.pending]
  rfl

theorem State.commit_freeDraws : s.commit.freeDraws = s.freeDraws := by
  rw [State.commit_eq, State.commitRest_eq, s.commit_frame.freeDraws]
  rfl

theorem State.commit_store :
    s.commit.store = { s.store with active := s.store.staging, defaultLoaded := false, writing := true } := by
  rw [State.commit_eq, State.commitRest_eq, s.commit_frame.store]
  rfl

theorem State.commit_alarms : s.commit.alarms = s.alarms.commit s.image s.store.staging s.time := by
  rw [State.commit_eq, State.commitRest_eq, s.commit_frame.alarms]
  rfl

theorem State.commit_resolver :
    s.commit.resolver = (Orders.commit s.image ⟨s.store.staging, s.resolver, []⟩).resolver := by
  have orders : s.commitBegun.orders = ⟨s.store.staging, s.resolver, []⟩ := rfl
  rw [← orders, ← s.commit_frame.orders, State.commit_eq, State.commitRest_eq]

theorem State.commit_alloc : s.commit.alloc = (Flow.commit ⟨s.store.staging, s.alloc, []⟩ s.lines).alloc := by
  have flow : s.commitBegun.flow = ⟨s.store.staging, s.alloc, []⟩ := rfl
  have lines : s.commitBegun.lines = s.lines := rfl
  rw [← flow, ← lines, ← s.commit_frame.flow, ← s.commit_frame.lines, State.commit_eq, State.commitRest_eq]

theorem State.commit_recorder :
    s.commit.recorder = (Log.commit s.image ⟨s.store.staging, s.time, s.recorder, []⟩).recorder := by
  have log : s.commitBegun.log = ⟨s.store.staging, s.time, s.recorder, []⟩ := rfl
  rw [← log, ← s.commit_frame.log, State.commit_eq, State.commitRest_eq]

theorem State.commit_port : s.commit.port = (Serial.commit ⟨s.store.staging, s.port, []⟩ s.image).port := by
  have serial : s.commitBegun.serial = ⟨s.store.staging, s.port, []⟩ := rfl
  rw [← serial, ← s.commit_frame.serial, State.commit_eq, State.commitRest_eq]

/-- A commit leaves each door as its own part of it does. -/
theorem State.commit_door (d : DoorId) :
    let w := s.commitBegun.worked d fun w =>
      w.commit s.image.doors[d] (standingOfFresh s.store.staging s.resolver d)
    s.commit.door d = w.door ∧ s.commit.channel d = w.channel := by
  let f : DoorId → Work → Work := fun d w => w.commit s.image.doors[d] (standingOfFresh s.store.staging s.resolver d)
  have part := State.doorEvents_of_mem f nodup_allDoors (mem_allDoors d) s.commitBegun
  have doors : s.commit.doors = (s.commitBegun.doorEvents allDoors f).doors := by
    rw [State.commit_eq, State.commitRest_eq]
  have channels : s.commit.channels = (s.commitBegun.doorEvents allDoors f).channels := by
    rw [State.commit_eq, State.commitRest_eq]
  dsimp only
  rw [State.door, State.channel, doors, channels]
  exact part

end

end Sys2Proof.Machine

/-! Every step keeps the wear counters in range and every also-seen set without its capture's own kind (R112, R115): what each
procedure of the fault recorder leaves of one door's records. -/

namespace Sys2Proof.Machine

open Sys2Proof

/-- The records of one door as R112 and R115 have them. -/
def DoorFaults.Ok (x : DoorFaults) : Prop :=
  x.counters.overtravel ≤ 65535 ∧ x.counters.switch ≤ 65535 ∧ x.counters.obstruction ≤ 65535 ∧
  x.counters.drift ≤ 65535 ∧ x.counters.drive ≤ 65535 ∧ ∀ c ∈ x.capture, c.alsoSeen &&& faultBit c.kind = 0

/-- The records of every door as R112 and R115 have them. -/
def Recorder.Ok (r : Recorder) : Prop := ∀ d : DoorId, r.doors[d].Ok

/-- The same of the records that the recorder works on. -/
abbrev Log.Ok (l : Log) : Prop := l.recorder.Ok

theorem saturatingSucc_le (top x : Nat) : saturatingSucc top x ≤ top := by
  unfold saturatingSucc
  split
  · next below => exact below
  · exact le_rfl

/-! ### One door's records -/

theorem DoorFaults.Ok.clear : DoorFaults.clear.Ok := by
  simp [DoorFaults.Ok, DoorFaults.clear, Wear.zero]

theorem DoorFaults.Ok.capture {x : DoorFaults} (h : x.Ok) {o : Option Capture}
    (own : ∀ c ∈ o, c.alsoSeen &&& faultBit c.kind = 0) : DoorFaults.Ok { x with capture := o } := by
  obtain ⟨overtravel, switch, obstruction, drift, drive, -⟩ := h
  exact ⟨overtravel, switch, obstruction, drift, drive, own⟩

theorem DoorFaults.Ok.seen {x : DoorFaults} (h : x.Ok) {c : Capture} (held : x.capture = some c) :
    c.alsoSeen &&& faultBit c.kind = 0 := by
  obtain ⟨-, -, -, -, -, own⟩ := h
  exact own c held

theorem DoorFaults.Ok.count {x : DoorFaults} (h : x.Ok) (k : WearKind) :
    DoorFaults.Ok { x with counters := x.counters.count k } := by
  obtain ⟨overtravel, switch, obstruction, drift, drive, own⟩ := h
  cases k with
  | overtravel => exact ⟨saturatingSucc_le _ _, switch, obstruction, drift, drive, own⟩
  | switch => exact ⟨overtravel, saturatingSucc_le _ _, obstruction, drift, drive, own⟩
  | obstruction => exact ⟨overtravel, switch, saturatingSucc_le _ _, drift, drive, own⟩
  | drift => exact ⟨overtravel, switch, obstruction, saturatingSucc_le _ _, drive, own⟩
  | drive => exact ⟨overtravel, switch, obstruction, drift, saturatingSucc_le _ _, own⟩

/-- Two kinds share no bit of an also-seen set (R176). -/
theorem faultBit_and_of_ne {k k' : FaultKind} (h : k ≠ k') : faultBit k &&& faultBit k' = 0 := by
  revert h
  cases k <;> cases k' <;> decide

/-- What is also seen is not the capture's own kind (R111, R112). -/
theorem alsoSee_own {c : Capture} (h : c.alsoSeen &&& faultBit c.kind = 0) (k : FaultKind) :
    (alsoSee c k).alsoSeen &&& faultBit (alsoSee c k).kind = 0 := by
  unfold alsoSee
  split
  · exact h
  · next other =>
    change (c.alsoSeen ||| faultBit k) &&& faultBit c.kind = 0
    rw [BitVec.and_or_distrib_right, h, faultBit_and_of_ne other]
    rfl

/-- The second kind of a report is not the one that fills the capture (R109). -/
theorem byPriority_own (k : FaultKind) (second : Option FaultKind) :
    seenOf (byPriority k second).2 &&& faultBit (byPriority k second).1 = 0 := by
  cases second with
  | none => exact BitVec.zero_and
  | some k' => cases k <;> cases k' <;> decide

/-! ### The recorder's procedures -/

namespace Log.Ok

theorem ite {l l' : Log} {c : Prop} [Decidable c] (h : l.Ok) (h' : l'.Ok) : (if c then l else l').Ok := by
  split
  · exact h
  · exact h'

variable {l : Log} (h : l.Ok)
include h

theorem withDoor (d : DoorId) {x : DoorFaults} (hx : x.Ok) : (l.withDoor d x).Ok := by
  intro e
  by_cases he : d = e
  · subst he
    simpa [Log.door, Log.withDoor] using hx
  · have : d.val ≠ e.val := fun k => he (Fin.ext k)
    simpa [Log.door, Log.withDoor, this] using h e

theorem evalWear (d : DoorId) : (l.evalWear d).Ok := by
  have evaluated := h.withDoor d (x := { l.door d with
    wear := (l.door d).counters.exceeds l.image.group.wearThresholds }) (h d)
  exact .ite evaluated (.ite evaluated evaluated)

theorem count (d : DoorId) (k : WearKind) : (l.count d k).Ok := (h.withDoor d ((h d).count k)).evalWear d

theorem countFault (d : DoorId) (k : FaultKind) : (l.countFault d k).Ok := by
  unfold Log.countFault
  split
  · exact h
  · exact h.count _ _

theorem fill (d : DoorId) (k : FaultKind) (second : Option FaultKind) (x : FaultData) : (l.fill d k second x).Ok :=
  h.withDoor d ((h d).capture fun _ held => by cases held; exact byPriority_own k second)

theorem also (d : DoorId) {c : Capture} (held : (l.door d).capture = some c) (k : FaultKind)
    (second : Option FaultKind) : (l.also d c k second).Ok := by
  have own := alsoSee_own ((h d).seen held) k
  refine h.withDoor d ((h d).capture fun c' hc' => ?_)
  cases second with
  | none => cases hc'; exact own
  | some k' => cases hc'; exact alsoSee_own own k'

theorem report (d : DoorId) (k : FaultKind) (second : Option FaultKind) (persisting : Bool) (x : FaultData) :
    (l.report d k second persisting x).Ok := by
  unfold Log.report
  refine .ite ?_ h
  have captured : Log.Ok (match (l.door d).capture with
      | none => l.fill d k second x
      | some c => l.also d c k second) := by
    split
    · exact h.fill _ _ _ _
    · next held => exact h.also d held k second
  refine .ite captured ?_
  cases second with
  | none => exact captured.countFault _ _
  | some k' => exact (captured.countFault _ _).countFault _ _

theorem notice (d : DoorId) (k : WearKind) : (l.notice d k).Ok := .ite (h.count _ _) h

theorem mismatch (d : DoorId) (valve : Dir) (expected : Bool) : (l.mismatch d valve expected).Ok :=
  .ite (count (by exact h) _ _) h

theorem clearFault (d : DoorId) : (l.clearFault d).Ok := by
  unfold Log.clearFault
  split
  · exact h.withDoor d ((h d).capture fun _ held => nomatch held)
  · exact h

theorem clearCounters (d : DoorId) : (l.clearCounters d).Ok := by
  have zeroed : DoorFaults.Ok { l.door d with counters := .zero } :=
    ⟨Nat.zero_le _, Nat.zero_le _, Nat.zero_le _, Nat.zero_le _, Nat.zero_le _, fun _ held => (h d).seen held⟩
  exact .ite ((h.withDoor d zeroed).evalWear d) h

theorem commitDoor (old : DoorRecord) (d : DoorId) : (l.commitDoor old d).Ok := by
  unfold Log.commitDoor
  split
  · split <;> exact h.withDoor d .clear
  · exact h.withDoor d .clear
  · exact h.evalWear d
  · exact h

theorem restartDoor (d : DoorId) : (l.restartDoor d).Ok := .ite (h.withDoor d (h d)) h

theorem foldl {f : Log → DoorId → Log} (step : ∀ l d, Log.Ok l → (f l d).Ok) (ds : List DoorId) : (ds.foldl f l).Ok :=
  List.foldlRecOn ds f h fun _ hl d _ => step _ d hl

theorem reaction {f : Log → Log} (reaction : LogReaction f) : (f l).Ok := by
  cases reaction with
  | clearFault ds => exact h.foldl (fun _ d hl => hl.clearFault d) ds
  | clearCounters ds => exact h.foldl (fun _ d hl => hl.clearCounters d) ds

end Log.Ok

/-! ### The events -/

/-- A taking leaves the recorder as the block that takes it does. -/
theorem recorderOk_deliver (m : Instr) {s : State} (h : s.recorder.Ok) : (s.deliver m).recorder.Ok := by
  have begun : s.log.Ok := h
  cases m with
  | faultReport d k second persisting x => exact begun.report d k second persisting x
  | mismatchReport d v e => exact begun.mismatch d v e
  | obstructionNotice d => exact begun.notice d _
  | driftNotice d => exact begun.notice d _
  | _ => exact h

theorem recorderOk_restartBlocks (cause : StartCause) {s : State} (h : s.recorder.Ok) :
    (s.restartBlocks cause).recorder.Ok := by
  have begun : s.log.Ok := h
  rw [State.restartBlocks_recorder]
  exact begun.foldl (fun _ d hl => hl.restartDoor d) allDoors

theorem recorderOk_commit {s : State} (h : s.recorder.Ok) : s.commit.recorder.Ok := by
  have begun : Log.Ok ⟨s.store.staging, s.time, s.recorder, []⟩ := h
  rw [State.commit_recorder]
  exact begun.foldl (fun _ d hl => hl.commitDoor _ d) allDoors

theorem State.withFilter_recorder (s : State) (i : InputId) (f : Filter) : (s.withFilter i f).recorder = s.recorder := by
  cases i <;> rfl

theorem State.inputEvent_recorder (s before : State) {i : InputId} (line : i ≠ .resetPin) (active : Bool) :
    (s.inputEvent before i active).recorder = s.recorder := by
  cases i with
  | emergency => cases active <;> rfl
  | resetPin => exact absurd rfl line
  | _ => rfl

theorem State.powerOn_recorder (s : State) : s.powerOn.recorder = .empty := by
  unfold State.powerOn
  split <;> rfl

theorem recorderOk_event {c : Instr} {strays : Prop} {s t : State} (event : Event c strays s t) (h : s.recorder.Ok) :
    t.recorder.Ok := by
  cases event with
  | powerOn =>
    intro d
    simpa [State.powerOn_recorder, Recorder.empty] using DoorFaults.Ok.clear
  | filter i f => rwa [State.withFilter_recorder]
  | input i f _ line => rwa [State.inputEvent_recorder _ _ line, State.withFilter_recorder]
  | primed i => cases i <;> exact h
  | deliver m => exact recorderOk_deliver m h
  | log reaction => exact Log.Ok.reaction (l := s.log) h reaction
  | commit => exact recorderOk_commit h
  | pinRestart => exact recorderOk_restartBlocks .resetPin h
  | replyRestart l => exact recorderOk_restartBlocks .restartRequest (s := s.replyGone l) h
  | _ => exact h

/-- Settles O11: every procedure of the recorder keeps one door's records in range, and no other block writes them. -/
theorem recorderKept : Obligations.RecorderKept := by
  unfold Obligations.RecorderKept
  intro s t h hstep
  exact step_keeps (P := fun s => s.recorder.Ok) (fun _ _ k => k) (fun _ _ _ _ e k => recorderOk_event e k) h hstep

end Sys2Proof.Machine

/-! Every step keeps both lines, their counters, the supervision and the address consistent (R165, R167, R170 to R172, R179). -/

namespace Sys2Proof.Machine

open Sys2Proof

/-- The line port as `PortInv` has it. -/
def Port.Ok (p : Port) : Prop :=
  (∀ l, LineOk p.interval (p.line l)) ∧ p.address ≠ 0 ∧ ∀ l, p.restarting = some l → (p.line l).reply.isSome = true

theorem portInv_iff (s : State) : PortInv s ↔ s.port.Ok := by
  constructor
  · rintro ⟨a, b, address, restarting⟩
    exact ⟨fun l => by cases l; exacts [a, b], address, restarting⟩
  · rintro ⟨lines, address, restarting⟩
    exact ⟨lines .a, lines .b, address, restarting⟩

/-! ### One line -/

/-- A line without a request or a reply, where its counters and its supervision are consistent. -/
theorem LineOk.unoccupied {n : Nat} {y : LinePort} (check : y.checkErrors ≤ 65535) (framing : y.framingErrors ≤ 65535)
    (waiting : y.waiting = none) (reply : y.reply = none) (silent : y.silent = true → y.silence = none)
    (off : n = 0 → y.silence = none ∧ y.silent = false) : LineOk n y :=
  ⟨check, framing, fun h => by simp [waiting] at h, fun h => by simp [reply] at h, silent, off⟩

namespace LineOk
variable {n : Nat} {y : LinePort} (h : LineOk n y)
include h

theorem errors {e f : Nat} {b : Bool} (he : e ≤ 65535) (hf : f ≤ 65535) :
    LineOk n { y with checkErrors := e, framingErrors := f, degraded := b } := by
  obtain ⟨-, -, rest⟩ := h
  exact ⟨he, hf, rest⟩

theorem degraded (b : Bool) : LineOk n { y with degraded := b } := h

/-- The receiver of a line on which nothing waits moves on. -/
theorem receives (waiting : y.waiting = none) (reply : y.reply = none) (x : RxState) (b : List Byte) (g : Bool) :
    LineOk n { y with rx := x, buffer := b, gap := g } := by
  obtain ⟨check, framing, -, -, silent, off⟩ := h
  exact .unoccupied check framing waiting reply silent off

theorem supervised {m : Nat} {t : Option Nat} {b : Bool} (silent : b = true → t = none)
    (off : m = 0 → t = none ∧ b = false) : LineOk m { y with silence := t, silent := b } := by
  obtain ⟨check, framing, waiting, reply, -, -⟩ := h
  exact ⟨check, framing, waiting, reply, silent, off⟩

/-- What the taking of a request makes of its line. -/
theorem reaction {y' : LinePort} (reaction : LineReaction y y') : LineOk n y' := by
  obtain ⟨check, framing, -, -, silent, off⟩ := h
  cases reaction with
  | freed => exact ⟨check, framing, nofun, fun _ => .inr rfl, silent, off⟩
  | busyTaking | replies => exact ⟨check, framing, nofun, fun _ => .inl rfl, silent, off⟩

theorem replyGone (sends : y.reply.isSome = true) : LineOk n { y.hunting with reply := none } := by
  obtain ⟨check, framing, waiting, -, silent, off⟩ := h
  have idle : y.waiting = none := by
    by_contra some
    have := (waiting (Option.isSome_iff_ne_none.mpr some)).2
    simp [this] at sends
  exact .unoccupied check framing idle rfl silent off

end LineOk

/-! ### The line port's procedures -/

/-- The same of the line port at work. -/
abbrev Serial.Ok (x : Serial) : Prop := x.port.Ok

/-- One line replaced by a consistent one, which sends a reply where a restart waits for it. -/
theorem Port.Ok.withLine {p : Port} (h : p.Ok) (l : Line) {y : LinePort} (ok : LineOk p.interval y)
    (sends : p.restarting = some l → y.reply.isSome = true) : (p.withLine l y).Ok := by
  obtain ⟨lines, address, restarting⟩ := h
  have same : (p.withLine l y).interval = p.interval ∧ (p.withLine l y).address = p.address ∧
      (p.withLine l y).restarting = p.restarting := by cases l <;> exact ⟨rfl, rfl, rfl⟩
  obtain ⟨interval, sameAddress, sameRestarting⟩ := same
  refine ⟨fun l' => ?_, by rwa [sameAddress], fun l' waits => ?_⟩
  · rw [interval]
    by_cases hl : l' = l
    · rwa [hl, Port.withLine_line]
    · rw [Port.withLine_line_ne _ _ hl]
      exact lines l'
  · rw [sameRestarting] at waits
    by_cases hl : l' = l
    · rw [hl, Port.withLine_line]
      exact sends (hl ▸ waits)
    · rw [Port.withLine_line_ne _ _ hl]
      exact restarting l' waits

theorem Port.Ok.line {p : Port} (h : p.Ok) (l : Line) : LineOk p.interval (p.line l) := h.1 l

/-- A line replaced by one that sends the same reply. -/
theorem Port.Ok.sameReply {p : Port} (h : p.Ok) (l : Line) {y : LinePort} (ok : LineOk p.interval y)
    (reply : y.reply = (p.line l).reply) : (p.withLine l y).Ok :=
  h.withLine l ok fun waits => by rw [reply]; exact h.2.2 l waits

/-- A restart awaited behind a reply being sent. -/
theorem Port.Ok.restarting {p : Port} (h : p.Ok) (l : Line) (sends : (p.line l).reply.isSome = true) :
    Port.Ok { p with restarting := some l } := by
  obtain ⟨lines, address, -⟩ := h
  refine ⟨fun l' => by cases l'; exacts [lines .a, lines .b], address, fun l' waits => ?_⟩
  rw [← Option.some.inj waits]
  cases l <;> exact sends

/-- A line whose receiver is not CLOSED holds no request. -/
theorem LineOk.idle_of_receiving {n : Nat} {y : LinePort} (h : LineOk n y) (open_ : y.rx ≠ .closed) : y.waiting = none := by
  obtain ⟨-, -, waiting, -⟩ := h
  by_contra some
  exact open_ (waiting (Option.isSome_iff_ne_none.mpr some)).1

/-- A line that has heard a frame sends what it sent. -/
theorem Serial.heard_reply (x : Serial) (l : Line) : ((x.heard l).line l).reply = (x.line l).reply := by
  unfold Serial.heard
  dsimp only
  split
  · rfl
  · split_ifs <;> cases l <;> rfl

namespace Serial.Ok

variable {x : Serial} (h : x.Ok)
include h

theorem evalDegraded (l : Line) : (x.evalDegraded l).Ok := by
  have evaluated : Port.Ok (x.port.withLine l { x.line l with degraded := lineDegraded x.image.group (x.line l) }) :=
    h.sameReply l ((h.line l).degraded _) rfl
  unfold Serial.evalDegraded
  dsimp only
  split_ifs <;> exact evaluated

theorem clearErrors (l : Line) : (x.clearErrors l).Ok :=
  evalDegraded (x := x.withLine l _) (h.sameReply l ((h.line l).errors (Nat.zero_le _) (Nat.zero_le _)) rfl) l

/-- A receiver on which nothing waits returns to HUNT, an error counted. -/
theorem counted (l : Line) (reply : (x.line l).reply = none) (receives : (x.line l).rx ≠ .closed) {e f : Nat}
    (he : e ≤ 65535) (hf : f ≤ 65535) :
    (x.withLine l { (x.line l).hunting with checkErrors := e, framingErrors := f }).Ok :=
  h.sameReply l ((((h.line l).receives ((h.line l).idle_of_receiving receives) reply .hunt [] false).errors
    (b := (x.line l).degraded) he hf)) rfl

theorem abandon (l : Line) (reply : (x.line l).reply = none) (receives : (x.line l).rx ≠ .closed) : (x.abandon l).Ok :=
  evalDegraded (x := x.withLine l _) (h.counted l reply receives (h.line l).1 (saturatingSucc_le _ _)) l

theorem checkError (l : Line) (reply : (x.line l).reply = none) (receives : (x.line l).rx ≠ .closed) :
    (x.checkError l).Ok :=
  evalDegraded (x := x.withLine l _) (h.counted l reply receives (saturatingSucc_le _ _) (h.line l).2.1) l

theorem heard (l : Line) : (x.heard l).Ok := by
  unfold Serial.heard
  split
  · exact h
  · next on =>
    have revived : Port.Ok (x.port.withLine l
        { x.line l with silence := some x.port.interval, silent := false }) :=
      h.sameReply l ((h.line l).supervised nofun fun off => absurd off on) rfl
    dsimp only
    split_ifs <;> exact revived

theorem silenceExpired (l : Line) : (x.silenceExpired l).1.Ok := by
  unfold Serial.silenceExpired
  dsimp only
  split
  · next runs =>
    have on : x.port.interval ≠ 0 := fun off => by
      have := ((h.line l).2.2.2.2.2 off).1
      simp [Serial.line, this] at runs
    have silent : Port.Ok (x.port.withLine l { x.line l with silence := none, silent := true }) :=
      h.sameReply l ((h.line l).supervised (fun _ => rfl) fun off => absurd off on) rfl
    split
    · exact silent
    · exact silent
  · exact h

theorem setInterval (n : Nat) : (x.setInterval n).Ok := by
  obtain ⟨lines, address, restarting⟩ := h
  unfold Serial.setInterval
  dsimp only
  split
  · refine ⟨fun l => ?_, address, fun l waits => ?_⟩
    · cases l
      · exact (lines .a).supervised nofun fun _ => ⟨rfl, rfl⟩
      · exact (lines .b).supervised nofun fun _ => ⟨rfl, rfl⟩
    · have sends := restarting l waits
      cases l <;> exact sends
  · next on =>
    have restarted (y : LinePort) (ok : LineOk x.port.interval y) : LineOk n (y.restartSilence n) := by
      unfold LinePort.restartSilence
      split
      · next silent =>
        exact ok.supervised (m := n) (t := y.silence) (b := y.silent) ok.2.2.2.2.1 fun off => absurd off on
      · next silent => exact ok.supervised (fun b => absurd b silent) fun off => absurd off on
    have sameReply (y : LinePort) : (y.restartSilence n).reply = y.reply := by
      unfold LinePort.restartSilence
      split <;> rfl
    refine ⟨fun l => ?_, address, fun l waits => ?_⟩
    · cases l
      · exact restarted _ (lines .a)
      · exact restarted _ (lines .b)
    · have := restarting l waits
      cases l
      · exact (congrArg Option.isSome (sameReply _)).trans this
      · exact (congrArg Option.isSome (sameReply _)).trans this

theorem commit (old : Image) : (x.commit old).Ok := by
  have evaluated := (h.evalDegraded .a).evalDegraded .b
  unfold Serial.commit
  dsimp only
  split
  · exact evaluated
  · exact evaluated.setInterval _

/-- The receiver of a line on which nothing waits moves on. -/
theorem receives (l : Line) (reply : (x.line l).reply = none) (receives : (x.line l).rx ≠ .closed) (r : RxState)
    (b : List Byte) (g : Bool) : (x.withLine l { x.line l with rx := r, buffer := b, gap := g }).Ok :=
  h.sameReply l ((h.line l).receives ((h.line l).idle_of_receiving receives) reply r b g) rfl

theorem validFrame (l : Line) (buffer : List Byte) (reply : (x.line l).reply = none)
    (receives : (x.line l).rx ≠ .closed) : (x.validFrame l buffer).Ok := by
  have hunting : (x.withLine l (x.line l).hunting).Ok := h.receives l reply receives _ _ _
  have heard := hunting.heard l
  have silentLine : (((x.withLine l (x.line l).hunting).heard l).line l).reply = none := by
    rw [Serial.heard_reply, Serial.line, Serial.withLine, Port.withLine_line]
    exact reply
  have taken (c : Instr) : Port.Ok (((x.withLine l (x.line l).hunting).heard l).port.withLine l
      { ((x.withLine l (x.line l).hunting).heard l).line l with rx := .closed, waiting := some c }) := by
    obtain ⟨check, framing, -, -, silent, off⟩ := heard.line l
    exact heard.sameReply l ⟨check, framing, fun _ => ⟨rfl, silentLine⟩, fun _ => .inl rfl, silent, off⟩ rfl
  unfold Serial.validFrame
  dsimp only
  split_ifs
  · exact taken _
  · exact heard
  · exact taken _
  · exact heard
  · exact hunting

theorem goodCharacter (l : Line) (c : Byte) (reply : (x.line l).reply = none) : (x.goodCharacter l c).Ok := by
  have next (open_ : (x.line l).rx ≠ .closed) (r : RxState) : (x.withLine l ((x.line l).keep c r)).Ok :=
    h.receives l reply open_ _ _ _
  unfold Serial.goodCharacter
  dsimp only
  split <;> rename_i rx
  · split
    · exact h.receives l reply (by simp [rx]) _ _ _
    · exact h
  · exact next (by simp [rx]) _
  · exact next (by simp [rx]) _
  · split
    · exact h.abandon l reply (by simp [rx])
    · exact next (by simp [rx]) _
  · exact next (by simp [rx]) _
  · split
    · exact next (by simp [rx]) _
    · unfold Serial.frameDone
      split
      · exact h.validFrame l _ reply (by simp [rx])
      · exact h.checkError l reply (by simp [rx])
  · exact h

theorem character (l : Line) (c : Byte) (goodStop : Bool) : (x.character l c goodStop).Ok := by
  unfold Serial.character
  split
  · exact h
  · next quiet =>
    have reply : (x.line l).reply = none := by simpa using quiet
    split
    · exact h.goodCharacter l c reply
    · split <;> rename_i rx <;> first | exact h | exact h.abandon l reply (by simp [rx])

theorem gapExpired (l : Line) : (x.gapExpired l).Ok := by
  have abandoned (open_ : (x.line l).rx ≠ .closed ∧ (x.line l).rx ≠ .hunt) : (x.abandon l).Ok := by
    refine h.abandon l ?_ open_.1
    by_contra some
    have := (h.line l).2.2.2.1 (Option.isSome_iff_ne_none.mpr some)
    exact this.elim open_.1 open_.2
  unfold Serial.gapExpired
  split <;> rename_i rx <;> first | exact h | skip
  all_goals
    split
    · exact abandoned (by simp [rx])
    · exact h

theorem reaction {f : Serial → Serial} (reaction : PortReaction f) : (f x).Ok := by
  cases reaction with
  | character l c goodStop => exact h.character l c goodStop
  | gapExpired l => exact h.gapExpired l
  | heard l => exact h.heard l
  | silenceExpired l => exact h.silenceExpired l
  | clearErrors ls => exact List.foldlRecOn ls _ h fun _ hx l _ => clearErrors hx l
  | setInterval n => exact h.setInterval _

end Serial.Ok

/-! ### Power-on and restart -/

theorem addressOf_ne_zero (s : Straps) : addressOf s ≠ 0 := by
  unfold addressOf strapsGood
  split
  · next good =>
    simp only [Bool.and_eq_true, bne_iff_ne, ne_eq] at good
    exact good.1.2
  · decide

theorem LinePort.atStart_ok (n : Nat) (reply : Option (List Byte)) : LineOk n { LinePort.atStart n with reply := reply } :=
  ⟨Nat.zero_le _, Nat.zero_le _, nofun, fun _ => .inr rfl, nofun, fun off => ⟨if_pos off, rfl⟩⟩

theorem portOk_atPowerOn (n : Nat) (s : Straps) : (Port.atPowerOn n s).Ok :=
  ⟨fun l => by cases l <;> exact LinePort.atStart_ok n none, addressOf_ne_zero s, nofun⟩

theorem Serial.restart_ok (x : Serial) (s : Straps) (cause : StartCause) : (x.restart s cause).Ok :=
  ⟨fun l => by cases l <;> exact LinePort.atStart_ok _ _, addressOf_ne_zero s, nofun⟩

/-! ### The events -/

theorem State.withFilter_port (s : State) (i : InputId) (f : Filter) : (s.withFilter i f).port = s.port := by
  cases i <;> rfl

theorem State.inputEvent_port (s before : State) {i : InputId} (line : i ≠ .resetPin) (active : Bool) :
    (s.inputEvent before i active).port = s.port := by
  cases i with
  | emergency => cases active <;> rfl
  | resetPin => exact absurd rfl line
  | _ => rfl

theorem State.powerOn_port (s : State) : ∃ n, s.powerOn.port = Port.atPowerOn n s.straps := by
  unfold State.powerOn
  split <;> exact ⟨_, rfl⟩

theorem portOk_event {c : Instr} {strays : Prop} {s t : State} (event : Event c strays s t) (h : s.port.Ok) :
    t.port.Ok := by
  cases event with
  | powerOn =>
    obtain ⟨n, port⟩ := s.powerOn_port
    rw [port]
    exact portOk_atPowerOn n s.straps
  | filter i f => rwa [State.withFilter_port]
  | input i f _ line => rwa [State.inputEvent_port _ _ line, State.withFilter_port]
  | primed i => cases i <;> exact h
  | deliver m => cases m <;> exact h
  | serial reaction => exact Serial.Ok.reaction (x := s.serial) h reaction
  | commit =>
    rw [State.commit_port]
    exact Serial.Ok.commit h s.image
  | pinRestart =>
    rw [State.restartBlocks_port]
    exact Serial.restart_ok _ _ _
  | replyRestart =>
    rw [State.restartBlocks_port]
    exact Serial.restart_ok _ _ _
  | line l reaction =>
    refine h.withLine l ((h.line l).reaction reaction) fun waits => ?_
    have sends := h.2.2 l waits
    cases reaction with
    | freed | busyTaking => exact sends
    | replies => rfl
  | restartAwaited l frame =>
    have sent : (s.port.withLine l { (s.port.line l).busyTaking with reply := some frame }).Ok :=
      h.withLine l ((h.line l).reaction (.replies frame)) fun _ => rfl
    have awaited := sent.restarting l (by rw [Port.withLine_line]; rfl)
    cases l <;> exact awaited
  | replyGone l sends goesOn => exact h.withLine l ((h.line l).replyGone sends) fun waits => absurd waits goesOn
  | _ => exact h

/-- Settles O13: every procedure of the line port keeps it consistent, and no other block writes it. -/
theorem linePortKept : Obligations.LinePortKept := by
  unfold Obligations.LinePortKept
  intro s t h hstep
  rw [portInv_iff] at h ⊢
  exact step_keeps (P := fun s => s.port.Ok) (fun _ _ k => k) (fun _ _ _ _ e k => portOk_event e k) h hstep

end Sys2Proof.Machine

/-! What the reactions of the door table may do to the door they work on, whatever event brings them: the records that they keep,
the messages that they make, and the laws of valves, strokes and the position estimate (R18, R53, R54, R84) across them. -/

namespace Sys2Proof.Machine

open Sys2Proof

/-! ### The laws -/

/-- An estimate as R53 has it, by the end switches as they are filtered. -/
def EstimateFits (c : Channel) (e : Nat) : Prop :=
  e = 0 ∧ c.closedSwitch.filtered = true ∨ e = 1000 ∧ c.openSwitch.filtered = true ∨ 10 ≤ e ∧ e ≤ 990

theorem estimateFits_clamp (c : Channel) (e : Nat) : EstimateFits c (clamp 10 990 e) :=
  .inr (.inr (clamp_mem_range (by decide) e))

/-- A door in service: neither ISOLATED nor ABSENT. -/
def Door.InService (r : Door) : Prop := r.motion ≠ .isolated ∧ r.motion ≠ .absent

/-- A door out of transit that neither warns nor dwells (R84). -/
def Door.Calm (r : Door) : Prop := r.transit = false ∧ r.motion ≠ .warning ∧ r.motion ≠ .dwell

/-- How far a reaction has come: a stroke may run, or its valve is OFF and its estimate frozen, whatever the motion state says;
and an end switch may just have been released, whose end the estimate may still name. -/
inductive Stage where
  | running | halted | spent
  | released (end_ : Dir)

/-- A valve ON belongs to the phase of a running drive test, of an isolated door (R15, R18). -/
structure TestDrives (r : Door) (c : Channel) : Prop where
  result : r.testResult = .running ↔ r.test.isSome = true
  isolated : r.test.isSome = true → r.motion = .isolated
  openValve : c.openValve = true → ∃ x, r.test = some x ∧ x.phase = .opn
  closeValve : c.closeValve = true → ∃ x, r.test = some x ∧ x.phase = .cls
  offCheck : ∀ x, r.test = some x → x.offCheck = true → c.valve x.phase = false

/-- Every deadline lies within 10-1200 (R54). -/
def Door.DeadlineOk (r : Door) : Prop := 10 ≤ r.deadline ∧ r.deadline ≤ 1200

/-- The law of valves and strokes at a stage. -/
def DrivenAt (x : Stage) (r : Door) (c : Channel) : Prop :=
  match x with
  | .running | .released _ => DriveOk r c ∧ r.DeadlineOk ∧ (isMoving r.motion = true → r.elapsed < r.deadline)
  | .halted => TestDrives r c ∧ r.DeadlineOk
  | .spent => DriveOk r c ∧ r.DeadlineOk

/-- The law of the estimate at a stage: a stroke that runs has its own, worked out. -/
def EstimatedAt (x : Stage) (r : Door) (c : Channel) : Prop :=
  r.present = true →
    match x with
    | .running | .spent => isMoving r.motion = false → EstimateFits c r.estimate
    | .halted => EstimateFits c r.estimate
    | .released e => isMoving r.motion = false → EstimateFits c r.estimate ∨ r.estimate = endEstimate e

theorem strokeEstimate_range (dir : Dir) (p0 elapsed learned : Nat) :
    10 ≤ strokeEstimate dir p0 elapsed learned ∧ strokeEstimate dir p0 elapsed learned ≤ 990 := by
  cases dir <;> exact clamp_mem_range (by decide) _

/-- The estimate as it stands fits where the stored one of a door that does not move does. -/
theorem estimateNow_fits {r : Door} {c : Channel} (h : isMoving r.motion = false → EstimateFits c r.estimate) :
    EstimateFits c r.estimateNow := by
  unfold Door.estimateNow
  split
  · exact .inr (.inr (strokeEstimate_range _ _ _ _))
  · next still => exact h (by simpa using still)

theorem DriveOk.of_still {r : Door} {c : Channel} (h : TestDrives r c) (still : isMoving r.motion = false) : DriveOk r c :=
  ⟨fun m => by simp [m, isMoving] at still, fun m => by simp [m, isMoving] at still, h.result, h.isolated,
    fun on => .inr (h.openValve on), fun on => .inr (h.closeValve on), h.offCheck⟩

theorem TestDrives.of_still {r : Door} {c : Channel} (h : DriveOk r c) (still : isMoving r.motion = false) :
    TestDrives r c := by
  obtain ⟨-, -, result, isolated, openValve, closeValve, offCheck⟩ := h
  exact ⟨result, isolated, fun on => (openValve on).resolve_left fun m => by simp [m, isMoving] at still,
    fun on => (closeValve on).resolve_left fun m => by simp [m, isMoving] at still, offCheck⟩

/-! ### What a reaction may do -/

/-- The messages that the door table makes, but for its own door's index. -/
def doorTableMakes : Instr → Bool
  | .handleReferral .. | .arrivalNotice _ | .openHandleReleaseNotice _ | .join .. | .withdraw _ | .release _ | .reversed ..
  | .taken .. | .handedBack _ | .faultReport .. | .mismatchReport .. | .obstructionNotice _ | .driftNotice _
  | .alarmRaise .. | .alarmClear .. => true
  | _ => false

/-- What a reaction does to its door whatever it makes of the door's presence and service: it makes messages of the door table and
keeps the laws from one stage to another. Where it is `strict`, it leaves a faulted door calm if a faulted one was (R84). -/
structure Work.Keeps (strict : Prop) (x y : Stage) (w w' : Work) : Prop where
  image : w'.image = w.image
  index : w'.id = w.id
  changed : w.door.changed = true → w'.door.changed = true
  filtered : ∀ k, (w'.channel.filter k).filtered = (w.channel.filter k).filtered
  made : ∃ ms, w'.out = w.out ++ ms ∧ ∀ m ∈ ms, doorTableMakes m = true
  calm : strict → (w.door.faulted = true → w.door.Calm) → w'.door.faulted = true → w'.door.Calm
  driven : DrivenAt x w.door w.channel → DrivenAt y w'.door w'.channel
  estimated : EstimatedAt x w.door w.channel → EstimatedAt y w'.door w'.channel

/-- What a part of a reaction may do to its door that leaves its presence, its service and its faulted flag alone. -/
structure Work.Moves (strict : Prop) (x y : Stage) (w w' : Work) : Prop extends Work.Keeps strict x y w w' where
  present : w'.door.present = w.door.present
  absent : w'.door.motion = .absent ↔ w.door.motion = .absent
  isolated : w'.door.motion = .isolated ↔ w.door.motion = .isolated
  faulted : w'.door.faulted = w.door.faulted

/-- A door record that differs in nothing which the laws read, but that a transit may be over. -/
structure Door.Alike (r r' : Door) : Prop where
  present : r'.present = r.present
  motion : r'.motion = r.motion
  dir : r'.dir = r.dir
  elapsed : r'.elapsed = r.elapsed
  deadline : r'.deadline = r.deadline
  estimate : r'.estimate = r.estimate
  faulted : r'.faulted = r.faulted
  test : r'.test = r.test
  testResult : r'.testResult = r.testResult
  changed : r'.changed = r.changed

/-- A record of a door that stands, but does not move, in service, as it did before. -/
structure Door.Stands (r r' : Door) : Prop where
  served : r.InService
  serves : r'.InService
  still : isMoving r'.motion = false
  present : r'.present = r.present
  deadline : r'.deadline = r.deadline
  faulted : r'.faulted = r.faulted
  test : r'.test = r.test
  testResult : r'.testResult = r.testResult
  changed : r'.changed = r.changed

/-- What the laws read of a door that stands. -/
def Door.kept (r : Door) : Bool × Nat × Bool × Option TestRun × TestResult × Bool :=
  (r.present, r.deadline, r.faulted, r.test, r.testResult, r.changed)

theorem Door.Stands.of_same {r r' : Door} (served : r.InService) (serves : r'.InService) (still : isMoving r'.motion = false)
    (same : r'.kept = r.kept) : Door.Stands r r' := by
  simp only [Door.kept, Prod.mk.injEq] at same
  obtain ⟨present, deadline, faulted, test, testResult, changed⟩ := same
  exact ⟨served, serves, still, present, deadline, faulted, test, testResult, changed⟩

theorem Door.Alike.of_same {r r' : Door} (same : r'.kept = r.kept)
    (moves : (r'.motion, r'.dir, r'.elapsed, r'.estimate) = (r.motion, r.dir, r.elapsed, r.estimate)) : Door.Alike r r' := by
  simp only [Door.kept, Prod.mk.injEq] at same moves
  obtain ⟨present, deadline, faulted, test, testResult, changed⟩ := same
  obtain ⟨motion, dir, elapsed, estimate⟩ := moves
  exact ⟨present, motion, dir, elapsed, deadline, estimate, faulted, test, testResult, changed⟩

theorem EstimateFits.filtered {c c' : Channel} (h : ∀ k, (c'.filter k).filtered = (c.filter k).filtered) (e : Nat) :
    EstimateFits c' e ↔ EstimateFits c e := by
  have closed := h .closedSwitch
  have opened := h .openSwitch
  dsimp only [Channel.filter] at closed opened
  rw [EstimateFits, EstimateFits, closed, opened]

theorem Work.Keeps.trans {strict : Prop} {x y z : Stage} {w w' w'' : Work} (h : w.Keeps strict x y w')
    (k : w'.Keeps strict y z w'') : w.Keeps strict x z w'' where
  image := k.image.trans h.image
  index := k.index.trans h.index
  changed := k.changed ∘ h.changed
  filtered i := (k.filtered i).trans (h.filtered i)
  made := by
    obtain ⟨ms, out, made⟩ := h.made
    obtain ⟨ms', out', made'⟩ := k.made
    refine ⟨ms ++ ms', by rw [out', out, List.append_assoc], fun m hm => ?_⟩
    exact (List.mem_append.mp hm).elim (made m) (made' m)
  calm s c := k.calm s (h.calm s c)
  driven := k.driven ∘ h.driven
  estimated := k.estimated ∘ h.estimated

namespace Work.Moves

variable {strict : Prop} {x y z : Stage} {w w' w'' : Work}

theorem refl : w.Moves strict x x w :=
  ⟨⟨rfl, rfl, fun h => h, fun _ => rfl, ⟨[], by simp, by simp⟩, fun _ h => h, fun h => h, fun h => h⟩, rfl, .rfl, .rfl, rfl⟩

theorem trans (h : w.Moves strict x y w') (k : w'.Moves strict y z w'') : w.Moves strict x z w'' :=
  ⟨h.toKeeps.trans k.toKeeps, k.present.trans h.present, k.absent.trans h.absent, k.isolated.trans h.isolated,
    k.faulted.trans h.faulted⟩

/-- The looser claim. -/
theorem loosen (h : w.Moves strict x y w') : w.Moves False x y w' := { h with calm := nofun }

theorem inService (h : w.Moves strict x y w') (serves : w.door.InService) : w'.door.InService :=
  ⟨fun m => serves.1 (h.isolated.mp m), fun m => serves.2 (h.absent.mp m)⟩

theorem ite {p : Prop} [Decidable p] (h : p → w.Moves strict x y w') (k : ¬p → w.Moves strict x y w'') :
    w.Moves strict x y (if p then w' else w'') := by
  split
  · next hp => exact h hp
  · next hp => exact k hp

/-- A message is made. -/
theorem send (m : Instr) (h : doorTableMakes m = true) : w.Moves strict x x (w.send m) :=
  { (refl : w.Moves strict x x w) with
    made := ⟨[m], rfl, by simpa using h⟩ }

/-- A door that does not move has no stroke to halt. -/
theorem still (h : isMoving w.door.motion = false) : w.Moves strict .running .halted w :=
  { (refl : w.Moves strict .running .running w) with
    driven := fun ⟨drive, deadline, _⟩ => ⟨.of_still drive h, deadline⟩
    estimated := fun fits present => fits present h }

/-- A record written that differs in nothing which the laws read. -/
theorem alike {r : Door} (h : Door.Alike w.door r) (transit : r.transit = true → w.door.transit = true ∨ ¬strict) :
    w.Moves strict x x { w with door := r } where
  image := rfl
  index := rfl
  present := h.present
  absent := by rw [h.motion]
  isolated := by rw [h.motion]
  changed := by rw [h.changed]; exact fun h => h
  faulted := h.faulted
  filtered _ := rfl
  made := ⟨[], by simp, by simp⟩
  calm := by
    intro isStrict calm faulted
    obtain ⟨out, warns, dwells⟩ := calm (h.faulted ▸ faulted)
    refine ⟨?_, by rwa [h.motion], by rwa [h.motion]⟩
    by_contra transits
    rcases transit (by simpa using transits) with still | loose
    · simp [out] at still
    · exact loose isStrict
  driven := by
    cases x
    case running | released | spent =>
      simp only [DrivenAt, DriveOk, Door.DeadlineOk, h.motion, h.dir, h.test, h.testResult, h.deadline, h.elapsed, imp_self]
    · rintro ⟨⟨result, isolated, openValve, closeValve, offCheck⟩, deadline⟩
      refine ⟨⟨?_, ?_, ?_, ?_, ?_⟩, ?_⟩
      · rwa [h.testResult, h.test]
      · rwa [h.test, h.motion]
      · rwa [h.test]
      · rwa [h.test]
      · rwa [h.test]
      · rwa [Door.DeadlineOk, h.deadline]
  estimated := by
    cases x <;> simp only [EstimatedAt, h.present, h.motion, h.estimate, imp_self]

/-- A record written of a door whose stroke has halted and that stands, but does not move, in service. -/
theorem stands {r : Door} (h : Door.Stands w.door r)
    (fits : EstimateFits w.channel w.door.estimate → EstimateFits w.channel r.estimate)
    (calm : strict → w.door.faulted = true → w.door.Calm → r.Calm) :
    w.Moves strict .halted y { w with door := r } where
  image := rfl
  index := rfl
  present := h.present
  absent := ⟨fun m => absurd m h.serves.2, fun m => absurd m h.served.2⟩
  isolated := ⟨fun m => absurd m h.serves.1, fun m => absurd m h.served.1⟩
  changed := by rw [h.changed]; exact fun c => c
  faulted := h.faulted
  filtered _ := rfl
  made := ⟨[], by simp, by simp⟩
  calm isStrict wasCalm f := calm isStrict (h.faulted ▸ f) (wasCalm (h.faulted ▸ f))
  driven := by
    rintro ⟨⟨result, isolated, openValve, closeValve, offCheck⟩, deadline⟩
    have drives : TestDrives r w.channel :=
      ⟨by rwa [h.testResult, h.test], fun t => absurd (isolated (h.test ▸ t)) h.served.1, by rwa [h.test], by rwa [h.test],
        by rwa [h.test]⟩
    have bounded : r.DeadlineOk := by rwa [Door.DeadlineOk, h.deadline]
    have running := And.intro (DriveOk.of_still drives h.still)
      (And.intro bounded fun (m : isMoving r.motion = true) => (by simp [h.still] at m : r.elapsed < r.deadline))
    cases y
    · exact running
    · exact ⟨drives, bounded⟩
    · exact ⟨.of_still drives h.still, bounded⟩
    · exact running
  estimated := by
    intro halted present
    have stored := fits (halted (h.present ▸ present))
    cases y
    · exact fun _ => stored
    · exact stored
    · exact fun _ => stored
    · exact fun _ => .inl stored

end Work.Moves

/-! ### The shared procedures -/

theorem Motion.inService_of_moving {r : Door} (h : isMoving r.motion = true) : r.InService := by
  constructor <;> intro m <;> simp [m, isMoving] at h

/-- A drive check brought up to date writes its check alone (R11). -/
theorem Door.valveAt_alike (i : Image) (c : Channel) (v : Dir) (on : Bool) (r : Door) :
    Door.Alike r (r.valveAt i c v on) ∧ (r.valveAt i c v on).transit = r.transit := by
  refine ⟨?_, Door.valveAt_transit i c v on r⟩
  unfold Door.valveAt
  split
  · split
    · cases v <;> exact .of_same rfl rfl
    · split
      · exact .of_same rfl rfl
      · cases v <;> exact .of_same rfl rfl
  · exact .of_same rfl rfl

namespace Work

variable {strict : Prop} {x y : Stage} (w : Work)

theorem recheck_moves (v : Dir) : w.Moves strict x x (w.recheck v) := by
  rw [Work.recheck_eq]
  obtain ⟨alike, transit⟩ := w.door.valveAt_alike w.image w.channel v (w.channel.valve v)
  exact .alike alike fun t => .inl (transit ▸ t)

/-- A valve OFF, of a door that drives it by no test: its stroke halts where it is that of the movement (R18). -/
theorem channel_off_moves (moving : isMoving w.door.motion = true) :
    w.Moves strict .spent .halted
      { w with door := { w.door with estimate := w.door.estimateNow }, channel := w.channel.withValve w.door.dir false } := by
  have served := Motion.inService_of_moving moving
  refine ⟨⟨rfl, rfl, fun h => h, fun k => by cases w.door.dir <;> cases k <;> rfl, ⟨[], by simp, by simp⟩, fun _ h => h,
    ?_, ?_⟩, rfl, .rfl, .rfl, rfl⟩
  · rintro ⟨⟨opening, closing, result, isolated, openValve, closeValve, -⟩, deadline⟩
    have idle : w.door.test = none := by
      by_contra some
      exact served.1 (isolated (Option.isSome_iff_ne_none.mpr some))
    have opened : w.channel.openValve = true → w.door.dir = .opn := fun on =>
      (openValve on).elim opening fun ⟨x, hx, _⟩ => by simp [idle] at hx
    have closed : w.channel.closeValve = true → w.door.dir = .cls := fun on =>
      (closeValve on).elim closing fun ⟨x, hx, _⟩ => by simp [idle] at hx
    refine ⟨⟨result, isolated, fun on => ?_, fun on => ?_, fun x hx => by simp [idle] at hx⟩, deadline⟩
    · cases dir : w.door.dir with
      | opn => simp [dir, Channel.withValve] at on
      | cls => exact absurd (opened (by simpa [dir, Channel.withValve] using on)) (by simp [dir])
    · cases dir : w.door.dir with
      | cls => simp [dir, Channel.withValve] at on
      | opn => exact absurd (closed (by simpa [dir, Channel.withValve] using on)) (by simp [dir])
  · intro _ _
    have range := strokeEstimate_range w.door.dir w.door.p0 w.door.elapsed (w.door.learned w.door.dir)
    refine .inr (.inr ?_)
    simpa [Door.estimateNow, moving] using range

/-- A stroke ends (R19). -/
theorem endStroke_moves_spent (how : StrokeEnd) (moving : isMoving w.door.motion = true) :
    w.Moves strict .spent .halted (w.endStroke how) := by
  have checked := w.door.valveAt_alike w.image w.channel w.door.dir false
  have halted (h f : Bool) : w.Moves strict .spent .halted
      { w with
        door := { w.door.valveAt w.image w.channel w.door.dir false with estimate := w.door.estimateNow, held := h, full := f }
        channel := w.channel.withValve w.door.dir false } := by
    refine (w.channel_off_moves moving).trans (.alike ?_ fun t => .inl (checked.2 ▸ t))
    obtain ⟨present, motion, dir, elapsed, deadline, -, faulted, test, testResult, changed⟩ := checked.1
    exact ⟨present, motion, dir, elapsed, deadline, rfl, faulted, test, testResult, changed⟩
  unfold Work.endStroke
  rw [Work.switchValve_eq]
  exact .ite (fun _ => halted _ _) fun _ => (halted _ _).trans (.send _ rfl)

theorem spent_moves : w.Moves strict .running .spent w :=
  { (Moves.refl : w.Moves strict .running .running w) with
    driven := fun ⟨drive, deadline, _⟩ => ⟨drive, deadline⟩
    estimated := fun h => h }

theorem endStroke_moves (how : StrokeEnd) (moving : isMoving w.door.motion = true) :
    w.Moves strict .running .halted (w.endStroke how) :=
  w.spent_moves.trans (w.endStroke_moves_spent how moving)

/-- A door comes to rest (R20). -/
theorem rest_moves (served : w.door.InService) : w.Moves strict .halted y w.rest := by
  have rested : w.Moves strict .halted y { w with door := w.door.atRest w.channel } := by
    unfold Door.atRest
    dsimp only
    split <;> rename_i closed opened
    · exact .stands (.of_same served ⟨nofun, nofun⟩ rfl rfl) (fun _ => .inl ⟨rfl, closed⟩)
        fun _ _ _ => ⟨rfl, nofun, nofun⟩
    · exact .stands (.of_same served ⟨nofun, nofun⟩ rfl rfl) (fun _ => .inr (.inl ⟨rfl, opened⟩))
        fun _ _ ⟨out, _, _⟩ => ⟨out, nofun, nofun⟩
    · exact .stands (.of_same served ⟨nofun, nofun⟩ rfl rfl) (fun _ => estimateFits_clamp _ _)
        fun _ _ ⟨out, _, _⟩ => ⟨out, nofun, nofun⟩
  rw [Work.rest_eq]
  refine { rested with made := ⟨_, List.append_assoc _ _ _, fun m hm => ?_⟩ }
  rcases List.mem_append.mp hm with hm | hm
  · split at hm
    · rw [List.mem_singleton.mp hm]; rfl
    · cases hm
  · unfold restMessages transitMessages at hm
    split at hm
    · split at hm
      · rw [List.mem_singleton.mp hm]; rfl
      · cases hm
    · cases hm

theorem stopTimers_moves : w.Moves strict x x w.stopTimers := .alike (.of_same rfl rfl) .inl

theorem endEdgeWait_moves : w.Moves strict x x w.endEdgeWait := .alike (.of_same rfl rfl) .inl

theorem clearTransit_moves : w.Moves strict x x w.clearTransit := by
  have cleared : w.Moves strict x x
      { w with door := { w.door with transit := false, transitTimer := none, transitLong := false } } := .alike (.of_same rfl rfl) nofun
  exact .ite (fun _ => cleared.trans (.send _ rfl)) fun _ => cleared

theorem clearDrift_moves : w.Moves strict x x w.clearDrift := by
  have cleared : w.Moves strict x x { w with door := { w.door with drifted := false } } := .alike (.of_same rfl rfl) .inl
  exact .ite (fun _ => cleared.trans (.send _ rfl)) fun _ => .refl

theorem setTransit_moves : w.Moves False x x w.setTransit :=
  .ite (fun _ => .refl) fun _ => .alike (.of_same rfl rfl) fun _ => .inr not_false

theorem withStanding_moves (a : Standing) : w.Moves strict x x (w.withStanding a) := .alike (.of_same rfl rfl) .inl

theorem withAuthority_moves (a : MotionAuthority) : w.Moves strict x x (w.withAuthority a) := .alike (.of_same rfl rfl) .inl

theorem markHeld_moves : w.Moves strict x x w.markHeld := .alike (.of_same rfl rfl) .inl

theorem noteConflict_moves : w.Moves strict x x w.noteConflict := .ite (fun _ => .alike (.of_same rfl rfl) .inl) fun _ => .refl

theorem report_moves (k : FaultKind) (second : Option FaultKind) (persisting : Bool) :
    w.Moves strict x x (w.report k second persisting) := .send _ rfl

theorem evalTravelDrift_moves : w.Moves strict x x w.evalTravelDrift := by
  have evaluated : w.Moves strict x x { w with door := { w.door with travelDrift := travelDrifts w.door w.config } } :=
    .alike (.of_same rfl rfl) .inl
  exact .ite (fun _ => evaluated.trans (.send _ rfl)) fun _ =>
    .ite (fun _ => evaluated.trans (.send _ rfl)) fun _ => evaluated

theorem learn_moves : w.Moves strict x x w.learn := by
  refine .ite (fun _ => .trans (.alike ?_ fun t => .inl ?_) (evalTravelDrift_moves _)) fun _ => .alike (.of_same rfl rfl) .inl
  · cases w.door.dir <;> exact .of_same rfl rfl
  · cases dir : w.door.dir <;> rw [dir] at t <;> exact t

/-- A movement starts from rest (R29). -/
theorem startMove_moves (served : w.door.InService) (dir : Dir) (a : MotionAuthority) (held : Bool) :
    w.Moves strict .halted y (w.startMove dir a held) := by
  have quiet : w.Moves strict .halted .halted w.stopTimers.endEdgeWait :=
    w.stopTimers_moves.trans (endEdgeWait_moves _)
  have queued (w : Work) (served : w.door.InService) : w.Moves strict .halted y
      { w with door := { w.door with motion := .queued, dir := dir, authority := a, held := held } } :=
    .stands (.of_same served ⟨nofun, nofun⟩ rfl rfl) (fun h => h) fun _ _ ⟨out, _, _⟩ => ⟨out, nofun, nofun⟩
  have served' := quiet.inService served
  exact .ite (fun _ => quiet.trans (rest_moves _ served')) fun _ =>
    quiet.trans ((queued _ served').trans (.send _ rfl))

/-- A close starts under the standing order (R21), of a door that is not calm and faulted. -/
theorem startClose_moves (served : w.door.InService) (wakes : strict → w.door.faulted = true → ¬w.door.Calm) :
    w.Moves strict .halted y w.startClose :=
  .ite (fun _ => w.startMove_moves served _ _ _) fun _ =>
    .stands (.of_same served ⟨nofun, nofun⟩ rfl rfl) (fun h => h) fun s f c => absurd c (wakes s f)

/-- A door enters DWELL (R28, R40). -/
theorem enterDwell_moves (served : w.door.InService) (transit : w.door.transit = true) :
    w.Moves strict .halted y w.enterDwell := by
  have dwells (w : Work) (served : w.door.InService) (transit : w.door.transit = true) : w.Moves strict .halted y
      { w with door := { w.door with motion := .dwell, dwellTimer := some w.group.dwellTime, warningTimer := none } } :=
    .stands (.of_same served ⟨nofun, nofun⟩ rfl rfl) (fun h => h)
      fun _ _ ⟨out, _, _⟩ => by simp [out] at transit
  unfold Work.enterDwell
  dsimp only
  split
  · exact .trans (.send _ rfl) (dwells _ served transit)
  · exact dwells _ served transit

/-! ### Strokes -/

/-- A stroke begins (R30, R38, R54). -/
theorem beginStroke_moves (served : w.door.InService) (dir : Dir) (full : Bool) :
    w.Moves strict .halted .running (w.beginStroke dir full) := by
  have moving : isMoving (movingMotion dir) = true := by cases dir <;> rfl
  unfold Work.beginStroke
  rw [Work.switchValve_eq]
  dsimp only
  generalize hr : ({ w.door with
    motion := movingMotion dir, dir := dir, p0 := w.door.estimate, elapsed := 0
    deadline := strokeDeadline dir w.door.estimate (w.door.learned dir) w.config.margin, full := full } : Door) = r
  obtain ⟨alike, transit⟩ := r.valveAt_alike w.image w.channel dir true
  have motion : (r.valveAt w.image w.channel dir true).motion = movingMotion dir := by rw [alike.motion, ← hr]
  refine ⟨⟨rfl, rfl, ?_, fun k => by cases dir <;> cases k <;> rfl, ⟨[], by simp, by simp⟩, ?_, ?_, ?_⟩,
    by rw [alike.present, ← hr], ?_, ?_, by rw [alike.faulted, ← hr]⟩
  rotate_right 2
  · rw [motion]
    exact ⟨fun m => by simp [m, isMoving] at moving, fun m => absurd m served.2⟩
  · rw [motion]
    exact ⟨fun m => by simp [m, isMoving] at moving, fun m => absurd m served.1⟩
  · rw [alike.changed, ← hr]
    exact fun c => c
  · intro _ calm faulted
    obtain ⟨out, -, -⟩ := calm (by rwa [alike.faulted, ← hr] at faulted)
    rw [Door.Calm, transit, motion, ← hr]
    cases dir <;> exact ⟨out, nofun, nofun⟩
  · rintro ⟨⟨result, isolated, openValve, closeValve, -⟩, -⟩
    have idle : w.door.test = none := by
      by_contra some
      exact served.1 (isolated (Option.isSome_iff_ne_none.mpr some))
    have opened : w.channel.openValve = false := by
      by_contra on
      obtain ⟨x, hx, -⟩ := openValve (by simpa using on)
      simp [idle] at hx
    have closed : w.channel.closeValve = false := by
      by_contra on
      obtain ⟨x, hx, -⟩ := closeValve (by simpa using on)
      simp [idle] at hx
    have test : (r.valveAt w.image w.channel dir true).test = none := by rw [alike.test, ← hr, idle]
    refine ⟨⟨?_, ?_, ?_, ?_, ?_, ?_, ?_⟩, ?_, ?_⟩
    · rw [motion, alike.dir, ← hr]; cases dir <;> simp [movingMotion]
    · rw [motion, alike.dir, ← hr]; cases dir <;> simp [movingMotion]
    · rw [alike.testResult, alike.test, ← hr]; exact result
    · simp [test]
    · rw [motion]; cases dir <;> simp [movingMotion, Channel.withValve, opened]
    · rw [motion]; cases dir <;> simp [movingMotion, Channel.withValve, closed]
    · simp [test]
    · rw [Door.DeadlineOk, alike.deadline, ← hr]
      exact clamp_mem_range (by decide) _
    · rw [alike.elapsed, alike.deadline, ← hr]
      intro _
      exact Nat.lt_of_lt_of_le (by decide : 0 < 10) (clamp_mem_range (by decide) _).1
  · rintro - - still
    rw [motion, moving] at still
    cases still

/-- A stroke arrives (R32): its target switch is filtered ACTIVE. -/
theorem arrive_moves (moving : isMoving w.door.motion = true) (target : w.channel.endActive w.door.dir = true) :
    w.Moves strict .running y w.arrive := by
  have ended := w.endStroke_moves (strict := strict) .arrival moving
  have served := ended.inService (Motion.inService_of_moving moving)
  have fits : EstimateFits (w.endStroke .arrival).channel (endEstimate w.door.dir) := by
    rw [EstimateFits.filtered ended.filtered]
    cases dir : w.door.dir <;> rw [dir] at target
    · exact .inr (.inl ⟨rfl, target⟩)
    · exact .inl ⟨rfl, target⟩
  have stands : (w.endStroke .arrival).Moves strict .halted y { w.endStroke .arrival with
      door := { (w.endStroke .arrival).door with motion := endMotion w.door.dir, estimate := endEstimate w.door.dir } } := by
    cases dir : w.door.dir <;> rw [dir] at fits <;>
      exact .stands (.of_same served ⟨nofun, nofun⟩ rfl rfl) (fun _ => fits)
        fun _ _ ⟨out, _, _⟩ => ⟨out, nofun, nofun⟩
  have arrived := ended.trans stands
  have learned (w' : Work) (h : w.Moves strict .running y w') : w.Moves strict .running y
      (if w'.door.full then w'.learn else w') := .ite (fun _ => h.trans (learn_moves _)) fun _ => h
  unfold Work.arrive
  dsimp only
  split
  · exact learned _ arrived
  · exact (((learned _ arrived).trans (.send _ rfl)).trans (clearTransit_moves _)).trans (clearDrift_moves _)

/-- A stroke ended after a report comes to rest (R33 to R35). -/
theorem report_endStroke_rest_moves_spent (k : FaultKind) (second : Option FaultKind) (persisting : Bool)
    (moving : isMoving w.door.motion = true) :
    w.Moves strict .spent y ((w.report k second persisting).endStroke .other).rest := by
  have ended := (w.report_moves (strict := strict) k second persisting).trans (endStroke_moves_spent _ .other moving)
  exact ended.trans (rest_moves _ (ended.inService (Motion.inService_of_moving moving)))

theorem report_endStroke_rest_moves (k : FaultKind) (second : Option FaultKind) (persisting : Bool)
    (moving : isMoving w.door.motion = true) :
    w.Moves strict .running y ((w.report k second persisting).endStroke .other).rest :=
  w.spent_moves.trans (w.report_endStroke_rest_moves_spent k second persisting moving)

theorem endStroke_rest_moves (moving : isMoving w.door.motion = true) :
    w.Moves strict .running y (w.endStroke .other).rest := by
  have ended := w.endStroke_moves (strict := strict) .other moving
  exact ended.trans (rest_moves _ (ended.inService (Motion.inService_of_moving moving)))

theorem meetTarget_moves (moving : isMoving w.door.motion = true) (target : w.channel.endActive w.door.dir = true) :
    w.Moves strict .running y w.meetTarget :=
  .ite (fun _ => w.report_endStroke_rest_moves _ _ _ moving) fun _ => w.arrive_moves moving target

/-- A stroke obstructed (R36). -/
theorem obstruct_moves (moving : isMoving w.door.motion = true) : w.Moves strict .running y w.obstruct := by
  have ended := (w.endStroke_moves (strict := strict) .other moving).trans (.send (.obstructionNotice w.id) rfl)
  exact ended.trans (.stands
    (.of_same (ended.inService (Motion.inService_of_moving moving)) ⟨nofun, nofun⟩ rfl rfl) (fun h => h)
    fun _ _ ⟨out, _, _⟩ => ⟨out, nofun, nofun⟩)

theorem edgeAtStart_moves : w.Moves strict .running .running w.edgeAtStart := by
  refine .ite (fun meets => w.obstruct_moves ?_) fun _ => .refl
  simp only [Bool.and_eq_true, decide_eq_true_eq] at meets
  rw [meets.1.1]
  rfl

theorem queued_inService {r : Door} (h : r.motion = .queued) : r.InService := by
  constructor <;> simp [h]

theorem takeGrant_moves (dir : Dir) : w.Moves strict .running .running (w.takeGrant dir) := by
  refine .ite (fun ⟨queued, _⟩ => ?_) fun _ => .send _ rfl
  have begun := Moves.trans (.still (by rw [queued]; rfl))
    (w.beginStroke_moves (strict := strict) (queued_inService queued) dir
      (w.channel.endActive dir.flip && w.door.estimate == endEstimate dir.flip))
  exact (begun.trans (.send _ rfl)).trans (edgeAtStart_moves _)

theorem takePause_moves : w.Moves strict .running .running w.takePause := by
  refine .ite (fun moving => ?_) fun _ => .refl
  have ended := w.endStroke_moves (strict := strict) .pause moving
  exact ended.trans (.stands
    (.of_same (ended.inService (Motion.inService_of_moving moving)) ⟨nofun, nofun⟩ rfl rfl) (fun h => h)
    fun _ _ ⟨out, _, _⟩ => ⟨out, nofun, nofun⟩)

/-- A moving door reversed (R38). -/
theorem reverseMoving_moves (moving : isMoving w.door.motion = true) (a : MotionAuthority) (held : Bool) :
    w.Moves strict .running .running (w.reverseMoving a held) := by
  have ended := w.endStroke_moves (strict := strict) .reversal moving
  have begun := ended.trans (beginStroke_moves _ (ended.inService (Motion.inService_of_moving moving)) w.door.dir.flip false)
  have reversed := (begun.trans (.alike (.of_same rfl rfl) .inl :
    Moves strict .running .running _ { (w.endStroke .reversal).beginStroke w.door.dir.flip false with
      door := { ((w.endStroke .reversal).beginStroke w.door.dir.flip false).door with authority := a, held := held } })).trans
    (.send (.reversed w.id w.door.dir.flip) rfl)
  have facing : ((w.endStroke .reversal).beginStroke w.door.dir.flip false).door.dir = w.door.dir.flip ∧
      isMoving ((w.endStroke .reversal).beginStroke w.door.dir.flip false).door.motion = true := by
    rw [Work.beginStroke, Work.switchValve_eq]
    refine ⟨(Door.valveAt_alike _ _ _ _ _).1.dir, ?_⟩
    rw [(Door.valveAt_alike _ _ _ _ _).1.motion]
    cases w.door.dir.flip <;> rfl
  refine .ite (fun target => reversed.trans (meetTarget_moves _ facing.2 ?_)) fun _ => reversed.trans (edgeAtStart_moves _)
  refine Eq.trans (congrArg _ ?_) target
  exact facing.1

theorem reverseQueued_moves (queued : w.door.motion = .queued) (a : MotionAuthority) (held : Bool) :
    w.Moves strict .running .running (w.reverseQueued a held) := by
  have still : w.Moves strict .running .halted w := .still (by rw [queued]; rfl)
  have served := queued_inService queued
  refine .ite (fun _ => still.trans (w.rest_moves served)) fun _ => ?_
  have turned : w.Moves strict .running .running
      { w with door := { w.door with dir := w.door.dir.flip, authority := a, held := held } } :=
    still.trans (.stands (.of_same served served (by rw [queued]; rfl) rfl) (fun h => h) fun _ _ h => h)
  exact (turned.trans (.send _ rfl)).trans (.send _ rfl)

theorem reverse_moves (moves : isMoving w.door.motion = true ∨ w.door.motion = .queued) (a : MotionAuthority)
    (held : Bool) : w.Moves strict .running .running (w.reverse a held) :=
  .ite (fun moving => w.reverseMoving_moves moving a held) fun still =>
    w.reverseQueued_moves (moves.resolve_left still) a held

theorem stopAndRest_moves (served : w.door.InService) : w.Moves strict .running .running w.stopAndRest := by
  unfold Work.stopAndRest
  split
  · next moving => exact w.endStroke_rest_moves moving
  · next still => exact .trans (.still (by simpa using still)) (w.rest_moves served)

/-- R21 after an event. -/
theorem startIfDue_moves : w.Moves strict .running .running w.startIfDue := by
  refine .ite (fun due => ?_) fun _ => .refl
  have due : w.door.due = true := (Bool.and_eq_true _ _ ▸ due).1
  have motion := Door.due_motion due
  have still : isMoving w.door.motion = false := by rcases motion with m | m <;> rw [m] <;> rfl
  have served : w.door.InService := by constructor <;> rcases motion with m | m <;> simp [m]
  refine .trans (.still still) (w.startClose_moves served fun _ faulted => ?_)
  simp [Door.due, faulted] at due

end Work
end Sys2Proof.Machine

/-! Each reaction of the door table as what it may do to its door. -/

namespace Sys2Proof.Machine

open Sys2Proof

namespace Work

variable {strict : Prop} {x y : Stage} (w : Work)

/-! ### End switches -/

/-- An estimate written that fits. -/
theorem withEstimate_moves {n : Nat} (stage : x ≠ .halted ∧ x ≠ .spent)
    (fits : w.door.present = true → isMoving w.door.motion = false → EstimatedAt x w.door w.channel →
      EstimateFits w.channel n) : w.Moves strict x .running (w.withEstimate n) where
  image := rfl
  index := rfl
  present := rfl
  absent := .rfl
  isolated := .rfl
  changed c := c
  faulted := rfl
  filtered _ := rfl
  made := ⟨[], by simp [withEstimate], by simp⟩
  calm _ c := c
  driven := by
    cases x
    · exact fun d => d
    · exact absurd rfl stage.1
    · exact absurd rfl stage.2
    · exact fun d => d
  estimated estimated present still := fits present still estimated

theorem isolatedEstimate_fits (c : Channel) (e : Nat) : EstimateFits c (isolatedEstimate c e) := by
  unfold isolatedEstimate
  split <;> rename_i closed opened
  · exact .inl ⟨rfl, closed⟩
  · exact .inr (.inl ⟨rfl, opened⟩)
  · exact estimateFits_clamp _ _

theorem conflictAtRest_moves (served : w.door.InService) (still : isMoving w.door.motion = false) :
    w.Moves strict .running .running w.conflictAtRest :=
  (Moves.still still).trans ((w.report_moves _ _ _).trans (rest_moves _ served))

theorem confirmMoving_moves (moving : isMoving w.door.motion = true) {end_ : Dir}
    (active : w.channel.endActive end_ = true) : w.Moves strict .running .running (w.confirmMoving end_) :=
  .ite (fun target => w.meetTarget_moves moving (target ▸ active)) fun _ =>
    .ite (fun _ => w.report_endStroke_rest_moves _ _ _ moving) fun _ => w.report_endStroke_rest_moves _ _ _ moving

theorem endEstimate_fits {c : Channel} {end_ : Dir} (active : c.endActive end_ = true) :
    EstimateFits c (endEstimate end_) := by
  cases end_
  · exact .inr (.inl ⟨rfl, active⟩)
  · exact .inl ⟨rfl, active⟩

theorem endConfirm_moves {end_ : Dir} (active : w.channel.endActive end_ = true) :
    w.Moves strict .running .running (w.endConfirm end_) := by
  have rests (m : isMoving w.door.motion = false) (served : w.door.InService) : w.Moves strict .running .running w.rest :=
    (Moves.still m).trans (w.rest_moves served)
  have at_ : w.Moves strict .running .running (w.endEdgeWait.withEstimate (endEstimate end_)) :=
    w.endEdgeWait_moves.trans (withEstimate_moves _ ⟨nofun, nofun⟩ fun _ _ _ => endEstimate_fits active)
  unfold Work.endConfirm
  split <;> rename_i motion
  case h_1 => exact .refl
  case h_2 => exact w.withEstimate_moves ⟨nofun, nofun⟩ fun _ _ _ => isolatedEstimate_fits _ _
  case h_3 =>
    refine .ite (fun _ => ?_) fun _ => .refl
    have noted := (w.report_moves (strict := strict) (x := .running) .switchConflict none false).trans (noteConflict_moves _)
    exact noted.trans (withEstimate_moves _ ⟨nofun, nofun⟩ fun _ _ _ => estimateFits_clamp _ _)
  case h_4 | h_5 => exact w.confirmMoving_moves (by rw [motion]; rfl) active
  all_goals
    have still : isMoving w.door.motion = false := by rw [motion]; rfl
    have served : w.door.InService := by constructor <;> simp [motion]
    refine .ite (fun _ => w.conflictAtRest_moves served still) fun _ => ?_
  case h_6 | h_7 => exact w.endEdgeWait_moves
  case h_8 => exact rests still served
  case h_9 | h_10 => cases end_; exacts [at_, rests still served]
  case h_11 => exact .ite (fun _ => rests still served) fun _ => at_

theorem clamp_clamp (n : Nat) : clamp 10 990 (clamp 10 990 n) = clamp 10 990 n := by
  obtain ⟨low, high⟩ := clamp_mem_range (lo := 10) (hi := 990) (by decide) n
  rw [clamp_eq_min_max (by decide) (clamp 10 990 n)]
  omega

/-- At rest the estimate beyond 10-990 is of no concern to R20. -/
theorem rest_withEstimate_clamp : (w.withEstimate (clamp 10 990 w.door.estimate)).rest = w.rest := by
  have same : (w.withEstimate (clamp 10 990 w.door.estimate)).door.atRest w.channel = w.door.atRest w.channel := by
    unfold Door.atRest Work.withEstimate Door.outOfTransit
    dsimp only
    rw [clamp_clamp]
  rw [Work.rest_eq, Work.rest_eq]
  exact congrArg (fun r => Work.mk w.image w.id r w.channel _ w.dueBarred) same

theorem offEnd_fits {c : Channel} {e : Dir} {n : Nat} (off : c.endActive e = false)
    (left : EstimateFits c n ∨ n = endEstimate e) : EstimateFits c (Machine.offEnd e n) := by
  unfold Machine.offEnd
  cases e <;> dsimp only <;> split
  case opn.isTrue | cls.isTrue => exact .inr (.inr (by omega))
  all_goals
    rename_i away
    exact left.resolve_right away

theorem besideEnd_range (e : Dir) : 10 ≤ besideEnd e ∧ besideEnd e ≤ 990 := by
  cases e <;> simp [besideEnd]

/-- Nothing is to be corrected where the estimate of the door is worked out, or where there is none. -/
theorem released_moves (e : Dir) (h : isMoving w.door.motion = true ∨ w.door.present = false) :
    w.Moves strict (.released e) .running w :=
  { (Moves.refl : w.Moves strict .running .running w) with
    driven := fun d => d
    estimated := fun _ present still => by
      rcases h with h | h
      · simp [still] at h
      · simp [present] at h }

theorem endRelease_moves (e : Dir) (off : w.channel.endActive e = false)
    (presence : w.door.motion = .absent → w.door.present = false) :
    w.Moves strict (.released e) .running (w.endRelease e) := by
  have moved (n : Nat) (fits : EstimateFits w.channel n) : w.Moves strict (.released e) .running (w.withEstimate n) :=
    w.withEstimate_moves ⟨nofun, nofun⟩ fun _ _ _ => fits
  have offEnd (still : isMoving w.door.motion = false) :
      w.Moves strict (.released e) .running (w.withEstimate (Machine.offEnd e w.door.estimate)) :=
    w.withEstimate_moves ⟨nofun, nofun⟩ fun present _ left => offEnd_fits off (left present still)
  have stops (n : Nat) (range : 10 ≤ n ∧ n ≤ 990) (served : w.door.InService) (still : isMoving w.door.motion = false)
      (b : Bool) : w.Moves strict (.released e) .running
        { w with door := { w.door with drifted := b, motion := .stopped, estimate := n } } :=
    ((moved n (.inr (.inr range))).trans (.still still)).trans
      (.stands (w := w.withEstimate n) (.of_same served ⟨nofun, nofun⟩ rfl rfl) (fun h => h)
        fun _ _ ⟨out, _, _⟩ => ⟨out, nofun, nofun⟩)
  have rests (served : w.door.InService) (still : isMoving w.door.motion = false) :
      w.Moves strict (.released e) .running w.rest := by
    rw [← rest_withEstimate_clamp]
    exact ((moved _ (estimateFits_clamp _ _)).trans (.still still)).trans (rest_moves _ served)
  unfold Work.endRelease
  split
  next motion => exact w.released_moves _ (.inr (presence motion))
  next => exact moved _ (isolatedEstimate_fits _ _)
  next motion => exact w.released_moves _ (.inl (by rw [motion]; rfl))
  next motion => exact w.released_moves _ (.inl (by rw [motion]; rfl))
  next motion =>
    have served : w.door.InService := by constructor <;> simp [motion]
    exact ((stops 10 (by omega) served (by rw [motion]; rfl) true).trans (.send _ rfl)).trans (.send _ rfl)
  next motion =>
    have served : w.door.InService := by constructor <;> simp [motion]
    exact stops 990 (by omega) served (by rw [motion]; rfl) w.door.drifted
  next motion =>
    have served : w.door.InService := by constructor <;> simp [motion]
    exact .ite (fun _ => rests served (by rw [motion]; rfl)) fun _ => offEnd (by rw [motion]; rfl)
  next => exact moved _ (.inr (.inr (by omega)))
  next => exact moved _ (.inr (.inr (by omega)))
  next motion =>
    split
    · exact offEnd (by rw [motion]; rfl)
    · exact moved _ (.inr (.inr (besideEnd_range _)))
  next absent isolated opening closing _ _ _ _ _ _ =>
    refine offEnd ?_
    cases motion : w.door.motion <;> first | rfl | exact absurd motion opening | exact absurd motion closing

theorem endSwitch_confirm_moves {end_ : Dir} (event : w.channel.endActive end_ = true) :
    w.Moves strict .running .running (w.endSwitch end_ true) := by
  refine .ite (fun _ => .refl) fun _ => ?_
  cases end_ with
  | opn => exact w.endConfirm_moves event
  | cls =>
    have cleared := w.clearDrift_moves (strict := strict) (x := .running)
    exact cleared.trans (endConfirm_moves _ ((cleared.filtered .closedSwitch).trans event))

theorem endSwitch_release_moves {end_ : Dir} (event : w.channel.endActive end_ = false)
    (presence : w.door.motion = .absent → w.door.present = false) :
    w.Moves strict (.released end_) .running (w.endSwitch end_ false) := by
  refine .ite (fun motion => w.released_moves end_ (.inr (presence motion))) fun _ => ?_
  cases end_ with
  | opn => exact w.endRelease_moves _ event presence
  | cls =>
    have untight : w.Moves strict (.released .cls) (.released .cls) { w with door := { w.door with tight := false } } :=
      .alike (.of_same rfl rfl) .inl
    exact untight.trans (endRelease_moves _ _ event presence)

/-- The work on a door whose settling notes are these (R22). -/
def noted (w : Work) (n : SettleNotes) : Work := { w with door := { w.door with settle := n } }

theorem noted_moves (n : SettleNotes) : w.Moves strict x x (w.noted n) := .alike (.of_same rfl rfl) .inl

theorem endPrimed_moves (end_ : Dir) : w.Moves strict .running .running (w.endPrimed end_) := by
  have settles (n : SettleNotes) (motion : w.door.motion = .settling) : w.Moves strict .running .running
      (if n.closedPrimed && n.openPrimed then
        (if (w.noted n).channel.conflict && !n.conflict then (w.noted n).report .switchConflict none false
         else w.noted n).rest
      else w.noted n) := by
    have rests (w : Work) (motion : w.door.motion = .settling) : w.Moves strict .running .running w.rest :=
      (Moves.still (by rw [motion]; rfl)).trans (w.rest_moves (by constructor <;> simp [motion]))
    refine .ite (fun _ => ?_) fun _ => w.noted_moves n
    split
    · exact ((w.noted_moves n).trans (report_moves _ _ _ _)).trans (rests _ motion)
    · exact (w.noted_moves n).trans (rests _ motion)
  refine .ite (fun motion => ?_) fun _ => .refl
  cases end_
  · exact settles _ motion
  · exact settles _ motion

/-! ### Leaf edge and handles -/

theorem leafEdge_moves (active : Bool) : w.Moves strict .running .running (w.leafEdge active) := by
  refine .ite (fun _ => .refl) fun _ => ?_
  split
  · exact w.obstruct_moves (by rw [‹w.door.motion = .closing›]; rfl)
  · exact .alike (.of_same rfl rfl) .inl
  · exact .alike (.of_same rfl rfl) .inl
  · exact .refl

theorem edgeClearExpiry_moves : w.Moves strict x x w.edgeClearExpiry := .ite (fun _ => w.endEdgeWait_moves) fun _ => .refl

theorem openRelease_moves : w.Moves strict .running .running w.openRelease := by
  have dwells (w : Work) (served : w.door.InService) (transit : w.door.transit = true)
      (still : isMoving w.door.motion = false) : w.Moves strict .running .running w.enterDwell :=
    (Moves.still still).trans (w.enterDwell_moves served transit)
  unfold Work.openRelease
  split <;> rename_i motion
  case h_1 =>
    refine .ite (fun _ => .ite (dwells w ?_ · ?_) fun _ => ?_) fun _ => .refl
    · exact queued_inService motion
    · rw [motion]; rfl
    · exact (Moves.still (by rw [motion]; rfl)).trans (w.rest_moves (queued_inService motion))
  case h_2 =>
    have moving : isMoving w.door.motion = true := by rw [motion]; rfl
    have ended := w.endStroke_moves (strict := strict) .other moving
    refine .ite (fun _ => .ite (fun transit => ended.trans (enterDwell_moves _ ?_ ?_)) fun _ => ?_) fun _ => .refl
    · exact ended.inService (Motion.inService_of_moving moving)
    · rw [Work.endStroke_other]
      simpa [Door.strokeOver] using transit
    · exact w.endStroke_rest_moves moving
  case h_3 | h_4 =>
    refine .ite (dwells w ?_ · ?_) fun _ => .refl
    · constructor <;> simp [motion]
    · rw [motion]; rfl
  all_goals exact .refl

theorem closeRelease_moves : w.Moves strict .running .running w.closeRelease := by
  unfold Work.closeRelease
  split <;> rename_i motion
  case h_1 =>
    exact .ite (fun _ => (Moves.still (by rw [motion]; rfl)).trans (w.rest_moves (queued_inService motion))) fun _ => .refl
  case h_2 => exact .ite (fun _ => w.endStroke_rest_moves (by rw [motion]; rfl)) fun _ => .refl
  all_goals exact .refl

theorem handle_moves (handle : Dir) (active : Bool) : w.Moves strict .running .running (w.handle handle active) := by
  unfold Work.handle
  split
  · split <;> first | exact .refl | exact .send _ rfl
  · exact .ite (fun _ => .refl) fun _ => w.openRelease_moves.trans (.send _ rfl)
  · exact w.closeRelease_moves

/-! ### Rulings -/

theorem starts_moves (served : w.door.InService) (still : isMoving w.door.motion = false) (dir : Dir)
    (a : MotionAuthority) (held : Bool) : w.Moves strict .running .running (w.startMove dir a held) :=
  (Moves.still still).trans (w.startMove_moves served dir a held)

theorem ruleOpening_moves (held : Bool) : w.Moves strict .running .running (w.ruleOpening held) := by
  unfold Work.ruleOpening
  split <;> rename_i motion
  case h_1 | h_2 | h_3 | h_4 =>
    refine w.starts_moves ?_ (by rw [motion]; rfl) _ _ _
    constructor <;> simp [motion]
  case h_5 | h_6 => exact .ite (fun _ => w.markHeld_moves) fun _ => .refl
  case h_7 => exact w.reverse_moves (.inr ‹w.door.motion = .queued›) _ _
  case h_8 => exact w.reverse_moves (.inl (by rw [motion]; rfl)) _ _
  all_goals exact .refl

theorem ruleClosing_moves (a : MotionAuthority) (held : Bool) : w.Moves strict .running .running (w.ruleClosing a held) := by
  unfold Work.ruleClosing
  split <;> rename_i motion
  case h_1 | h_2 | h_3 | h_4 =>
    refine w.starts_moves ?_ (by rw [motion]; rfl) _ _ _
    constructor <;> simp [motion]
  case h_5 => exact w.reverse_moves (.inr ‹w.door.motion = .queued›) _ _
  case h_6 => exact w.reverse_moves (.inl (by rw [motion]; rfl)) _ _
  case h_7 | h_8 => exact .ite (fun _ => w.markHeld_moves) fun _ => .refl
  all_goals exact .refl

theorem releasedMeanwhile_moves (handle : Dir) : w.Moves strict .running .running (w.releasedMeanwhile handle) := by
  cases handle with
  | opn => exact .ite (fun _ => .refl) fun _ => w.openRelease_moves
  | cls => exact .ite (fun _ => .refl) fun _ => w.closeRelease_moves

/-- Of the rulings TRANSIT_OPEN alone brings a door into transit. -/
theorem obey_moves (r : Ruling) (transits : strict → r ≠ .transitOpen) : w.Moves strict .running .running (w.obey r) := by
  cases r with
  | ignore => exact .refl
  | latchOpen => exact w.ruleOpening_moves _
  | latchClose | closeNow => exact w.ruleClosing_moves _ _
  | holdOpen => exact (w.ruleOpening_moves true).trans (releasedMeanwhile_moves (w.ruleOpening true) .opn)
  | holdClose => exact (w.ruleClosing_moves .local_ true).trans (releasedMeanwhile_moves (w.ruleClosing .local_ true) .cls)
  | transitOpen =>
    have opens := w.setTransit_moves (x := .running) |>.trans ((ruleOpening_moves _ true).trans (releasedMeanwhile_moves _ .opn))
    exact { opens with calm := fun s => absurd rfl (transits s) }

theorem heldByFault_moves : w.Moves strict .running .running w.heldByFault := by
  have cleared := w.clearTransit_moves (strict := strict) (x := .running)
  have rests (served : w.clearTransit.door.InService) (still : isMoving w.clearTransit.door.motion = false) :=
    cleared.trans ((Moves.still still).trans (rest_moves (y := .running) _ served))
  unfold Work.heldByFault
  dsimp only
  split <;> rename_i motion
  case h_1 | h_2 | h_3 =>
    refine rests ?_ (by rw [motion]; rfl)
    constructor <;> simp [motion]
  all_goals exact cleared.trans (endEdgeWait_moves _)

/-- What the fault of a door leaves of it is calm (R43, R84). -/
theorem heldByFault_calm : w.heldByFault.door.Calm := by
  have out : w.clearTransit.door.transit = false := by
    unfold Work.clearTransit
    dsimp only
    split <;> rfl
  have rests (w : Work) (out : w.door.transit = false) : w.rest.door.Calm := by
    rw [Work.rest_eq]
    unfold Door.atRest
    dsimp only
    split
    · exact ⟨rfl, nofun, nofun⟩
    · exact ⟨out, nofun, nofun⟩
    · exact ⟨out, nofun, nofun⟩
  unfold Work.heldByFault
  dsimp only
  split <;> rename_i motion
  case h_1 | h_2 | h_3 => exact rests _ out
  all_goals exact ⟨out, by simp [Work.endEdgeWait, motion], by simp [Work.endEdgeWait, motion]⟩

/-- A faulted door that has obeyed is calm again (R43, R84). -/
theorem faultAfterRuling_moves (dir : Dir) : w.Moves strict .running .running (w.faultAfterRuling dir) := by
  refine .ite (fun reversed => w.heldByFault_moves.trans (endStroke_rest_moves _ ?_)) fun _ => w.heldByFault_moves
  simp only [Bool.and_eq_true] at reversed
  exact reversed.1.1

theorem faultAfterRuling_calm (dir : Dir) (faulted : w.door.faulted = true) : (w.faultAfterRuling dir).door.Calm := by
  unfold Work.faultAfterRuling
  dsimp only
  split
  · next reversed =>
    simp only [Bool.and_eq_true] at reversed
    have held := w.heldByFault_moves (strict := True)
    have rested := endStroke_rest_moves (strict := True) (y := .running) w.heldByFault reversed.1.1
    exact rested.calm trivial (fun _ => w.heldByFault_calm) (rested.faulted.trans (held.faulted.trans faulted))
  · exact w.heldByFault_calm

theorem rule_moves (r : Ruling) : w.Moves strict .running .running (w.rule r) := by
  have ruled : w.Moves strict .running .running
      (if w.door.faulted && asksUnfaulted r then (w.obey r).faultAfterRuling w.door.dir else w.obey r) := by
    have obeyed := w.obey_moves (strict := False) r nofun
    by_cases asks : (w.door.faulted && asksUnfaulted r) = true
    · rw [if_pos asks]
      have faulted : w.door.faulted = true := (Bool.and_eq_true _ _ ▸ asks).1
      exact { obeyed.trans (faultAfterRuling_moves _ w.door.dir) with
        calm := fun _ _ _ => faultAfterRuling_calm _ _ (obeyed.faulted.trans faulted) }
    · rw [if_neg asks]
      by_cases faulted : w.door.faulted = true
      · refine w.obey_moves r fun _ transit => asks ?_
        rw [faulted, transit]
        rfl
      · exact { obeyed with calm := fun _ _ f => absurd (obeyed.faulted ▸ f) faulted }
  unfold Work.rule
  split
  case h_1 | h_2 | h_3 => exact .refl
  all_goals exact ruled

/-! ### Standing orders -/

theorem orderRises_moves (a : Standing) : w.Moves strict .running .running (w.orderRises a) := by
  unfold Work.orderRises
  split
  case h_1 => exact w.stopAndRest_moves (queued_inService ‹_›)
  case h_2 => exact w.stopAndRest_moves (Motion.inService_of_moving (by rw [‹w.door.motion = .opening›]; rfl))
  case h_3 | h_4 => exact .ite (fun _ => w.withAuthority_moves _) fun _ => .refl
  case h_5 => exact .refl

theorem orderChanges_moves (a : Standing) : w.Moves strict .running .running (w.orderChanges a) := by
  unfold Work.orderChanges
  split
  case h_1 => exact w.withAuthority_moves _
  case h_2 | h_3 => exact .ite (fun _ => .refl) fun _ => w.withAuthority_moves _
  case h_4 => exact .refl

theorem orderEnds_moves (transit : Bool) : w.Moves strict .running .running (w.orderEnds transit) := by
  have rests (m : isMoving w.door.motion = false) (served : w.door.InService) : w.Moves strict .running .running w.rest :=
    (Moves.still m).trans (w.rest_moves served)
  unfold Work.orderEnds
  split <;> rename_i motion
  case h_1 | h_2 => exact rests (by rw [motion]; rfl) (by constructor <;> simp [motion])
  case h_3 =>
    have motion := ‹w.door.motion = .queued›
    exact .ite (fun _ => .refl) fun _ => rests (by rw [motion]; rfl) (queued_inService motion)
  case h_4 => exact .ite (fun _ => .refl) fun _ => w.withAuthority_moves _
  case h_5 | h_6 => exact .ite (fun _ => .alike (.of_same rfl rfl) .inl) fun _ => .refl
  case h_7 => exact w.endEdgeWait_moves
  case h_8 => exact .refl

theorem order_moves (a : Standing) : w.Moves strict .running .running (w.order a) := by
  have stands := w.withStanding_moves (strict := strict) (x := .running) a
  have ordered : w.Moves strict .running .running
      (if a = w.door.standing then w
       else if w.door.standing = .none then (w.withStanding a).orderRises a
       else if a = .none then ((w.withStanding a).clearTransit).orderEnds w.door.transit
       else (w.withStanding a).orderChanges a) :=
    .ite (fun _ => .refl) fun _ => .ite (fun _ => stands.trans (orderRises_moves _ _)) fun _ =>
      .ite (fun _ => (stands.trans (clearTransit_moves _)).trans (orderEnds_moves _ _)) fun _ =>
        stands.trans (orderChanges_moves _ _)
  unfold Work.order
  split
  case h_1 | h_2 => exact w.withStanding_moves _
  all_goals exact ordered

/-- A flood stop (R42): a faulted door is in no transit, and rests. -/
theorem floodStop_moves : w.Moves strict .running .running w.floodStop := by
  unfold Work.floodStop
  split <;> rename_i motion
  case h_1 =>
    have motion := ‹w.door.motion = .queued›
    have served := queued_inService motion
    have still : isMoving w.door.motion = false := by rw [motion]; rfl
    refine .ite (fun transit => ?_) fun _ => (Moves.still still).trans (w.rest_moves served)
    have withdrawn := (Moves.still still).trans (.send (strict := strict) (.withdraw w.id) rfl)
    have stopped := withdrawn.trans (.stands (w := w.send (.withdraw w.id)) (y := .halted)
      (r := { w.door with motion := .stopped }) (.of_same served ⟨nofun, nofun⟩ rfl rfl) (fun h => h)
      fun _ _ ⟨out, _, _⟩ => ⟨out, nofun, nofun⟩)
    exact stopped.trans (startClose_moves _ ⟨nofun, nofun⟩ fun _ _ ⟨out, _, _⟩ =>
      absurd (transit.symm.trans out) Bool.true_eq_false.mp)
  case h_2 =>
    have moving : isMoving w.door.motion = true := by rw [motion]; rfl
    have ended := w.endStroke_moves (strict := strict) .other moving
    refine .ite (fun transit => ?_) fun _ => w.endStroke_rest_moves moving
    refine ended.trans (startClose_moves _ (ended.inService (Motion.inService_of_moving moving)) fun _ _ ⟨out, _, _⟩ => ?_)
    rw [Work.endStroke_other] at out
    simp [Door.strokeOver, transit] at out
  case h_3 => exact .refl

/-! ### Timers -/

theorem warningExpiry_moves : w.Moves strict .running .running w.warningExpiry :=
  .ite (fun ⟨motion, _⟩ => w.starts_moves (by constructor <;> simp [motion]) (by rw [motion]; rfl) _ _ _) fun _ => .refl

theorem dwellExpiry_moves : w.Moves strict .running .running w.dwellExpiry :=
  .ite (fun ⟨motion, _⟩ => (Moves.still (by rw [motion]; rfl)).trans
    (w.startClose_moves (by constructor <;> simp [motion]) fun _ _ ⟨_, _, dwells⟩ => dwells motion)) fun _ => .refl

theorem transitExpiry_moves : w.Moves strict x x w.transitExpiry := by
  have overdue : w.Moves strict x x { w with door := { w.door with transitTimer := none, transitLong := true } } :=
    .alike (.of_same rfl rfl) .inl
  exact .ite (fun _ => overdue.trans (.send _ rfl)) fun _ => .refl

/-- E at D, of a stroke whose time is up (R55). -/
theorem elapsed_moves (n : Nat) : w.Moves strict .running .spent { w with door := { w.door with elapsed := n } } :=
  ⟨⟨rfl, rfl, fun c => c, fun _ => rfl, ⟨[], by simp, by simp⟩, fun _ c => c,
    fun ⟨drive, deadline, _⟩ => ⟨drive, deadline⟩, fun h => h⟩, rfl, .rfl, .rfl, rfl⟩

theorem deadlineExpiry_moves : w.Moves strict .running .running w.deadlineExpiry :=
  .ite (fun moving => (w.elapsed_moves _).trans (report_endStroke_rest_moves_spent _ _ _ _ moving)) fun _ => .refl

/-! ### Drive checks and the drive test -/

theorem withCheck_moves (v : Dir) (c : Check) : w.Moves strict x x { w with door := w.door.withCheck v c } := by
  cases v
  · exact .alike (.of_same rfl rfl) .inl
  · exact .alike (.of_same rfl rfl) .inl

theorem checkExpiry_moves (v : Dir) : w.Moves strict .running .running (w.checkExpiry v) := by
  refine .ite (fun _ => ?_) fun _ => .refl
  have noted := (w.withCheck_moves (strict := strict) (x := .running) v ⟨none, true⟩).trans
    (.send (.mismatchReport w.id v (w.channel.valve v)) rfl)
  refine .ite (fun _ => ?_) fun _ => noted
  have motion : (w.door.withCheck v ⟨none, true⟩).motion = w.door.motion := by cases v <;> rfl
  refine .ite (fun moving => noted.trans (report_endStroke_rest_moves _ _ _ _ ?_)) fun _ => noted.trans (report_moves _ _ _ _)
  exact (congrArg isMoving motion).trans moving

/-- A drive test moves on, of a door that does not move. -/
theorem tested_moves {result : TestResult} {test : Option TestRun} {c : Channel}
    (filtered : ∀ k, (c.filter k).filtered = (w.channel.filter k).filtered)
    (still : DriveOk w.door w.channel → isMoving w.door.motion = false)
    (drives : TestDrives w.door w.channel → TestDrives { w.door with testResult := result, test := test } c) :
    w.Moves strict .running .running { w with door := { w.door with testResult := result, test := test }, channel := c } := by
  refine ⟨⟨rfl, rfl, fun c => c, filtered, ⟨[], by simp, by simp⟩, fun _ c => c, ?_, ?_⟩, rfl, .rfl, .rfl, rfl⟩
  · rintro ⟨drive, deadline, stroke⟩
    exact ⟨.of_still (drives (.of_still drive (still drive))) (still drive), deadline, stroke⟩
  · intro h present still
    exact (EstimateFits.filtered filtered _).mpr (h present still)

theorem DriveOk.still_of_test {r : Door} {c : Channel} {t : TestRun} (test : r.test = some t) (h : DriveOk r c) :
    isMoving r.motion = false := by
  obtain ⟨-, -, -, isolated, -⟩ := h
  rw [isolated (by rw [test]; rfl)]
  rfl

theorem withValve_filtered (c : Channel) (v : Dir) (on : Bool) (k : DoorInput) :
    ((c.withValve v on).filter k).filtered = (c.filter k).filtered := by
  cases v <;> cases k <;> rfl

theorem clearChecks_moves : w.Moves strict x x w.clearChecks := .alike (.of_same rfl rfl) .inl

theorem beginTest_moves (isolated : w.door.motion = .isolated) (idle : w.door.testResult ≠ .running) :
    w.Moves strict .running .running w.beginTest := by
  have begun := w.tested_moves (strict := strict) (result := .running)
    (test := some ⟨.opn, w.group.driveSettle, true, true, false, false⟩)
    (withValve_filtered _ .opn true) (fun _ => by rw [isolated]; rfl) fun h => by
      have none : w.door.test = none := by
        by_contra some
        exact idle (h.result.mpr (Option.isSome_iff_ne_none.mpr some))
      refine ⟨⟨fun _ => rfl, fun _ => rfl⟩, fun _ => isolated, fun _ => ⟨_, rfl, rfl⟩, fun on => ?_, fun x hx off => ?_⟩
      · obtain ⟨x, hx, -⟩ := h.closeValve on
        simp [none] at hx
      · cases hx; cases off
  exact begun.trans (clearChecks_moves _)

theorem recheckBoth_moves : w.Moves strict x x w.recheckBoth := (w.recheck_moves .opn).trans (recheck_moves _ .cls)

theorem endTest_moves {t : TestRun} (test : w.door.test = some t) {result : TestResult} (ended : result ≠ .running) :
    w.Moves strict .running .running (w.endTest result) := by
  refine .trans (w.tested_moves (c := { w.channel with openValve := false, closeValve := false })
    (fun k => by cases k <;> rfl) (DriveOk.still_of_test test) fun h => ?_) (recheckBoth_moves _)
  exact ⟨⟨fun r => absurd r ended, nofun⟩, nofun, nofun, nofun, nofun⟩

theorem failTest_moves {t : TestRun} (test : w.door.test = some t) (t' : TestRun) (expected : Bool) :
    w.Moves strict .running .running (w.failTest t' expected) :=
  (w.endTest_moves test (by cases t'.phase <;> nofun)).trans (.send _ rfl)

/-- A running test noted anew, its phase and its off-check as they were. -/
theorem withTest_moves {t t' : TestRun} (test : w.door.test = some t) (phase : t'.phase = t.phase)
    (offCheck : t'.offCheck = t.offCheck) : w.Moves strict .running .running (w.withTest t') :=
  w.tested_moves (result := w.door.testResult) (test := some t') (fun _ => rfl) (DriveOk.still_of_test test) fun h => by
    refine ⟨by simpa [test] using h.result, fun _ => h.isolated (by rw [test]; rfl), fun on => ⟨t', rfl, ?_⟩,
      fun on => ⟨t', rfl, ?_⟩, fun x hx off => ?_⟩
    · obtain ⟨x, hx, opn⟩ := h.openValve on
      rwa [phase, Option.some.inj (test.symm.trans hx)]
    · obtain ⟨x, hx, cls⟩ := h.closeValve on
      rwa [phase, Option.some.inj (test.symm.trans hx)]
    · cases hx
      rw [phase]
      exact h.offCheck t test (offCheck ▸ off)

/-- The phase's valve OFF for the off-check (R15). -/
theorem switchOff_moves {t t' : TestRun} (test : w.door.test = some t) (phase : t'.phase = t.phase) :
    w.Moves strict .running .running (w.switchOff t') :=
  w.tested_moves (result := w.door.testResult) (test := some { t' with offCheck := true }) (withValve_filtered _ t'.phase false)
    (DriveOk.still_of_test test) fun h => by
      refine ⟨by simpa [test] using h.result, fun _ => h.isolated (by rw [test]; rfl), fun on => ⟨_, rfl, ?_⟩,
        fun on => ⟨_, rfl, ?_⟩, fun x hx off => ?_⟩
      · cases p : t'.phase with
        | opn => rfl
        | cls =>
          obtain ⟨x, hx, opn⟩ := h.openValve (by simpa [p, Channel.withValve] using on)
          rw [← p, phase, Option.some.inj (test.symm.trans hx), opn]
      · cases p : t'.phase with
        | cls => rfl
        | opn =>
          obtain ⟨x, hx, cls⟩ := h.closeValve (by simpa [p, Channel.withValve] using on)
          rw [← p, phase, Option.some.inj (test.symm.trans hx), cls]
      · cases hx
        cases p : t'.phase <;> rfl

/-- The close phase follows the open phase's off-check (R15). -/
theorem beginClosePhase_moves {t : TestRun} (test : w.door.test = some t) (phase : t.phase = .opn) (off : t.offCheck = true)
    (settle : Nat) : w.Moves strict .running .running (w.beginPhase .cls settle) :=
  w.tested_moves (result := w.door.testResult) (test := some ⟨.cls, settle, true, true, false, false⟩)
    (withValve_filtered _ .cls true) (DriveOk.still_of_test test) fun h => by
      refine ⟨by simpa [test] using h.result, fun _ => h.isolated (by rw [test]; rfl), fun on => ?_, fun _ => ⟨_, rfl, rfl⟩,
        fun x hx off => ?_⟩
      · have wasOff := h.offCheck t test off
        rw [phase] at wasOff
        exact absurd (wasOff.symm.trans on) Bool.false_ne_true
      · cases hx; cases off

theorem holdExpiry_moves : w.Moves strict .running .running w.holdExpiry := by
  unfold Work.holdExpiry
  split
  · exact .refl
  · next t test =>
    exact .ite (fun _ => .ite (fun _ => w.switchOff_moves test rfl) fun _ => w.withTest_moves test rfl rfl) fun _ => .refl

theorem onCheckExpiry_moves : w.Moves strict .running .running w.onCheckExpiry := by
  unfold Work.onCheckExpiry
  split
  · exact .refl
  · next t test =>
    exact .ite (fun _ => .ite (fun _ => .ite (fun _ => w.withTest_moves test rfl rfl) fun _ => w.switchOff_moves test rfl)
      fun _ => w.failTest_moves test _ _) fun _ => .refl

theorem offCheckExpiry_moves : w.Moves strict .running .running w.offCheckExpiry := by
  unfold Work.offCheckExpiry
  split
  · exact .refl
  · next t test =>
    refine .ite (fun off => .ite (fun _ => w.failTest_moves test _ _) fun _ => ?_) fun _ => .refl
    split
    · next phase => exact w.beginClosePhase_moves test phase off _
    · exact w.endTest_moves test nofun

end Work

/-- Every reaction that no filter and no message brings. -/
theorem DoorReaction.moves {strict : Prop} {w : Work} {f : Work → Work} (reaction : DoorReaction w.door f) :
    w.Moves strict .running .running (f w) := by
  cases reaction with
  | checkExpiry v => exact w.checkExpiry_moves v
  | holdExpiry => exact w.holdExpiry_moves
  | onCheckExpiry => exact w.onCheckExpiry_moves
  | offCheckExpiry => exact w.offCheckExpiry_moves
  | warningExpiry => exact w.warningExpiry_moves
  | dwellExpiry => exact w.dwellExpiry_moves
  | edgeClearExpiry => exact w.edgeClearExpiry_moves
  | transitExpiry => exact w.transitExpiry_moves
  | deadlineExpiry => exact w.deadlineExpiry_moves
  | floodStop => exact w.floodStop_moves
  | beginTest isolated idle => exact w.beginTest_moves isolated idle

end Sys2Proof.Machine

/-! What an event of the part makes of one door: the reactions that change its service, its presence or its faulted flag, what
follows every reaction, and the one way or the other in which each event touches a door. -/

namespace Sys2Proof.Machine

open Sys2Proof

namespace Work

variable {strict : Prop} {x y : Stage} (w : Work)

/-! ### The fault of a door -/

/-- The work on a door whose faulted flag is written. -/
def withFaulted (w : Work) (b : Bool) : Work := { w with door := { w.door with faulted := b } }

/-- What moves the door with its faulted flag written keeps the door where it leaves a faulted one calm. -/
theorem keeps_of_withFaulted {b : Bool} {w' : Work} (h : (w.withFaulted b).Moves strict .running y w')
    (calm : b = true → w'.door.Calm) : w.Keeps strict .running y w' :=
  { h.toKeeps with
    calm := fun _ _ f => calm (h.faulted.symm.trans f)
    driven := fun d => h.driven d
    estimated := fun e => h.estimated e }

theorem occupied_present (h : w.door.motion ≠ .absent) : w.occupied = (w.withFaulted true).heldByFault := if_neg h

theorem occupied_absent (h : w.door.motion = .absent) : w.occupied = w := if_pos h

theorem occupied_keeps : w.Keeps strict .running .running w.occupied := by
  by_cases absent : w.door.motion = .absent
  · rw [w.occupied_absent absent]
    exact Moves.refl.toKeeps
  · rw [w.occupied_present absent]
    exact w.keeps_of_withFaulted (heldByFault_moves _) fun _ => heldByFault_calm _

theorem barred_moves : w.Moves strict x x { w with dueBarred := true } :=
  { (Moves.refl : w.Moves strict x x w) with }

theorem emptied_moves : (w.withFaulted false).Moves strict .running .running w.emptied := by
  have reported (k : FaultKind) (second : Option FaultKind) := (w.withFaulted false).report_moves (strict := strict)
    (x := .running) k second true
  unfold Work.emptied
  dsimp only
  refine .ite (fun _ => barred_moves _) fun _ => ?_
  split
  · exact ((reported _ _).trans (noteConflict_moves _)).trans (barred_moves _)
  · exact (reported _ _).trans (barred_moves _)
  · exact ((reported _ _).trans (noteConflict_moves _)).trans (barred_moves _)
  · exact .refl

/-- The fault of a door leaves its presence and its service alone. -/
theorem occupied_service : w.occupied.door.present = w.door.present ∧
    (w.occupied.door.motion = .absent ↔ w.door.motion = .absent) ∧
    (w.occupied.door.motion = .isolated ↔ w.door.motion = .isolated) ∧
    (w.occupied.door.faulted = true ↔ w.door.faulted = true ∨ w.door.motion ≠ .absent) := by
  by_cases absent : w.door.motion = .absent
  · rw [w.occupied_absent absent]
    exact ⟨rfl, .rfl, .rfl, ⟨.inl, fun h => h.resolve_right (· absent)⟩⟩
  · have moves := (w.withFaulted true).heldByFault_moves (strict := True)
    rw [w.occupied_present absent]
    exact ⟨moves.present, moves.absent, moves.isolated, ⟨fun _ => .inr absent, fun _ => moves.faulted⟩⟩

theorem emptied_keeps : w.Keeps strict .running .running w.emptied :=
  w.keeps_of_withFaulted w.emptied_moves nofun

/-! ### Isolation, settling and presence -/

/-- What ISOLATE leaves of a door ahead of its isolation (R45). -/
theorem isolate_begun (served : w.door.InService) : ∃ w', w.Moves strict .running .halted w' ∧ w'.door.transit = false ∧
    w.isolate = { w' with door := { w'.door with
      motion := .isolated, standing := .none, estimate := isolatedEstimate w'.channel w'.door.estimate } } := by
  have begun : w.Moves strict .running .halted
      (if isMoving w.door.motion then w.endStroke .other
        else if w.door.motion = .queued then w.send (.withdraw w.id) else w) := by
    refine .ite (fun moving => w.endStroke_moves _ moving) fun still => ?_
    have halted : w.Moves strict .running .halted w := .still (by simpa using still)
    exact .ite (fun _ => halted.trans (.send _ rfl)) fun _ => halted
  unfold Work.isolate
  rw [if_neg served.1]
  dsimp only
  generalize (if isMoving w.door.motion then w.endStroke .other
    else if w.door.motion = .queued then w.send (.withdraw w.id) else w) = w1 at begun
  have quiet := ((begun.trans (stopTimers_moves _)).trans (endEdgeWait_moves _)).trans (clearTransit_moves _)
  have undrifted : w1.stopTimers.endEdgeWait.clearTransit.Moves strict .halted .halted
      { w1.stopTimers.endEdgeWait.clearTransit with
        door := { w1.stopTimers.endEdgeWait.clearTransit.door with drifted := false } } := .alike (.of_same rfl rfl) .inl
  have cleared := (quiet.trans undrifted).trans (.send (.alarmClear .driftOpen (.door w.id)) rfl)
  refine ⟨_, cleared, ?_, rfl⟩
  change w1.stopTimers.endEdgeWait.clearTransit.door.transit = false
  unfold Work.clearTransit
  dsimp only
  split <;> rfl

/-- A door isolated (R45). -/
theorem isolate_keeps (served : w.door.InService) : w.Keeps strict .running .running w.isolate := by
  obtain ⟨w', moves, out, isolated⟩ := w.isolate_begun (strict := strict) served
  rw [isolated]
  refine moves.toKeeps.trans ⟨rfl, rfl, fun c => c, fun _ => rfl, ⟨[], by simp, by simp⟩, fun _ _ _ => ⟨out, nofun, nofun⟩,
    ?_, fun h present _ => isolatedEstimate_fits _ _⟩
  rintro ⟨⟨result, isolated, openValve, closeValve, offCheck⟩, deadline⟩
  exact ⟨.of_still ⟨result, fun _ => rfl, openValve, closeValve, offCheck⟩ rfl, deadline, nofun⟩

theorem isolate_service (served : w.door.InService) : w.isolate.door.present = w.door.present ∧
    w.isolate.door.faulted = w.door.faulted ∧ w.isolate.door.motion = .isolated := by
  obtain ⟨w', moves, -, isolated⟩ := w.isolate_begun (strict := True) served
  rw [isolated]
  exact ⟨moves.present, moves.faulted, rfl⟩

theorem reprimed_filtered (c : Channel) (g : GroupRecord) (k : DoorInput) :
    ((c.reprimed g).filter k).filtered = (c.filter k).filtered := by
  cases k <;> rfl

/-- An isolated door settles again (R46). -/
theorem enterSettling_keeps (isolated : w.door.motion = .isolated) (idle : w.door.testResult ≠ .running) :
    w.Keeps strict .running .running w.enterSettling := by
  refine ⟨rfl, rfl, fun c => c, reprimed_filtered _ _, ⟨[], by simp [enterSettling], by simp⟩, fun _ calm f => ?_, ?_, ?_⟩
  · exact ⟨(calm f).1, nofun, nofun⟩
  · rintro ⟨drive, deadline, -⟩
    obtain ⟨result, -, openValve, closeValve, -⟩ := TestDrives.of_still drive (by rw [isolated]; rfl)
    have none : w.door.test = none := by
      by_contra some
      exact idle (result.mpr (Option.isSome_iff_ne_none.mpr some))
    refine ⟨.of_still ⟨result, fun t => ?_, openValve, closeValve, fun t ht => ?_⟩ rfl, deadline, nofun⟩
    · have t : w.door.test.isSome = true := t
      simp [none] at t
    · have ht : w.door.test = some t := ht
      simp [none] at ht
  · intro h present _
    exact (EstimateFits.filtered (reprimed_filtered _ _) _).mpr (h present (by rw [isolated]; rfl))

/-- A transit over (R27). -/
theorem clearTransit_eq :
    w.clearTransit = { w with door := w.door.outOfTransit, out := w.out ++ transitMessages w.id w.door } := by
  unfold Work.clearTransit transitMessages
  dsimp only
  split
  · rfl
  · rw [List.append_nil]
    rfl

/-- A drift over (R25). -/
theorem clearDrift_eq :
    w.clearDrift =
      { w with door := { w.door with drifted := false }, out := w.out ++ driftMessages w.id w.door } := by
  unfold Work.clearDrift driftMessages
  split
  · rfl
  · next still =>
    have off : w.door.drifted = false := by simpa using still
    rw [List.append_nil, ← off]

/-- A running test aborted (R17). -/
theorem abortTest_eq : ∃ o c, w.abortTest =
      { w with
        door := { w.door with
          testResult := if w.door.testResult = .running then .aborted else w.door.testResult
          test := if w.door.testResult = .running then none else w.door.test }
        channel := { w.channel with openValve := o, closeValve := c } } := by
  unfold Work.abortTest
  split
  · exact ⟨_, _, rfl⟩
  · exact ⟨w.channel.openValve, w.channel.closeValve, rfl⟩

/-- The clear of TRAVEL_DRIFT of a door made ABSENT (R65). -/
def travelMessages (d : DoorId) (r : Door) : List Instr := if r.travelDrift then [.alarmClear .travelDrift (.door d)] else []

/-- A door made ABSENT (R47), its capture apart. -/
theorem makeAbsent_eq :
    w.makeAbsent =
      { w with
        dueBarred := true
        door := { w.door.madeAbsent false with test := if w.door.testResult = .running then none else w.door.test }
        channel := { w.channel with openValve := false, closeValve := false }
        out := w.out ++ transitMessages w.id w.door ++ driftMessages w.id w.door ++ travelMessages w.id w.door } := by
  obtain ⟨o, c, aborted⟩ := w.abortTest_eq
  unfold Work.makeAbsent
  rw [aborted]
  simp only [Work.clearTransit_eq, Work.clearDrift_eq, Work.stopTimers, Work.endEdgeWait, Work.clearChecks]
  dsimp only [Door.outOfTransit]
  unfold travelMessages Door.madeAbsent
  cases travel : w.door.travelDrift
  · simp only [Bool.false_eq_true, if_false, List.append_nil, Bool.not_false, Bool.and_true]
    rfl
  · simp only [if_true, Work.send, Bool.not_false, Bool.and_true]
    rfl

theorem driven_of_quiet {r : Door} {c : Channel} (still : isMoving r.motion = false) (test : r.test = none)
    (result : r.testResult ≠ .running) (openValve : c.openValve = false) (closeValve : c.closeValve = false)
    (deadline : r.DeadlineOk) : DrivenAt .running r c := by
  refine ⟨.of_still ⟨⟨fun h => absurd h result, fun h => ?_⟩, fun h => ?_, fun h => ?_, fun h => ?_, fun t h => ?_⟩ still,
    deadline, fun h => ?_⟩
  · simp [test] at h
  · simp [test] at h
  · simp [openValve] at h
  · simp [closeValve] at h
  · simp [test] at h
  · simp [still] at h

/-- A door made ABSENT (R47). -/
theorem makeAbsent_keeps : w.Keeps strict .running .running w.makeAbsent := by
  rw [w.makeAbsent_eq]
  refine ⟨rfl, rfl, fun c => c, fun k => by cases k <;> rfl, ⟨_, List.append_assoc _ _ _ |>.trans (List.append_assoc _ _ _),
    fun m hm => ?_⟩, fun _ _ _ => ⟨rfl, nofun, nofun⟩, fun ⟨⟨_, _, result, _⟩, deadline, _⟩ => ?_, fun _ => nofun⟩
  · simp only [List.mem_append, transitMessages, driftMessages, travelMessages, List.mem_ite_nil_right,
      List.mem_singleton] at hm
    rcases hm with ⟨-, rfl⟩ | ⟨-, rfl⟩ | ⟨-, rfl⟩ <;> rfl
  · refine driven_of_quiet rfl ?_ ?_ rfl rfl deadline
    · change (if w.door.testResult = .running then none else w.door.test) = none
      split
      · rfl
      · next idle =>
        by_contra some
        exact idle (result.mpr (Option.isSome_iff_ne_none.mpr some))
    · change (if w.door.testResult = .running then TestResult.aborted else w.door.testResult) ≠ .running
      split
      · nofun
      · assumption

/-- A door made present (R47), that was ABSENT. -/
theorem makePresent_keeps (absent : w.door.motion = .absent) (a : Standing) :
    w.Keeps strict .running .running (w.makePresent a) := by
  let made : Work :=
    { w with
      door := { Door.atPowerOn w.config a with present := true, motion := .settling, changed := w.door.changed }
      channel := w.channel.reprimed w.group }
  have begun : w.Keeps strict .running .running made := by
    refine ⟨rfl, rfl, fun c => c, reprimed_filtered _ _, ⟨[], by simp [made], by simp⟩,
      fun _ _ f => (nomatch f), fun ⟨drive, _, _⟩ => ?_, fun _ _ _ => .inr (.inr ⟨?_, ?_⟩)⟩
    · have drives := TestDrives.of_still drive (by rw [absent]; rfl)
      have untested : w.door.test = none := by
        by_contra some
        have isolated := drives.isolated (Option.isSome_iff_ne_none.mpr some)
        simp [absent] at isolated
      refine driven_of_quiet rfl rfl nofun ?_ ?_ ⟨le_rfl, (by decide : 10 ≤ 1200)⟩
      · by_contra on
        obtain ⟨x, hx, -⟩ := drives.openValve (by simpa [made, Channel.reprimed] using on)
        simp [untested] at hx
      · by_contra on
        obtain ⟨x, hx, -⟩ := drives.closeValve (by simpa [made, Channel.reprimed] using on)
        simp [untested] at hx
    · exact (by decide : 10 ≤ 500)
    · exact (by decide : 500 ≤ 990)
  exact begun.trans (recheckBoth_moves _).toKeeps

/-- A door present before and after a commit (R47). -/
theorem keepPresent_moves (old : DoorRecord) : w.Moves strict x x (w.keepPresent old) := by
  have relearned : w.Moves strict x x { w with door := { w.door with
      learnedClose := if w.config.nominalClose = old.nominalClose then w.door.learnedClose else w.config.nominalClose
      learnedOpen := if w.config.nominalOpen = old.nominalOpen then w.door.learnedOpen else w.config.nominalOpen } } :=
    .alike (.of_same rfl rfl) .inl
  have evaluated := relearned.trans (evalTravelDrift_moves _)
  exact .ite (fun _ => evaluated) fun _ => evaluated.trans (endEdgeWait_moves _)

theorem commit_keeps (old : DoorRecord) (a : Standing)
    (absent : old.present = false → w.door.motion = .absent) : w.Keeps strict .running .running (w.commit old a) := by
  unfold Work.commit
  split
  · exact w.makeAbsent_keeps
  · next was _ => exact w.makePresent_keeps (absent was) a
  · exact (w.keepPresent_moves old).toKeeps
  · exact Moves.refl.toKeeps

/-- The state a restart gives a door stands, and its estimate fits (R49). -/
theorem restartMotion_stands : ∃ m e, w.restartMotion = { w with door := { w.door with motion := m, estimate := e } } ∧
    isMoving m = false ∧ (m = .absent ↔ w.door.motion = .absent) ∧ (m = .isolated ↔ w.door.motion = .isolated) ∧
    m ≠ .warning ∧ m ≠ .dwell ∧
    (w.door.present = true → EstimatedAt .running w.door w.channel → EstimateFits w.channel e) := by
  have rests : let r := restOf w.channel w.door.estimateNow
      isMoving r.1 = false ∧ r.1 ≠ .absent ∧ r.1 ≠ .isolated ∧ r.1 ≠ .warning ∧ r.1 ≠ .dwell ∧
      EstimateFits w.channel r.2 := by
    unfold restOf
    dsimp only
    split <;> rename_i closed opened
    · exact ⟨rfl, nofun, nofun, nofun, nofun, .inl ⟨rfl, closed⟩⟩
    · exact ⟨rfl, nofun, nofun, nofun, nofun, .inr (.inl ⟨rfl, opened⟩)⟩
    · exact ⟨rfl, nofun, nofun, nofun, nofun, estimateFits_clamp _ _⟩
    · exact ⟨rfl, nofun, nofun, nofun, nofun, estimateFits_clamp _ _⟩
  obtain ⟨still, absent, isolated, warns, dwells, fits⟩ := rests
  unfold Work.restartMotion
  split <;> rename_i motion
  case h_1 | h_2 | h_3 =>
    refine ⟨_, _, rfl, by rw [motion]; rfl, .rfl, .rfl, by simp [motion], by simp [motion], fun present law => ?_⟩
    exact law present (by rw [motion]; rfl)
  all_goals exact ⟨_, _, rfl, still, ⟨fun m => absurd m absent, fun m => by simp [motion] at m⟩,
    ⟨fun m => absurd m isolated, fun m => by simp [motion] at m⟩, warns, dwells, fun _ _ => fits⟩

theorem restartReports_moves : w.Moves strict x x w.restartReports := by
  refine .ite (fun _ => ?_) fun _ => .refl
  have evaluated : w.Moves strict x x { w with door := { w.door with travelDrift := travelDrifts w.door w.config } } :=
    .alike (.of_same rfl rfl) .inl
  refine ((evaluated.trans (.send _ ?_)).trans (.send _ ?_)).trans (.send _ rfl)
  · split <;> rfl
  · split <;> rfl

/-- A door restarted (R49). -/
theorem restart_moves : w.Moves strict .running .running w.restart := by
  obtain ⟨m, e, stood, still, absent, isolated, warns, dwells, fits⟩ := w.restartMotion_stands
  unfold Work.restart
  rw [stood]
  refine Moves.trans (y := .running) ?_ ((clearChecks_moves _).trans ((recheckBoth_moves _).trans (restartReports_moves _)))
  refine ⟨⟨rfl, rfl, fun _ => rfl, fun k => by cases k <;> rfl, ⟨[], by simp, by simp⟩, fun _ _ _ => ⟨rfl, warns, dwells⟩,
    fun ⟨_, deadline, _⟩ => ?_, fun law present _ => fits present law⟩, rfl, absent, isolated, rfl⟩
  refine driven_of_quiet still rfl ?_ rfl rfl deadline
  change (if w.door.testResult = .running then TestResult.aborted else w.door.testResult) ≠ .running
  split
  · nofun
  · assumption

/-! ### What follows every reaction -/

theorem setWarning_moves : w.Moves strict x x w.setWarning := by
  refine { (Moves.refl : w.Moves strict x x w) with
    filtered := fun k => by cases k <;> rfl
    driven := fun d => ?_
    estimated := fun e => ?_ }
  · cases x
    case halted =>
      obtain ⟨⟨result, isolated, openValve, closeValve, offCheck⟩, deadline⟩ := d
      refine ⟨⟨result, isolated, openValve, closeValve, fun t ht off => ?_⟩, deadline⟩
      rw [← offCheck t ht off]
      cases t.phase <;> rfl
    all_goals
      obtain ⟨⟨opening, closing, result, isolated, openValve, closeValve, offCheck⟩, rest⟩ := d
      refine ⟨⟨opening, closing, result, isolated, openValve, closeValve, fun t ht off => ?_⟩, rest⟩
      rw [← offCheck t ht off]
      cases t.phase <;> rfl
  · cases x <;> exact e

theorem flagChange_moves (b : Door) (c : Channel) : w.Moves strict .running .running (w.flagChange b c) := by
  refine .ite (fun _ => .refl) fun _ => ?_
  exact ⟨⟨rfl, rfl, fun _ => rfl, fun _ => rfl, ⟨[], by simp, by simp⟩, fun _ h => h, fun h => h, fun h => h⟩, rfl, .rfl,
    .rfl, rfl⟩

/-- What follows a reaction moves the door, and no further. -/
theorem event_followed (f : Work → Work) (b : Door) (c : Channel) : (f w).Moves strict .running .running (w.event b c f) :=
  (startIfDue_moves _).trans ((setWarning_moves _).trans (flagChange_moves _ _ _))

end Work
end Sys2Proof.Machine

/-! The one way or the other in which each event touches a door. -/

namespace Sys2Proof.Machine

open Sys2Proof

/-- What an event makes of a door: the image, the record and the channel that it leaves. Where it is said to be `mild`, it neither
isolates nor restores the door, nor makes it ABSENT or present. -/
inductive Touched (c : Instr) (s : State) (d : DoorId) : Bool → Image → Door → Channel → Prop
  | still {mild : Bool} : Touched c s d mild s.image (s.door d) (s.channel d)
  | filter {mild : Bool} (k : DoorInput) (f : Filter) (same : f.filtered = ((s.channel d).filter k).filtered) :
      Touched c s d mild s.image (s.door d) ((s.channel d).withFilter k f)
  | input {mild : Bool} (k : DoorInput) (f : Filter) (w : Work)
      (event : w = Work.event ⟨s.image, d, s.door d, (s.channel d).withFilter k f, [], false⟩ (s.door d) (s.channel d)
        fun w => w.inputEvent k f.filtered) : Touched c s d mild s.image w.door w.channel
  | reaction {mild : Bool} (f : Work → Work) (moves : (s.work d).Moves True .running .running (f (s.work d))) :
      Touched c s d mild s.image (s.worked d f).door (s.worked d f).channel
  | occupied {mild : Bool} : Touched c s d mild s.image (s.worked d Work.occupied).door (s.worked d Work.occupied).channel
  | emptied {mild : Bool} : Touched c s d mild s.image (s.worked d Work.emptied).door (s.worked d Work.emptied).channel
  | isolated (served : (s.door d).InService) :
      Touched c s d false s.image (s.worked d Work.isolate).door (s.worked d Work.isolate).channel
  | settles (isolated : (s.door d).motion = .isolated) (idle : (s.door d).testResult ≠ .running) :
      Touched c s d false s.image (s.worked d Work.enterSettling).door (s.worked d Work.enterSettling).channel
  | tick {mild : Bool} (moving : isMoving (s.door d).motion = true) (short : (s.door d).elapsed + 1 < (s.door d).deadline) :
      Touched c s d mild s.image (s.door d).tick (s.channel d)
  | read {mild : Bool} (r : Req) (command : c = .doorStatus r) : Touched c s d mild s.image (readDoor (s.channel d) (s.door d)) (s.channel d)
  | commit (a : Standing) (w : Work)
      (event : w = Work.event ⟨s.store.staging, d, s.door d, s.channel d, [], false⟩ (s.door d) (s.channel d)
        fun w => w.commit s.image.doors[d] a) : Touched c s d false s.store.staging w.door w.channel
  | powerOn (command : c = .powerOn) (i : Image) :
      Touched c s d false i (.atPowerOn i.doors[d] (standingAtPowerOn i d)) ((s.channel d).atPowerOn i.group)

/-- An event leaves a door touched in one of those ways. -/
abbrev TouchedBy (mild : Bool) (c : Instr) (s t : State) (d : DoorId) : Prop :=
  Touched c s d mild t.image (t.door d) (t.channel d)

section
variable {c : Instr} {s t : State} {d : DoorId} {mild : Bool}

theorem TouchedBy.of_eq (image : t.image = s.image) (door : t.door d = s.door d) (channel : t.channel d = s.channel d) :
    TouchedBy mild c s t d := by
  rw [TouchedBy, image, door, channel]
  exact .still

/-- An event of the door table for a door leaves the others as they were. -/
theorem TouchedBy.doorEvent {s0 : State} (begun : s0.image = s.image ∧ s0.doors = s.doors ∧ s0.channels = s.channels) (e : DoorId)
    (f : Work → Work)
    (own : e = d → Touched c s d mild s.image (s.worked d f).door (s.worked d f).channel) :
    TouchedBy mild c s (s0.doorEvent s0 e f) d := by
  obtain ⟨image, doors, channels⟩ := begun
  have door (e : DoorId) : s0.door e = s.door e := by rw [State.door, doors]; rfl
  have channel (e : DoorId) : s0.channel e = s.channel e := by rw [State.channel, channels]; rfl
  by_cases he : e = d
  · subst he
    have work : s0.work e = s.work e := by rw [State.work, image, door, channel]; rfl
    rw [TouchedBy, State.doorEvent_door, State.doorEvent_channel, (s0.doorEvent_onlyDoor s0 e f).toDoorTableOnly.image, work,
      image, door, channel]
    exact own rfl
  · have frame := s0.doorEvent_onlyDoor s0 e f
    exact .of_eq (frame.toDoorTableOnly.image.trans image) ((frame.doors d (Ne.symm he)).trans (door d))
      ((frame.channels d (Ne.symm he)).trans (channel d))

theorem inputPrimed_moves {strict : Prop} (w : Work) (k : DoorInput) :
    w.Moves strict .running .running (w.inputPrimed k) := by
  cases k with
  | closedSwitch => exact w.endPrimed_moves .cls
  | openSwitch => exact w.endPrimed_moves .opn
  | openReadback => exact w.recheck_moves .opn
  | closeReadback => exact w.recheck_moves .cls
  | openHandle | closeHandle | leafEdge => exact .refl

theorem TouchedBy.deliver (m : Instr) (d : DoorId) : TouchedBy mild c s (s.deliver m) d := by
  have quiet (m : Instr) : (s.taking m).image = s.image ∧ (s.taking m).doors = s.doors ∧ (s.taking m).channels = s.channels :=
    ⟨rfl, rfl, rfl⟩
  cases m with
  | standingAuthorityReport e a =>
    exact .doorEvent (quiet _) e _ fun _ => .reaction _ (Work.order_moves _ a)
  | handleRuling e r => exact .doorEvent (quiet _) e _ fun _ => .reaction _ (Work.rule_moves _ r)
  | grant e dir => exact .doorEvent (quiet _) e _ fun _ => .reaction _ (Work.takeGrant_moves _ dir)
  | pause e => exact .doorEvent (quiet _) e _ fun _ => .reaction _ (Work.takePause_moves _)
  | captureOccupiedNotice e => exact .doorEvent (quiet _) e _ fun _ => .occupied
  | captureEmptiedNotice e => exact .doorEvent (quiet _) e _ fun _ => .emptied
  | _ => exact .of_eq rfl rfl rfl

theorem TouchedBy.restartBlocks {s0 : State} (cause : StartCause)
    (begun : s0.image = s.image ∧ s0.doors = s.doors ∧ s0.channels = s.channels) :
    TouchedBy mild c s (s0.restartBlocks cause) d := by
  obtain ⟨image, doors, channels⟩ := begun
  have image' : (s0.restartBlocks cause).image = s.image := by
    rw [State.image, State.restartBlocks_store]
    exact image
  have work : s0.worked d Work.restart = s.worked d Work.restart := by
    rw [State.worked, State.work, State.door, State.channel, image, doors, channels]
    rfl
  rw [TouchedBy, image', (s0.restartBlocks_door cause d).1, (s0.restartBlocks_door cause d).2, work]
  exact .reaction _ (Work.restart_moves _)

theorem TouchedBy.commit : TouchedBy false c s s.commit d := by
  have image : s.commit.image = s.store.staging := by rw [State.image, State.commit_store]
  rw [TouchedBy, image, s.commit_door d |>.1, s.commit_door d |>.2]
  exact .commit (standingOfFresh s.store.staging s.resolver d) _ rfl

theorem TouchedBy.powerOn (command : c = .powerOn) : TouchedBy false c s s.powerOn d := by
  have supplied (stored : Stored) (n : Nat) :
      TouchedBy false c s (.poweredUp s.channels s.lines s.straps stored s.pending n) d := by
    have up := Touched.powerOn (s := s) (d := d) command (Store.atPowerOn stored).active
    rw [TouchedBy]
    convert up using 1
    · rfl
    · exact Vector.getElem_ofFn _
    · exact Vector.getElem_ofFn _
  unfold State.powerOn
  split
  · exact supplied _ _
  · exact supplied _ _

/-- The events of a filter. -/
theorem TouchedBy.filter (i : InputId) (f : Filter) (same : i ≠ .resetPin → f.filtered = (s.filter i).filtered) :
    TouchedBy mild c s (s.withFilter i f) d := by
  cases i with
  | door e k =>
    by_cases he : d = e
    · subst he
      have door : (s.withFilter (.door d k) f).door d = s.door d := rfl
      have channel : (s.withFilter (.door d k) f).channel d = (s.channel d).withFilter k f := s.withChannel_channel d _
      have image : (s.withFilter (.door d k) f).image = s.image := rfl
      rw [TouchedBy, door, channel, image]
      exact .filter k f (same nofun)
    · exact .of_eq rfl rfl (s.withChannel_channel_ne _ he)
  | _ => exact .of_eq rfl rfl rfl

theorem TouchedBy.input (i : InputId) (f : Filter) (line : i ≠ .resetPin) :
    TouchedBy mild c s ((s.withFilter i f).inputEvent s i f.filtered) d := by
  cases i with
  | door e k =>
    have frame := (s.withFilter (.door e k) f).doorEvent_onlyDoor s e fun w => w.inputEvent k f.filtered
    by_cases he : d = e
    · subst he
      have channel : (s.withFilter (.door d k) f).channel d = (s.channel d).withFilter k f := s.withChannel_channel d _
      unfold State.inputEvent
      dsimp only
      rw [TouchedBy, State.doorEvent_door, State.doorEvent_channel, frame.toDoorTableOnly.image, State.work, channel]
      exact .input k f _ rfl
    · exact .of_eq frame.toDoorTableOnly.image (frame.doors d he)
        ((frame.channels d he).trans (s.withChannel_channel_ne _ he))
  | emergency =>
    unfold State.inputEvent
    dsimp only
    split <;> exact .of_eq rfl rfl rfl
  | resetPin => exact absurd rfl line
  | mainSupply | pressure => exact .of_eq rfl rfl rfl

theorem TouchedBy.primed (i : InputId) : TouchedBy mild c s (s.inputPrimed i) d := by
  cases i with
  | door e k => exact .doorEvent ⟨rfl, rfl, rfl⟩ e _ fun _ => .reaction _ (inputPrimed_moves _ k)
  | _ => exact .of_eq rfl rfl rfl

/-- A record of one door written. -/
theorem TouchedBy.withDoor (e : DoorId) {r : Door} (own : e = d → Touched c s d mild s.image r (s.channel d)) :
    TouchedBy mild c s (s.withDoor e r) d := by
  by_cases he : d = e
  · subst he
    have door : (s.withDoor d r).door d = r := s.withDoor_door d r
    rw [TouchedBy, door]
    exact own rfl
  · exact .of_eq rfl (s.withDoor_door_ne r he) rfl

/-- Every event touches a door in one of those ways. -/
theorem Event.touches {strays : Prop} (event : Event c strays s t) (d : DoorId) : TouchedBy false c s t d := by
  cases event with
  | powerOn command => exact .powerOn command
  | filter i f same => exact .filter i f same
  | input i f _ line => exact .input i f line
  | primed i => exact .primed i
  | door e reaction => exact .doorEvent ⟨rfl, rfl, rfl⟩ e _ fun he => .reaction _ (he ▸ reaction).moves
  | tick e moving short => exact .withDoor e fun he => he ▸ .tick moving short
  | readDoor e r command => exact .withDoor e fun he => he ▸ .read r command
  | deliver m => exact .deliver m d
  | isolateDoor e present connected =>
    exact TouchedBy.doorEvent (s := s) (s0 := s.ordersEvent fun o => o.isolate e) ⟨rfl, rfl, rfl⟩ e Work.isolate fun he =>
      .isolated (he ▸ ⟨connected, present⟩)
  | restoreDoor e isolated idle =>
    have settled : TouchedBy false c s (s.doorEvent s e Work.enterSettling) d :=
      .doorEvent ⟨rfl, rfl, rfl⟩ e _ fun he => .settles (he ▸ isolated) (he ▸ idle)
    exact settled
  | store x active => exact .of_eq active rfl rfl
  | written x active => exact .of_eq active rfl rfl
  | commit => exact .commit
  | pinRestart => exact .restartBlocks .resetPin ⟨rfl, rfl, rfl⟩
  | replyRestart l => exact .restartBlocks .restartRequest ⟨rfl, rfl, rfl⟩
  | _ => exact .of_eq rfl rfl rfl

end

/-! ### Across an input's event -/

/-- How far an input's event has come: the estimate of a door whose end switch is released may still name that end. -/
def inputStage (k : DoorInput) (active : Bool) : Stage :=
  match k, active with
  | .closedSwitch, false => .released .cls
  | .openSwitch, false => .released .opn
  | _, _ => .running

theorem inputEvent_moves {strict : Prop} (w : Work) (k : DoorInput) {active : Bool}
    (event : (w.channel.filter k).filtered = active) (presence : w.door.motion = .absent → w.door.present = false) :
    w.Moves strict (inputStage k active) .running (w.inputEvent k active) := by
  cases k with
  | closedSwitch =>
    cases active
    · exact w.endSwitch_release_moves (end_ := .cls) event presence
    · exact w.endSwitch_confirm_moves (end_ := .cls) event
  | openSwitch =>
    cases active
    · exact w.endSwitch_release_moves (end_ := .opn) event presence
    · exact w.endSwitch_confirm_moves (end_ := .opn) event
  | openHandle => exact w.handle_moves .opn active
  | closeHandle => exact w.handle_moves .cls active
  | leafEdge => exact w.leafEdge_moves active
  | openReadback => exact w.recheck_moves .opn
  | closeReadback => exact w.recheck_moves .cls

end Sys2Proof.Machine

/-! What every step keeps of each door: its presence (R47), its valves and its stroke (R15, R18, R54), its estimate (R53), its
local warning output (R148); and that no command but DOOR_STATUS loses a change (R143, R144). -/

namespace Sys2Proof.Machine

open Sys2Proof

/-! ### Presence -/

/-- A door as `PresenceInv` has it. -/
def Door.PresentIn (i : Image) (d : DoorId) (r : Door) : Prop :=
  r.present = i.doors[d].present ∧ (r.motion = .absent ↔ r.present = false)

theorem Door.PresentIn.absent {i : Image} {d : DoorId} {r : Door} (h : r.PresentIn i d) (m : r.motion = .absent) :
    r.present = false := h.2.mp m

section
variable {c : Instr} {s t : State} {d : DoorId} {mild : Bool} {i : Image} {r : Door} {ch : Channel}

theorem Door.PresentIn.event {w : Work} {f : Work → Work} {b : Door} {bc : Channel} (h : (f w).door.PresentIn i d) :
    (w.event b bc f).door.PresentIn i d := by
  have followed := w.event_followed (strict := True) f b bc
  exact ⟨followed.present.trans h.1, followed.absent.trans (h.2.trans (by rw [followed.present]))⟩

theorem Door.PresentIn.of_same {r' : Door} (h : r.PresentIn i d) (present : r'.present = r.present)
    (absent : r'.motion = .absent ↔ r.motion = .absent) : r'.PresentIn i d :=
  ⟨present.trans h.1, absent.trans (h.2.trans (by rw [present]))⟩

theorem Work.commit_presentIn (w : Work) (old : DoorRecord) (a : Standing) (h : w.door.present = old.present)
    (absent : w.door.motion = .absent ↔ w.door.present = false) : (w.commit old a).door.PresentIn w.image w.id := by
  unfold Work.commit
  split <;> rename_i was now
  · exact ⟨now.symm, ⟨fun _ => rfl, fun _ => rfl⟩⟩
  · have made := Work.recheckBoth_moves (strict := True) (x := .running)
      { w with
        door := { Door.atPowerOn w.config a with present := true, motion := .settling, changed := w.door.changed }
        channel := w.channel.reprimed w.group }
    have present := made.present
    exact ⟨present.trans now.symm, ⟨fun m => absurd (made.absent.mp m) (by nofun),
      fun p => absurd (present.symm.trans p) (by nofun)⟩⟩
  · have kept := w.keepPresent_moves (strict := True) (x := .running) old
    exact Door.PresentIn.of_same ⟨h.trans (was.trans now.symm), absent⟩ kept.present kept.absent
  · exact ⟨h.trans (was.trans now.symm), absent⟩

theorem atPowerOn_presentIn (i : Image) (d : DoorId) : (Door.atPowerOn i.doors[d] (standingAtPowerOn i d)).PresentIn i d := by
  refine ⟨rfl, ?_⟩
  unfold Door.atPowerOn
  dsimp only
  split
  · next present => exact ⟨nofun, fun absent => absurd (present.symm.trans absent) nofun⟩
  · next absent => exact ⟨fun _ => by simpa using absent, fun _ => rfl⟩

theorem atPowerOn_still (x : DoorRecord) (a : Standing) : isMoving (Door.atPowerOn x a).motion = false := by
  unfold Door.atPowerOn
  dsimp only
  split <;> rfl

theorem Touched.presentIn (h : Touched c s d mild i r ch) (p : (s.door d).PresentIn s.image d) : r.PresentIn i d := by
  cases h with
  | still | filter | tick | read => exact p
  | input k f w event =>
    have moves := inputEvent_moves (strict := True) ⟨s.image, d, s.door d, (s.channel d).withFilter k f, [], false⟩ k
      (active := f.filtered) (by rw [Channel.withFilter_filter]) p.absent
    rw [event]
    exact .event (p.of_same moves.present moves.absent)
  | reaction f moves => exact .event (p.of_same moves.present moves.absent)
  | occupied =>
    obtain ⟨present, absent, -, -⟩ := (s.work d).occupied_service
    exact .event (p.of_same present absent)
  | emptied =>
    have moves := (s.work d).emptied_moves (strict := True)
    exact .event (p.of_same moves.present moves.absent)
  | isolated served =>
    obtain ⟨present, -, motion⟩ := (s.work d).isolate_service served
    exact .event (p.of_same present ⟨fun m => by simp [motion] at m, fun m => absurd m served.2⟩)
  | settles isolated =>
    have motion : (s.work d).door.motion = .isolated := isolated
    exact .event (p.of_same (r' := (s.work d).enterSettling.door) rfl
      ⟨fun m => (nomatch m), fun m => absurd (motion.symm.trans m) nofun⟩)
  | commit a w event =>
    rw [event]
    exact .event (Work.commit_presentIn _ _ _ p.1 p.2)
  | powerOn => exact atPowerOn_presentIn i d

theorem presenceInv_event {strays : Prop} (event : Event c strays s t) (h : PresenceInv s) : PresenceInv t :=
  fun d => (event.touches d).presentIn (h d)

/-! ### The work behind an event -/

/-- A door's record and channel as a reaction and what follows it leave them, from the door's own record. -/
structure Worked (s : State) (d : DoorId) (r : Door) (ch : Channel) (x : Stage) (w : Work) (f : Work → Work) : Prop where
  begun : w.door = s.door d
  keeps : w.Keeps True x .running (f w)
  record : r = (w.event (s.door d) (s.channel d) f).door
  channel : ch = (w.event (s.door d) (s.channel d) f).channel
  driven : DrivenAt .running (s.door d) (s.channel d) → DrivenAt x w.door w.channel
  estimated : EstimatedAt .running (s.door d) (s.channel d) → EstimatedAt x w.door w.channel
  door : w.door = s.door d

/-- What is left of an event that touches a door by no reaction. -/
inductive Unworked (c : Instr) (s : State) (d : DoorId) : Door → Channel → Prop
  | still : Unworked c s d (s.door d) (s.channel d)
  | filter (k : DoorInput) (f : Filter) (same : f.filtered = ((s.channel d).filter k).filtered) :
      Unworked c s d (s.door d) ((s.channel d).withFilter k f)
  | tick (moving : isMoving (s.door d).motion = true) (short : (s.door d).elapsed + 1 < (s.door d).deadline) :
      Unworked c s d (s.door d).tick (s.channel d)
  | read (r : Req) (command : c = .doorStatus r) : Unworked c s d (readDoor (s.channel d) (s.door d)) (s.channel d)
  | powerOn (command : c = .powerOn) (i : Image) :
      Unworked c s d (.atPowerOn i.doors[d] (standingAtPowerOn i d)) ((s.channel d).atPowerOn i.group)

theorem driven_withFilter {r : Door} (k : DoorInput) (f : Filter) (x : Stage) (hx : x ≠ .halted) (hx' : x ≠ .spent)
    (h : DrivenAt .running r ch) : DrivenAt x r (ch.withFilter k f) := by
  have valves (v : Dir) : (ch.withFilter k f).valve v = ch.valve v := by cases v <;> cases k <;> rfl
  obtain ⟨⟨opening, closing, result, isolated, openValve, closeValve, offCheck⟩, rest⟩ := h
  have driven : DriveOk r (ch.withFilter k f) :=
    ⟨opening, closing, result, isolated, fun on => openValve ((valves .opn).symm.trans on),
      fun on => closeValve ((valves .cls).symm.trans on), fun t ht off => (valves _).trans (offCheck t ht off)⟩
  cases x with
  | running | released => exact ⟨driven, rest⟩
  | halted => exact absurd rfl hx
  | spent => exact absurd rfl hx'

/-- An end switch's own event apart, an estimate that fits goes on to. -/
theorem estimated_withFilter {r : Door} (k : DoorInput) (f : Filter) (h : EstimatedAt .running r ch) :
    EstimatedAt (inputStage k f.filtered) r (ch.withFilter k f) := by
  intro present
  have fits := h present
  cases k with
  | closedSwitch =>
    cases active : f.filtered
    · exact fun still => (fits still).elim (fun zero => .inr zero.1) fun rest => .inl (.inr rest)
    · exact fun still => (fits still).elim (fun zero => .inl ⟨zero.1, active⟩) .inr
  | openSwitch =>
    cases active : f.filtered
    · exact fun still => (fits still).elim (fun zero => .inl (.inl zero)) fun rest =>
        rest.elim (fun full => .inr full.1) fun range => .inl (.inr (.inr range))
    · exact fun still => (fits still).imp_right fun rest => rest.imp_left fun full => ⟨full.1, active⟩
  | _ => exact fits

theorem Touched.worked (h : Touched c s d mild i r ch) (p : (s.door d).PresentIn s.image d) :
    Unworked c s d r ch ∨ ∃ x w f, Worked s d r ch x w f := by
  have work {f : Work → Work} (keeps : (s.work d).Keeps True .running .running (f (s.work d))) :
      Worked s d (s.worked d f).door (s.worked d f).channel .running (s.work d) f := ⟨rfl, keeps, rfl, rfl, fun h => h, fun h => h, rfl⟩
  cases h with
  | still => exact .inl .still
  | filter k f same => exact .inl (.filter k f same)
  | tick moving short => exact .inl (.tick moving short)
  | read r command => exact .inl (.read r command)
  | powerOn command i => exact .inl (.powerOn command i)
  | input k f w event =>
    have moves := inputEvent_moves (strict := True) ⟨s.image, d, s.door d, (s.channel d).withFilter k f, [], false⟩ k
      (active := f.filtered) (by rw [Channel.withFilter_filter]) p.absent
    have stage : inputStage k f.filtered ≠ .halted ∧ inputStage k f.filtered ≠ .spent := by
      cases k <;> cases f.filtered <;> exact ⟨nofun, nofun⟩
    exact .inr ⟨_, _, _, rfl, moves.toKeeps, congrArg _ event, congrArg _ event, driven_withFilter k f _ stage.1 stage.2,
      estimated_withFilter k f, rfl⟩
  | reaction f moves => exact .inr ⟨_, _, _, work moves.toKeeps⟩
  | occupied => exact .inr ⟨_, _, _, work (Work.occupied_keeps _)⟩
  | emptied => exact .inr ⟨_, _, _, work (Work.emptied_keeps _)⟩
  | isolated served => exact .inr ⟨_, _, _, work (Work.isolate_keeps _ served)⟩
  | settles isolated idle => exact .inr ⟨_, _, _, work (Work.enterSettling_keeps _ isolated idle)⟩
  | commit a w event =>
    refine .inr ⟨.running, _, _, rfl, Work.commit_keeps _ _ a fun was => ?_, congrArg _ event, congrArg _ event, fun h => h,
      fun h => h, rfl⟩
    exact p.2.mpr (p.1.trans was)

/-! ### Valves and strokes -/

theorem Touched.driven (h : Touched c s d mild i r ch) (p : (s.door d).PresentIn s.image d)
    (law : DrivenAt .running (s.door d) (s.channel d)) : DrivenAt .running r ch := by
  rcases h.worked p with left | ⟨x, w, f, worked⟩
  · cases left with
    | still => exact law
    | filter k f => exact driven_withFilter k f .running nofun nofun law
    | tick moving short => exact ⟨law.1, law.2.1, fun _ => short⟩
    | read => exact law
    | powerOn _ i =>
      refine Work.driven_of_quiet ?_ rfl nofun rfl rfl ⟨le_rfl, (by decide : 10 ≤ 1200)⟩
      exact atPowerOn_still _ _
  · rw [worked.record, worked.channel]
    exact (w.event_followed (strict := True) f _ _).driven (worked.keeps.driven (worked.driven law))

/-- Both valves of a driven door are never ON together (R18). -/
theorem DriveOk.not_both (h : DriveOk r ch) : ¬(ch.openValve = true ∧ ch.closeValve = true) := by
  obtain ⟨-, -, -, isolated, openValve, closeValve, -⟩ := h
  rintro ⟨opn, cls⟩
  rcases openValve opn with opening | ⟨x, hx, phase⟩ <;> rcases closeValve cls with closing | ⟨y, hy, phase'⟩
  · exact absurd (opening.symm.trans closing) nofun
  · exact absurd (opening.symm.trans (isolated (by rw [hy]; rfl))) nofun
  · exact absurd (closing.symm.trans (isolated (by rw [hx]; rfl))) nofun
  · rw [← Option.some.inj (hx.symm.trans hy), phase] at phase'
    cases phase'

/-- The laws of valves and strokes of every door. -/
def DrivenInv (s : State) : Prop := PresenceInv s ∧ ∀ d : DoorId, DrivenAt .running (s.door d) (s.channel d)

theorem drivenInv_iff (s : State) : DrivenInv s ↔ DriveInv s ∧ StrokeInv s :=
  ⟨fun ⟨presence, driven⟩ => ⟨⟨presence, fun d => (driven d).1⟩, fun d =>
      ⟨(driven d).2.1.1, (driven d).2.1.2, (driven d).2.2⟩⟩,
    fun ⟨⟨presence, drive⟩, stroke⟩ => ⟨presence, fun d =>
      ⟨drive d, ⟨(stroke d).1, (stroke d).2.1⟩, (stroke d).2.2⟩⟩⟩

/-- Settles O4: each reaction of the door table keeps the law of valves and strokes, from stage to stage of the reaction. -/
theorem driveKept : Obligations.DriveKept := by
  unfold Obligations.DriveKept
  intro s t drive stroke hstep
  have kept : DrivenInv t := step_keeps (P := DrivenInv) (fun _ _ h => h)
    (fun _ _ _ _ event h => ⟨presenceInv_event event h.1, fun d => (event.touches d).driven (h.1 d) (h.2 d)⟩)
    ((drivenInv_iff s).mpr ⟨drive, stroke⟩) hstep
  obtain ⟨drive', stroke'⟩ := (drivenInv_iff t).mp kept
  exact ⟨drive', stroke', fun d => (drive'.2 d).not_both⟩

/-! ### The estimate -/

theorem Touched.estimated (h : Touched c s d mild i r ch) (p : (s.door d).PresentIn s.image d)
    (law : EstimatedAt .running (s.door d) (s.channel d)) : EstimatedAt .running r ch := by
  rcases h.worked p with left | ⟨x, w, f, worked⟩
  · cases left with
    | still => exact law
    | filter k f same =>
      refine fun present still => (EstimateFits.filtered (fun j => ?_) _).mpr (law present still)
      by_cases hj : j = k
      · rw [hj, Channel.withFilter_filter, same]
      · rw [Channel.withFilter_filter_ne _ _ hj]
    | tick => exact law
    | read => exact law
    | powerOn => exact fun _ _ => .inr (.inr ⟨(by decide : 10 ≤ 500), (by decide : 500 ≤ 990)⟩)
  · rw [worked.record, worked.channel]
    exact (w.event_followed (strict := True) f _ _).estimated (worked.keeps.estimated (worked.estimated law))

theorem estimateInv_iff (s : State) :
    EstimateInv s ↔ PresenceInv s ∧ ∀ d : DoorId, EstimatedAt .running (s.door d) (s.channel d) := by
  refine and_congr_right fun _ => forall_congr' fun d => ?_
  refine ⟨fun fits present still => ?_, fun law present => estimateNow_fits (law present)⟩
  have now := fits present
  rw [Door.estimateNow, if_neg (by simp [still])] at now
  exact now

/-- Settles O6: each reaction of the door table keeps the law of the estimate, an end switch's release from the end that the
estimate still names. -/
theorem estimateLawKept : Obligations.EstimateLawKept := by
  unfold Obligations.EstimateLawKept
  intro s t h hstep
  rw [estimateInv_iff] at h ⊢
  exact step_keeps (P := fun s => PresenceInv s ∧ ∀ d : DoorId, EstimatedAt .running (s.door d) (s.channel d))
    (fun _ _ h => h)
    (fun _ _ _ _ event h => ⟨presenceInv_event event h.1, fun d => (event.touches d).estimated (h.1 d) (h.2 d)⟩) h hstep

end

end Sys2Proof.Machine

/-! Every step keeps each local warning output as its table has it (R148), and no command but DOOR_STATUS loses a change
(R143, R144). -/

namespace Sys2Proof.Machine

open Sys2Proof

section
variable {c : Instr} {s t : State} {d : DoorId} {mild : Bool} {i : Image} {r : Door} {ch : Channel}

/-! ### The local warning output -/

/-- The table of R148. -/
theorem warningOn_iff (r : Door) : warningOn r = true ↔ r.present = true ∧
    (r.motion = .warning ∨ r.motion = .dwell ∨ (r.motion = .queued ∧ r.dir = .cls ∧ r.authority ≠ .local_) ∨
      (r.motion = .closing ∧ r.authority ≠ .local_) ∨ r.transitLong = true) := by
  simp only [warningOn, isOrdered, Bool.and_eq_true, Bool.or_eq_true, beq_iff_eq, bne_iff_ne, ne_eq, or_assoc, and_assoc]

theorem warningInv_iff (s : State) : WarningInv s ↔ ∀ d : DoorId, (s.channel d).warning = warningOn (s.door d) :=
  forall_congr' fun _ => (iff_congr .rfl (warningOn_iff _).symm).trans Bool.eq_iff_iff.symm

theorem warningOn_withChanged (r : Door) (b : Bool) : warningOn { r with changed := b } = warningOn r := rfl

/-- An event sets the output by the record that it leaves. -/
theorem Work.event_warning (w : Work) (b : Door) (bc : Channel) (f : Work → Work) :
    (w.event b bc f).channel.warning = warningOn (w.event b bc f).door := by
  unfold Work.event Work.flagChange
  split <;> rfl

theorem atPowerOn_warning (x : DoorRecord) (a : Standing) : warningOn (Door.atPowerOn x a) = false := by
  cases present : x.present <;> simp [warningOn, Door.atPowerOn, present]

theorem Touched.warning (h : Touched c s d mild i r ch) (law : (s.channel d).warning = warningOn (s.door d)) :
    ch.warning = warningOn r := by
  cases h with
  | still => exact law
  | filter k f => rw [← law]; cases k <;> rfl
  | input k f w event => rw [event]; exact Work.event_warning _ _ _ _
  | commit a w event => rw [event]; exact Work.event_warning _ _ _ _
  | tick | read => exact law
  | powerOn => rw [atPowerOn_warning]; rfl
  | _ => exact Work.event_warning _ _ _ _

/-- Settles O14: every event of a door sets its output afresh, and nothing else changes what the table reads. -/
theorem warningOutputKept : Obligations.WarningOutputKept := by
  unfold Obligations.WarningOutputKept
  intro s t h hstep
  rw [warningInv_iff] at h ⊢
  exact step_keeps (P := fun s => ∀ d : DoorId, (s.channel d).warning = warningOn (s.door d)) (fun _ _ h => h)
    (fun _ _ _ _ event h d => (event.touches d).warning (h d)) h hstep

/-! ### The change flag -/

/-- What the host reads of a door as a change (R143). -/
structure SameToHost (r r' : Door) (ch ch' : Channel) : Prop where
  clear : r.changed = false
  indicated : indicated r' ch' = indicated r ch
  faulted : r'.faulted = r.faulted
  transit : r'.transit = r.transit

/-- A door whose change flag is clear shows the host what it showed. -/
def ChangeKept (r r' : Door) (ch ch' : Channel) : Prop := r'.changed = false → SameToHost r r' ch ch'

theorem ChangeKept.refl (r : Door) (ch : Channel) : ChangeKept r r ch ch := fun h => ⟨h, rfl, rfl, rfl⟩

theorem ChangeKept.trans {r r' r'' : Door} {ch ch' ch'' : Channel} (h : ChangeKept r r' ch ch')
    (k : ChangeKept r' r'' ch' ch'') : ChangeKept r r'' ch ch'' := fun clear => by
  obtain ⟨clear', indicated', faulted', transit'⟩ := k clear
  obtain ⟨clear, indicated, faulted, transit⟩ := h clear'
  exact ⟨clear, indicated'.trans indicated, faulted'.trans faulted, transit'.trans transit⟩

theorem indicated_filtered (r : Door) {ch ch' : Channel} (h : ∀ k, (ch'.filter k).filtered = (ch.filter k).filtered) :
    indicated r ch' = indicated r ch := by
  have closed := h .closedSwitch
  have opened := h .openSwitch
  dsimp only [Channel.filter] at closed opened
  unfold indicated Channel.conflict
  rw [closed, opened]

/-- An event flags every change of what the host reads (R143). -/
theorem Work.event_changeKept {w : Work} {f : Work → Work} {b : Door} {bc : Channel}
    (mono : b.changed = true → (f w).door.changed = true) :
    ChangeKept b (w.event b bc f).door bc (w.event b bc f).channel := by
  intro clear
  have due := Work.startIfDue_moves (strict := True) (f w)
  unfold Work.event Work.flagChange at clear ⊢
  split at clear
  · next same =>
    rw [if_pos same]
    obtain ⟨indicated, faulted, transit⟩ := same
    refine ⟨?_, indicated, faulted, transit⟩
    by_contra set
    have flagged := due.changed (mono (by simpa using set))
    exact absurd (flagged.symm.trans clear) nofun
  · cases clear

/-- An input's event unsets no change flag, of an ABSENT door either, which takes no end-switch event. -/
theorem inputEvent_changed (w : Work) (k : DoorInput) {active : Bool} (event : (w.channel.filter k).filtered = active)
    (set : w.door.changed = true) : (w.inputEvent k active).door.changed = true := by
  by_cases absent : w.door.motion = .absent
  · have still (e : Dir) : (w.endSwitch e active).door.changed = true :=
      (congrArg (fun x => x.door.changed) (if_pos absent : w.endSwitch e active = w)).trans set
    cases k with
    | closedSwitch => exact still .cls
    | openSwitch => exact still .opn
    | openHandle => exact (w.handle_moves (strict := True) .opn active).changed set
    | closeHandle => exact (w.handle_moves (strict := True) .cls active).changed set
    | leafEdge => exact (w.leafEdge_moves (strict := True) active).changed set
    | openReadback => exact (w.recheck_moves (strict := True) (x := .running) .opn).changed set
    | closeReadback => exact (w.recheck_moves (strict := True) (x := .running) .cls).changed set
  · exact (inputEvent_moves (strict := True) w k event fun m => absurd m absent).changed set

theorem Work.commit_changed (w : Work) (old : DoorRecord) (a : Standing) (set : w.door.changed = true) :
    (w.commit old a).door.changed = true := by
  unfold Work.commit
  split
  · exact (w.makeAbsent_keeps (strict := True)).changed set
  · exact (Work.recheckBoth_moves (strict := True) (x := .running) _).changed set
  · exact (w.keepPresent_moves (strict := True) (x := .running) old).changed set
  · exact set

theorem Touched.changeKept (h : Touched c s d mild i r ch) (read : ∀ r, c ≠ .doorStatus r) :
    ChangeKept (s.door d) r (s.channel d) ch := by
  cases h with
  | still => exact .refl _ _
  | filter k f same =>
    refine fun clear => ⟨clear, indicated_filtered _ fun j => ?_, rfl, rfl⟩
    by_cases hj : j = k
    · rw [hj, Channel.withFilter_filter, same]
    · rw [Channel.withFilter_filter_ne _ _ hj]
  | tick => exact fun clear => ⟨clear, rfl, rfl, rfl⟩
  | read r command => exact absurd command (read r)
  | powerOn => exact fun clear => (nomatch clear)
  | input k f w event =>
    rw [event]
    refine Work.event_changeKept fun set => inputEvent_changed _ k ?_ set
    exact congrArg Filter.filtered ((s.channel d).withFilter_filter k f)
  | commit a w event =>
    rw [event]
    exact Work.event_changeKept fun set => Work.commit_changed _ _ a set
  | reaction f moves => exact Work.event_changeKept moves.changed
  | occupied => exact Work.event_changeKept (Work.occupied_keeps (strict := True) (s.work d)).changed
  | emptied => exact Work.event_changeKept (Work.emptied_keeps (strict := True) (s.work d)).changed
  | isolated served => exact Work.event_changeKept (Work.isolate_keeps (strict := True) (s.work d) served).changed
  | settles isolated idle =>
    exact Work.event_changeKept (Work.enterSettling_keeps (strict := True) (s.work d) isolated idle).changed

/-- Settles O15: each event of a command sets the change flag with every change of what the host reads, and DOOR_STATUS alone
clears it. -/
theorem changeIsNeverLost : Obligations.ChangeIsNeverLost := by
  unfold Obligations.ChangeIsNeverLost
  intro c s t d read hexec clear
  have events := exec_events c s
  rw [hexec] at events
  have kept : ChangeKept (s.door d) (t.door d) (s.channel d) (t.channel d) :=
    Events.keeps (P := fun u => ChangeKept (s.door d) (u.door d) (s.channel d) (u.channel d))
      (fun u v event h => h.trans ((event.touches d).changeKept read)) events (.refl _ _)
  obtain ⟨clear, indicated, faulted, transit⟩ := kept clear
  exact ⟨clear, indicated, faulted, transit⟩

end

end Sys2Proof.Machine

/-! The order resolver: what each of its procedures makes of the records of each door, of the sources of standing authority and
of the messages (R66, R67); every step keeps the last reports as R66 gives them (R67) and the isolations as the door table has them
(R79, R80); and only EMERGENCY_RELEASE and power-on clear the latch (R72, R86). -/

namespace Sys2Proof.Machine

open Sys2Proof

/-! ### One door's records -/

@[simp] theorem Orders.withDoor_door (o : Orders) (d : DoorId) (x : DoorOrder) : (o.withDoor d x).door d = x := by
  simp [Orders.door, Orders.withDoor]

theorem Orders.withDoor_door_ne (o : Orders) {d e : DoorId} (x : DoorOrder) (h : e ≠ d) :
    (o.withDoor d x).door e = o.door e := by
  have ne : d.val ≠ e.val := fun k => h (Fin.ext k.symm)
  simp [Orders.door, Orders.withDoor, ne]

@[simp] theorem Orders.send_door (o : Orders) (m : Instr) (d : DoorId) : (o.send m).door d = o.door d := rfl

/-! ### The sources of standing authority -/

/-- The group's sources are the same, and so are these doors' own. -/
structure Orders.SameSources (o o' : Orders) : Prop where
  image : o'.image = o.image
  latch : o'.resolver.latch = o.resolver.latch
  mode : o'.resolver.mode = o.resolver.mode
  registered : ∀ d, (o'.door d).registered = (o.door d).registered
  isolated : ∀ d, (o'.door d).isolated = (o.door d).isolated

theorem Orders.SameSources.refl (o : Orders) : o.SameSources o := ⟨rfl, rfl, rfl, fun _ => rfl, fun _ => rfl⟩

theorem Orders.SameSources.trans {o o' o'' : Orders} (h : o.SameSources o') (k : o'.SameSources o'') : o.SameSources o'' :=
  ⟨k.image.trans h.image, k.latch.trans h.latch, k.mode.trans h.mode, fun d => (k.registered d).trans (h.registered d),
    fun d => (k.isolated d).trans (h.isolated d)⟩

/-- The standing authority that a door's sources give (R66). -/
def Orders.due (o : Orders) (d : DoorId) : Standing := standingOf o.image o.resolver d

theorem Orders.due_eq_strongestSource (o : Orders) (d : DoorId) : o.due d = strongestSource o.image o.resolver d :=
  standingOf_eq_strongestSource _ _ _

/-- A door's own sources and the group's give its standing authority, whatever other doors have. -/
theorem Orders.due_congr {o o' : Orders} {d : DoorId} (image : o'.image = o.image)
    (latch : o'.resolver.latch = o.resolver.latch) (mode : o'.resolver.mode = o.resolver.mode)
    (registered : (o'.door d).registered = (o.door d).registered) (isolated : (o'.door d).isolated = (o.door d).isolated) :
    o'.due d = o.due d := by
  unfold Orders.door at registered isolated
  unfold Orders.due standingOf
  rw [image, latch, mode, registered, isolated]

theorem Orders.SameSources.due {o o' : Orders} (h : o.SameSources o') (d : DoorId) : o'.due d = o.due d :=
  Orders.due_congr h.image h.latch h.mode (h.registered d) (h.isolated d)

/-! ### Computing afresh -/

/-- The report that the computing of a door's standing authority makes (R67). -/
def Orders.reports (o : Orders) (d : DoorId) : List Instr :=
  if o.due d = (o.door d).reported ∨ o.isPresent d = false then [] else [.standingAuthorityReport d (o.due d)]

theorem Orders.recompute_eq (o : Orders) (d : DoorId) :
    o.recompute d =
      { o.withDoor d { o.door d with reported := o.due d } with out := o.out ++ o.reports d } := by
  unfold Orders.recompute Orders.reports Orders.due
  dsimp only
  split
  · rw [List.append_nil]
    rfl
  · rfl

theorem Orders.recompute_door (o : Orders) (d : DoorId) : (o.recompute d).door d = { o.door d with reported := o.due d } := by
  rw [Orders.recompute_eq]
  exact o.withDoor_door d _

theorem Orders.recompute_door_ne (o : Orders) {d e : DoorId} (h : e ≠ d) : (o.recompute d).door e = o.door e := by
  rw [Orders.recompute_eq]
  exact o.withDoor_door_ne _ h

theorem Orders.recompute_sources (o : Orders) (d : DoorId) : o.SameSources (o.recompute d) := by
  have own (e : DoorId) : ((o.recompute d).door e).registered = (o.door e).registered ∧
      ((o.recompute d).door e).isolated = (o.door e).isolated := by
    by_cases he : e = d
    · rw [he, Orders.recompute_door]
      exact ⟨rfl, rfl⟩
    · rw [Orders.recompute_door_ne o he]
      exact ⟨rfl, rfl⟩
  refine ⟨?_, ?_, ?_, fun e => (own e).1, fun e => (own e).2⟩ <;> rw [Orders.recompute_eq] <;> rfl

/-! ### Several doors in turn -/

/-- The image and what the resolver holds for the group are the same. -/
structure Orders.SameGroup (o o' : Orders) : Prop where
  image : o'.image = o.image
  latch : o'.resolver.latch = o.resolver.latch
  mode : o'.resolver.mode = o.resolver.mode
  flood : o'.resolver.flood = o.resolver.flood

theorem Orders.SameGroup.trans {o o' o'' : Orders} (h : o.SameGroup o') (k : o'.SameGroup o'') : o.SameGroup o'' :=
  ⟨k.image.trans h.image, k.latch.trans h.latch, k.mode.trans h.mode, k.flood.trans h.flood⟩

/-- A step of the resolver for one door: what it writes of the door and the messages it makes, by the group's records and the
door's own. -/
structure Orders.DoorStep (f : Orders → DoorId → Orders) (x : Orders → DoorId → DoorOrder)
    (ms : Orders → DoorId → List Instr) : Prop where
  eq : ∀ o d, f o d = { o.withDoor d (x o d) with out := o.out ++ ms o d }
  own : ∀ o o' d, o.SameGroup o' → o'.door d = o.door d → x o' d = x o d ∧ ms o' d = ms o d

/-- Such steps taken for some doors, in the order of the list. -/
theorem Orders.DoorStep.folded {f : Orders → DoorId → Orders} {x : Orders → DoorId → DoorOrder}
    {ms : Orders → DoorId → List Instr} (step : Orders.DoorStep f x ms) (ds : List DoorId) (once : ds.Nodup) :
    ∀ o : Orders, o.SameGroup (ds.foldl f o) ∧ (ds.foldl f o).out = o.out ++ ds.flatMap (ms o) ∧
      ∀ e, (ds.foldl f o).door e = if e ∈ ds then x o e else o.door e := by
  induction ds with
  | nil => exact fun o => ⟨⟨rfl, rfl, rfl, rfl⟩, (List.append_nil _).symm, fun e => by simp⟩
  | cons d ds ih =>
    intro o
    obtain ⟨fresh, once⟩ := List.nodup_cons.mp once
    obtain ⟨group, out, doors⟩ := ih once (f o d)
    have first : o.SameGroup (f o d) := by rw [step.eq]; exact ⟨rfl, rfl, rfl, rfl⟩
    have other {e : DoorId} (ne : e ≠ d) : (f o d).door e = o.door e := by
      rw [step.eq]
      exact o.withDoor_door_ne _ ne
    have others : ds.flatMap (ms (f o d)) = ds.flatMap (ms o) :=
      List.flatMap_congr fun e he => (step.own o _ e first (other fun h => fresh (h ▸ he))).2
    refine ⟨first.trans group, ?_, fun e => ?_⟩
    · rw [List.foldl_cons, out, others, step.eq, List.flatMap_cons, List.append_assoc]
    · rw [List.foldl_cons, doors]
      by_cases he : e = d
      · subst he
        rw [if_neg fresh, if_pos List.mem_cons_self, step.eq]
        exact o.withDoor_door e _
      · rw [other he, (step.own o _ e first (other he)).1]
        by_cases mem : e ∈ ds <;> simp [mem, he]

theorem Orders.due_of_sameGroup {o o' : Orders} {d : DoorId} (h : o.SameGroup o') (door : o'.door d = o.door d) :
    o'.due d = o.due d :=
  Orders.due_congr h.image h.latch h.mode (by rw [door]) (by rw [door])

theorem Orders.recompute_step :
    Orders.DoorStep Orders.recompute (fun o d => { o.door d with reported := o.due d }) Orders.reports where
  eq := Orders.recompute_eq
  own o o' d h door := by
    unfold Orders.reports Orders.isPresent
    rw [Orders.due_of_sameGroup h door, door, h.image]
    exact ⟨rfl, rfl⟩

section
variable (o : Orders)

theorem Orders.recomputeAll_group : o.SameGroup o.recomputeAll := by
  rw [Orders.recomputeAll]
  exact (Orders.recompute_step.folded allDoors nodup_allDoors o).1

theorem Orders.recomputeAll_out : o.recomputeAll.out = o.out ++ allDoors.flatMap o.reports := by
  rw [Orders.recomputeAll, (Orders.recompute_step.folded allDoors nodup_allDoors o).2.1]

/-- Every door's standing authority computed afresh (R67): its last report is the one R66 gives, and nothing else of it changes. -/
theorem Orders.recomputeAll_door (d : DoorId) : o.recomputeAll.door d = { o.door d with reported := o.due d } := by
  rw [Orders.recomputeAll, (Orders.recompute_step.folded allDoors nodup_allDoors o).2.2, if_pos (mem_allDoors d)]

theorem Orders.recomputeAll_sources : o.SameSources o.recomputeAll :=
  ⟨o.recomputeAll_group.image, o.recomputeAll_group.latch, o.recomputeAll_group.mode,
    fun d => by rw [Orders.recomputeAll_door], fun d => by rw [Orders.recomputeAll_door]⟩

/-- What a commit leaves of a door's records, of the door in the old image (R85). -/
def Orders.committed (old : Image) (o : Orders) (d : DoorId) : DoorOrder :=
  if old.doors[d].present = o.isPresent d then o.door d else ⟨false, false, false, .none⟩

/-- What a commit makes of a door made ABSENT (R85). -/
def Orders.commitMessages (old : Image) (o : Orders) (d : DoorId) : List Instr :=
  if old.doors[d].present && !o.isPresent d then [.alarmClear .openInhibited (.door d)] else []

theorem Orders.withDoor_self (d : DoorId) : o.withDoor d (o.door d) = o := by
  simp [Orders.withDoor, Orders.door]

theorem Orders.commitDoor_step (old : Image) :
    Orders.DoorStep (fun o d => o.commitDoor old.doors[d] d) (Orders.committed old) (Orders.commitMessages old) where
  eq o d := by
    unfold Orders.commitDoor Orders.committed Orders.commitMessages
    split <;> rename_i was now <;> rw [was, now]
    · rfl
    · exact (congrArg (fun ms => { o.withDoor d ⟨false, false, false, .none⟩ with out := ms }) (List.append_nil _)).symm
    · simp [Orders.withDoor_self]
    · simp [Orders.withDoor_self]
  own o o' d h door := by
    unfold Orders.committed Orders.commitMessages Orders.isPresent
    rw [door, h.image]
    exact ⟨rfl, rfl⟩

/-- The doors of the resolver after a commit (R85). -/
theorem Orders.commit_eq (old : Image) : ∃ o', o.SameGroup o' ∧ o'.out = o.out ++ allDoors.flatMap (o.commitMessages old) ∧
    (∀ d, o'.door d = o.committed old d) ∧ o.commit old = o'.recomputeAll := by
  obtain ⟨group, out, doors⟩ := (Orders.commitDoor_step old).folded allDoors nodup_allDoors o
  exact ⟨_, group, out, fun d => (doors d).trans (if_pos (mem_allDoors d)), by rw [Orders.commit]⟩

/-- What a restart leaves of a door's records (R87). -/
def Orders.restarted (o : Orders) (d : DoorId) : DoorOrder :=
  { o.door d with registered := false, reported := (o.register d false).due d }

/-- What a restart makes of a door (R83, R87). -/
def Orders.restartMessages (o : Orders) (d : DoorId) : List Instr :=
  if o.isPresent d then
    [.standingAuthorityReport d ((o.register d false).due d),
      if (o.door d).mark then .alarmRaise .openInhibited (.door d) else .alarmClear .openInhibited (.door d)]
  else []

theorem Orders.restartDoor_step : Orders.DoorStep Orders.restartDoor Orders.restarted Orders.restartMessages where
  eq o d := by
    have twice (x y : DoorOrder) : (o.withDoor d x).withDoor d y = o.withDoor d y := by simp [Orders.withDoor]
    have registered : (o.register d false).door d = { o.door d with registered := false } := o.withDoor_door d _
    unfold Orders.restartDoor Orders.restarted Orders.restartMessages Orders.due
    dsimp only
    rw [registered, Orders.register, twice]
    split
    · simp only [Orders.send, List.append_assoc]
      rfl
    · simp only [List.append_nil]
      rfl
  own o o' d h door := by
    have due : (o'.register d false).due d = (o.register d false).due d := by
      refine Orders.due_of_sameGroup (o := o.register d false) ⟨h.image, h.latch, h.mode, h.flood⟩ ?_
      rw [Orders.register, Orders.register, Orders.withDoor_door, Orders.withDoor_door, door]
    unfold Orders.restarted Orders.restartMessages Orders.isPresent
    rw [due, door, h.image]
    exact ⟨rfl, rfl⟩

/-- The resolver after a restart (R87). -/
theorem Orders.restart_eq : o.SameGroup o.restart ∧
    o.restart.out = o.out ++ allDoors.flatMap o.restartMessages ++
      [if o.resolver.latch then .alarmRaise .emergencyClose .group else .alarmClear .emergencyClose .group] ∧
    ∀ d, o.restart.door d = o.restarted d := by
  obtain ⟨group, out, doors⟩ := Orders.restartDoor_step.folded allDoors nodup_allDoors o
  unfold Orders.restart
  generalize allDoors.foldl Orders.restartDoor o = o' at group out doors
  refine ⟨⟨group.image, group.latch, group.mode, group.flood⟩, ?_, fun d => (doors d).trans (if_pos (mem_allDoors d))⟩
  rw [← out]
  rfl

end

/-! ### What the reactions keep -/

/-- A door's registration and mark belong to a present door that is not isolated (R79, R85). -/
def Orders.Serves (o : Orders) (d : DoorId) : Prop :=
  (o.door d).isolated = false ∧ o.isPresent d = true

/-- A reaction of the resolver that isolates and restores no door: it registers and marks no door but one that it serves. -/
structure Orders.Keeps (o o' : Orders) : Prop where
  image : o'.image = o.image
  isolated : ∀ d, (o'.door d).isolated = (o.door d).isolated
  registered : ∀ d, (o'.door d).registered = true → (o.door d).registered = true ∨ o.Serves d
  mark : ∀ d, (o'.door d).mark = true → (o.door d).mark = true ∨ o.Serves d

namespace Orders.Keeps

theorem refl (o : Orders) : o.Keeps o := ⟨rfl, fun _ => rfl, fun _ => .inl, fun _ => .inl⟩

theorem serves {o o' : Orders} (h : o.Keeps o') {d : DoorId} (k : o'.Serves d) : o.Serves d := by
  unfold Orders.Serves Orders.isPresent at *
  rwa [h.isolated, h.image] at k

theorem trans {o o' o'' : Orders} (h : o.Keeps o') (k : o'.Keeps o'') : o.Keeps o'' :=
  ⟨k.image.trans h.image, fun d => (k.isolated d).trans (h.isolated d),
    fun d r => (k.registered d r).elim (h.registered d) fun s => .inr (h.serves s),
    fun d m => (k.mark d m).elim (h.mark d) fun s => .inr (h.serves s)⟩

theorem ite {o o' o'' : Orders} {p : Prop} [Decidable p] (h : p → o.Keeps o') (k : ¬p → o.Keeps o'') :
    o.Keeps (if p then o' else o'') := by
  split
  · next hp => exact h hp
  · next hp => exact k hp

/-- The group's records and the messages are no door's. -/
theorem group (o : Orders) (mode : GroupMode) (latch : Bool) (flood : ZoneSet) (out : List Instr) :
    o.Keeps { o with resolver := { o.resolver with mode := mode, latch := latch, flood := flood }, out := out } :=
  ⟨rfl, fun _ => rfl, fun _ => .inl, fun _ => .inl⟩

/-- One door's records written. -/
theorem withDoor (o : Orders) (d : DoorId) {x : DoorOrder} (isolated : x.isolated = (o.door d).isolated)
    (registered : x.registered = true → (o.door d).registered = true ∨ o.Serves d)
    (mark : x.mark = true → (o.door d).mark = true ∨ o.Serves d) : o.Keeps (o.withDoor d x) := by
  refine ⟨rfl, fun e => ?_, fun e => ?_, fun e => ?_⟩ <;> by_cases he : e = d
  · rw [he, Orders.withDoor_door, isolated]
  · rw [Orders.withDoor_door_ne _ _ he]
  · rw [he, Orders.withDoor_door]
    exact registered
  · rw [Orders.withDoor_door_ne _ _ he]
    exact .inl
  · rw [he, Orders.withDoor_door]
    exact mark
  · rw [Orders.withDoor_door_ne _ _ he]
    exact .inl

theorem recomputeAll (o : Orders) : o.Keeps o.recomputeAll := by
  refine ⟨o.recomputeAll_sources.image, o.recomputeAll_sources.isolated, fun d => ?_, fun d => ?_⟩ <;>
    rw [Orders.recomputeAll_door] <;> exact .inl

theorem setMode (o : Orders) (m : GroupMode) : o.Keeps (o.setMode m) :=
  (group o m o.resolver.latch o.resolver.flood o.out).trans (recomputeAll _)

theorem remoteLost (o : Orders) : o.Keeps o.remoteLost := .ite (fun _ => setMode o _) fun _ => refl o

theorem emergency (o : Orders) : o.Keeps o.emergency :=
  .ite (fun _ => refl o) fun _ => (group o o.resolver.mode true o.resolver.flood _).trans (recomputeAll _)

theorem releaseLatch (o : Orders) : o.Keeps o.releaseLatch :=
  .ite (fun _ => (group o o.resolver.mode false o.resolver.flood _).trans (recomputeAll _)) fun _ => refl o

theorem unregister (o : Orders) (d : DoorId) : o.Keeps (o.register d false) := withDoor o d rfl nofun .inl

theorem arrival (o : Orders) (d : DoorId) : o.Keeps (o.arrival d) :=
  .ite (fun _ => (unregister o d).trans (recomputeAll _)) fun _ => refl o

theorem releaseDoors (o : Orders) (named : DoorId → Bool) : o.Keeps (o.releaseDoors named) :=
  (List.foldlRecOn (motive := fun x : Orders => o.Keeps x) allDoors _ (refl o) fun x hx d _ =>
    hx.trans (.ite (fun _ => unregister x d) fun _ => refl x)).trans (recomputeAll _)

theorem closeDoors (o : Orders) (motion : DoorId → Motion) (named : DoorId → Bool)
    (serves : ∀ d, registers (motion d) = true → o.Serves d) : o.Keeps (o.closeDoors motion named) := by
  refine Orders.Keeps.trans (List.foldlRecOn (motive := fun x : Orders => o.Keeps x) allDoors _ (refl o) fun x hx d _ => ?_)
    (recomputeAll _)
  split
  · next registered =>
    have served := serves d (Bool.and_eq_true _ _ ▸ registered).2
    have own : o.Keeps (o.withDoor d { o.door d with registered := true }) := withDoor o d rfl (fun _ => .inr served) .inl
    refine hx.trans (withDoor x d rfl (fun _ => .inr ?_) .inl)
    unfold Orders.Serves Orders.isPresent at *
    rwa [hx.isolated, hx.image]
  · exact hx

theorem handleReleased (o : Orders) (d : DoorId) : o.Keeps (o.handleReleased d) :=
  .ite (fun _ => (withDoor o d (x := { o.door d with mark := false }) rfl .inl nofun).trans (group _ _ _ _ _)) fun _ => refl o

theorem referral (o : Orders) (d : DoorId) (handle : Dir) (faulted held : Bool) :
    o.Keeps (o.referral d handle faulted held) := by
  have sent (m : Instr) : o.Keeps (o.send m) := group o _ _ _ _
  refine .ite (fun _ => refl o) fun present => .ite (fun _ => sent _) fun isolated => .ite (fun _ => ?_) fun _ => sent _
  have serves : (o.send (.handleRuling d .ignore)).Serves d := 
    ⟨by simpa using isolated, (Bool.not_eq_false _).mp present⟩
  refine .ite (fun _ => ?_) fun _ => sent _
  exact ((sent _).trans (withDoor _ d (x := { o.door d with mark := true }) rfl .inl fun _ => .inr serves)).trans
    (group _ _ _ _ _)

/-- Every reaction of the resolver to a request or to the loss of both lines. -/
theorem reaction {c : Instr} {s : State} {f : Orders → Orders} (reaction : OrdersReaction c s f) (o : Orders)
    (serves : ∀ d, registers (s.door d).motion = true → o.Serves d) : o.Keeps (f o) := by
  cases reaction with
  | setMode m => exact setMode o m
  | closeDoors named => exact closeDoors o _ named serves
  | releaseDoors named => exact releaseDoors o named
  | floodSet z => exact group o o.resolver.mode o.resolver.latch _ o.out
  | floodClear z => exact group o o.resolver.mode o.resolver.latch _ o.out
  | remoteLost => exact remoteLost o
  | releaseLatch => exact releaseLatch o

end Orders.Keeps

/-! ### The last reports -/

/-- The last reported standing authority of every door is the one that R66 gives (R67). -/
def Orders.Reported (o : Orders) : Prop := ∀ d, (o.door d).reported = o.due d

namespace Orders.Reported

theorem ite {o o' : Orders} {p : Prop} [Decidable p] (h : p → o.Reported) (k : ¬p → o'.Reported) :
    (if p then o else o').Reported := by
  split
  · next hp => exact h hp
  · next hp => exact k hp

theorem recomputeAll (o : Orders) : o.recomputeAll.Reported := fun d => by
  rw [Orders.recomputeAll_door, o.recomputeAll_sources.due]

/-- What leaves the sources and the last reports alone. -/
theorem of_same {o o' : Orders} (h : o.Reported) (sources : o.SameSources o')
    (reported : ∀ d, (o'.door d).reported = (o.door d).reported) : o'.Reported := fun d => by
  rw [reported, sources.due, h]

/-- One door's mark written. -/
theorem marked {o : Orders} (h : o.Reported) (d : DoorId) (b : Bool) : (o.withDoor d { o.door d with mark := b }).Reported := by
  have own (e : DoorId) : ((o.withDoor d { o.door d with mark := b }).door e).registered = (o.door e).registered ∧
      ((o.withDoor d { o.door d with mark := b }).door e).isolated = (o.door e).isolated ∧
      ((o.withDoor d { o.door d with mark := b }).door e).reported = (o.door e).reported := by
    by_cases he : e = d
    · rw [he, Orders.withDoor_door]
      exact ⟨rfl, rfl, rfl⟩
    · rw [Orders.withDoor_door_ne _ _ he]
      exact ⟨rfl, rfl, rfl⟩
  exact h.of_same ⟨rfl, rfl, rfl, fun e => (own e).1, fun e => (own e).2.1⟩ fun e => (own e).2.2

variable {o : Orders} (h : o.Reported)
include h

theorem remoteLost : o.remoteLost.Reported := .ite (fun _ => recomputeAll _) fun _ => h

theorem emergency : o.emergency.Reported := .ite (fun _ => h) fun _ => recomputeAll _

theorem releaseLatch : o.releaseLatch.Reported := .ite (fun _ => recomputeAll _) fun _ => h

theorem arrival (d : DoorId) : (o.arrival d).Reported := .ite (fun _ => recomputeAll _) fun _ => h

theorem handleReleased (d : DoorId) : (o.handleReleased d).Reported := .ite (fun _ => h.marked d false) fun _ => h

theorem referral (d : DoorId) (handle : Dir) (faulted held : Bool) : (o.referral d handle faulted held).Reported :=
  .ite (fun _ => h) fun _ => .ite (fun _ => h) fun _ => .ite (fun _ => .ite (fun _ => h.marked d true) fun _ => h) fun _ => h

theorem reaction {c : Instr} {s : State} {f : Orders → Orders} (reaction : OrdersReaction c s f) : (f o).Reported := by
  cases reaction with
  | setMode | closeDoors | releaseDoors => exact recomputeAll _
  | floodSet | floodClear => exact h
  | remoteLost => exact h.remoteLost
  | releaseLatch => exact h.releaseLatch

/-- A door isolated: it has no standing authority, and no other door's changes (R79). -/
theorem isolate (d : DoorId) : (o.isolate d).Reported := fun e => by
  by_cases he : e = d
  · subst he
    have isolated : (o.isolate e).door e = ⟨false, true, false, .none⟩ := o.withDoor_door e _
    have bare : (o.isolate e).resolver.doors[e] = ⟨false, true, false, .none⟩ := isolated
    rw [isolated, Orders.due, standingOf, bare]
    simp
  · have other : (o.isolate d).door e = o.door e := o.withDoor_door_ne _ he
    rw [other, Orders.due_of_sameGroup (o := o) (o' := o.isolate d) ⟨rfl, rfl, rfl, rfl⟩ other]
    exact h e

/-- A door restored: its standing authority is computed, and no other door's changes (R80). -/
theorem restore (d : DoorId) : (o.restore d).Reported := fun e => by
  have sources := (o.withDoor d { o.door d with isolated := false }).recompute_sources d
  unfold Orders.restore
  rw [sources.due]
  by_cases he : e = d
  · rw [he, Orders.recompute_door]
  · have other := o.withDoor_door_ne { o.door d with isolated := false } he
    rw [Orders.recompute_door_ne _ he, other,
      Orders.due_of_sameGroup (o := o) (o' := o.withDoor d { o.door d with isolated := false }) ⟨rfl, rfl, rfl, rfl⟩ other]
    exact h e

omit h in
/-- After a commit every standing authority is computed (R85). -/
theorem commit (old : Image) : (o.commit old).Reported := by
  obtain ⟨o', -, -, -, eq⟩ := o.commit_eq old
  rw [eq]
  exact recomputeAll o'

omit h in
/-- A restart computes and reports every standing authority (R87). -/
theorem restart : o.restart.Reported := fun d => by
  obtain ⟨group, -, doors⟩ := o.restart_eq
  have own : (o.register d false).door d = { o.door d with registered := false } := o.withDoor_door d _
  rw [doors]
  refine (Orders.due_congr (o := o.register d false) (o' := o.restart) group.image group.latch group.mode ?_ ?_).symm
  · rw [doors, own]
    rfl
  · rw [doors, own]
    rfl

end Orders.Reported

end Sys2Proof.Machine

/-! Every step keeps the resolver's last reports as R66 gives them (R67), and its isolations, registrations and marks as the door table
has them (R79, R80, R85); and only EMERGENCY_RELEASE and power-on clear the emergency latch (R72, R86). -/

namespace Sys2Proof.Machine

open Sys2Proof

section
variable {c : Instr} {s t : State} {d : DoorId} {i : Image} {r : Door} {ch : Channel}

/-! ### The door table's side -/

/-- A mild event neither isolates nor restores a door. -/
theorem Touched.service (h : Touched c s d true i r ch) (p : (s.door d).PresentIn s.image d) :
    i = s.image ∧ (r.motion = .isolated ↔ (s.door d).motion = .isolated) := by
  have followed {w : Work} {f : Work → Work} (same : (f w).door.motion = .isolated ↔ (s.door d).motion = .isolated) :
      (w.event (s.door d) (s.channel d) f).door.motion = .isolated ↔ (s.door d).motion = .isolated :=
    (w.event_followed (strict := True) f _ _).isolated.trans same
  generalize hk : true = mild at h
  cases h with
  | still | filter | tick | read => exact ⟨rfl, .rfl⟩
  | input k f w event =>
    have moves := inputEvent_moves (strict := True) ⟨s.image, d, s.door d, (s.channel d).withFilter k f, [], false⟩ k
      (active := f.filtered) (by rw [Channel.withFilter_filter]) p.absent
    rw [event]
    exact ⟨rfl, followed moves.isolated⟩
  | reaction f moves => exact ⟨rfl, followed moves.isolated⟩
  | occupied => exact ⟨rfl, followed (s.work d).occupied_service.2.2.1⟩
  | emptied => exact ⟨rfl, followed ((s.work d).emptied_moves (strict := True)).isolated⟩
  | isolated | settles | commit | powerOn => cases hk

/-- A commit leaves a door ISOLATED exactly where it is so and stays present or absent (R47). -/
theorem Work.commit_isolated (w : Work) (old : DoorRecord) (a : Standing) :
    (w.commit old a).door.motion = .isolated ↔ old.present = w.config.present ∧ w.door.motion = .isolated := by
  unfold Work.commit
  split <;> rename_i was now <;> rw [was, now]
  · rw [Work.makeAbsent_eq]
    simp [Door.madeAbsent]
  · refine ((Work.recheckBoth_moves (strict := True) (x := .running) _).isolated).trans ?_
    simp
  · exact ((w.keepPresent_moves (strict := True) (x := .running) old).isolated).trans (by simp)
  · simp

/-- The resolver's records as the door table has the doors (R79, R85), and its last reports as its sources give them (R67). -/
structure ResolverAgrees (s : State) : Prop where
  presence : PresenceInv s
  isolated : ∀ d, (s.orders.door d).isolated = true ↔ (s.door d).motion = .isolated
  registered : ∀ d, (s.orders.door d).registered = true → s.orders.Serves d
  mark : ∀ d, (s.orders.door d).mark = true → s.orders.Serves d
  reported : s.orders.Reported

theorem resolverAgrees_iff (s : State) : ResolverAgrees s ↔ IsolationInv s ∧ StandingInv s := by
  have served (d : DoorId) : s.orders.Serves d ↔
      s.image.doors[d].present = true ∧ s.resolver.doors[d].isolated = false := and_comm
  have reported : s.orders.Reported ↔ StandingInv s :=
    forall_congr' fun d => by rw [Orders.due_eq_strongestSource]; rfl
  refine ⟨fun h => ⟨⟨h.presence, fun d => ⟨h.isolated d, fun r => (served d).mp (h.registered d r),
      fun m => (served d).mp (h.mark d m)⟩⟩, reported.mp h.reported⟩,
    fun ⟨⟨presence, records⟩, standing⟩ => ⟨presence, fun d => (records d).1,
      fun d r => (served d).mpr ((records d).2.1 r), fun d m => (served d).mpr ((records d).2.2 m), reported.mpr standing⟩⟩

theorem State.orders_resolver (s : State) : s.orders.resolver = s.resolver := rfl

namespace ResolverAgrees

variable (h : ResolverAgrees s)
include h

/-- A mild event behind which the resolver's work is the same. -/
theorem mild (orders : t.orders = s.orders) (touched : ∀ d, TouchedBy true c s t d) : ResolverAgrees t where
  presence d := (touched d).presentIn (h.presence d)
  isolated d := by
    rw [orders]
    exact (h.isolated d).trans ((touched d).service (h.presence d)).2.symm
  registered := by rw [orders]; exact h.registered
  mark := by rw [orders]; exact h.mark
  reported := by rw [orders]; exact h.reported

/-- A reaction of the resolver that isolates and restores no door. -/
theorem ordersEvent {f : Orders → Orders} (keeps : s.orders.Keeps (f s.orders)) (reported : (f s.orders).Reported) :
    ResolverAgrees (s.ordersEvent f) := by
  have door (d : DoorId) : (s.ordersEvent f).orders.door d = (f s.orders).door d := rfl
  have serves (d : DoorId) (k : s.orders.Serves d) : (s.ordersEvent f).orders.Serves d := by
    refine ⟨?_, k.2⟩
    rw [door, keeps.isolated]
    exact k.1
  refine ⟨h.presence, fun d => ?_, fun d r => ?_, fun d m => ?_, fun d => ?_⟩
  · rw [door, keeps.isolated]
    exact h.isolated d
  · exact serves d ((keeps.registered d r).elim (h.registered d) id)
  · exact serves d ((keeps.mark d m).elim (h.mark d) id)
  · have image : (s.ordersEvent f).orders.image = (f s.orders).image := keeps.image.symm
    exact (reported d).trans (Orders.due_of_sameGroup ⟨image, rfl, rfl, rfl⟩ rfl).symm

/-- CLOSE_DOORS registers only doors that the resolver serves (R73). -/
theorem serves_of_registers (d : DoorId) (k : registers (s.door d).motion = true) : s.orders.Serves d := by
  simp only [registers, Bool.and_eq_true, bne_iff_ne, ne_eq] at k
  obtain ⟨⟨absent, isolated⟩, -⟩ := k
  obtain ⟨present, away⟩ := h.presence d
  refine ⟨?_, ?_⟩
  · by_contra on
    exact isolated ((h.isolated d).mp (by simpa using on))
  · rw [Orders.isPresent]
    exact present.symm.trans (by by_contra off; exact absent (away.mpr (by simpa using off)))

theorem taking (m : Instr) : ResolverAgrees (s.taking m) := ⟨h.presence, h.isolated, h.registered, h.mark, h.reported⟩

theorem deliver (m : Instr) : ResolverAgrees (s.deliver m) := by
  have taken (f : Orders → Orders) (keeps : s.orders.Keeps (f s.orders)) (reported : (f s.orders).Reported) :
      ResolverAgrees ((s.taking m).ordersEvent f) := (h.taking m).ordersEvent keeps reported
  cases m with
  | handleReferral d handle faulted =>
    exact taken (fun o => o.referral d handle faulted _) (.referral ..) fun _ => h.reported.referral ..
  | arrivalNotice d => exact taken (fun o => o.arrival d) (.arrival ..) (h.reported.arrival _)
  | openHandleReleaseNotice d => exact taken (fun o => o.handleReleased d) (.handleReleased ..) (h.reported.handleReleased _)
  | _ => exact h.mild (c := .powerOn) rfl fun d => .deliver _ d

/-- A door isolated, by the resolver and the door table. -/
theorem isolateDoor (d : DoorId) (served : (s.door d).InService) : ResolverAgrees (s.isolateDoor d) := by
  have frame := (s.ordersEvent fun o => o.isolate d).doorEvent_onlyDoor (s.ordersEvent fun o => o.isolate d) d Work.isolate
  have orders : (s.isolateDoor d).orders = ⟨s.image, (s.orders.isolate d).resolver, []⟩ := rfl
  have own : (s.isolateDoor d).orders.door d = ⟨false, true, false, .none⟩ := s.orders.withDoor_door d _
  have other {e : DoorId} (he : e ≠ d) : (s.isolateDoor d).orders.door e = s.orders.door e := s.orders.withDoor_door_ne _ he
  have motion : ((s.isolateDoor d).door d).motion = .isolated := by
    rw [State.isolateDoor, State.doorEvent_door]
    exact ((Work.event_followed (strict := True) _ _ _ _).isolated).mpr (Work.isolate_service _ served).2.2
  refine ⟨presenceInv_event (c := .powerOn) (strays := False) (.isolateDoor d served.2 served.1) h.presence, fun e => ?_,
    fun e k => ?_, fun e k => ?_, fun e => ?_⟩
  · by_cases he : e = d
    · subst he
      rw [own]
      exact ⟨fun _ => motion, fun _ => rfl⟩
    · rw [other he, State.isolateDoor, frame.doors e he]
      exact h.isolated e
  · by_cases he : e = d
    · subst he
      rw [own] at k
      cases k
    · rw [other he] at k
      exact ⟨by rw [other he]; exact (h.registered e k).1, (h.registered e k).2⟩
  · by_cases he : e = d
    · subst he
      rw [own] at k
      cases k
    · rw [other he] at k
      exact ⟨by rw [other he]; exact (h.mark e k).1, (h.mark e k).2⟩
  · rw [orders]
    exact h.reported.isolate d e

/-- A door restored, by the door table and the resolver (R80). -/
theorem restoreDoor (d : DoorId) (isolated : (s.door d).motion = .isolated) (idle : (s.door d).testResult ≠ .running) :
    ResolverAgrees (s.restoreDoor d) := by
  have frame := s.doorEvent_onlyDoor s d Work.enterSettling
  have image : (s.restoreDoor d).orders.image = s.image := frame.toDoorTableOnly.image
  have resolver : (s.restoreDoor d).resolver = (s.orders.restore d).resolver := by
    have orders : (s.doorEvent s d Work.enterSettling).orders = s.orders := frame.toDoorTableOnly.orders
    rw [State.restoreDoor, ← orders]
    rfl
  have door (e : DoorId) : (s.restoreDoor d).orders.door e = (s.orders.restore d).door e := by
    rw [Orders.door, Orders.door, ← resolver]
    rfl
  have sources := (s.orders.withDoor d { s.orders.door d with isolated := false }).recompute_sources d
  have same := s.orders.withDoor_door d { s.orders.door d with isolated := false }
  have own : ((s.restoreDoor d).orders.door d).isolated = false ∧
      ((s.restoreDoor d).orders.door d).registered = (s.orders.door d).registered ∧
      ((s.restoreDoor d).orders.door d).mark = (s.orders.door d).mark := by
    rw [door, Orders.restore, Orders.recompute_door, same]
    exact ⟨rfl, rfl, rfl⟩
  have other {e : DoorId} (he : e ≠ d) : (s.restoreDoor d).orders.door e = s.orders.door e := by
    rw [door, Orders.restore, Orders.recompute_door_ne _ he, Orders.withDoor_door_ne _ _ he]
  have settling : ((s.restoreDoor d).door d).motion ≠ .isolated := by
    have settled : (s.restoreDoor d).door d = _ := s.doorEvent_door s d Work.enterSettling
    rw [settled]
    exact fun on => nomatch ((Work.event_followed (strict := True) _ _ _ _).isolated).mp on
  have off (k : Bool) (b : k = true → s.orders.Serves d) : k ≠ true := fun on => by
    have := (h.isolated d).mpr isolated
    rw [(b on).1] at this
    cases this
  refine ⟨presenceInv_event (c := .powerOn) (strays := False) (.restoreDoor d isolated idle) h.presence, fun e => ?_,
    fun e k => ?_, fun e k => ?_, fun e => ?_⟩
  · by_cases he : e = d
    · subst he
      rw [own.1]
      exact ⟨nofun, fun on => absurd on settling⟩
    · rw [other he, State.restoreDoor]
      exact (h.isolated e).trans (by rw [← frame.doors e he]; rfl)
  · by_cases he : e = d
    · subst he
      rw [own.2.1] at k
      exact absurd k (off _ (h.registered e))
    · rw [other he] at k
      exact ⟨by rw [other he]; exact (h.registered e k).1, by rw [Orders.isPresent, image]; exact (h.registered e k).2⟩
  · by_cases he : e = d
    · subst he
      rw [own.2.2] at k
      exact absurd k (off _ (h.mark e))
    · rw [other he] at k
      exact ⟨by rw [other he]; exact (h.mark e k).1, by rw [Orders.isPresent, image]; exact (h.mark e k).2⟩
  · rw [door, h.reported.restore d e]
    exact (Orders.due_of_sameGroup (o := s.orders.restore d) (image.trans sources.image.symm |> fun image =>
      ⟨image, by rw [← resolver]; rfl, by rw [← resolver]; rfl, by rw [← resolver]; rfl⟩) (door e)).symm

/-- A restart, whatever has been sent and discarded ahead of it (R87). -/
theorem restart {s0 : State} (cause : StartCause) (store : s0.store = s.store) (resolver : s0.resolver = s.resolver)
    (doors : s0.doors = s.doors) (channels : s0.channels = s.channels) : ResolverAgrees (s0.restartBlocks cause) := by
  have image0 : s0.image = s.image := by rw [State.image, store]; rfl
  have orders : s0.orders = s.orders := by rw [State.orders, image0, resolver]; rfl
  have touched (d : DoorId) : TouchedBy true .powerOn s (s0.restartBlocks cause) d :=
    .restartBlocks cause ⟨image0, doors, channels⟩
  have image : (s0.restartBlocks cause).image = s.image := ((touched default).service (h.presence default)).1
  obtain ⟨group, -, restarted⟩ := s.orders.restart_eq
  have resolved : (s0.restartBlocks cause).orders.resolver = s.orders.restart.resolver := by
    rw [State.orders_resolver, State.restartBlocks_resolver, orders]
  have door (d : DoorId) : (s0.restartBlocks cause).orders.door d = s.orders.restarted d := by
    rw [← restarted, Orders.door, resolved]
    rfl
  refine ⟨fun d => (touched d).presentIn (h.presence d), fun d => ?_, fun d k => ?_, fun d k => ?_, fun d => ?_⟩
  · rw [door]
    exact (h.isolated d).trans ((touched d).service (h.presence d)).2.symm
  · rw [door] at k
    cases k
  · rw [door] at k
    refine ⟨by rw [door]; exact (h.mark d k).1, ?_⟩
    change (s0.restartBlocks cause).image.doors[d].present = true
    rw [image]
    exact (h.mark d k).2
  · rw [door, ← restarted, Orders.Reported.restart (o := s.orders) d]
    refine (Orders.due_of_sameGroup (o := s.orders.restart) ⟨?_, ?_, ?_, ?_⟩ ((door d).trans (restarted d).symm)).symm
    · exact image.trans group.image.symm
    all_goals rw [resolved]

/-- A commit computes every standing authority afresh, of the doors that it leaves as of those that it makes ABSENT or present
(R85). -/
theorem commit : ResolverAgrees s.commit := by
  obtain ⟨o', group, -, doors, eq⟩ := Orders.commit_eq ⟨s.store.staging, s.resolver, []⟩ s.image
  have image : s.commit.orders.image = s.store.staging := by rw [State.orders, State.image, State.commit_store]
  have resolved : s.commit.orders.resolver = o'.recomputeAll.resolver := by
    rw [State.orders_resolver, State.commit_resolver, eq]
  have door (d : DoorId) : s.commit.orders.door d = o'.recomputeAll.door d := by
    rw [Orders.door, resolved]
    rfl
  have isPresent (d : DoorId) : s.commit.orders.isPresent d = s.store.staging.doors[d].present := by rw [Orders.isPresent, image]
  have present (d : DoorId) : (s.commit.door d).PresentIn s.store.staging d := by
    have touched : TouchedBy false .powerOn s s.commit d := .commit
    have kept := touched.presentIn (h.presence d)
    rwa [show s.commit.image = s.store.staging from image] at kept
  have was (d : DoorId) (k : Bool) (b : k = true → s.orders.Serves d) (k' : Bool)
      (hk : k' = if s.image.doors[d].present = s.store.staging.doors[d].present then k else false) (on : k' = true) :
      s.orders.Serves d ∧ s.image.doors[d].present = s.store.staging.doors[d].present := by
    split at hk
    · next same => exact ⟨b (hk ▸ on), same⟩
    · rw [hk] at on
      cases on
  have own (d : DoorId) : (s.commit.orders.door d).isolated =
        (if s.image.doors[d].present = s.store.staging.doors[d].present then (s.orders.door d).isolated else false) ∧
      (s.commit.orders.door d).registered =
        (if s.image.doors[d].present = s.store.staging.doors[d].present then (s.orders.door d).registered else false) ∧
      (s.commit.orders.door d).mark =
        (if s.image.doors[d].present = s.store.staging.doors[d].present then (s.orders.door d).mark else false) := by
    rw [door, Orders.recomputeAll_door, doors, Orders.committed]
    have now : Orders.isPresent ⟨s.store.staging, s.resolver, []⟩ d = s.store.staging.doors[d].present := rfl
    rw [now]
    split <;> exact ⟨rfl, rfl, rfl⟩
  have serves (d : DoorId) (k : s.orders.Serves d ∧ s.image.doors[d].present = s.store.staging.doors[d].present) :
      s.commit.orders.Serves d := by
    obtain ⟨⟨off, on⟩, same⟩ := k
    exact ⟨by rw [(own d).1, if_pos same, off], by rw [isPresent, ← same]; exact on⟩
  refine ⟨fun d => ?_, fun d => ?_, fun d k => ?_, fun d k => ?_, fun d => ?_⟩
  · rw [show s.commit.image = s.store.staging from image]
    exact present d
  · rw [(own d).1, s.commit_door d |>.1]
    have kept := (Work.event_followed (strict := True) (s.commitBegun.work d) (fun w =>
      w.commit s.image.doors[d] (standingOfFresh s.store.staging s.resolver d)) (s.commitBegun.door d) (s.commitBegun.channel d)).isolated.trans
        (Work.commit_isolated _ _ _)
    refine .trans ?_ kept.symm
    change _ ↔ s.image.doors[d].present = s.store.staging.doors[d].present ∧ (s.door d).motion = .isolated
    rw [← h.isolated d]
    split
    · next same => exact ⟨fun on => ⟨same, on⟩, fun on => on.2⟩
    · next differs => exact ⟨nofun, fun on => absurd on.1 differs⟩
  · exact serves d (was d _ (h.registered d) _ (own d).2.1 k)
  · exact serves d (was d _ (h.mark d) _ (own d).2.2 k)
  · rw [door, Orders.Reported.recomputeAll o' d]
    refine (Orders.due_of_sameGroup (o := o'.recomputeAll) ⟨?_, ?_, ?_, ?_⟩ (door d)).symm
    · rw [image, o'.recomputeAll_group.image, group.image]
    all_goals rw [resolved]

omit h in
theorem powerOn : ResolverAgrees s.powerOn := by
  have supplied (stored : Stored) (n : Nat) : ResolverAgrees (.poweredUp s.channels s.lines s.straps stored s.pending n) := by
    generalize ht : State.poweredUp s.channels s.lines s.straps stored s.pending n = t
    have door (d : DoorId) : t.door d = .atPowerOn t.image.doors[d] (standingAtPowerOn t.image d) := by
      rw [← ht]
      exact Vector.getElem_ofFn _
    have resolver : t.resolver = .atPowerOn t.image := by rw [← ht]; rfl
    have own (d : DoorId) : t.orders.door d = ⟨false, false, false, standingAtPowerOn t.image d⟩ := by
      rw [Orders.door, State.orders_resolver, resolver]
      exact Vector.getElem_ofFn _
    refine ⟨fun d => ?_, fun d => ?_, fun d k => ?_, fun d k => ?_, fun d => ?_⟩
    · rw [door]
      exact atPowerOn_presentIn _ d
    · rw [own, door, Door.atPowerOn]
      dsimp only
      split <;> simp
    · rw [own] at k
      cases k
    · rw [own] at k
      cases k
    · have bare : t.resolver.doors[d] = ⟨false, false, false, standingAtPowerOn t.image d⟩ := own d
      have latch : t.resolver.latch = false := by rw [resolver]; rfl
      have mode : t.resolver.mode = t.image.group.startMode := by rw [resolver]; rfl
      rw [own, Orders.due, standingOf, State.orders_resolver, bare, latch, mode]
      change standingAtPowerOn t.image d = if !t.image.doors[d].present || false then _ else _
      unfold standingAtPowerOn
      cases t.image.doors[d].present <;> cases t.image.group.startMode <;> rfl
  unfold State.powerOn
  split
  · exact supplied _ _
  · exact supplied _ _

/-- Every event keeps the resolver's records and its last reports. -/
theorem event {strays : Prop} (event : Event c strays s t) : ResolverAgrees t := by
  have quiet (orders : t.orders = s.orders) (touched : ∀ d, TouchedBy true c s t d) : ResolverAgrees t := h.mild orders touched
  have same (image : t.image = s.image) (resolver : t.resolver = s.resolver) (doors : t.doors = s.doors)
      (channels : t.channels = s.channels) : ResolverAgrees t :=
    quiet (by rw [State.orders, image, resolver]; rfl) fun d => .of_eq image (by rw [State.door, doors]; rfl)
      (by rw [State.channel, channels]; rfl)
  cases event with
  | powerOn => exact .powerOn
  | filter i f keeps => exact quiet (by cases i <;> rfl) fun d => .filter i f keeps
  | input i f _ line =>
    have touched (d : DoorId) : TouchedBy true c s ((s.withFilter i f).inputEvent s i f.filtered) d := .input i f line
    cases i with
    | door e k => exact quiet ((s.withFilter (.door e k) f).doorEvent_onlyDoor s e _).toDoorTableOnly.orders touched
    | emergency =>
      have written : ResolverAgrees (s.withFilter .emergency f) :=
        ⟨h.presence, h.isolated, h.registered, h.mark, h.reported⟩
      unfold State.inputEvent
      dsimp only
      split
      · exact written.ordersEvent (.emergency _) (.emergency h.reported)
      · exact written
    | resetPin => exact absurd rfl line
    | mainSupply | pressure => exact quiet rfl touched
  | primed i =>
    have touched (d : DoorId) : TouchedBy true c s (s.inputPrimed i) d := .primed i
    cases i with
    | door e k => exact quiet (s.doorEvent_onlyDoor s e _).toDoorTableOnly.orders touched
    | _ => exact quiet rfl touched
  | door e reaction =>
    exact quiet (s.doorEvent_onlyDoor s e _).toDoorTableOnly.orders fun d =>
      .doorEvent ⟨rfl, rfl, rfl⟩ e _ fun he => .reaction _ (he ▸ reaction).moves
  | tick e moving short => exact quiet rfl fun d => .withDoor e fun he => he ▸ .tick moving short
  | readDoor e r command => exact quiet rfl fun d => .withDoor e fun he => he ▸ .read r command
  | deliver m => exact h.deliver m
  | orders reaction =>
    refine h.ordersEvent (.reaction reaction _ h.serves_of_registers) (h.reported.reaction reaction)
  | isolateDoor e present connected => exact h.isolateDoor e ⟨connected, present⟩
  | restoreDoor e isolated idle => exact h.restoreDoor e isolated idle
  | store x active => exact same active rfl rfl rfl
  | written x active => exact same active rfl rfl rfl
  | commit => exact h.commit
  | pinRestart => exact h.restart _ rfl rfl rfl rfl
  | replyRestart l => exact h.restart _ rfl rfl rfl rfl
  | _ => exact same rfl rfl rfl rfl

end ResolverAgrees

/-- Settles O7: the resolver's records agree with the door table's, and its last reports with its sources, and every event keeps
both. -/
theorem resolverKept : Obligations.ResolverKept := by
  unfold Obligations.ResolverKept
  intro s t isolation standing hstep
  refine (resolverAgrees_iff t).mp (step_keeps ?_ ?_ ((resolverAgrees_iff s).mpr ⟨isolation, standing⟩) hstep)
  · exact fun _ _ h => ⟨h.presence, h.isolated, h.registered, h.mark, h.reported⟩
  · exact fun _ _ _ _ event h => h.event event

/-! ### The emergency latch -/

/-- Of the reactions to requests and to the loss of both lines, EMERGENCY_RELEASE alone clears the latch (R72). -/
theorem Orders.latch_of_reaction {f : Orders → Orders} (reaction : OrdersReaction c s f) (o : Orders)
    (on : o.resolver.latch = true) :
    (f o).resolver.latch = true ∨ ∃ r, c = .emergencyRelease r ∧ s.lines.emergency.filtered = false := by
  have recomputed (o' : Orders) (on : o'.resolver.latch = true) : o'.recomputeAll.resolver.latch = true := by
    rw [o'.recomputeAll_group.latch, on]
  have folded (f : Orders → DoorId → Orders) (keeps : ∀ x d, (f x d).resolver.latch = x.resolver.latch) :
      (allDoors.foldl f o).resolver.latch = true :=
    List.foldlRecOn (motive := fun x : Orders => x.resolver.latch = true) allDoors f on fun x hx d _ => (keeps x d).trans hx
  cases reaction with
  | setMode m =>
    left
    dsimp only
    rw [Orders.setMode]
    refine recomputed _ ?_
    exact on
  | closeDoors named =>
    left
    dsimp only
    rw [Orders.closeDoors]
    refine recomputed _ (folded _ fun x d => ?_)
    split <;> rfl
  | releaseDoors named =>
    left
    dsimp only
    rw [Orders.releaseDoors]
    refine recomputed _ (folded _ fun x d => ?_)
    split <;> rfl
  | floodSet | floodClear => exact .inl on
  | remoteLost =>
    left
    rw [Orders.remoteLost]
    split
    · rw [Orders.setMode]
      refine recomputed _ ?_
      exact on
    · exact on
  | releaseLatch r request inactive => exact .inr ⟨r, request, inactive⟩

/-- The filtered lines change at the end of a filter's interval and at power-on alone. -/
theorem Event.lines {strays : Prop} (event : Event c strays s t) (r : Req) (release : c = .emergencyRelease r) :
    t.lines = s.lines := by
  have noEnd {i : InputId} {f : Filter} (ends : FilterEnds s c i f) : False := by
    rcases ends with ⟨_, _, _, command, _⟩ | ⟨_, command, _⟩ <;> cases release.symm.trans command
  cases event with
  | powerOn command => cases release.symm.trans command
  | filter i f _ command =>
    rcases command with ⟨_, _, command⟩ | ends
    · cases release.symm.trans command
    · exact (noEnd ends).elim
  | input i f ends => exact (noEnd ends).elim
  | primed i =>
    cases i with
    | door d k => exact (s.doorEvent_onlyDoor s d _).toDoorTableOnly.lines
    | _ => rfl
  | door d reaction => exact (s.doorEvent_onlyDoor s d _).toDoorTableOnly.lines
  | deliver m => cases m <;> rfl
  | isolateDoor d => exact (State.doorEvent_onlyDoor _ _ _ _).toDoorTableOnly.lines
  | restoreDoor d => exact (s.doorEvent_onlyDoor s d Work.enterSettling).toDoorTableOnly.lines
  | commit => exact s.commit_lines
  | pinRestart => exact s.restartBlocks_lines _
  | replyRestart l => exact (s.replyGone l).restartBlocks_lines _
  | _ => rfl

/-- An event clears the latch by the release of it or at power-on alone (R72, R86). -/
theorem Event.latch {strays : Prop} (event : Event c strays s t) (on : s.resolver.latch = true) :
    t.resolver.latch = true ∨ c = .powerOn ∨ ∃ r, c = .emergencyRelease r ∧ s.lines.emergency.filtered = false := by
  have same (resolver : t.resolver = s.resolver) : t.resolver.latch = true := by rw [resolver, on]
  cases event with
  | powerOn command => exact .inr (.inl command)
  | filter i f => exact .inl (same (by cases i <;> rfl))
  | input i f _ line =>
    left
    cases i with
    | door d k => exact same (State.doorEvent_onlyDoor _ _ _ _).toDoorTableOnly.resolver
    | emergency =>
      unfold State.inputEvent
      dsimp only
      split
      · change (Orders.emergency _).resolver.latch = true
        unfold Orders.emergency
        split
        · exact on
        · rw [(Orders.recomputeAll_group _).latch]
          rfl
      · exact on
    | resetPin => exact absurd rfl line
    | mainSupply | pressure => exact on
  | primed i =>
    left
    cases i with
    | door d k => exact same (State.doorEvent_onlyDoor _ _ _ _).toDoorTableOnly.resolver
    | _ => exact on
  | door d => exact .inl (same (State.doorEvent_onlyDoor _ _ _ _).toDoorTableOnly.resolver)
  | deliver m =>
    left
    cases m with
    | handleReferral d handle faulted =>
      change (Orders.referral _ _ _ _ _).resolver.latch = true
      unfold Orders.referral
      dsimp only
      split_ifs <;> exact on
    | arrivalNotice d =>
      change (Orders.arrival _ _).resolver.latch = true
      unfold Orders.arrival
      split
      · rw [(Orders.recomputeAll_group _).latch]
        exact on
      · exact on
    | openHandleReleaseNotice d =>
      change (Orders.handleReleased _ _).resolver.latch = true
      unfold Orders.handleReleased
      split <;> exact on
    | _ => exact on
  | orders reaction => exact (Orders.latch_of_reaction reaction _ on).imp_right .inr
  | isolateDoor d => exact .inl on
  | restoreDoor d =>
    left
    have resolver := (s.doorEvent_onlyDoor s d Work.enterSettling).toDoorTableOnly.resolver
    change (Orders.recompute _ d).resolver.latch = true
    rw [(Orders.recompute_sources _ d).latch]
    exact (congrArg Resolver.latch resolver).trans on
  | commit =>
    left
    obtain ⟨o', group, -, -, eq⟩ := Orders.commit_eq ⟨s.store.staging, s.resolver, []⟩ s.image
    rw [State.commit_resolver, eq, o'.recomputeAll_group.latch, group.latch]
    exact on
  | pinRestart =>
    left
    rw [State.restartBlocks_resolver, (Orders.restart_eq _).1.latch]
    exact on
  | replyRestart l =>
    left
    rw [State.restartBlocks_resolver, (Orders.restart_eq _).1.latch]
    exact on
  | _ => exact .inl on

/-- Settles O16: of the events of a command only the release and power-on clear the latch, and no event of an EMERGENCY_RELEASE
changes a line. -/
theorem latchReleasedOnlyByRelease : Obligations.LatchReleasedOnlyByRelease := by
  unfold Obligations.LatchReleasedOnlyByRelease
  intro c s t on hexec off
  have events := exec_events c s
  rw [hexec] at events
  have kept : (t.resolver.latch = true ∧ ∀ r, c = .emergencyRelease r → t.lines = s.lines) ∨ c = .powerOn ∨
      ∃ r, c = .emergencyRelease r ∧ s.lines.emergency.filtered = false := by
    refine Events.keeps (P := fun u => (u.resolver.latch = true ∧ ∀ r, c = .emergencyRelease r → u.lines = s.lines) ∨
      c = .powerOn ∨ ∃ r, c = .emergencyRelease r ∧ s.lines.emergency.filtered = false)
      (fun u v event h => ?_) events (.inl ⟨on, fun _ _ => rfl⟩)
    rcases h with ⟨set, lines⟩ | cleared
    · rcases event.latch set with stays | up | ⟨r, release, inactive⟩
      · exact .inl ⟨stays, fun r release => (event.lines r release).trans (lines r release)⟩
      · exact .inr (.inl up)
      · exact .inr (.inr ⟨r, release, lines r release ▸ inactive⟩)
    · exact .inr cleared
  rcases kept with ⟨set, -⟩ | cleared
  · rw [off] at set
    cases set
  · exact cleared

end

end Sys2Proof.Machine

/-! The flow allocator's lists (R92, R93): each procedure keeps the flow in use the sum of the demands counted for the granted
doors and each door in the one list that its standing names, and a service leaves no servable door ahead that fits (R97, R98). -/

namespace Sys2Proof.Machine

open Sys2Proof

/-! ### Standings -/

/-- The flow that a door's standing draws from an HPU (R92). -/
def AllocStanding.draw (x : AllocStanding) (k : HpuId) : Nat := if x.grantedBy k then x.demand else 0

/-- A standing that names no list of an HPU. -/
def AllocStanding.Away (x : AllocStanding) (k : HpuId) : Prop := x.grantedBy k = false ∧ ∀ c, x.waitsIn k c = false

namespace AllocStanding

theorem away_out (k : HpuId) : out.Away k := ⟨rfl, fun _ => rfl⟩

theorem away_waiting {h k : HpuId} (ne : k ≠ h) (c : Dir) (p : Bool) (n : Nat) : (waiting h c p n).Away k :=
  ⟨rfl, fun c' => by simp [waitsIn, Ne.symm ne]⟩

theorem away_offered {h k : HpuId} (ne : k ≠ h) (dir : Dir) (n : Nat) (p : PendingNotice) : (offered h dir n p).Away k :=
  ⟨by simp [grantedBy, Ne.symm ne], fun _ => rfl⟩

theorem away_held {h k : HpuId} (ne : k ≠ h) (dir : Dir) (n : Nat) : (held h dir n).Away k :=
  ⟨by simp [grantedBy, Ne.symm ne], fun _ => rfl⟩

theorem Away.draw {x : AllocStanding} {k : HpuId} (h : x.Away k) : x.draw k = 0 := by simp [AllocStanding.draw, h.1]

/-- A granted standing waits nowhere. -/
theorem waitsIn_of_grantedBy {x : AllocStanding} {k : HpuId} (h : x.grantedBy k = true) (j : HpuId) (c : Dir) :
    x.waitsIn j c = false := by
  cases x <;> first | rfl | cases h

end AllocStanding

/-! ### The lists of one HPU -/

/-- An HPU's record agrees with the standings of the doors (R92, R93). -/
structure Listed (k : HpuId) (x : Hpu) (st : DoorId → AllocStanding) : Prop where
  grantedOnce : x.granted.Nodup
  queuedOnce : ∀ c, (x.queue c).Nodup
  granted : ∀ d, d ∈ x.granted ↔ (st d).grantedBy k = true
  queued : ∀ c d, d ∈ x.queue c ↔ (st d).waitsIn k c = true
  inUse : x.inUse = ∑ d, (st d).draw k

section
variable {k : HpuId} {x : Hpu} {st : DoorId → AllocStanding} {d : DoorId} {a : AllocStanding}

/-- The draw of one door written anew. -/
theorem sum_draw_update (st : DoorId → AllocStanding) (d : DoorId) (a : AllocStanding) (k : HpuId) :
    (∑ e, (Function.update st d a e).draw k) + (st d).draw k = (∑ e, (st e).draw k) + a.draw k := by
  have split (st' : DoorId → AllocStanding) :
      ∑ e, (st' e).draw k = (st' d).draw k + ∑ e ∈ Finset.univ.erase d, (st' e).draw k :=
    (Finset.add_sum_erase _ _ (Finset.mem_univ d)).symm
  have others : ∑ e ∈ Finset.univ.erase d, (Function.update st d a e).draw k = ∑ e ∈ Finset.univ.erase d, (st e).draw k :=
    Finset.sum_congr rfl fun e he => by rw [Function.update_of_ne (Finset.ne_of_mem_erase he)]
  rw [split (Function.update st d a), split st, others, Function.update_self]
  omega

@[simp] theorem Hpu.queue_withQueue (x : Hpu) (c : Dir) (q : List DoorId) : (x.withQueue c q).queue c = q := by
  cases c <;> rfl

theorem Hpu.queue_withQueue_ne (x : Hpu) {c c' : Dir} (ne : c' ≠ c) (q : List DoorId) :
    (x.withQueue c q).queue c' = x.queue c' := by
  cases c <;> cases c' <;> first | rfl | exact absurd rfl ne

theorem Hpu.withQueue_same (x : Hpu) (c : Dir) (q : List DoorId) :
    (x.withQueue c q).granted = x.granted ∧ (x.withQueue c q).inUse = x.inUse ∧ (x.withQueue c q).capacity = x.capacity := by
  cases c <;> exact ⟨rfl, rfl, rfl⟩

@[simp] theorem Hpu.queue_unqueue (x : Hpu) (d : DoorId) (c : Dir) : (x.unqueue d).queue c = (x.queue c).erase d := by
  cases c <;> rfl

namespace Listed

/-- A record with the same lists. -/
theorem congr {y : Hpu} (h : Listed k x st) (granted : y.granted = x.granted) (queue : ∀ c, y.queue c = x.queue c)
    (inUse : y.inUse = x.inUse) : Listed k y st :=
  ⟨granted ▸ h.grantedOnce, fun c => queue c ▸ h.queuedOnce c, fun d => granted ▸ h.granted d, fun c d => queue c ▸ h.queued c d,
    inUse.trans h.inUse⟩

/-- A door's standing written anew, with the lists it names then. -/
theorem rewritten {y : Hpu} (h : Listed k x st) (grantedOnce : y.granted.Nodup) (queuedOnce : ∀ c, (y.queue c).Nodup)
    (granted : ∀ e, e ∈ y.granted ↔ if e = d then a.grantedBy k = true else e ∈ x.granted)
    (queued : ∀ c e, e ∈ y.queue c ↔ if e = d then a.waitsIn k c = true else e ∈ x.queue c)
    (inUse : y.inUse + (st d).draw k = x.inUse + a.draw k) : Listed k y (Function.update st d a) := by
  refine ⟨grantedOnce, queuedOnce, fun e => (granted e).trans ?_, fun c e => (queued c e).trans ?_, ?_⟩
  · by_cases he : e = d
    · rw [if_pos he, he, Function.update_self]
    · rw [if_neg he, Function.update_of_ne he, h.granted]
  · by_cases he : e = d
    · rw [if_pos he, he, Function.update_self]
    · rw [if_neg he, Function.update_of_ne he, h.queued]
  · have sums := sum_draw_update st d a k
    rw [← h.inUse] at sums
    omega

variable (h : Listed k x st)
include h

/-- A door that comes to no list of the HPU and leaves none. -/
theorem away (was : (st d).Away k) (now : a.Away k) : Listed k x (Function.update st d a) := by
  refine h.rewritten h.grantedOnce h.queuedOnce (fun e => ?_) (fun c e => ?_) (by rw [was.draw, now.draw])
  · by_cases he : e = d
    · rw [if_pos he, he, h.granted, was.1, now.1]
    · rw [if_neg he]
  · by_cases he : e = d
    · rw [if_pos he, he, h.queued, was.2, now.2]
    · rw [if_neg he]

/-- A granted door whose standing changes but for its HPU and its demand. -/
theorem renamed (was : (st d).grantedBy k = true) (now : a.grantedBy k = true) (same : a.demand = (st d).demand) :
    Listed k x (Function.update st d a) := by
  refine h.rewritten h.grantedOnce h.queuedOnce (fun e => ?_) (fun c e => ?_)
    (by rw [AllocStanding.draw, AllocStanding.draw, was, now, same])
  · by_cases he : e = d
    · rw [if_pos he, he, h.granted, was, now]
    · rw [if_neg he]
  · by_cases he : e = d
    · rw [if_pos he, he, h.queued, AllocStanding.waitsIn_of_grantedBy was, AllocStanding.waitsIn_of_grantedBy now]
    · rw [if_neg he]

/-- A door that leaves the queue (R93). -/
theorem unqueued {c : Dir} {p : Bool} {n : Nat} (was : st d = .waiting k c p n) :
    Listed k (x.unqueue d) (Function.update st d .out) := by
  have notGranted : d ∉ x.granted := fun m => by simpa [was, AllocStanding.grantedBy] using (h.granted d).mp m
  refine h.rewritten h.grantedOnce (fun c => ?_) (fun e => ?_) (fun c e => ?_) (by simp [was, AllocStanding.draw,
    AllocStanding.grantedBy, Hpu.unqueue])
  · rw [Hpu.queue_unqueue]
    exact (h.queuedOnce c).erase d
  · by_cases he : e = d
    · rw [if_pos he, he]
      exact ⟨fun m => absurd m notGranted, nofun⟩
    · rw [if_neg he]
      rfl
  · rw [Hpu.queue_unqueue, (h.queuedOnce c).mem_erase_iff]
    by_cases he : e = d
    · simp [he, AllocStanding.waitsIn]
    · simp [he]

/-- A granted door that gives its flow back (R92). -/
theorem ungranted (was : (st d).grantedBy k = true) :
    Listed k { x with granted := x.granted.erase d, inUse := x.inUse - (st d).demand } (Function.update st d .out) := by
  have drawn : (st d).demand ≤ x.inUse := by
    have one := Finset.single_le_sum (f := fun e => (st e).draw k) (fun _ _ => Nat.zero_le _) (Finset.mem_univ d)
    rw [h.inUse]
    simpa [AllocStanding.draw, was] using one
  refine h.rewritten (h.grantedOnce.erase d) h.queuedOnce (fun e => ?_) (fun c e => ?_) ?_
  · rw [h.grantedOnce.mem_erase_iff]
    by_cases he : e = d
    · simp [he, AllocStanding.grantedBy]
    · simp [he]
  · have same : Hpu.queue { x with granted := x.granted.erase d, inUse := x.inUse - (st d).demand } c = x.queue c := by
      cases c <;> rfl
    rw [same]
    by_cases he : e = d
    · rw [if_pos he, he, h.queued, AllocStanding.waitsIn_of_grantedBy was]
      rfl
    · rw [if_neg he]
  · have drawn' : (st d).draw k = (st d).demand := if_pos was
    rw [drawn', (AllocStanding.away_out k).draw]
    exact Nat.sub_add_cancel drawn

/-- A door that is OUT placed in a class (R93). -/
theorem placed (was : st d = .out) {c : Dir} {q : List DoorId} (perm : q.Perm (d :: x.queue c)) (p : Bool) (n : Nat) :
    Listed k (x.withQueue c q) (Function.update st d (.waiting k c p n)) := by
  obtain ⟨granted, inUse, -⟩ := x.withQueue_same c q
  have notQueued (c' : Dir) : d ∉ x.queue c' := fun m => by simpa [was, AllocStanding.waitsIn] using (h.queued c' d).mp m
  have notGranted : d ∉ x.granted := fun m => by simpa [was, AllocStanding.grantedBy] using (h.granted d).mp m
  refine h.rewritten (granted ▸ h.grantedOnce) (fun c' => ?_) (fun e => ?_) (fun c' e => ?_) ?_
  · by_cases hc : c' = c
    · rw [hc, Hpu.queue_withQueue, perm.nodup_iff]
      exact List.nodup_cons.mpr ⟨notQueued c, h.queuedOnce c⟩
    · rw [Hpu.queue_withQueue_ne _ hc]
      exact h.queuedOnce c'
  · rw [granted]
    by_cases he : e = d
    · rw [if_pos he, he]
      exact ⟨fun m => absurd m notGranted, nofun⟩
    · rw [if_neg he]
  · by_cases hc : c' = c
    · rw [hc, Hpu.queue_withQueue, perm.mem_iff, List.mem_cons]
      by_cases he : e = d <;> simp [he, AllocStanding.waitsIn]
    · rw [Hpu.queue_withQueue_ne _ hc]
      by_cases he : e = d
      · rw [if_pos he, he]
        exact ⟨fun m => absurd m (notQueued c'), fun w => absurd w (by simp [AllocStanding.waitsIn, Ne.symm hc])⟩
      · rw [if_neg he]
  · rw [inUse, was]
    simp [AllocStanding.draw, AllocStanding.grantedBy]

/-- A door that is OUT granted (R99). -/
theorem admitted (was : st d = .out) (dir : Dir) (n : Nat) (notice : PendingNotice) (order : List DoorId) :
    Listed k { x with granted := x.granted ++ [d], inUse := x.inUse + n, order := order }
      (Function.update st d (.offered k dir n notice)) := by
  have notGranted : d ∉ x.granted := fun m => by simpa [was, AllocStanding.grantedBy] using (h.granted d).mp m
  have notQueued (c : Dir) : d ∉ x.queue c := fun m => by simpa [was, AllocStanding.waitsIn] using (h.queued c d).mp m
  have same (c : Dir) :
      Hpu.queue { x with granted := x.granted ++ [d], inUse := x.inUse + n, order := order } c = x.queue c := by cases c <;> rfl
  refine h.rewritten ?_ (fun c => same c ▸ h.queuedOnce c) (fun e => ?_) (fun c e => ?_) ?_
  · refine List.nodup_append.mpr ⟨h.grantedOnce, List.nodup_singleton d, fun a m b hb => ?_⟩
    rw [List.mem_singleton.mp hb]
    exact fun same => notGranted (same ▸ m)
  · rw [List.mem_append, List.mem_singleton]
    by_cases he : e = d <;> simp [he, AllocStanding.grantedBy]
  · rw [same]
    by_cases he : e = d
    · rw [if_pos he, he]
      exact ⟨fun m => absurd m (notQueued c), nofun⟩
    · rw [if_neg he]
  · simp [was, AllocStanding.draw, AllocStanding.grantedBy, AllocStanding.demand]

end Listed
end

/-! ### The lists of every HPU -/

/-- No servable door of an HPU's queue is the first and fits (R97, R98). -/
def HpuServed (x : Hpu) (st : DoorId → AllocStanding) : Prop :=
  ∀ d ∈ ((x.queue .cls).find? fun d => (st d).demand ≤ x.capacity).or
      ((x.queue .opn).find? fun d => (st d).demand ≤ x.capacity),
    x.capacity < x.inUse + (st d).demand

/-- The record of an HPU with what its service rests on as it was. -/
theorem HpuServed.congr {x y : Hpu} {st st' : DoorId → AllocStanding} (h : HpuServed x st)
    (queue : ∀ c, y.queue c = x.queue c) (inUse : y.inUse = x.inUse) (capacity : y.capacity = x.capacity)
    (demand : ∀ c, ∀ d ∈ x.queue c, (st' d).demand = (st d).demand) : HpuServed y st' := by
  have found (c : Dir) : ((y.queue c).find? fun d => (st' d).demand ≤ y.capacity) =
      ((x.queue c).find? fun d => (st d).demand ≤ x.capacity) := by
    rw [queue, capacity]
    exact List.find?_congr fun d hd => by rw [demand c d hd]
  intro d hd
  rw [found, found] at hd
  have queued : ∃ c, d ∈ x.queue c := by
    rcases Option.or_eq_some_iff.mp hd with first | ⟨-, second⟩
    · exact ⟨_, List.mem_of_find?_eq_some first⟩
    · exact ⟨_, List.mem_of_find?_eq_some second⟩
  obtain ⟨c, queued⟩ := queued
  rw [capacity, inUse, demand c d queued]
  exact h d hd

namespace Flow

/-- Every HPU's record agrees with the standings of the doors. -/
def Lists (f : Flow) : Prop := ∀ k, Listed k (f.hpu k) f.standing

/-- The flow in use is within the capacity (R92). -/
def Fits (f : Flow) (k : HpuId) : Prop := (f.hpu k).inUse ≤ (f.hpu k).capacity

/-- The lists are as they should be, and every HPU but those named is served. -/
structure Kept (awaited : List HpuId) (f : Flow) : Prop where
  lists : f.Lists
  fits : ∀ k, f.Fits k
  served : ∀ k, k ∉ awaited → HpuServed (f.hpu k) f.standing

/-- A procedure that writes no list, no demand and no capacity. -/
structure Quiet (f f' : Flow) : Prop where
  standing : f'.standing = f.standing
  granted : ∀ k, (f'.hpu k).granted = (f.hpu k).granted
  queue : ∀ k c, (f'.hpu k).queue c = (f.hpu k).queue c
  inUse : ∀ k, (f'.hpu k).inUse = (f.hpu k).inUse
  capacity : ∀ k, (f'.hpu k).capacity = (f.hpu k).capacity

theorem flowOk_iff (f : Flow) : FlowOk f.alloc ↔ f.Lists ∧ ∀ k, f.Fits k := by
  have sum (k : HpuId) (once : (f.hpu k).granted.Nodup)
      (granted : ∀ d, d ∈ (f.hpu k).granted ↔ (f.standing d).grantedBy k = true) :
      grantedDemand f.alloc k = ∑ d, (f.standing d).draw k := by
    have listed : grantedDemand f.alloc k = ∑ d ∈ (f.hpu k).granted.toFinset, (f.standing d).demand :=
      (List.sum_toFinset _ once).symm
    have all : (f.hpu k).granted.toFinset = Finset.univ.filter fun d => (f.standing d).grantedBy k = true := by
      ext d
      simp [granted]
    rw [listed, all, Finset.sum_filter]
    rfl
  constructor
  · intro h
    refine ⟨fun k => ?_, fun k => (h k).2.1⟩
    obtain ⟨inUse, -, granted, close, opening, mem⟩ := h k
    refine ⟨granted, fun c => ?_, fun d => (mem d).1, fun c d => ?_, inUse.trans (sum k granted fun d => (mem d).1)⟩
    · cases c
      · exact opening
      · exact close
    · cases c
      · exact (mem d).2.2
      · exact (mem d).2.1
  · rintro ⟨lists, fits⟩ k
    obtain ⟨granted, queues, mem, queued, inUse⟩ := lists k
    exact ⟨inUse.trans (sum k granted mem).symm, fits k, granted, queues .cls, queues .opn, fun d =>
      ⟨mem d, queued .cls d, queued .opn d⟩⟩

theorem kept_iff (f : Flow) : f.Kept [] ↔ FlowOk f.alloc ∧
    ∀ k : HpuId, ∀ d ∈ (servableHead f.alloc k .cls).or (servableHead f.alloc k .opn),
      f.alloc.hpus[k].capacity < f.alloc.hpus[k].inUse + f.alloc.doors[d].demand := by
  rw [flowOk_iff]
  exact ⟨fun h => ⟨⟨h.lists, h.fits⟩, fun k => h.served k List.not_mem_nil⟩, fun ⟨⟨lists, fits⟩, served⟩ =>
    ⟨lists, fits, fun k _ => served k⟩⟩

@[simp] theorem withHpu_hpu (f : Flow) (k : HpuId) (x : Hpu) : (f.withHpu k x).hpu k = x := by simp [hpu, withHpu]

theorem withHpu_hpu_ne (f : Flow) {k j : HpuId} (x : Hpu) (ne : j ≠ k) : (f.withHpu k x).hpu j = f.hpu j := by
  have differ : k.val ≠ j.val := fun e => ne (Fin.ext e.symm)
  simp [hpu, withHpu, differ]

@[simp] theorem withHpu_standing (f : Flow) (k : HpuId) (x : Hpu) : (f.withHpu k x).standing = f.standing := rfl

@[simp] theorem withStanding_hpu (f : Flow) (d : DoorId) (a : AllocStanding) (k : HpuId) :
    (f.withStanding d a).hpu k = f.hpu k := rfl

@[simp] theorem withStanding_standing (f : Flow) (d : DoorId) (a : AllocStanding) :
    (f.withStanding d a).standing = Function.update f.standing d a := by
  funext e
  by_cases he : e = d
  · subst he
    simp [standing, withStanding]
  · have differ : d.val ≠ e.val := fun k => he (Fin.ext k.symm)
    rw [Function.update_of_ne he]
    simp [standing, withStanding, differ]

/-- One door's standing and one HPU's record written. -/
def moved (f : Flow) (k : HpuId) (x : Hpu) (d : DoorId) (a : AllocStanding) : Flow := (f.withHpu k x).withStanding d a

section
variable {f f' : Flow} {k : HpuId} {x : Hpu} {d : DoorId} {a : AllocStanding} {ks : List HpuId}

theorem moved_hpu : (f.moved k x d a).hpu k = x := f.withHpu_hpu k x

theorem moved_hpu_ne {j : HpuId} (ne : j ≠ k) : (f.moved k x d a).hpu j = f.hpu j := f.withHpu_hpu_ne x ne

theorem moved_standing : (f.moved k x d a).standing = Function.update f.standing d a := withStanding_standing _ d a

theorem moved_standing_self : (f.moved k x d a).standing d = a := by rw [moved_standing, Function.update_self]

theorem Lists.moved (h : f.Lists) (here : Listed k x (Function.update f.standing d a))
    (away : ∀ j, j ≠ k → (f.standing d).Away j ∧ a.Away j) : (f.moved k x d a).Lists := fun j => by
  rw [moved_standing]
  by_cases hj : j = k
  · rw [hj, moved_hpu]
    exact here
  · rw [moved_hpu_ne hj]
    exact (h j).away (away j hj).1 (away j hj).2

theorem Kept.moved (h : f.Kept ks) (here : Listed k x (Function.update f.standing d a)) (fits : x.inUse ≤ x.capacity)
    (away : ∀ j, j ≠ k → (f.standing d).Away j ∧ a.Away j) : (f.moved k x d a).Kept (k :: ks) := by
  refine ⟨h.lists.moved here away, fun j => ?_, fun j hj => ?_⟩
  · by_cases hj : j = k
    · rw [Fits, hj, moved_hpu]
      exact fits
    · rw [Fits, moved_hpu_ne hj]
      exact h.fits j
  · have ne : j ≠ k := fun same => hj (same ▸ List.mem_cons_self)
    have other : j ∉ ks := fun mem => hj (List.mem_cons_of_mem _ mem)
    refine (h.served j other).congr (fun c => by rw [moved_hpu_ne ne]) (by rw [moved_hpu_ne ne]) (by rw [moved_hpu_ne ne])
      fun c e he => ?_
    have apart : e ≠ d := by
      rintro rfl
      have waits := ((h.lists j).queued c e).mp he
      rw [(away j ne).1.2 c] at waits
      cases waits
    rw [moved_standing, Function.update_of_ne apart]

theorem Quiet.lists (q : f.Quiet f') (h : f.Lists) : f'.Lists := fun k => by
  rw [q.standing]
  exact (h k).congr (q.granted k) (q.queue k) (q.inUse k)

theorem Quiet.kept (q : f.Quiet f') (h : f.Kept ks) : f'.Kept ks := by
  refine ⟨q.lists h.lists, fun k => ?_, fun k hk => ?_⟩
  · rw [Fits, q.inUse, q.capacity]
    exact h.fits k
  · exact (h.served k hk).congr (q.queue k) (q.inUse k) (q.capacity k) fun _ _ _ => by rw [q.standing]

theorem Quiet.refl (f : Flow) : f.Quiet f := ⟨rfl, fun _ => rfl, fun _ _ => rfl, fun _ => rfl, fun _ => rfl⟩

theorem Quiet.trans {f'' : Flow} (q : f.Quiet f') (r : f'.Quiet f'') : f.Quiet f'' :=
  ⟨r.standing.trans q.standing, fun k => (r.granted k).trans (q.granted k), fun k c => (r.queue k c).trans (q.queue k c),
    fun k => (r.inUse k).trans (q.inUse k), fun k => (r.capacity k).trans (q.capacity k)⟩

theorem Quiet.ite {g g' : Flow} {p : Prop} [Decidable p] (q : f.Quiet g) (r : f.Quiet g') : f.Quiet (if p then g else g') := by
  split
  · exact q
  · exact r

/-- What is neither an HPU's record nor a door's standing. -/
theorem Quiet.of_alloc (hpus : f'.alloc.hpus = f.alloc.hpus) (doors : f'.alloc.doors = f.alloc.doors) : f.Quiet f' := by
  have same (k : HpuId) : f'.hpu k = f.hpu k := by rw [hpu, hpus, hpu]
  exact ⟨funext fun d => show f'.alloc.doors[d] = f.alloc.doors[d] by rw [doors], fun k => by rw [same], fun k c => by rw [same],
    fun k => by rw [same], fun k => by rw [same]⟩

theorem evalShort_quiet (f : Flow) (d : DoorId) : f.Quiet (f.evalShort d) :=
  .ite (.of_alloc rfl rfl) (.ite (.of_alloc rfl rfl) (.of_alloc rfl rfl))

theorem evalShortAll_quiet (f : Flow) : f.Quiet f.evalShortAll :=
  List.foldlRecOn (motive := f.Quiet) allDoors _ (.refl f) fun _ hg d _ => hg.trans (evalShort_quiet _ d)

theorem evalSupply_quiet (f : Flow) (l : GroupLines) : f.Quiet (f.evalSupply l) :=
  .ite (.of_alloc rfl rfl) (.ite (.of_alloc rfl rfl) (.of_alloc rfl rfl))

theorem evalLost_quiet (f : Flow) (l : GroupLines) (k : HpuId) : f.Quiet (f.evalLost l k) := by
  have noted : f.Quiet (f.withHpu k { f.hpu k with flowLost := flowLost f.image l k }) := by
    refine ⟨rfl, fun j => ?_, fun j c => ?_, fun j => ?_, fun j => ?_⟩ <;> by_cases hj : j = k
    all_goals first | rw [withHpu_hpu_ne _ _ hj] | rw [hj, withHpu_hpu]
    cases c <;> rfl
  exact .ite (noted.trans (.of_alloc rfl rfl)) (.ite (noted.trans (.of_alloc rfl rfl)) noted)

/-! ### The procedures -/

/-- A message is no record of the allocator. -/
theorem send_quiet (f : Flow) (m : Instr) : f.Quiet (f.send m) := .of_alloc rfl rfl

section
variable {h : HpuId} {c dir : Dir} {p : Bool} {n : Nat} {notice : PendingNotice}

theorem leaveQueue_eq (was : f.standing d = .waiting h c p n) :
    f.leaveQueue d = f.moved h ((f.hpu h).unqueue d) d .out := by
  unfold leaveQueue
  rw [was]
  rfl

theorem leaveGranted_eq (was : (f.standing d).grantedBy h = true) :
    f.leaveGranted d = f.moved h
      { f.hpu h with
        granted := (f.hpu h).granted.erase d
        inUse := (f.hpu h).inUse - (f.standing d).demand } d .out := by
  unfold leaveGranted
  cases standing : f.standing d <;> rw [standing] at was <;> first | cases was | skip
  all_goals
    rw [← beq_iff_eq.mp was]
    rfl

theorem enqueueTail_eq : f.enqueueTail d h c n =
    f.moved h ((f.hpu h).withQueue c ((f.hpu h).queue c ++ [d])) d (.waiting h c false n) := rfl

theorem enqueuePaused_eq : f.enqueuePaused d h c n =
    f.moved h ((f.hpu h).withQueue c (f.insertPaused (f.hpu h) d ((f.hpu h).queue c))) d (.waiting h c true n) := rfl

theorem insertPaused_perm (x : Hpu) (q : List DoorId) : (f.insertPaused x d q).Perm (d :: q) := by
  unfold insertPaused
  dsimp only
  refine List.perm_middle.trans (List.Perm.cons d ?_)
  rw [List.prefix_iff_eq_append.mp (List.takeWhile_prefix _)]

theorem grantedBy_away (was : (f.standing d).grantedBy h = true) (j : HpuId) (ne : j ≠ h) : (f.standing d).Away j := by
  cases standing : f.standing d <;> rw [standing] at was <;> first | cases was | skip
  · rw [← beq_iff_eq.mp was] at ne
    exact AllocStanding.away_offered ne _ _ _
  · rw [← beq_iff_eq.mp was] at ne
    exact AllocStanding.away_held ne _ _

namespace Lists
variable (l : f.Lists)
include l

theorem leaveQueue (was : f.standing d = .waiting h c p n) : (f.leaveQueue d).Lists := by
  rw [leaveQueue_eq was]
  refine l.moved ((l h).unqueued was) fun j ne => ⟨?_, AllocStanding.away_out j⟩
  rw [was]
  exact AllocStanding.away_waiting ne _ _ _

theorem leaveGranted (was : (f.standing d).grantedBy h = true) : (f.leaveGranted d).Lists := by
  rw [leaveGranted_eq was]
  exact l.moved ((l h).ungranted was) fun j ne => ⟨grantedBy_away was j ne, AllocStanding.away_out j⟩

/-- A door that is OUT placed in a class of an HPU. -/
theorem place (was : f.standing d = .out) {q : List DoorId} (perm : q.Perm (d :: (f.hpu h).queue c)) :
    (f.moved h ((f.hpu h).withQueue c q) d (.waiting h c p n)).Lists :=
  l.moved ((l h).placed was perm p n) fun j ne => ⟨was ▸ AllocStanding.away_out j, AllocStanding.away_waiting ne _ _ _⟩

theorem enqueueTail (was : f.standing d = .out) : (f.enqueueTail d h c n).Lists := l.place was (List.perm_append_singleton _ _)

theorem enqueuePaused (was : f.standing d = .out) : (f.enqueuePaused d h c n).Lists := l.place was (insertPaused_perm _ _)

end Lists

theorem leaveQueue_standing (was : f.standing d = .waiting h c p n) : (f.leaveQueue d).standing d = .out := by
  rw [leaveQueue_eq was, moved_standing_self]

theorem leaveGranted_standing (was : (f.standing d).grantedBy h = true) : (f.leaveGranted d).standing d = .out := by
  rw [leaveGranted_eq was, moved_standing_self]

namespace Kept
variable (l : f.Kept ks)
include l

theorem leaveQueue (was : f.standing d = .waiting h c p n) : (f.leaveQueue d).Kept (h :: ks) := by
  rw [leaveQueue_eq was]
  refine l.moved ((l.lists h).unqueued was) (l.fits h) fun j ne => ⟨?_, AllocStanding.away_out j⟩
  rw [was]
  exact AllocStanding.away_waiting ne _ _ _

theorem leaveGranted (was : (f.standing d).grantedBy h = true) : (f.leaveGranted d).Kept (h :: ks) := by
  rw [leaveGranted_eq was]
  exact l.moved ((l.lists h).ungranted was) ((Nat.sub_le _ _).trans (l.fits h)) fun j ne =>
    ⟨grantedBy_away was j ne, AllocStanding.away_out j⟩

theorem place (was : f.standing d = .out) {q : List DoorId} (perm : q.Perm (d :: (f.hpu h).queue c)) :
    (f.moved h ((f.hpu h).withQueue c q) d (.waiting h c p n)).Kept (h :: ks) := by
  obtain ⟨-, inUse, capacity⟩ := (f.hpu h).withQueue_same c q
  exact l.moved ((l.lists h).placed was perm p n) (by rw [inUse, capacity]; exact l.fits h) fun j ne =>
    ⟨was ▸ AllocStanding.away_out j, AllocStanding.away_waiting ne _ _ _⟩

theorem enqueueTail (was : f.standing d = .out) : (f.enqueueTail d h c n).Kept (h :: ks) :=
  l.place was (List.perm_append_singleton _ _)

theorem enqueuePaused (was : f.standing d = .out) : (f.enqueuePaused d h c n).Kept (h :: ks) :=
  l.place was (insertPaused_perm _ _)

/-- A granted door's standing written anew, its HPU and its demand as they were. -/
theorem rename (was : (f.standing d).grantedBy h = true) (now : a.grantedBy h = true) (same : a.demand = (f.standing d).demand) :
    (f.withStanding d a).Kept ks := by
  have nowhere (j : HpuId) (ne : j ≠ h) : a.Away j := by
    cases a <;> first | cases now | skip
    · rw [← beq_iff_eq.mp now] at ne
      exact AllocStanding.away_offered ne _ _ _
    · rw [← beq_iff_eq.mp now] at ne
      exact AllocStanding.away_held ne _ _
  refine ⟨fun k => ?_, l.fits, fun k hk => (l.served k hk).congr (fun _ => rfl) rfl rfl fun _ e _ => ?_⟩
  · rw [withStanding_standing]
    by_cases hk : k = h
    · rw [hk]
      exact (l.lists h).renamed was now same
    · exact (l.lists k).away (grantedBy_away was k hk) (nowhere k hk)
  · rw [withStanding_standing]
    by_cases he : e = d
    · rw [he, Function.update_self, same]
    · rw [Function.update_of_ne he]

theorem note (notice : PendingNotice) : (f.note d notice).Kept ks := by
  unfold Flow.note
  split
  · next h dir k q was =>
    exact l.rename (h := h) (by rw [was]; exact beq_self_eq_true h) (beq_self_eq_true h) (by rw [was]; rfl)
  all_goals exact l

end Kept

/-! ### Service -/

/-- The grant of a waiting door (R99). -/
theorem grantDoor_quiet (was : f.standing d = .waiting h c p n) :
    ((f.leaveQueue d).moved h
      { (f.leaveQueue d).hpu h with
        granted := ((f.leaveQueue d).hpu h).granted ++ [d]
        inUse := ((f.leaveQueue d).hpu h).inUse + n
        order := ((f.leaveQueue d).hpu h).order.erase d ++ [d] } d (.offered h c n .none)).Quiet (f.grantDoor d) := by
  have left : (f.leaveQueue d).hpu h = (f.hpu h).unqueue d := by rw [leaveQueue_eq was, moved_hpu]
  rw [left, leaveQueue_eq was]
  unfold grantDoor
  rw [was]
  refine Quiet.trans (.of_alloc ?_ ?_) (evalShort_quiet _ d)
  · simp [send, moved, withHpu, withStanding]
  · simp [send, moved, withHpu, withStanding]

theorem Kept.grantDoor (l : f.Kept ks) (was : f.standing d = .waiting h c p n)
    (fits : (f.hpu h).inUse + n ≤ (f.hpu h).capacity) : (f.grantDoor d).Kept (h :: ks) := by
  have left : (f.leaveQueue d).hpu h = (f.hpu h).unqueue d := by rw [leaveQueue_eq was, moved_hpu]
  have out := leaveQueue_standing was
  refine (grantDoor_quiet was).kept ?_
  have queued := l.leaveQueue was
  have admitted := queued.moved ((queued.lists h).admitted out c n .none (((f.leaveQueue d).hpu h).order.erase d ++ [d]))
    (by rw [left]; exact fits) fun j ne => ⟨out ▸ AllocStanding.away_out j, AllocStanding.away_offered ne _ _ _⟩
  exact ⟨admitted.lists, admitted.fits, fun k hk => admitted.served k (by simpa using hk)⟩

/-- A grant leaves the other doors of a queue in their order, and their demands. -/
theorem grantDoor_queue (was : f.standing d = .waiting h c p n) :
    (∀ c', ((f.grantDoor d).hpu h).queue c' = ((f.hpu h).queue c').erase d) ∧
    ((f.grantDoor d).hpu h).capacity = (f.hpu h).capacity ∧
    (∀ e, e ≠ d → (f.grantDoor d).standing e = f.standing e) := by
  have left : (f.leaveQueue d).hpu h = (f.hpu h).unqueue d := by rw [leaveQueue_eq was, moved_hpu]
  have quiet := grantDoor_quiet was
  refine ⟨fun c' => ?_, ?_, fun e ne => ?_⟩
  · rw [quiet.queue, moved_hpu, left]
    cases c' <;> rfl
  · rw [quiet.capacity, moved_hpu, left]
    rfl
  · rw [quiet.standing, moved_standing, leaveQueue_eq was, moved_standing, Function.update_of_ne ne, Function.update_of_ne ne]

/-- A class of an HPU's queue holds no servable door, or the first of them does not fit. -/
def Scanned (f : Flow) (h : HpuId) (c : Dir) : Prop :=
  ∀ d ∈ ((f.hpu h).queue c).find? fun d => (f.standing d).demand ≤ (f.hpu h).capacity,
    (f.hpu h).capacity < (f.hpu h).inUse + (f.standing d).demand

/-- No door of a class can be served at all. -/
def Unservable (f : Flow) (h : HpuId) (c : Dir) : Prop := ∀ d ∈ (f.hpu h).queue c, (f.hpu h).capacity < (f.standing d).demand

/-- The scan of a class from its head (R98), behind the unservable doors passed already. -/
theorem Kept.scan (rest : List DoorId) : ∀ {f : Flow} (passed : List DoorId), f.Kept (h :: ks) →
    (f.hpu h).queue c = passed ++ rest → (∀ d ∈ passed, (f.hpu h).capacity < (f.standing d).demand) →
    (f.scan h rest).Kept (h :: ks) ∧ (f.scan h rest).Scanned h c ∧
      ∀ c', c' ≠ c → f.Unservable h c' → (f.scan h rest).Unservable h c' := by
  induction rest with
  | nil =>
    intro f passed l queue unservable
    refine ⟨l, fun d found => ?_, fun _ _ k => k⟩
    rw [Flow.scan] at found ⊢
    have mem := List.mem_of_find?_eq_some found
    rw [queue, List.append_nil] at mem
    have served : (f.standing d).demand ≤ (f.hpu h).capacity := by simpa using List.find?_some found
    exact absurd (unservable d mem) (Nat.not_lt.mpr served)
  | cons d rest ih =>
    intro f passed l queue unservable
    have waits : (f.standing d).waitsIn h c = true := ((l.lists h).queued c d).mp (by rw [queue]; simp)
    obtain ⟨p, n, was⟩ : ∃ p n, f.standing d = .waiting h c p n := by
      cases standing : f.standing d <;> rw [standing] at waits <;> first | cases waits | skip
      obtain ⟨rfl, rfl⟩ : _ = h ∧ _ = c := by simpa [AllocStanding.waitsIn] using waits
      exact ⟨_, _, rfl⟩
    have demand : (f.standing d).demand = n := by rw [was]; rfl
    unfold Flow.scan
    dsimp only
    split
    · next above =>
      refine ih (passed ++ [d]) l (by rw [queue]; simp) fun e he => ?_
      rcases List.mem_append.mp he with he | he
      · exact unservable e he
      · rw [List.mem_singleton.mp he]
        exact above
    · next servable =>
      split
      · next fits =>
        have room : (f.hpu h).inUse + n ≤ (f.hpu h).capacity := by
          have bound : (f.hpu h).inUse ≤ (f.hpu h).capacity := l.fits h
          rw [demand] at fits
          omega
        obtain ⟨queues, capacity, others⟩ := grantDoor_queue was
        have once := (l.lists h).queuedOnce c
        rw [queue] at once
        have apart : d ∉ passed := fun mem =>
          (List.disjoint_of_nodup_append once) mem List.mem_cons_self
        have granted := l.grantDoor was room
        obtain ⟨kept, scanned, unserved⟩ := ih passed ⟨granted.lists, granted.fits, fun k hk => granted.served k (by simpa using hk)⟩
          (by rw [queues, queue, List.erase_append_right _ apart, List.erase_cons_head])
          (fun e he => by
            rw [capacity, others e fun same => apart (same ▸ he)]
            exact unservable e he)
        refine ⟨kept, scanned, fun c' ne k => unserved c' ne fun e he => ?_⟩
        rw [queues] at he
        have mem := List.mem_of_mem_erase he
        have other : e ≠ d := by
          rintro rfl
          have waits' := ((l.lists h).queued c' e).mp mem
          rw [was] at waits'
          simp [AllocStanding.waitsIn] at waits'
          exact ne waits'.symm
        rw [capacity, others e other]
        exact k e mem
      · next full =>
        refine ⟨l, fun e found => ?_, fun _ _ k => k⟩
        have first : ((f.hpu h).queue c).find? (fun d => (f.standing d).demand ≤ (f.hpu h).capacity) = some d := by
          rw [queue, List.find?_append, List.find?_eq_none.mpr, Option.none_or, List.find?_cons_of_pos]
          · simpa using servable
          · intro e he
            simpa using unservable e he
        rw [first] at found
        cases found
        omega

/-- A service leaves no servable door of its HPU ahead that fits (R97, R98). -/
theorem Kept.serve (l : f.Kept (h :: ks)) : (f.serve h).Kept ks := by
  obtain ⟨kept, scanned, -⟩ := l.scan (c := .cls) (f.hpu h).closeQueue [] rfl (fun _ mem => absurd mem List.not_mem_nil)
  unfold Flow.serve
  dsimp only
  generalize f.scan h (f.hpu h).closeQueue = f' at kept scanned
  have first (g : Flow) (kept : g.Kept (h :: ks)) (served : HpuServed (g.hpu h) g.standing) : g.Kept ks :=
    ⟨kept.lists, kept.fits, fun k hk => by
      by_cases same : k = h
      · rw [same]
        exact served
      · exact kept.served k (by simp [same, hk])⟩
  split
  · next servable =>
    refine first f' kept fun d found => ?_
    obtain ⟨e, he⟩ : ∃ e, ((f'.hpu h).queue .cls).find? (fun d => (f'.standing d).demand ≤ (f'.hpu h).capacity) = some e :=
      Option.isSome_iff_exists.mp (by rw [List.find?_isSome]; simpa [servable, Flow.servable] using servable)
    rw [he, Option.some_or] at found
    exact scanned d (he.trans found)
  · next none =>
    have unservable : f'.Unservable h .cls := fun d mem => by
      simp only [Flow.servable, List.any_eq_true, decide_eq_true_eq, not_exists, not_and, Nat.not_le] at none
      exact none d mem
    obtain ⟨kept', scanned', unserved⟩ := kept.scan (c := .opn) (f'.hpu h).openQueue [] rfl
      (fun _ mem => absurd mem List.not_mem_nil)
    refine first _ kept' fun d found => ?_
    have close := unserved .cls (by decide) unservable
    rw [List.find?_eq_none.mpr fun e he => by simpa using close e he, Option.none_or] at found
    exact scanned' d found

theorem Kept.serves (hs : List HpuId) (l : f.Kept (hs ++ ks)) : (hs.foldl Flow.serve f).Kept ks := by
  induction hs generalizing f with
  | nil => exact l
  | cons h hs ih => exact ih l.serve

end

end

end Flow

end Sys2Proof.Machine

/-! Every procedure of the flow allocator keeps its lists and leaves what it should serve served, and so does every step (R92, R93,
R97, R98, R100). -/

namespace Sys2Proof.Machine

open Sys2Proof

namespace Flow

section
variable {f : Flow} {k h : HpuId} {d : DoorId} {c dir : Dir} {n : Nat} {ks : List HpuId}

/-! ### Pauses (R100) -/

/-- The lists are as they should be, whatever the flow in use. -/
theorem takeBack_lists (l : f.Lists) (d : DoorId) : (f.takeBack d).Lists := by
  unfold takeBack
  split
  · next h dir n was =>
    have granted : (f.standing d).grantedBy h = true := by rw [was]; exact beq_self_eq_true h
    exact (send_quiet _ _).lists ((l.leaveGranted granted).enqueuePaused (leaveGranted_standing granted))
  · next h dir n was =>
    have granted : (f.standing d).grantedBy h = true := by rw [was]; exact beq_self_eq_true h
    exact (l.leaveGranted granted).enqueuePaused (leaveGranted_standing granted)
  · next h dir n c h' n' was =>
    have granted : (f.standing d).grantedBy h = true := by rw [was]; exact beq_self_eq_true h
    exact (l.leaveGranted granted).enqueueTail (leaveGranted_standing granted)
  · next h dir n was =>
    have granted : (f.standing d).grantedBy h = true := by rw [was]; exact beq_self_eq_true h
    exact l.leaveGranted granted
  · exact l
  · exact l

theorem placed_hpu (f : Flow) (h : HpuId) (c : Dir) (q : List DoorId) (d : DoorId) (a : AllocStanding) (k : HpuId) :
    ((f.moved h ((f.hpu h).withQueue c q) d a).hpu k).inUse = (f.hpu k).inUse ∧
    ((f.moved h ((f.hpu h).withQueue c q) d a).hpu k).granted = (f.hpu k).granted := by
  by_cases hk : k = h
  · rw [hk, moved_hpu]
    obtain ⟨granted, inUse, -⟩ := (f.hpu h).withQueue_same c q
    exact ⟨inUse, granted⟩
  · rw [moved_hpu_ne hk]
    exact ⟨rfl, rfl⟩

theorem leaveGranted_hpu (granted : (f.standing d).grantedBy h = true) (k : HpuId) :
    ((f.leaveGranted d).hpu k).inUse ≤ (f.hpu k).inUse ∧
    ((f.leaveGranted d).hpu k).granted = if k = h then (f.hpu k).granted.erase d else (f.hpu k).granted := by
  rw [leaveGranted_eq granted]
  by_cases hk : k = h
  · rw [hk, moved_hpu, if_pos rfl]
    exact ⟨Nat.sub_le _ _, rfl⟩
  · rw [moved_hpu_ne hk, if_neg hk]
    exact ⟨le_rfl, rfl⟩

/-- A door taken back adds to no flow in use and leaves the granted lists of its HPU. -/
theorem takeBack_hpu (granted : (f.standing d).grantedBy h = true) (k : HpuId) :
    ((f.takeBack d).hpu k).inUse ≤ (f.hpu k).inUse ∧
    ((f.takeBack d).hpu k).granted = if k = h then (f.hpu k).granted.erase d else (f.hpu k).granted := by
  obtain ⟨less, list⟩ := leaveGranted_hpu granted k
  have placed (j : HpuId) (c : Dir) (q : List DoorId) (a : AllocStanding) :=
    placed_hpu (f.leaveGranted d) j c q d a k
  have through {x y : Flow} (same : (x.hpu k).inUse = (y.hpu k).inUse ∧ (x.hpu k).granted = (y.hpu k).granted)
      (left : y = f.leaveGranted d) : (x.hpu k).inUse ≤ (f.hpu k).inUse ∧
      (x.hpu k).granted = if k = h then (f.hpu k).granted.erase d else (f.hpu k).granted := by
    rw [same.1, same.2, left]
    exact ⟨less, list⟩
  unfold takeBack
  split
  · exact through (placed ..) rfl
  · exact through (placed ..) rfl
  · exact through (placed ..) rfl
  · exact through ⟨rfl, rfl⟩ rfl
  · next was => simp [was, AllocStanding.grantedBy] at granted
  · next was => simp [was, AllocStanding.grantedBy] at granted

/-- The pauses at an HPU keep the lists and add to no flow in use, and the flow of the HPU then fits (R100). -/
theorem pauseUntilFits_kept (ds : List DoorId) : ∀ {f : Flow}, f.Lists → (f.hpu h).granted.reverse = ds →
    (f.pauseUntilFits h ds).Lists ∧ (∀ k, ((f.pauseUntilFits h ds).hpu k).inUse ≤ (f.hpu k).inUse) ∧
      (f.pauseUntilFits h ds).Fits h := by
  induction ds with
  | nil =>
    intro f l all
    have none : (f.hpu h).granted = [] := by simpa using all
    have undrawn : (f.hpu h).inUse = 0 := by
      rw [(l h).inUse]
      refine Finset.sum_eq_zero fun d _ => if_neg fun granted => ?_
      have mem := ((l h).granted d).mpr granted
      rw [none] at mem
      cases mem
    exact ⟨l, fun _ => le_rfl, by rw [Flow.pauseUntilFits, Fits, undrawn]; exact Nat.zero_le _⟩
  | cons d rest ih =>
    intro f l all
    unfold Flow.pauseUntilFits
    split
    · next fits => exact ⟨l, fun _ => le_rfl, fits⟩
    · have mem : d ∈ (f.hpu h).granted := by rw [← List.mem_reverse, all]; exact List.mem_cons_self
      have granted := ((l h).granted d).mp mem
      have back := takeBack_hpu granted
      have rest' : ((f.takeBack d).hpu h).granted.reverse = rest := by
        have list : (f.hpu h).granted = rest.reverse ++ [d] := by
          rw [← List.reverse_reverse (f.hpu h).granted, all, List.reverse_cons]
        have once := (l h).grantedOnce
        rw [list] at once
        have apart : d ∉ rest.reverse := fun m => (List.disjoint_of_nodup_append once) m (List.mem_singleton_self d)
        rw [(back h).2, if_pos rfl, list, List.erase_append_right _ apart]
        simp
      obtain ⟨lists, less, fits⟩ := ih (takeBack_lists l d) rest'
      exact ⟨lists, fun k => (less k).trans (back k).1, fits⟩

/-- Lists that are as they should be, with every flow in use within its capacity. -/
def Within (f : Flow) : Prop := f.Lists ∧ ∀ k, f.Fits k

/-- A capacity computed afresh with its pauses (R91, R100). -/
theorem Within.compute (w : f.Within) (g : GroupLines) (h : HpuId) : (f.compute g h).Within := by
  obtain ⟨lists, fits⟩ := w
  have capacity := f.compute_capacity g h
  unfold Flow.compute at *
  dsimp only at *
  split at capacity
  · next same =>
    rw [if_pos same]
    exact ⟨lists, fits⟩
  · next differs =>
    rw [if_neg differs]
    generalize hf : f.withHpu h { f.hpu h with capacity := capacityOf f.image.group g h } = f1 at capacity
    have lists1 : f1.Lists := fun k => by
      rw [← hf]
      by_cases hk : k = h
      · rw [hk, withHpu_hpu]
        exact (lists h).congr rfl (fun c => by cases c <;> rfl) rfl
      · rw [withHpu_hpu_ne _ _ hk]
        exact lists k
    have same (k : HpuId) : (f1.hpu k).inUse = (f.hpu k).inUse := by
      rw [← hf]
      by_cases hk : k = h
      · rw [hk, withHpu_hpu]
      · rw [withHpu_hpu_ne _ _ hk]
    obtain ⟨lists', less, fits'⟩ := pauseUntilFits_kept _ lists1 rfl
    refine ⟨lists', fun k => ?_⟩
    by_cases hk : k = h
    · rw [hk]
      exact fits'
    · have cap := (f1.pauseUntilFits_sameCapacities h (f1.hpu h).granted.reverse).capacity k
      rw [Fits, cap, ← hf, withHpu_hpu_ne _ _ hk]
      rw [hf]
      exact (less k).trans (by rw [same]; exact fits k)

theorem Within.computeEach (w : f.Within) (g : GroupLines) (hs : List HpuId) : (f.computeEach g hs).Within :=
  List.foldlRecOn (motive := Within) hs _ w fun _ hf h _ => hf.compute g h

/-- Every queue served (R105). -/
theorem Within.serveAll (w : f.Within) : f.serveAll.Kept [] := by
  have begun : f.Kept (allHpus ++ []) := ⟨w.1, w.2, fun k away => absurd (List.mem_append_left _ (List.mem_finRange k)) away⟩
  exact begun.serves allHpus

theorem Kept.within (l : f.Kept ks) : f.Within := ⟨l.lists, l.fits⟩

theorem Quiet.within {f' : Flow} (q : f.Quiet f') (w : f.Within) : f'.Within := by
  refine ⟨q.lists w.1, fun k => ?_⟩
  rw [Fits, q.inUse, q.capacity]
  exact w.2 k

theorem Kept.capacityEvent (l : f.Kept []) (g : GroupLines) (hs : List HpuId) : (f.capacityEvent g hs).Kept [] := by
  unfold Flow.capacityEvent
  split
  · exact l
  · exact (evalShortAll_quiet _).kept (l.within.computeEach g hs).serveAll

theorem Kept.commit (l : f.Kept []) (g : GroupLines) : (f.commit g).Kept [] := by
  unfold Flow.commit
  refine (evalShortAll_quiet _).kept (Within.serveAll ?_)
  exact List.foldlRecOn (motive := Within) allHpus _ (l.within.computeEach g allHpus) fun _ hf h _ => (evalLost_quiet _ g h).within hf

/-- Nothing granted and nothing waiting (R106, R107). -/
theorem kept_of_empty (standing : ∀ d, f.standing d = .out)
    (empty : ∀ k, (f.hpu k).granted = [] ∧ (∀ c, (f.hpu k).queue c = []) ∧ (f.hpu k).inUse = 0) : f.Kept [] := by
  refine ⟨fun k => ?_, fun k => ?_, fun k _ d found => ?_⟩ <;> obtain ⟨granted, queue, inUse⟩ := empty k
  · refine ⟨?_, fun c => ?_, fun d => ?_, fun c d => ?_, ?_⟩
    · rw [granted]
      exact List.nodup_nil
    · rw [queue]
      exact List.nodup_nil
    · rw [granted, standing]
      exact ⟨nofun, nofun⟩
    · rw [queue, standing]
      exact ⟨nofun, nofun⟩
    · rw [inUse]
      refine (Finset.sum_eq_zero fun d _ => ?_).symm
      rw [standing]
      rfl
  · rw [Fits, inUse]
    exact Nat.zero_le _
  · rw [queue, queue] at found
    cases found

theorem restart_kept (f : Flow) (g : GroupLines) : (f.restart g).Kept [] := by
  refine kept_of_empty (fun d => ?_) fun k => ?_
  · simp [Flow.restart, Flow.standing, Alloc.empty]
  · simp only [Flow.restart, Flow.hpu]
    simp
    exact ⟨rfl, fun c => by cases c <;> rfl, rfl⟩

theorem Kept.mono {ks' : List HpuId} (l : f.Kept ks) (more : ∀ k, k ∈ ks → k ∈ ks') : f.Kept ks' :=
  ⟨l.lists, l.fits, fun k away => l.served k fun mem => away (more k mem)⟩

/-! ### Notices from the door table (R96) -/

section
variable (l : f.Kept [])
include l

theorem Kept.join (d : DoorId) (c : Dir) : (f.join d c).Kept [] := by
  unfold Flow.join
  dsimp only
  split
  · next was => exact (evalShort_quiet _ d).kept (l.enqueueTail was).serve
  · next h c' p n was =>
    refine (evalShort_quiet _ d).kept (Kept.serve (Kept.serve ?_))
    exact ((l.leaveQueue was).enqueueTail (leaveQueue_standing was)).mono fun k mem => by
      simp only [List.mem_cons] at mem ⊢
      exact mem.elim (fun here => .inr (.inl here)) fun there => .inl (there.resolve_right List.not_mem_nil)
  · exact l.note _
  · exact l

theorem Kept.withdraw (d : DoorId) : (f.withdraw d).Kept [] := by
  unfold Flow.withdraw
  split
  · next was => exact (evalShort_quiet _ d).kept (l.leaveQueue was).serve
  · exact l.note _
  · exact l
  · exact l

theorem Kept.release (d : DoorId) : (f.release d).Kept [] := by
  unfold Flow.release
  split
  · next was => exact (evalShort_quiet _ d).kept (l.leaveQueue was).serve
  · next h dir n was => exact (l.leaveGranted (h := h) (by rw [was]; exact beq_self_eq_true h)).serve
  · exact l
  · exact l

/-- A door that leaves its class for the paused run of one of the same HPU. -/
theorem Kept.repause {p : Bool} (was : f.standing d = .waiting h c p n) :
    (((f.leaveQueue d).enqueuePaused d h dir n).serve h).Kept [] :=
  Kept.serve (((l.leaveQueue was).enqueuePaused (leaveQueue_standing was)).mono fun k mem => by simpa using mem)

theorem Kept.reversed (d : DoorId) (dir : Dir) : (f.reversed d dir).Kept [] := by
  unfold Flow.reversed
  split
  · next was => exact (evalShort_quiet _ d).kept (l.repause was)
  · next h dir' n was =>
    exact l.rename (h := h) (by rw [was]; exact beq_self_eq_true h) (beq_self_eq_true h) (by rw [was]; rfl)
  all_goals exact l

theorem Kept.taken (d : DoorId) (dir : Dir) : (f.taken d dir).Kept [] := by
  have sent := (send_quiet f (.pause d)).kept l
  unfold Flow.taken
  dsimp only
  split
  · next was => exact (evalShort_quiet _ d).kept (sent.enqueuePaused was).serve
  · next was => exact (evalShort_quiet _ d).kept (sent.repause was)
  · next h dir' n p was =>
    exact l.rename (h := h) (by rw [was]; exact beq_self_eq_true h) (beq_self_eq_true h) (by rw [was]; rfl)
  · exact l

theorem Kept.handedBack (d : DoorId) : (f.handedBack d).Kept [] := by
  unfold Flow.handedBack
  split
  · next h dir n c h' n' was =>
    have granted : (f.standing d).grantedBy h = true := by rw [was]; exact beq_self_eq_true h
    refine (evalShort_quiet _ d).kept (Kept.serve (Kept.serve ?_))
    exact ((l.leaveGranted granted).enqueueTail (leaveGranted_standing granted)).mono fun k mem => by
      simp only [List.mem_cons] at mem ⊢
      exact mem.elim (fun here => .inr (.inl here)) fun there => .inl (there.resolve_right List.not_mem_nil)
  · next h dir n p _ was => exact (l.leaveGranted (h := h) (by rw [was]; exact beq_self_eq_true h)).serve
  all_goals exact l

end
end
end Flow

/-! ### Steps -/

/-- The allocator's lists are as they should be, and every HPU is served. -/
def FlowServed (s : State) : Prop := s.flow.Kept []

theorem flowServed_iff (s : State) : FlowServed s ↔ FlowInv s ∧ ServedInv s := s.flow.kept_iff

namespace FlowServed

section
variable {s t : State} (h : FlowServed s)
include h

theorem of_alloc (alloc : t.alloc = s.alloc) : FlowServed t :=
  (Flow.Quiet.of_alloc (f := s.flow) (f' := t.flow) (congrArg Alloc.hpus alloc) (congrArg Alloc.doors alloc)).kept h

end

/-- One event of the allocator. -/
theorem flowEvent {s : State} {f : Flow → Flow} (kept : (f s.flow).Kept []) : FlowServed (s.flowEvent f) :=
  (Flow.Quiet.of_alloc (f := f s.flow) (f' := (s.flowEvent f).flow) rfl rfl).kept kept

theorem flow_of_alloc {f : Flow} (kept : f.Kept []) {t : State} (alloc : t.alloc = f.alloc) : FlowServed t :=
  (Flow.Quiet.of_alloc (f' := t.flow) (congrArg Alloc.hpus alloc) (congrArg Alloc.doors alloc)).kept kept

theorem deliver {s : State} (h : FlowServed s) (m : Instr) : FlowServed (s.deliver m) := by
  have taken : FlowServed (s.taking m) := h.of_alloc rfl
  cases m with
  | join d c => exact .flowEvent (taken.join d c)
  | withdraw d => exact .flowEvent (taken.withdraw d)
  | release d => exact .flowEvent (taken.release d)
  | reversed d dir => exact .flowEvent (taken.reversed d dir)
  | taken d dir => exact .flowEvent (taken.taken d dir)
  | handedBack d => exact .flowEvent (taken.handedBack d)
  | _ => exact h.of_alloc rfl

/-- Every event keeps the allocator's lists and leaves every HPU served. -/
theorem event {c : Instr} {strays : Prop} {s t : State} (event : Event c strays s t) (h : FlowServed s) : FlowServed t := by
  cases event with
  | powerOn =>
    have supplied (stored : Stored) (n : Nat) : FlowServed (.poweredUp s.channels s.lines s.straps stored s.pending n) := by
      refine Flow.kept_of_empty (fun d => ?_) fun k => ?_
      · simp [State.flow, Flow.standing, State.poweredUp, Alloc.empty]
      · have empty : Flow.hpu (State.flow (.poweredUp s.channels s.lines s.straps stored s.pending n)) k = .empty := by
          simp [State.flow, Flow.hpu, State.poweredUp, Alloc.empty]
        rw [empty]
        exact ⟨rfl, fun c => by cases c <;> rfl, rfl⟩
    unfold State.powerOn
    split
    · exact supplied _ _
    · exact supplied _ _
  | filter i f => exact h.of_alloc (by cases i <;> rfl)
  | input i f _ line =>
    have filtered : FlowServed (s.withFilter i f) := h.of_alloc (by cases i <;> rfl)
    cases i with
    | door d k => exact h.of_alloc rfl
    | emergency =>
      unfold State.inputEvent
      dsimp only
      split
      · exact h.of_alloc rfl
      · exact filtered
    | mainSupply => exact .flowEvent ((Flow.evalSupply_quiet _ _).kept (filtered.capacityEvent _ _))
    | pressure k => exact .flowEvent ((Flow.evalLost_quiet _ _ _).kept (filtered.capacityEvent _ _))
    | resetPin => exact absurd rfl line
  | primed i =>
    cases i with
    | mainSupply => exact .flowEvent ((Flow.evalSupply_quiet _ _).kept h)
    | pressure k => exact .flowEvent ((Flow.evalLost_quiet _ _ _).kept h)
    | _ => exact h.of_alloc rfl
  | deliver m => exact h.deliver m
  | commit =>
    have begun : Flow.Kept [] ⟨s.store.staging, s.alloc, []⟩ :=
      Flow.Quiet.kept (f := s.flow) (.of_alloc rfl rfl) h
    exact .flow_of_alloc (begun.commit s.lines) s.commit_alloc
  | pinRestart => exact .flow_of_alloc (Flow.restart_kept _ _) (s.restartBlocks_alloc _)
  | replyRestart l => exact .flow_of_alloc (Flow.restart_kept _ _) ((s.replyGone l).restartBlocks_alloc _)
  | _ => exact h.of_alloc rfl

end FlowServed

/-- Settles O8: every event keeps the allocator's lists and leaves every HPU served. -/
theorem flowKept : Obligations.FlowKept := by
  unfold Obligations.FlowKept
  intro s t flow served hstep
  refine (flowServed_iff t).mp (step_keeps (fun _ _ h => h.of_alloc rfl) (fun _ _ _ _ event h => h.event event)
    ((flowServed_iff s).mpr ⟨flow, served⟩) hstep)

end Sys2Proof.Machine

/-! Which messages each block makes: its procedures only add messages of its own kinds behind those already made. -/

namespace Sys2Proof.Machine

open Sys2Proof

/-- Messages of some kinds made behind those made already. -/
def Adds (p : Instr → Prop) (out out' : List Instr) : Prop := ∃ ms, out' = out ++ ms ∧ ∀ m ∈ ms, p m

namespace Adds

variable {p q : Instr → Prop} {a b c : List Instr}

theorem refl (a : List Instr) : Adds p a a := ⟨[], (List.append_nil a).symm, fun _ hm => absurd hm List.not_mem_nil⟩

theorem trans (h : Adds p a b) (k : Adds p b c) : Adds p a c := by
  obtain ⟨ms, hms, all⟩ := h
  obtain ⟨ns, hns, all'⟩ := k
  refine ⟨ms ++ ns, by rw [hns, hms, List.append_assoc], fun m hm => ?_⟩
  exact (List.mem_append.mp hm).elim (all m) (all' m)

theorem add {ms : List Instr} (h : Adds p a b) (made : ∀ m ∈ ms, p m) : Adds p a (b ++ ms) := h.trans ⟨ms, rfl, made⟩

theorem one {m : Instr} (h : Adds p a b) (made : p m) : Adds p a (b ++ [m]) :=
  h.add fun _ hm => List.mem_singleton.mp hm ▸ made

theorem mono (h : Adds p a b) (imp : ∀ m, p m → q m) : Adds q a b := by
  obtain ⟨ms, hms, all⟩ := h
  exact ⟨ms, hms, fun m hm => imp m (all m hm)⟩

/-- What a choice of two procedures adds. -/
theorem ite {α : Type} {x y : α} {out : α → List Instr} {r : Prop} [Decidable r] (h : r → Adds p a (out x))
    (k : ¬r → Adds p a (out y)) : Adds p a (out (if r then x else y)) := by
  split
  · next hr => exact h hr
  · next hr => exact k hr

/-- What a procedure adds that is taken for each of a list. -/
theorem foldl {α β : Type} {f : α → β → α} {out : α → List Instr} (step : ∀ x d, Adds p (out x) (out (f x d))) (ds : List β)
    (x : α) : Adds p (out x) (out (ds.foldl f x)) :=
  List.foldlRecOn (motive := fun y => Adds p (out x) (out y)) ds f (refl _) fun y h d _ => h.trans (step y d)

end Adds

/-! ### The kinds -/

/-- What goes to the alarm list. -/
def ToAlarms : Instr → Prop
  | .alarmRaise .. | .alarmClear .. | .alarmResetCondition .. => True
  | _ => False

/-- What the order resolver makes but for its rulings. -/
def ByResolver : Instr → Prop
  | .standingAuthorityReport .. | .alarmRaise .. | .alarmClear .. => True
  | _ => False

/-- What the flow allocator makes. -/
def ByAllocator : Instr → Prop
  | .grant .. | .pause _ | .alarmRaise .. | .alarmClear .. => True
  | _ => False

/-- What the fault recorder makes. -/
def ByRecorder : Instr → Prop
  | .captureOccupiedNotice _ | .captureEmptiedNotice _ | .alarmRaise .. | .alarmClear .. | .alarmResetCondition .. => True
  | _ => False

/-! ### The order resolver -/

namespace Orders

variable (o : Orders)

theorem recompute_adds (d : DoorId) : Adds ByResolver o.out (o.recompute d).out := by
  rw [recompute_eq, reports]
  refine (Adds.refl _).add fun m hm => ?_
  rw [List.mem_ite_nil_left, List.mem_singleton] at hm
  rw [hm.2]
  trivial

theorem recomputeAll_adds : Adds ByResolver o.out o.recomputeAll.out := by
  rw [recomputeAll]
  exact .foldl recompute_adds allDoors o

theorem setMode_adds (m : GroupMode) : Adds ByResolver o.out (o.setMode m).out := by
  have adds := recomputeAll_adds { o with resolver := { o.resolver with mode := m } }
  rwa [setMode]

theorem remoteLost_adds : Adds ByResolver o.out o.remoteLost.out := .ite (fun _ => setMode_adds o _) fun _ => .refl _

theorem emergency_adds : Adds ByResolver o.out o.emergency.out :=
  .ite (fun _ => .refl _) fun _ => ((Adds.refl _).one (m := .alarmRaise ..) trivial).trans (recomputeAll_adds _)

theorem releaseLatch_adds : Adds ByResolver o.out o.releaseLatch.out :=
  .ite (fun _ => ((Adds.refl _).one (m := .alarmClear ..) trivial).trans (recomputeAll_adds _)) fun _ => .refl _

theorem closeDoors_adds (motion : DoorId → Motion) (named : DoorId → Bool) :
    Adds ByResolver o.out (o.closeDoors motion named).out := by
  rw [closeDoors]
  refine Adds.trans ?_ (recomputeAll_adds _)
  refine .foldl (out := Orders.out) (fun x d => ?_) allDoors o
  split <;> exact .refl _

theorem releaseDoors_adds (named : DoorId → Bool) :
    Adds ByResolver o.out (o.releaseDoors named).out := by
  rw [releaseDoors]
  refine Adds.trans ?_ (recomputeAll_adds _)
  refine .foldl (out := Orders.out) (fun x d => ?_) allDoors o
  split <;> exact .refl _

theorem arrival_adds (d : DoorId) : Adds ByResolver o.out (o.arrival d).out :=
  .ite (fun _ => recomputeAll_adds (o.register d false)) fun _ => .refl _

theorem isolate_adds (d : DoorId) : Adds ByResolver o.out (o.isolate d).out := (Adds.refl _).one (m := .alarmClear ..) trivial

theorem restore_adds (d : DoorId) : Adds ByResolver o.out (o.restore d).out := recompute_adds (o.withDoor d _) d

theorem handleReleased_adds (d : DoorId) : Adds ByResolver o.out (o.handleReleased d).out :=
  .ite (fun _ => (Adds.refl _).one (m := .alarmClear ..) trivial) fun _ => .refl _

theorem commit_adds (old : Image) : Adds ByResolver o.out (o.commit old).out := by
  obtain ⟨o', -, out, -, eq⟩ := o.commit_eq old
  rw [eq]
  refine Adds.trans ?_ o'.recomputeAll_adds
  rw [out]
  refine (Adds.refl _).add fun m hm => ?_
  obtain ⟨d, -, hm⟩ := List.mem_flatMap.mp hm
  rw [commitMessages, List.mem_ite_nil_right, List.mem_singleton] at hm
  rw [hm.2]
  trivial

theorem restart_adds : Adds ByResolver o.out o.restart.out := by
  rw [o.restart_eq.2.1]
  refine Adds.one (Adds.add (Adds.refl _) fun m hm => ?_) (by split <;> trivial)
  obtain ⟨d, -, hm⟩ := List.mem_flatMap.mp hm
  rw [restartMessages, List.mem_ite_nil_right, List.mem_pair] at hm
  obtain ⟨-, rfl | rfl⟩ := hm
  · trivial
  · split <;> trivial

/-- Every reaction of the resolver to a request or to the loss of both lines. -/
theorem reaction_adds {c : Instr} {s : State} {f : Orders → Orders} (reaction : OrdersReaction c s f) :
    Adds ByResolver o.out (f o).out := by
  cases reaction with
  | setMode m => exact setMode_adds o m
  | closeDoors named => exact closeDoors_adds o _ named
  | releaseDoors named => exact releaseDoors_adds o named
  | floodSet | floodClear => exact .refl _
  | remoteLost => exact remoteLost_adds o
  | releaseLatch => exact releaseLatch_adds o

end Orders

/-! ### The flow allocator -/

namespace Flow

variable (f : Flow)

theorem leaveQueue_out (d : DoorId) : (f.leaveQueue d).out = f.out := by
  unfold leaveQueue
  split <;> rfl

theorem leaveGranted_out (d : DoorId) : (f.leaveGranted d).out = f.out := by
  unfold leaveGranted
  split <;> rfl

theorem note_out (d : DoorId) (n : PendingNotice) : (f.note d n).out = f.out := by
  unfold note
  split <;> rfl

theorem evalShort_adds (d : DoorId) : Adds ByAllocator f.out (f.evalShort d).out :=
  .ite (fun _ => (Adds.refl _).one (m := .alarmRaise ..) trivial) fun _ =>
    .ite (fun _ => (Adds.refl _).one (m := .alarmClear ..) trivial) fun _ => .refl _

theorem evalShortAll_adds : Adds ByAllocator f.out f.evalShortAll.out := .foldl evalShort_adds allDoors f

theorem evalLost_adds (l : GroupLines) (h : HpuId) : Adds ByAllocator f.out (f.evalLost l h).out :=
  .ite (fun _ => (Adds.refl _).one (m := .alarmRaise ..) trivial) fun _ =>
    .ite (fun _ => (Adds.refl _).one (m := .alarmClear ..) trivial) fun _ => .refl _

theorem evalSupply_adds (l : GroupLines) : Adds ByAllocator f.out (f.evalSupply l).out :=
  .ite (fun _ => (Adds.refl _).one (m := .alarmRaise ..) trivial) fun _ =>
    .ite (fun _ => (Adds.refl _).one (m := .alarmClear ..) trivial) fun _ => .refl _

theorem grantDoor_adds (d : DoorId) : Adds ByAllocator f.out (f.grantDoor d).out := by
  unfold grantDoor
  split
  case h_1 => exact ((Adds.refl _).one (m := .grant ..) trivial).trans (evalShort_adds _ d)
  all_goals exact .refl _

theorem scan_adds (h : HpuId) (ds : List DoorId) : ∀ f : Flow, Adds ByAllocator f.out (f.scan h ds).out := by
  induction ds with
  | nil => exact fun f => .refl _
  | cons d rest ih =>
    intro f
    unfold scan
    exact .ite (fun _ => ih f) fun _ => .ite (fun _ => (grantDoor_adds f d).trans (ih _)) fun _ => .refl _

theorem serve_adds (h : HpuId) : Adds ByAllocator f.out (f.serve h).out :=
  .ite (fun _ => scan_adds _ _ f) fun _ => (scan_adds _ _ f).trans (scan_adds _ _ _)

theorem serveAll_adds : Adds ByAllocator f.out f.serveAll.out := .foldl serve_adds allHpus f

theorem takeBack_adds (d : DoorId) : Adds ByAllocator f.out (f.takeBack d).out := by
  have left := f.leaveGranted_out d
  unfold takeBack
  split
  case h_1 => exact Adds.one (m := .pause _) (by rw [← left]; exact .refl _) trivial
  case h_5 | h_6 => exact .refl _
  all_goals
    rw [← left]
    exact .refl _

theorem pauseUntilFits_adds (h : HpuId) (ds : List DoorId) : ∀ f : Flow, Adds ByAllocator f.out (f.pauseUntilFits h ds).out := by
  induction ds with
  | nil => exact fun f => .refl _
  | cons d rest ih =>
    intro f
    unfold pauseUntilFits
    exact .ite (fun _ => .refl _) fun _ => (takeBack_adds f d).trans (ih _)

theorem compute_adds (l : GroupLines) (h : HpuId) : Adds ByAllocator f.out (f.compute l h).out :=
  .ite (fun _ => .refl _) fun _ => pauseUntilFits_adds _ _ _

theorem computeEach_adds (l : GroupLines) (hs : List HpuId) : Adds ByAllocator f.out (f.computeEach l hs).out :=
  .foldl (fun f h => compute_adds f l h) hs f

theorem capacityEvent_adds (l : GroupLines) (hs : List HpuId) : Adds ByAllocator f.out (f.capacityEvent l hs).out :=
  .ite (fun _ => .refl _) fun _ => ((computeEach_adds f l hs).trans (serveAll_adds _)).trans (evalShortAll_adds _)

theorem commit_adds (l : GroupLines) : Adds ByAllocator f.out (f.commit l).out :=
  (((computeEach_adds f l allHpus).trans (Adds.foldl (out := Flow.out) (fun f h => evalLost_adds f l h) allHpus _)).trans
    (serveAll_adds _)).trans (evalShortAll_adds _)

theorem restart_adds (l : GroupLines) : Adds ByAllocator f.out (f.restart l).out := by
  have made : (f.restart l).out = f.out ++ _ ++ _ ++ _ := rfl
  rw [made]
  refine Adds.one (Adds.add (Adds.add (Adds.refl _) fun m hm => ?_) fun m hm => ?_) (by split <;> trivial)
  · obtain ⟨d, -, rfl⟩ := List.mem_map.mp hm
    trivial
  · obtain ⟨h, -, rfl⟩ := List.mem_map.mp hm
    split <;> trivial

/-- A service behind some taking, and the door's FLOW_SHORT condition then. -/
theorem served_adds {g : Flow} (h : HpuId) (d : DoorId) (begun : Adds ByAllocator f.out g.out) :
    Adds ByAllocator f.out ((g.serve h).evalShort d).out := (begun.trans (serve_adds g h)).trans (evalShort_adds _ d)

theorem join_adds (d : DoorId) (c : Dir) : Adds ByAllocator f.out (f.join d c).out := by
  have left := f.leaveQueue_out d
  unfold join
  dsimp only
  split
  · exact f.served_adds _ d (.refl _)
  · exact f.served_adds _ d (.trans (by rw [← left]; exact .refl _) (serve_adds _ _))
  · rw [note_out]
    exact .refl _
  · exact .refl _

theorem withdraw_adds (d : DoorId) : Adds ByAllocator f.out (f.withdraw d).out := by
  unfold withdraw
  split
  · exact f.served_adds _ d (by rw [leaveQueue_out]; exact .refl _)
  · rw [note_out]
    exact .refl _
  · exact .refl _
  · exact .refl _

theorem release_adds (d : DoorId) : Adds ByAllocator f.out (f.release d).out := by
  unfold release
  split
  · exact f.served_adds _ d (by rw [leaveQueue_out]; exact .refl _)
  · exact Adds.trans (by rw [← f.leaveGranted_out d]; exact .refl _) (serve_adds _ _)
  · exact .refl _
  · exact .refl _

theorem reversed_adds (d : DoorId) (dir : Dir) : Adds ByAllocator f.out (f.reversed d dir).out := by
  have left := f.leaveQueue_out d
  unfold reversed
  split
  case h_1 => exact f.served_adds _ d (by rw [← left]; exact .refl _)
  all_goals exact .refl _

theorem taken_adds (d : DoorId) (dir : Dir) : Adds ByAllocator f.out (f.taken d dir).out := by
  have sent : Adds ByAllocator f.out (f.send (.pause d)).out := (Adds.refl _).one (m := .pause _) trivial
  unfold taken
  dsimp only
  split
  · exact f.served_adds _ d sent
  · exact f.served_adds _ d (sent.trans (by rw [← leaveQueue_out]; exact .refl _))
  · exact .refl _
  · exact .refl _

theorem handedBack_adds (d : DoorId) : Adds ByAllocator f.out (f.handedBack d).out := by
  have left := f.leaveGranted_out d
  unfold handedBack
  split
  case h_1 => exact f.served_adds _ d (.trans (by rw [← left]; exact .refl _) (serve_adds _ _))
  case h_2 => exact Adds.trans (by rw [← left]; exact .refl _) (serve_adds _ _)
  all_goals exact .refl _

end Flow

/-! ### The fault recorder -/

namespace Log

variable (l : Log)

theorem evalWear_adds (d : DoorId) : Adds ToAlarms l.out (l.evalWear d).out :=
  .ite (fun _ => (Adds.refl _).one (m := .alarmRaise ..) trivial) fun _ =>
    .ite (fun _ => (Adds.refl _).one (m := .alarmClear ..) trivial) fun _ => .refl _

theorem count_adds (d : DoorId) (k : WearKind) : Adds ToAlarms l.out (l.count d k).out := evalWear_adds _ d

theorem countFault_adds (d : DoorId) (k : FaultKind) : Adds ToAlarms l.out (l.countFault d k).out := by
  unfold countFault
  split
  · exact .refl _
  · exact count_adds l d _

theorem notice_adds (d : DoorId) (k : WearKind) : Adds ToAlarms l.out (l.notice d k).out :=
  .ite (fun _ => count_adds l d k) fun _ => .refl _

theorem mismatch_adds (d : DoorId) (valve : Dir) (expected : Bool) : Adds ToAlarms l.out (l.mismatch d valve expected).out :=
  .ite (fun _ => count_adds { l with recorder := _ } d _) fun _ => .refl _

theorem clearCounters_adds (d : DoorId) : Adds ToAlarms l.out (l.clearCounters d).out :=
  .ite (fun _ => evalWear_adds (l.withDoor d _) d) fun _ => .refl _

end Log

/-! ### The line port -/

namespace Serial

variable (x : Serial)

theorem evalDegraded_adds (l : Line) : Adds ToAlarms x.out (x.evalDegraded l).out :=
  .ite (fun _ => (Adds.refl _).one (m := .alarmRaise ..) trivial) fun _ =>
    .ite (fun _ => (Adds.refl _).one (m := .alarmClear ..) trivial) fun _ => .refl _

theorem clearErrors_adds (l : Line) : Adds ToAlarms x.out (x.clearErrors l).out := evalDegraded_adds (x.withLine l _) l

theorem abandon_adds (l : Line) : Adds ToAlarms x.out (x.abandon l).out := evalDegraded_adds (x.withLine l _) l

theorem checkError_adds (l : Line) : Adds ToAlarms x.out (x.checkError l).out := evalDegraded_adds (x.withLine l _) l

theorem heard_adds (l : Line) : Adds ToAlarms x.out (x.heard l).out := by
  refine .ite (fun _ => .refl _) fun _ => ?_
  have revived (y : Serial) (b : Prop) [Decidable b] (same : y.out = x.out) :
      Adds ToAlarms x.out (if b then y.send (.alarmClear .lineSilent (.line l)) else y).out :=
    .ite (fun _ => by rw [← same]; exact (Adds.refl _).one (m := .alarmClear ..) trivial) fun _ => by rw [same]; exact .refl _
  let y : Serial := x.withLine l { x.line l with silence := some x.port.interval, silent := false }
  exact .ite (fun _ => (revived y ((x.line l).silent = true) rfl).one (m := .alarmClear ..) trivial) fun _ =>
    revived y ((x.line l).silent = true) rfl

theorem silenceExpired_adds (l : Line) : Adds ToAlarms x.out (x.silenceExpired l).1.out := by
  have silent := (Adds.refl (p := ToAlarms) x.out).one (m := .alarmRaise .lineSilent (.line l)) trivial
  unfold silenceExpired
  dsimp only
  split
  · split
    · exact silent.one (m := .alarmRaise ..) trivial
    · exact silent
  · exact .refl _

theorem setInterval_adds (n : Nat) : Adds ToAlarms x.out (x.setInterval n).out := by
  unfold setInterval
  dsimp only
  split
  · exact (((Adds.refl (p := ToAlarms) x.out).one (m := .alarmClear ..) trivial).one (m := .alarmClear ..) trivial).one
      (m := .alarmClear ..) trivial
  · exact .refl _

theorem validFrame_adds (l : Line) (buffer : List Byte) : Adds ToAlarms x.out (x.validFrame l buffer).out := by
  have heard : Adds ToAlarms x.out ((x.withLine l (x.line l).hunting).heard l).out :=
    heard_adds (x.withLine l (x.line l).hunting) l
  unfold validFrame
  dsimp only
  split
  · exact .ite (fun _ => heard) fun _ => heard
  · exact .refl _

theorem goodCharacter_adds (l : Line) (c : Byte) : Adds ToAlarms x.out (x.goodCharacter l c).out := by
  unfold goodCharacter
  dsimp only
  split
  · split <;> exact .refl _
  · exact .refl _
  · exact .refl _
  · split
    · exact abandon_adds x l
    · exact .refl _
  · exact .refl _
  · split
    · exact .refl _
    · unfold frameDone
      split
      · exact validFrame_adds x l _
      · exact checkError_adds x l
  · exact .refl _

theorem character_adds (l : Line) (c : Byte) (goodStop : Bool) : Adds ToAlarms x.out (x.character l c goodStop).out := by
  refine .ite (fun _ => .refl _) fun _ => .ite (fun _ => goodCharacter_adds x l c) fun _ => ?_
  split
  · exact .refl _
  · exact .refl _
  all_goals exact abandon_adds x l

theorem gapExpired_adds (l : Line) : Adds ToAlarms x.out (x.gapExpired l).out := by
  unfold gapExpired
  split
  · exact .refl _
  · exact .refl _
  all_goals exact .ite (fun _ => abandon_adds x l) fun _ => .refl _

theorem commit_adds (old : Image) : Adds ToAlarms x.out (x.commit old).out := by
  have evaluated := (evalDegraded_adds x .a).trans (evalDegraded_adds _ .b)
  exact .ite (fun _ => evaluated) fun _ => evaluated.trans (setInterval_adds _ _)

theorem restart_adds (s : Straps) (cause : StartCause) : Adds ToAlarms x.out (x.restart s cause).out := by
  refine (Adds.refl _).add fun m hm => ?_
  simp only [List.mem_cons, List.not_mem_nil, or_false] at hm
  rcases hm with rfl | rfl | rfl | rfl | rfl | rfl
  · split <;> trivial
  all_goals trivial

/-- Every reaction of the line port but for a commit's and a restart's. -/
theorem reaction_adds {f : Serial → Serial} (reaction : PortReaction f) : Adds ToAlarms x.out (f x).out := by
  cases reaction with
  | character l c goodStop => exact character_adds x l c goodStop
  | gapExpired l => exact gapExpired_adds x l
  | heard l => exact heard_adds x l
  | silenceExpired l => exact silenceExpired_adds x l
  | clearErrors ls => exact .foldl clearErrors_adds ls x
  | setInterval n => exact setInterval_adds x _

end Serial

end Sys2Proof.Machine

/-! Every step that takes its own messages keeps each door faulted as its capture is, the notices on their way considered (R43,
R44, R112, R119), and a faulted door calm (R84). -/

namespace Sys2Proof.Machine

open Sys2Proof

/-! ### The news of a capture -/

/-- What a message says of a door's capture. -/
def newsOf (d : DoorId) : Instr → Option Bool
  | .captureOccupiedNotice e => if e = d then some true else none
  | .captureEmptiedNotice e => if e = d then some false else none
  | _ => none

/-- What messages say of a door's capture, in their order. -/
def news (d : DoorId) (ms : List Instr) : List Bool := ms.filterMap (newsOf d)

/-- What a door's capture is by the last news of it, or else by the door's faulted flag. -/
def told (faulted : Bool) (d : DoorId) (ms : List Instr) : Bool := (news d ms).getLast?.getD faulted

section
variable {d : DoorId} {b : Bool} {ms ns : List Instr} {m : Instr}

theorem news_append : news d (ms ++ ns) = news d ms ++ news d ns := List.filterMap_append

theorem told_append : told b d (ms ++ ns) = told (told b d ms) d ns := by
  rw [told, told, told, news_append, List.getLast?_append]
  cases (news d ns).getLast? <;> rfl

theorem told_of_silent (silent : ∀ m ∈ ms, newsOf d m = none) : told b d ms = b := by
  rw [told, news, List.filterMap_eq_nil_iff.mpr silent]
  rfl

theorem newsOf_of_notice (h : (newsOf d m).isSome = true) : route? m = some (.fromRecorder d) := by
  unfold newsOf at h
  split at h
  · next e =>
    split at h
    · next same => rw [same]; rfl
    · cases h
  · next e =>
    split at h
    · next same => rw [same]; rfl
    · cases h
  · cases h

theorem captureNotices_eq (s : State) (d : DoorId) :
    news d s.inFlight = (captureNotices s d).map (· == .captureOccupiedNotice d) := by
  rw [news, captureNotices]
  induction s.inFlight with
  | nil => rfl
  | cons m ms ih =>
    have one : newsOf d m = if m == .captureOccupiedNotice d || m == .captureEmptiedNotice d
        then some (m == .captureOccupiedNotice d) else none := by
      cases m with
      | captureOccupiedNotice e =>
        by_cases same : e = d <;> simp [newsOf, same]
      | captureEmptiedNotice e =>
        by_cases same : e = d <;> simp [newsOf, same]
      | _ => simp [newsOf]
    rw [List.filterMap_cons, List.filter_cons, one]
    split
    · next none' =>
      split at none'
      · cases none'
      · next off =>
        rw [if_neg off]
        exact ih
    · next b some' =>
      split at some'
      · next on =>
        rw [if_pos on, List.map_cons, ← ih, Option.some.inj some']
      · cases some'

/-- The invariant's clauses about the notices, as one. -/
theorem told_iff (s : State) (d : DoorId) (faulted captured : Bool) :
    told faulted d s.inFlight = captured ↔
      (captureNotices s d = [] → (faulted = true ↔ captured = true)) ∧
      ((captureNotices s d).getLast? = some (.captureOccupiedNotice d) → captured = true) ∧
      ((captureNotices s d).getLast? = some (.captureEmptiedNotice d) → captured = false) := by
  have notice (m : Instr) (mem : m ∈ captureNotices s d) : m = .captureOccupiedNotice d ∨ m = .captureEmptiedNotice d := by
    simpa using (List.mem_filter.mp mem).2
  rw [told, captureNotices_eq, List.getLast?_map]
  cases last : (captureNotices s d).getLast? with
  | none =>
    have none := List.getLast?_eq_none_iff.mp last
    cases faulted <;> cases captured <;> simp [none]
  | some m =>
    have some' : captureNotices s d ≠ [] := fun none => by rw [none] at last; cases last
    rcases notice m (List.mem_of_getLast? last) with rfl | rfl <;> cases captured <;> simp [some']

end

/-! ### The fault recorder -/

namespace Log

@[simp] theorem withDoor_door (l : Log) (d : DoorId) (x : DoorFaults) : (l.withDoor d x).door d = x := by
  simp [door, withDoor]

theorem withDoor_door_ne (l : Log) {d e : DoorId} (x : DoorFaults) (h : e ≠ d) : (l.withDoor d x).door e = l.door e := by
  have ne : d.val ≠ e.val := fun k => h (Fin.ext k.symm)
  simp [door, withDoor, ne]

end Log

/-- The evaluation of WEAR leaves the captures, and the other doors' records (R116). -/
theorem Log.evalWear_door (l : Log) (d : DoorId) : (l.evalWear d).image = l.image ∧
    ∀ e, ((l.evalWear d).door e).capture = (l.door e).capture ∧ (e ≠ d → (l.evalWear d).door e = l.door e) := by
  have written (w : Bool) (e : DoorId) : ((l.withDoor d { l.door d with wear := w }).door e).capture = (l.door e).capture ∧
      (e ≠ d → (l.withDoor d { l.door d with wear := w }).door e = l.door e) := by
    by_cases he : e = d
    · rw [he, Log.withDoor_door]
      exact ⟨rfl, fun ne => absurd rfl ne⟩
    · rw [Log.withDoor_door_ne _ _ he]
      exact ⟨rfl, fun _ => rfl⟩
  unfold Log.evalWear
  dsimp only
  split
  · exact ⟨rfl, written _⟩
  · split
    · exact ⟨rfl, written _⟩
    · exact ⟨rfl, written _⟩

/-- By the messages made each door is told of its capture. -/
def Log.Told (before : DoorId → Bool) (l : Log) : Prop := ∀ d, told (before d) d l.out = (l.door d).capture.isSome

/-- What goes to the alarm list is no news. -/
theorem newsOf_toAlarms {m : Instr} (alarm : ToAlarms m) (d : DoorId) : newsOf d m = none := by
  unfold newsOf
  split
  · cases alarm
  · cases alarm
  · rfl

section
variable {before : DoorId → Bool} {l l' : Log}

/-- The captures as they were, but for what they hold, and no news made. -/
theorem Log.Told.silent (h : l.Told before) (capture : ∀ d, (l'.door d).capture.isSome = (l.door d).capture.isSome)
    (adds : Adds ToAlarms l.out l'.out) : l'.Told before := fun d => by
  obtain ⟨ms, out, alarms⟩ := adds
  rw [capture, out, told_append, h d, told_of_silent fun m mem => newsOf_toAlarms (alarms m mem) d]

/-- A door's capture written, the door being told of it last. -/
theorem Log.Told.withCapture (h : l.Told before) (d : DoorId) {x : DoorFaults} {ms : List Instr} {m : Instr}
    (alarms : ∀ m ∈ ms, ToAlarms m) (notice : ∀ e, newsOf e m = if e = d then some x.capture.isSome else none) :
    Log.Told before { l.withDoor d x with out := l.out ++ ms ++ [m] } := fun e => by
  change told (before e) e (l.out ++ ms ++ [m]) = ((l.withDoor d x).door e).capture.isSome
  rw [told_append, told_append, told_of_silent fun m mem => newsOf_toAlarms (alarms m mem) e, told, news, List.filterMap_cons,
    notice]
  by_cases he : e = d
  · rw [he, Log.withDoor_door, if_pos rfl]
    rfl
  · rw [Log.withDoor_door_ne _ _ he, if_neg he]
    exact h e

theorem Log.Told.emptied (h : l.Told before) (d : DoorId) (c : Capture) {x : DoorFaults} (none : x.capture = .none) :
    ((l.withDoor d x).emptied d c).Told before :=
  h.withCapture d (x := x) (ms := [.alarmResetCondition (faultAlarm c.kind) (.door d)]) (m := .captureEmptiedNotice d)
    (fun m hm => by rw [List.mem_singleton.mp hm]; trivial) fun e => by simp [newsOf, none, eq_comm]

end

/-- What a commit makes of one door's records (R119). -/
theorem Log.commitDoor_tells {before : DoorId → Bool} (l : Log) (old : DoorRecord) (d : DoorId) (told : l.Told before)
    (present : (l.door d).capture.isSome = true → old.present = true) :
    (l.commitDoor old d).Told before ∧ (l.commitDoor old d).image = l.image ∧
      (((l.commitDoor old d).door d).capture.isSome = true →
        old.present = true ∧ l.image.doors[d].present = true) ∧
      ∀ e, e ≠ d → (l.commitDoor old d).door e = l.door e := by
  have cleared (none : (l.door d).capture = none) : (l.withDoor d .clear).Told before ∧
      ∀ e, e ≠ d → (l.withDoor d .clear).door e = l.door e := by
    refine ⟨told.silent (fun e => ?_) (.refl _), fun e he => l.withDoor_door_ne _ he⟩
    by_cases he : e = d
    · rw [he, Log.withDoor_door, none]
      rfl
    · rw [Log.withDoor_door_ne _ _ he]
  have bare : ((l.withDoor d .clear).door d).capture.isSome ≠ true := by
    rw [Log.withDoor_door]
    exact Bool.false_ne_true
  unfold Log.commitDoor
  split <;> rename_i was now
  · split
    · next c captured =>
      exact ⟨told.emptied d c rfl, rfl, fun some => absurd some bare, fun e he => l.withDoor_door_ne _ he⟩
    · next none => exact ⟨(cleared none).1, rfl, fun some => absurd some bare, (cleared none).2⟩
  · have none : (l.door d).capture = none := by
      by_contra some
      have on := present (Option.isSome_iff_ne_none.mpr some)
      rw [was] at on
      cases on
    exact ⟨(cleared none).1, rfl, fun some => absurd some bare, (cleared none).2⟩
  · obtain ⟨image, same⟩ := l.evalWear_door d
    refine ⟨told.silent (fun e => by rw [(same e).1]) (l.evalWear_adds d), image, fun _ => ⟨was, now⟩, fun e he => (same e).2 he⟩
  · refine ⟨told, rfl, fun some => ?_, fun _ _ => rfl⟩
    have on := present some
    rw [was] at on
    cases on

/-- The recorder's captures belong to present doors, and by its messages each door is told of its capture. -/
structure Log.Tells (i : Image) (before : DoorId → Bool) (l : Log) : Prop where
  image : l.image = i
  present : ∀ d, (l.door d).capture.isSome = true → l.image.doors[d].present = true
  told : l.Told before

namespace Log.Tells

variable {i : Image} {before : DoorId → Bool} {l : Log}

theorem ite {l' : Log} {p : Prop} [Decidable p] (h : p → l.Tells i before) (k : ¬p → l'.Tells i before) :
    (if p then l else l').Tells i before := by
  split
  · next hp => exact h hp
  · next hp => exact k hp

/-- The captures as they were, but for what they hold, and no news made. -/
theorem silent {l' : Log} (h : l.Tells i before) (image : l'.image = l.image)
    (capture : ∀ d, (l'.door d).capture.isSome = (l.door d).capture.isSome) (adds : Adds ToAlarms l.out l'.out) :
    l'.Tells i before :=
  ⟨image.trans h.image, fun d => by rw [capture, image]; exact h.present d, h.told.silent capture adds⟩

variable (h : l.Tells i before)
include h

/-- A door's records written with a capture where there was one. -/
theorem withDoor (d : DoorId) {x : DoorFaults} (capture : x.capture.isSome = (l.door d).capture.isSome) :
    (l.withDoor d x).Tells i before := by
  refine h.silent rfl (fun e => ?_) (.refl _)
  by_cases he : e = d
  · rw [he, Log.withDoor_door, capture]
  · rw [Log.withDoor_door_ne _ _ he]

/-- A door's capture written, with the messages that tell of it. -/
theorem written (d : DoorId) {x : DoorFaults} {l' : Log} (door : ∀ e, l'.door e = (l.withDoor d x).door e)
    (image : l'.image = l.image) (present : x.capture.isSome = true → l.image.doors[d].present = true) (told : l'.Told before) :
    l'.Tells i before := by
  refine ⟨image.trans h.image, fun e => ?_, told⟩
  rw [door, image]
  by_cases he : e = d
  · rw [he, Log.withDoor_door]
    exact present
  · rw [Log.withDoor_door_ne _ _ he]
    exact h.present e

theorem evalWear (d : DoorId) : (l.evalWear d).Tells i before := by
  have noted : (l.withDoor d { l.door d with wear := (l.door d).counters.exceeds l.image.group.wearThresholds }).Tells i before :=
    h.withDoor d rfl
  have sent {m : Instr} (alarm : ToAlarms m) (x : Log) (k : x.Tells i before) : (x.send m).Tells i before :=
    k.silent rfl (fun _ => rfl) ((Adds.refl _).one alarm)
  exact .ite (fun _ => sent (m := .alarmRaise ..) trivial _ noted) fun _ =>
    .ite (fun _ => sent (m := .alarmClear ..) trivial _ noted) fun _ => noted

theorem count (d : DoorId) (k : WearKind) : (l.count d k).Tells i before :=
  evalWear (h.withDoor d (x := { l.door d with counters := (l.door d).counters.count k }) rfl) d

theorem countFault (d : DoorId) (k : FaultKind) : (l.countFault d k).Tells i before := by
  unfold Log.countFault
  split
  · exact h
  · exact h.count d _

theorem notice (d : DoorId) (k : WearKind) : (l.notice d k).Tells i before := .ite (fun _ => h.count d k) fun _ => h

theorem mismatch (d : DoorId) (valve : Dir) (expected : Bool) : (l.mismatch d valve expected).Tells i before := by
  refine .ite (fun _ => ?_) fun _ => h
  refine count (l := { l with recorder := { l.recorder with drive := some ⟨d, valve, expected, l.time⟩ } }) ?_ d _
  exact h.silent rfl (fun _ => rfl) (.refl _)

theorem fill (d : DoorId) (k : FaultKind) (second : Option FaultKind) (x : FaultData)
    (present : l.image.doors[d].present = true) : (l.fill d k second x).Tells i before := by
  let c : Capture := ⟨(byPriority k second).1, x, l.time, seenOf (byPriority k second).2⟩
  have told := h.told.withCapture d (x := { l.door d with capture := some c })
    (ms := [.alarmRaise (faultAlarm (byPriority k second).1) (.door d)]) (m := .captureOccupiedNotice d)
    (fun m hm => by rw [List.mem_singleton.mp hm]; trivial) fun e => by simp [newsOf, eq_comm]
  exact h.written d (x := { l.door d with capture := some c }) (fun _ => rfl) rfl (fun _ => present) told

theorem also (d : DoorId) (c : Capture) (k : FaultKind) (second : Option FaultKind) (was : (l.door d).capture = some c) :
    (l.also d c k second).Tells i before := h.withDoor d (by rw [was]; rfl)

theorem report (d : DoorId) (k : FaultKind) (second : Option FaultKind) (persisting : Bool) (x : FaultData) :
    (l.report d k second persisting x).Tells i before := by
  have counted (l1 : Log) (told : l1.Tells i before) : (if persisting then l1
      else match second with
        | none => l1.countFault d k
        | some k' => (l1.countFault d k).countFault d k').Tells i before := by
    refine .ite (fun _ => told) fun _ => ?_
    split
    · exact told.countFault d k
    · exact (told.countFault d k).countFault d _
  have captured (present : l.image.doors[d].present = true) : (match (l.door d).capture with
      | none => l.fill d k second x
      | some c => l.also d c k second).Tells i before := by
    split
    · exact h.fill d k second x present
    · next was => exact h.also d _ k second was
  exact .ite (fun present => counted _ (captured present)) fun _ => h

theorem emptied (d : DoorId) (c : Capture) {x : DoorFaults} (none : x.capture = .none) :
    ((l.withDoor d x).emptied d c).Tells i before :=
  h.written d (fun _ => rfl) rfl (fun some => by rw [none] at some; cases some) (h.told.emptied d c none)

theorem clearFault (d : DoorId) : (l.clearFault d).Tells i before := by
  unfold Log.clearFault
  split
  · exact h.emptied d _ rfl
  · exact h

theorem clearCounters (d : DoorId) : (l.clearCounters d).Tells i before :=
  .ite (fun _ => evalWear (h.withDoor d (x := { l.door d with counters := .zero }) rfl) d) fun _ => h

theorem reaction {f : Log → Log} (reaction : LogReaction f) : (f l).Tells i before := by
  cases reaction with
  | clearFault ds => exact List.foldlRecOn (motive := Log.Tells i before) ds _ h fun _ k d _ => k.clearFault d
  | clearCounters ds => exact List.foldlRecOn (motive := Log.Tells i before) ds _ h fun _ k d _ => k.clearCounters d

theorem restart : l.restart.Tells i before := by
  refine List.foldlRecOn (motive := Log.Tells i before) allDoors _ h fun x k d _ => .ite (fun _ => ?_) fun _ => k
  refine (k.withDoor d (x := { x.door d with wear := (x.door d).counters.exceeds x.image.group.wearThresholds }) rfl).silent
    rfl (fun _ => rfl) ((Adds.refl _).one ?_)
  split <;> trivial

omit h in
/-- A commit drops the captures of the doors that it makes ABSENT, which it tells (R119). -/
theorem commit (old : Image) (image : l.image = i) (told : l.Told before)
    (present : ∀ d, (l.door d).capture.isSome = true → old.doors[d].present = true) : (l.commit old).Tells i before := by
  have part (ds : List DoorId) : ∀ l : Log, l.image = i → l.Told before →
      (∀ d, (l.door d).capture.isSome = true → if d ∈ ds then old.doors[d].present = true else l.image.doors[d].present = true) →
      (ds.foldl (fun l d => l.commitDoor old.doors[d] d) l).Tells i before := by
    induction ds with
    | nil => exact fun l image told present => ⟨image, fun d => by simpa using present d, told⟩
    | cons d ds ih =>
      intro l image0 told present
      obtain ⟨told', image, own, other⟩ := l.commitDoor_tells old.doors[d] d told fun captured => by
        simpa using present d captured
      refine ih _ (image.trans image0) told' fun e captured => ?_
      by_cases he : e = d
      · subst he
        by_cases mem : e ∈ ds
        · rw [if_pos mem]
          exact (own captured).1
        · rw [if_neg mem, image]
          exact (own captured).2
      · rw [other e he] at captured
        have was := present e captured
        simp only [List.mem_cons, he, false_or] at was
        rwa [image]
  exact part allDoors l image told fun d captured => by rw [if_pos (mem_allDoors d)]; exact present d captured

end Log.Tells

end Sys2Proof.Machine

/-! Every event that takes its own message keeps each door faulted as its capture is, and a faulted door calm. -/

namespace Sys2Proof.Machine

open Sys2Proof

/-! ### Messages without news -/

/-- A message that is no news of a capture. -/
def Silent (m : Instr) : Prop := ∀ d, newsOf d m = none

theorem ToAlarms.silent {m : Instr} (h : ToAlarms m) : Silent m := newsOf_toAlarms h

theorem ByResolver.silent {m : Instr} (h : ByResolver m) : Silent m := fun d => by
  unfold newsOf
  split
  · cases h
  · cases h
  · rfl

theorem ByAllocator.silent {m : Instr} (h : ByAllocator m) : Silent m := fun d => by
  unfold newsOf
  split
  · cases h
  · cases h
  · rfl

theorem silent_of_doorTableMakes {m : Instr} (h : doorTableMakes m = true) : Silent m := fun d => by
  unfold newsOf
  split
  · cases h
  · cases h
  · rfl

/-- What a referral is answered with is no news of a capture. -/
theorem Orders.referral_adds_silent (o : Orders) (d : DoorId) (handle : Dir) (faulted held : Bool) :
    Adds Silent o.out (o.referral d handle faulted held).out := by
  have ruled (r : Ruling) : Adds Silent o.out (o.send (.handleRuling d r)).out := (Adds.refl _).one (m := .handleRuling d r) fun _ => rfl
  refine .ite (fun _ => .refl _) fun _ => .ite (fun _ => ruled _) fun _ => .ite (fun _ => ?_) fun _ => ruled _
  exact .ite (fun _ => (ruled _).one (m := .alarmRaise ..) fun _ => rfl) fun _ => ruled _

theorem told_adds {out out' : List Instr} (h : Adds Silent out out') (b : Bool) (d : DoorId) : told b d out' = told b d out := by
  obtain ⟨ms, eq, silent⟩ := h
  rw [eq, told_append, told_of_silent fun m mem => silent m mem d]

theorem told_erase {d : DoorId} {m : Instr} (silent : newsOf d m = none) {b : Bool} (ms : List Instr) :
    told b d (ms.erase m) = told b d ms := by
  have same : news d (ms.erase m) = news d ms := by
    rw [news, news]
    induction ms with
    | nil => rfl
    | cons x xs ih =>
      by_cases hx : x = m
      · rw [hx, List.erase_cons_head, List.filterMap_cons, silent]
      · rw [List.erase_cons_tail (by simpa using hx), List.filterMap_cons, List.filterMap_cons, ih]
  rw [told, told, same]

/-- The oldest news of a capture, taken. -/
theorem told_first {s : State} {d : DoorId} {m : Instr} {b : Bool} (tells : newsOf d m = some b) (made : m ∈ s.inFlight)
    (first : FirstOnItsWay s m) (x : Bool) : told x d s.inFlight = told b d (s.inFlight.erase m) := by
  have route := newsOf_of_notice (by rw [tells]; rfl)
  have split : s.inFlight = s.inFlight.takeWhile (· != m) ++ m :: (s.inFlight.dropWhile (· != m)).tail := by
    conv_lhs => rw [← List.takeWhile_append_dropWhile (p := (· != m)) (l := s.inFlight)]
    congr 1
    cases drop : s.inFlight.dropWhile (· != m) with
    | nil => simpa using List.dropWhile_eq_nil_iff.mp drop m made
    | cons y ys =>
      have head := List.head_dropWhile_not (· != m) (l := s.inFlight) (by simp [drop])
      simp only [drop, List.head_cons, bne_eq_false_iff_eq] at head
      rw [head, List.tail_cons]
  have ahead : ∀ y ∈ s.inFlight.takeWhile (· != m), newsOf d y = none := fun y mem => by
    by_contra some
    exact first y mem ((newsOf_of_notice (Option.isSome_iff_ne_none.mpr some)).trans route.symm)
  have apart : m ∉ s.inFlight.takeWhile (· != m) := fun mem => by simpa using List.mem_takeWhile_imp mem
  generalize s.inFlight.takeWhile (· != m) = older at split ahead apart
  generalize (s.inFlight.dropWhile (· != m)).tail = younger at split
  rw [split, List.erase_append_right _ apart, List.erase_cons_head, told_append, told_append, told_of_silent ahead,
    told_of_silent ahead, told, told, news, List.filterMap_cons, tells]
  change ((b :: younger.filterMap (newsOf d)).getLast?).getD x = (younger.filterMap (newsOf d)).getLast?.getD b
  rw [List.getLast?_cons]
  cases (younger.filterMap (newsOf d)).getLast? <;> rfl

/-- A door of which it is said last that its capture is empty is told so whatever its flag. -/
theorem told_eq_false {d : DoorId} {ms : List Instr} {x : Bool} (h : told x d ms = false) : told false d ms = false := by
  rw [told] at h ⊢
  cases last : (news d ms).getLast? with
  | none => rfl
  | some b =>
    rw [last] at h
    exact h

/-- The messages that a door's event makes are the door table's. -/
theorem Work.event_adds {strict : Prop} {x y : Stage} {w : Work} {f : Work → Work} (b : Door) (bc : Channel)
    (keeps : w.Keeps strict x y (f w)) :
    Adds (fun m => doorTableMakes m = true) w.out (w.event b bc f).out := by
  have made : Adds (fun m => doorTableMakes m = true) w.out (f w).out := keeps.made
  exact made.trans (w.event_followed (strict := strict) f b bc).made

section
variable {c : Instr} {s t : State} {d : DoorId} {mild : Bool} {i : Image} {r : Door} {ch : Channel}

theorem State.worked_adds {strict : Prop} {x y : Stage} {f : Work → Work} (keeps : (s.work d).Keeps strict x y (f (s.work d))) :
    Adds Silent [] (s.worked d f).out :=
  ((s.work d).event_adds _ _ keeps).mono fun _ => silent_of_doorTableMakes

/-- An event leaves a faulted door calm where a faulted one was (R84). -/
theorem Touched.calm (h : Touched c s d mild i r ch) (p : (s.door d).PresentIn s.image d)
    (calm : (s.door d).faulted = true → (s.door d).Calm) : r.faulted = true → r.Calm := by
  rcases h.worked p with unworked | ⟨x, w, f, worked⟩
  · cases unworked with
    | still | filter | read => exact calm
    | tick => exact calm
    | powerOn => exact nofun
  · rw [worked.record]
    have begun := worked.keeps.calm trivial (by rw [worked.door]; exact calm)
    exact (w.event_followed (strict := True) f _ _).calm trivial begun

/-! ### The invariant -/

/-- A door is faulted as its capture is, but for the news on its way; captures belong to present doors, and faulted doors are
calm. -/
structure FaultedAgrees (s : State) : Prop where
  presence : PresenceInv s
  captured : ∀ d, (s.log.door d).capture.isSome = true → s.image.doors[d].present = true
  told : ∀ d, told (s.door d).faulted d s.inFlight = (s.log.door d).capture.isSome
  calm : ∀ d, (s.door d).faulted = true → (s.door d).Calm

theorem faultedAgrees_iff (s : State) : FaultedAgrees s ↔ FaultedInv s := by
  have none_iff (d : DoorId) : (s.log.door d).capture.isSome = false ↔ s.recorder.doors[d].capture = none :=
    Option.isSome_eq_false_iff.trans Option.isNone_iff_eq_none
  constructor
  · intro h
    refine ⟨h.presence, fun d => ?_⟩
    obtain ⟨none, occupied, emptied⟩ := (told_iff s d _ _).mp (h.told d)
    exact ⟨fun c => (h.presence d).1.trans (h.captured d c), none, occupied, fun e => (none_iff d).mp (emptied e), h.calm d⟩
  · rintro ⟨presence, doors⟩
    refine ⟨presence, fun d c => (presence d).1.symm.trans ((doors d).1 c), fun d => ?_, fun d => (doors d).2.2.2.2⟩
    obtain ⟨-, none, occupied, emptied, -⟩ := doors d
    exact (told_iff s d _ _).mpr ⟨none, occupied, fun e => (none_iff d).mpr (emptied e)⟩

theorem State.log_recorder (s : State) : s.log.recorder = s.recorder := rfl

/-- A commit leaves a door's faulted flag, but that a door made present is not faulted (R47). -/
theorem Work.commit_faulted (w : Work) (old : DoorRecord) (a : Standing) :
    (w.commit old a).door.faulted = w.door.faulted ∨ old.present = false ∧ (w.commit old a).door.faulted = false := by
  unfold Work.commit
  split <;> rename_i was now
  · rw [Work.makeAbsent_eq]
    exact .inl (Bool.and_true _)
  · exact .inr ⟨was, (Work.recheckBoth_moves (strict := True) (x := .running) _).faulted⟩
  · exact .inl (w.keepPresent_moves (strict := True) (x := .running) old).faulted
  · exact .inl rfl

namespace FaultedAgrees

section
variable (h : FaultedAgrees s)
include h

/-- The recorder's work at the beginning of an event. -/
theorem log : s.log.Tells s.image fun d => Machine.told (s.door d).faulted d s.inFlight := ⟨rfl, h.captured, h.told⟩

/-- An event that leaves the captures alone, and by its messages each door told of its own. -/
theorem quiet (recorder : t.recorder = s.recorder) (image : t.image = s.image) (touched : ∀ d, TouchedBy mild c s t d)
    (told : ∀ d, Machine.told (t.door d).faulted d t.inFlight = Machine.told (s.door d).faulted d s.inFlight) :
    FaultedAgrees t where
  presence d := (touched d).presentIn (h.presence d)
  captured d := by
    rw [image, Log.door, State.log, recorder]
    exact h.captured d
  told d := by
    rw [told, Log.door, State.log, recorder]
    exact h.told d
  calm d := (touched d).calm (h.presence d) (h.calm d)

/-- An event of another block than the door table and the recorder, that makes no news. -/
theorem other (recorder : t.recorder = s.recorder) (image : t.image = s.image) (doors : t.doors = s.doors)
    (channels : t.channels = s.channels) (adds : Adds Silent s.inFlight t.inFlight) : FaultedAgrees t := by
  have door (d : DoorId) : t.door d = s.door d := by rw [State.door, doors]; rfl
  refine h.quiet (c := .powerOn) (mild := true) recorder image
    (fun d => .of_eq image (door d) (by rw [State.channel, channels]; rfl)) fun d => ?_
  rw [door, told_adds adds]

/-- A reaction of the door table that leaves the faulted flag alone. -/
theorem doorEventKeeping (d : DoorId) {f : Work → Work} (keeps : (s.work d).Keeps True .running .running (f (s.work d)))
    (faulted : (f (s.work d)).door.faulted = (s.door d).faulted)
    (touched : Touched c s d mild s.image (s.worked d f).door (s.worked d f).channel) : FaultedAgrees (s.doorEvent s d f) := by
  have frame := s.doorEvent_onlyDoor s d f
  refine h.quiet rfl rfl (fun e => .doorEvent ⟨rfl, rfl, rfl⟩ d f fun he => by subst he; exact touched) fun e => ?_
  have adds : Adds Silent s.inFlight (s.doorEvent s d f).inFlight := by
    obtain ⟨ms, eq, silent⟩ := State.worked_adds keeps
    exact ⟨ms, congrArg (s.inFlight ++ ·) eq, silent⟩
  rw [told_adds adds]
  by_cases he : e = d
  · rw [he, State.doorEvent_door, ((s.work d).event_followed (strict := True) f _ _).faulted, faulted]
  · rw [frame.doors e he]

theorem doorEvent (d : DoorId) {f : Work → Work} (moves : (s.work d).Moves True .running .running (f (s.work d))) :
    FaultedAgrees (s.doorEvent s d f) :=
  h.doorEventKeeping (c := .powerOn) (mild := true) d moves.toKeeps moves.faulted (.reaction f moves)

/-- An event of the recorder. -/
theorem logEvent {f : Log → Log}
    (tells : (f s.log).Tells s.image fun d => Machine.told (s.door d).faulted d s.inFlight) : FaultedAgrees (s.logEvent f) where
  presence := h.presence
  captured d k := by
    have present := tells.present d k
    rw [tells.image] at present
    exact present
  told d := (told_append (b := (s.door d).faulted) (d := d)).trans (tells.told d)
  calm := h.calm

/-- A message that is no news is taken off its way. -/
theorem taking {m : Instr} (silent : Silent m) : FaultedAgrees (s.taking m) where
  presence := h.presence
  captured := h.captured
  told d := by
    rw [show (s.taking m).inFlight = s.inFlight.erase m from rfl, told_erase (silent d)]
    exact h.told d
  calm := h.calm

/-- The notice that a capture has become occupied, in its turn (R43). -/
theorem takeOccupied (d : DoorId) (made : .captureOccupiedNotice d ∈ s.inFlight)
    (first : FirstOnItsWay s (.captureOccupiedNotice d)) : FaultedAgrees (s.takeOccupied d) := by
  have frame := (s.taking (.captureOccupiedNotice d)).doorEvent_onlyDoor (s.taking (.captureOccupiedNotice d)) d Work.occupied
  have adds : Adds Silent (s.inFlight.erase (.captureOccupiedNotice d)) (s.takeOccupied d).inFlight := by
    obtain ⟨ms, eq, silent⟩ := State.worked_adds (s := s.taking (.captureOccupiedNotice d)) (d := d)
      (Work.occupied_keeps (strict := True) _)
    exact ⟨ms, congrArg (s.inFlight.erase (.captureOccupiedNotice d) ++ ·) eq, silent⟩
  refine h.quiet (c := .powerOn) (mild := true) rfl rfl (fun e => .deliver (.captureOccupiedNotice d) e) fun e => ?_
  rw [told_adds adds]
  by_cases he : e = d
  · subst he
    have tells : newsOf e (.captureOccupiedNotice e) = some true := if_pos rfl
    have faulted : ((s.takeOccupied e).door e).faulted = (s.work e).occupied.door.faulted := by
      rw [State.takeOccupied, State.doorEvent_door]
      exact ((Work.event_followed (strict := True) _ _ _ _).faulted)
    rw [told_first tells made first (s.door e).faulted]
    by_cases absent : (s.door e).motion = .absent
    · have empty : (s.log.door e).capture.isSome = false := by
        by_contra some
        have present := h.captured e (Bool.eq_true_of_not_eq_false some)
        rw [← (h.presence e).1, (h.presence e).2.mp absent] at present
        cases present
      have before := h.told e
      rw [told_first tells made first, empty] at before
      rw [faulted, (s.work e).occupied_absent absent, before]
      rw [Machine.told] at before ⊢
      cases last : (news e (s.inFlight.erase (.captureOccupiedNotice e))).getLast? with
      | none => rw [last] at before; cases before
      | some b => rw [last] at before; exact before
    · rw [faulted, (s.work e).occupied_service.2.2.2.mpr (.inr absent)]
  · have silent : newsOf e (.captureOccupiedNotice d) = none := if_neg fun same => he same.symm
    rw [told_erase silent, State.takeOccupied, frame.doors e he]
    rfl

/-- The notice that a capture has been emptied, in its turn (R44). -/
theorem takeEmptied (d : DoorId) (made : .captureEmptiedNotice d ∈ s.inFlight)
    (first : FirstOnItsWay s (.captureEmptiedNotice d)) : FaultedAgrees (s.takeEmptied d) := by
  have frame := (s.taking (.captureEmptiedNotice d)).doorEvent_onlyDoor (s.taking (.captureEmptiedNotice d)) d Work.emptied
  have adds : Adds Silent (s.inFlight.erase (.captureEmptiedNotice d)) (s.takeEmptied d).inFlight := by
    obtain ⟨ms, eq, silent⟩ := State.worked_adds (s := s.taking (.captureEmptiedNotice d)) (d := d)
      (Work.emptied_keeps (strict := True) _)
    exact ⟨ms, congrArg (s.inFlight.erase (.captureEmptiedNotice d) ++ ·) eq, silent⟩
  refine h.quiet (c := .powerOn) (mild := true) rfl rfl (fun e => .deliver (.captureEmptiedNotice d) e) fun e => ?_
  rw [told_adds adds]
  by_cases he : e = d
  · subst he
    have tells : newsOf e (.captureEmptiedNotice e) = some false := if_pos rfl
    have faulted : ((s.takeEmptied e).door e).faulted = false := by
      rw [State.takeEmptied, State.doorEvent_door]
      exact ((Work.event_followed (strict := True) _ _ _ _).faulted).trans ((Work.emptied_moves (strict := True) _).faulted)
    rw [told_first tells made first (s.door e).faulted, faulted]
  · have silent : newsOf e (.captureEmptiedNotice d) = none := if_neg fun same => he same.symm
    rw [told_erase silent, State.takeEmptied, frame.doors e he]
    rfl

/-- A message taken, a notice of a capture in its turn. -/
theorem deliver (m : Instr) (turn : m ∈ s.inFlight ∧ FirstOnItsWay s m) : FaultedAgrees (s.deliver m) := by
  have taken (silent : Silent m) : FaultedAgrees (s.taking m) := h.taking silent
  have resolved (silent : Silent m) (f : Orders → Orders) (adds : Adds ByResolver [] (f s.orders).out) :
      FaultedAgrees ((s.taking m).ordersEvent f) :=
    (taken silent).other rfl rfl rfl rfl (by
      obtain ⟨ms, eq, all⟩ := adds
      exact ⟨ms, congrArg (_ ++ ·) eq, fun m mem => (all m mem).silent⟩)
  have allocated (silent : Silent m) (f : Flow → Flow) (adds : Adds ByAllocator [] (f s.flow).out) :
      FaultedAgrees ((s.taking m).flowEvent f) :=
    (taken silent).other rfl rfl rfl rfl (by
      obtain ⟨ms, eq, all⟩ := adds
      exact ⟨ms, congrArg (_ ++ ·) eq, fun m mem => (all m mem).silent⟩)
  cases m with
  | standingAuthorityReport d a => exact (taken fun _ => rfl).doorEvent d (Work.order_moves _ a)
  | handleRuling d r => exact (taken fun _ => rfl).doorEvent d (Work.rule_moves _ r)
  | grant d dir => exact (taken fun _ => rfl).doorEvent d (Work.takeGrant_moves _ dir)
  | pause d => exact (taken fun _ => rfl).doorEvent d (Work.takePause_moves _)
  | captureOccupiedNotice d => exact h.takeOccupied d turn.1 turn.2
  | captureEmptiedNotice d => exact h.takeEmptied d turn.1 turn.2
  | handleReferral d handle faulted =>
    refine (taken fun _ => rfl).other rfl rfl rfl rfl ?_
    obtain ⟨ms, eq, silent⟩ := Orders.referral_adds_silent s.orders d handle faulted (s.channel d).openHandle.filtered
    exact ⟨ms, congrArg (s.inFlight.erase _ ++ ·) eq, silent⟩
  | arrivalNotice d => exact resolved (fun _ => rfl) (fun o => o.arrival d) (Orders.arrival_adds _ d)
  | openHandleReleaseNotice d => exact resolved (fun _ => rfl) (fun o => o.handleReleased d) (Orders.handleReleased_adds _ d)
  | join d c => exact allocated (fun _ => rfl) (fun f => f.join d c) (Flow.join_adds _ d c)
  | withdraw d => exact allocated (fun _ => rfl) (fun f => f.withdraw d) (Flow.withdraw_adds _ d)
  | release d => exact allocated (fun _ => rfl) (fun f => f.release d) (Flow.release_adds _ d)
  | reversed d dir => exact allocated (fun _ => rfl) (fun f => f.reversed d dir) (Flow.reversed_adds _ d dir)
  | taken d dir => exact allocated (fun _ => rfl) (fun f => f.taken d dir) (Flow.taken_adds _ d dir)
  | handedBack d => exact allocated (fun _ => rfl) (fun f => f.handedBack d) (Flow.handedBack_adds _ d)
  | faultReport d k second persisting x =>
    exact (taken fun _ => rfl).logEvent ((taken fun _ => rfl).log.report _ _ _ _ _)
  | mismatchReport d valve expected =>
    exact (taken fun _ => rfl).logEvent ((taken fun _ => rfl).log.mismatch _ _ _)
  | obstructionNotice d =>
    exact (taken fun _ => rfl).logEvent ((taken fun _ => rfl).log.notice _ _)
  | driftNotice d =>
    exact (taken fun _ => rfl).logEvent ((taken fun _ => rfl).log.notice _ _)
  | alarmRaise k x => exact (taken fun _ => rfl).other rfl rfl rfl rfl (.refl _)
  | alarmClear k x => exact (taken fun _ => rfl).other rfl rfl rfl rfl (.refl _)
  | alarmResetCondition k x => exact (taken fun _ => rfl).other rfl rfl rfl rfl (.refl _)
  | _ => exact h

/-! ### Restart, commit and power-on -/

/-- A restart, whatever has been done ahead of it to the line port. -/
theorem restart {s0 : State} (cause : StartCause) (store : s0.store = s.store) (recorder : s0.recorder = s.recorder)
    (time : s0.time = s.time) (inFlight : s0.inFlight = s.inFlight) (doors : s0.doors = s.doors)
    (channels : s0.channels = s.channels) : FaultedAgrees (s0.restartBlocks cause) := by
  have image0 : s0.image = s.image := by rw [State.image, store]; rfl
  have log : s0.log = s.log := by rw [State.log, image0, time, recorder]; rfl
  have door0 (d : DoorId) : s0.door d = s.door d := by rw [State.door, doors]; rfl
  have worked (d : DoorId) : s0.worked d Work.restart = s.worked d Work.restart := by
    rw [State.worked, State.work, State.door, State.channel, image0, doors, channels]
    rfl
  have restarted := h.log.restart
  have captured (d : DoorId) : ((s0.restartBlocks cause).log.door d) = s.log.restart.door d := by
    rw [Log.door, State.log_recorder, State.restartBlocks_recorder, log, Log.door]
  have image : (s0.restartBlocks cause).image = s.image := by
    rw [State.image, State.restartBlocks_store, store]
    rfl
  have touched (d : DoorId) : TouchedBy true .powerOn s (s0.restartBlocks cause) d :=
    .restartBlocks cause ⟨image0, doors, channels⟩
  have faulted (d : DoorId) : ((s0.restartBlocks cause).door d).faulted = (s.door d).faulted := by
    rw [(s0.restartBlocks_door cause d).1, worked]
    exact ((Work.event_followed (strict := True) _ _ _ _).faulted).trans ((s.work d).restart_moves (strict := True)).faulted
  refine ⟨fun d => (touched d).presentIn (h.presence d), fun d k => ?_, fun d => ?_, fun d =>
    (touched d).calm (h.presence d) (h.calm d)⟩
  · rw [captured] at k
    rw [image, ← restarted.image]
    exact restarted.present d k
  · rw [captured, faulted, ← restarted.told d]
    have frame := s0.restartBlocks_frame
    have doorsOut : Adds Silent (s0.discardMessages).inFlight
        (s0.discardMessages.doorEvents allDoors fun _ => Work.restart).inFlight := by
      rw [State.doorEvents_inFlight _ nodup_allDoors]
      refine (Adds.refl _).add fun m hm => ?_
      obtain ⟨e, -, hm⟩ := List.mem_flatMap.mp hm
      obtain ⟨ms, eq, silent⟩ := State.worked_adds (s := s0.discardMessages) (d := e) (Work.restart_moves (strict := True) _).toKeeps
      rw [eq] at hm
      exact silent m (by simpa using hm)
    have kept : Machine.told (s.door d).faulted d s0.discardMessages.inFlight = Machine.told (s.door d).faulted d s.inFlight := by
      have same : news d s0.discardMessages.inFlight = news d s.inFlight := by
        rw [← inFlight, news, news, State.discardMessages, List.filterMap_filter]
        refine List.filterMap_congr fun m _ => ?_
        cases m <;> rfl
      rw [Machine.told, same, Machine.told]
    rw [State.restartBlocks_eq, State.restartRest_eq]
    dsimp only
    rw [frame.orders, frame.flow, frame.log, frame.serial, frame.lines, frame.straps, frame.store]
    have before : Adds Silent s0.discardMessages.inFlight
        ((s0.discardMessages.doorEvents allDoors fun _ => Work.restart).inFlight ++ (Orders.restart s0.orders).out ++
          (s0.flow.restart s0.lines).out) := by
      obtain ⟨ms, eq, all⟩ := Orders.restart_adds s0.orders
      obtain ⟨ns, eq', all'⟩ := Flow.restart_adds s0.flow s0.lines
      rw [eq, eq']
      exact (doorsOut.add fun m mem => (all m (by simpa [State.orders] using mem)).silent).add
        fun m mem => (all' m (by simpa [State.flow] using mem)).silent
    have behind (out : List Instr) : Adds Silent out (out ++
        [if s0.store.defaultLoaded then .alarmRaise .configDefault .group else .alarmClear .configDefault .group] ++
        (s0.serial.restart s0.straps cause).out) := by
      obtain ⟨ms, eq, all⟩ := Serial.restart_adds s0.serial s0.straps cause
      rw [eq]
      refine Adds.add (Adds.one (Adds.refl _) fun _ => ?_) fun m mem => (all m (by simpa [State.serial] using mem)).silent
      split <;> rfl
    rw [told_adds (behind _), told_append, told_adds before, kept, log]

/-- A commit (R119). -/
theorem commit : FaultedAgrees s.commit := by
  have frame := s.commit_frame
  let l : Log := ⟨s.store.staging, s.time, s.recorder, []⟩
  have begun : s.commitBegun.log = l := rfl
  have committed := Log.Tells.commit (l := l) (i := s.store.staging) (before := fun d => Machine.told (s.door d).faulted d s.inFlight)
    s.image rfl h.told h.captured
  have image : s.commit.image = s.store.staging := by rw [State.image, State.commit_store]
  have captured (d : DoorId) : s.commit.log.door d = (l.commit s.image).door d := by
    rw [Log.door, State.log_recorder, State.commit_recorder, Log.door]
  have touched (d : DoorId) : TouchedBy false .powerOn s s.commit d := .commit
  have faulted (d : DoorId) : Machine.told (s.commit.door d).faulted d s.inFlight = Machine.told (s.door d).faulted d s.inFlight := by
    have same := ((Work.event_followed (strict := True) (s.commitBegun.work d) (fun w =>
      w.commit s.image.doors[d] (standingOfFresh s.store.staging s.resolver d)) (s.commitBegun.door d) (s.commitBegun.channel d))).faulted
    rw [(s.commit_door d).1, State.worked, same]
    rcases Work.commit_faulted (s.commitBegun.work d) s.image.doors[d] (standingOfFresh s.store.staging s.resolver d) with kept | ⟨was, off⟩
    · rw [kept]
      rfl
    · rw [off]
      have empty : (s.log.door d).capture.isSome = false := by
        by_contra some
        have present := h.captured d (Bool.eq_true_of_not_eq_false some)
        rw [was] at present
        cases present
      have before := (h.told d).trans empty
      rw [before, told_eq_false before]
  have doorsOut : Adds Silent s.inFlight
      (s.commitBegun.doorEvents allDoors fun d w =>
        w.commit s.image.doors[d] (standingOfFresh s.store.staging s.resolver d)).inFlight := by
    rw [State.doorEvents_inFlight _ nodup_allDoors]
    refine Adds.add ((Adds.refl _).one (m := .alarmClear ..) fun _ => rfl) fun m hm => ?_
    obtain ⟨e, -, hm⟩ := List.mem_flatMap.mp hm
    have keeps := Work.commit_keeps (strict := True) (s.commitBegun.work e) s.image.doors[e]
      (standingOfFresh s.store.staging s.resolver e) fun was => (h.presence e).2.mpr ((h.presence e).1.trans was)
    obtain ⟨ms, eq, silent⟩ := State.worked_adds (s := s.commitBegun) (d := e)
      (f := fun w => w.commit s.image.doors[e] (standingOfFresh s.store.staging s.resolver e)) keeps
    rw [eq] at hm
    exact silent m (by simpa using hm)
  refine ⟨fun d => (touched d).presentIn (h.presence d), fun d k => ?_, fun d => ?_, fun d =>
    (touched d).calm (h.presence d) (h.calm d)⟩
  · rw [captured] at k
    rw [image, ← committed.image]
    exact committed.present d k
  · rw [captured, ← committed.told d]
    dsimp only
    rw [← faulted]
    generalize (s.commit.door d).faulted = x
    rw [State.commit_eq, State.commitRest_eq]
    dsimp only
    rw [frame.orders, frame.flow, frame.log, frame.serial, frame.lines, begun]
    have before : Adds Silent s.inFlight
        ((s.commitBegun.doorEvents allDoors fun d w =>
          w.commit s.image.doors[d] (standingOfFresh s.store.staging s.resolver d)).inFlight ++
          (Orders.commit s.image s.commitBegun.orders).out ++ (s.commitBegun.flow.commit s.commitBegun.lines).out) := by
      obtain ⟨ms, eq, all⟩ := Orders.commit_adds s.commitBegun.orders s.image
      obtain ⟨ns, eq', all'⟩ := Flow.commit_adds s.commitBegun.flow s.commitBegun.lines
      rw [eq, eq']
      exact (doorsOut.add fun m mem => (all m (by simpa [State.orders] using mem)).silent).add
        fun m mem => (all' m (by simpa [State.flow] using mem)).silent
    have behind (out : List Instr) : Adds Silent out (out ++ (s.commitBegun.serial.commit s.image).out) := by
      obtain ⟨ms, eq, all⟩ := Serial.commit_adds s.commitBegun.serial s.image
      rw [eq]
      exact Adds.add (Adds.refl _) fun m mem => (all m (by simpa [State.serial] using mem)).silent
    rw [told_adds (behind _), told_append, told_adds before]

omit h in
theorem powerOn : FaultedAgrees s.powerOn := by
  have supplied (stored : Stored) (n : Nat) : FaultedAgrees (.poweredUp s.channels s.lines s.straps stored s.pending n) := by
    generalize ht : State.poweredUp s.channels s.lines s.straps stored s.pending n = t
    have door (d : DoorId) : t.door d = .atPowerOn t.image.doors[d] (standingAtPowerOn t.image d) := by
      rw [← ht]
      exact Vector.getElem_ofFn _
    have empty (d : DoorId) : (t.log.door d).capture = none := by
      rw [← ht]
      simp [State.log, Log.door, State.poweredUp, Recorder.empty, DoorFaults.clear]
    refine ⟨fun d => ?_, fun d k => ?_, fun d => ?_, fun d k => ?_⟩
    · rw [door]
      exact atPowerOn_presentIn _ d
    · rw [empty] at k
      cases k
    · have raises : t.inFlight = powerOnRaises t.store t.port := by rw [← ht]; rfl
      rw [empty, door, raises, told_of_silent fun m mem => ?_]
      · rfl
      · unfold powerOnRaises at mem
        simp only [List.mem_append, List.mem_ite_nil_right, List.mem_singleton] at mem
        rcases mem with ⟨-, rfl⟩ | ⟨-, rfl⟩ <;> rfl
    · rw [door] at k
      cases k
  unfold State.powerOn
  split
  · exact supplied _ _
  · exact supplied _ _

/-- Every event that takes its own message. -/
theorem event {strays : Prop} (event : Event c strays s t) (own : (route? c).isSome = true → ¬strays) : FaultedAgrees t := by
  have adding {ms : List Instr} {p : Instr → Prop} (adds : Adds p [] ms) (silent : ∀ m, p m → Silent m) :
      Adds Silent s.inFlight (s.inFlight ++ ms) := by
    obtain ⟨ns, eq, all⟩ := adds
    exact ⟨ms, rfl, fun m mem => silent m (all m (by rw [eq] at mem; simpa using mem))⟩
  cases event with
  | powerOn => exact .powerOn
  | filter i f same =>
    exact h.quiet (mild := true) (c := c) (by cases i <;> rfl) (by cases i <;> rfl) (fun d => .filter i f same) fun d => by
      cases i <;> rfl
  | input i f _ line =>
    have touched (d : DoorId) : TouchedBy true c s ((s.withFilter i f).inputEvent s i f.filtered) d := .input i f line
    have filtered : FaultedAgrees (s.withFilter .emergency f) := ⟨h.presence, h.captured, h.told, h.calm⟩
    cases i with
    | door e k =>
      have frame := (s.withFilter (.door e k) f).doorEvent_onlyDoor s e fun w => w.inputEvent k f.filtered
      have channel : (s.withFilter (.door e k) f).channel e = (s.channel e).withFilter k f := s.withChannel_channel e _
      have moves := inputEvent_moves (strict := True) ((s.withFilter (.door e k) f).work e) k (active := f.filtered)
        (by rw [State.work, channel, Channel.withFilter_filter]) (h.presence e).2.mp
      refine h.quiet rfl rfl touched fun d => ?_
      have adds : Adds Silent s.inFlight ((s.withFilter (.door e k) f).inputEvent s (.door e k) f.filtered).inFlight :=
        adding (Work.event_adds _ _ moves.toKeeps) fun _ => silent_of_doorTableMakes
      rw [told_adds adds]
      by_cases hd : d = e
      · subst hd
        have same : (((s.withFilter (.door d k) f).inputEvent s (.door d k) f.filtered).door d).faulted = (s.door d).faulted := by
          unfold State.inputEvent
          rw [State.doorEvent_door]
          exact ((Work.event_followed (strict := True) _ _ _ _).faulted).trans moves.faulted
        rw [same]
      · have same : ((s.withFilter (.door e k) f).inputEvent s (.door e k) f.filtered).door d = s.door d := frame.doors d hd
        rw [same]
    | emergency =>
      unfold State.inputEvent
      dsimp only
      split
      · exact filtered.other rfl rfl rfl rfl (adding (Orders.emergency_adds _) fun _ => ByResolver.silent)
      · exact filtered
    | resetPin => exact absurd rfl line
    | mainSupply =>
      exact h.other rfl rfl rfl rfl
        (adding ((Flow.capacityEvent_adds _ _ _).trans (Flow.evalSupply_adds _ _)) fun _ => ByAllocator.silent)
    | pressure k =>
      exact h.other rfl rfl rfl rfl
        (adding ((Flow.capacityEvent_adds _ _ _).trans (Flow.evalLost_adds _ _ _)) fun _ => ByAllocator.silent)
  | primed i =>
    cases i with
    | door e k => exact h.doorEvent e (inputPrimed_moves _ k)
    | mainSupply => exact h.other rfl rfl rfl rfl (adding (Flow.evalSupply_adds s.flow _) fun _ => ByAllocator.silent)
    | pressure k => exact h.other rfl rfl rfl rfl (adding (Flow.evalLost_adds s.flow _ _) fun _ => ByAllocator.silent)
    | emergency | resetPin => exact h
  | door e reaction => exact h.doorEvent e reaction.moves
  | tick e moving short =>
    refine h.quiet (mild := true) (c := c) rfl rfl (fun d => .withDoor e fun he => he ▸ .tick moving short) fun d => ?_
    by_cases hd : d = e
    · rw [hd, State.withDoor_door]
      rfl
    · rw [State.withDoor_door_ne _ _ hd]
      rfl
  | readDoor e r command =>
    refine h.quiet (mild := true) (c := c) rfl rfl (fun d => .withDoor e fun he => he ▸ .read r command) fun d => ?_
    by_cases hd : d = e
    · rw [hd, State.withDoor_door]
      rfl
    · rw [State.withDoor_door_ne _ _ hd]
      rfl
  | deliver m between turn =>
    rcases turn with turn | ⟨stray, rfl⟩
    · exact h.deliver m turn
    · exact absurd stray (own between)
  | orders reaction => exact h.other rfl rfl rfl rfl (adding (Orders.reaction_adds _ reaction) fun _ => ByResolver.silent)
  | isolateDoor e present connected =>
    have ordered : FaultedAgrees (s.ordersEvent fun o => o.isolate e) :=
      h.other rfl rfl rfl rfl (adding (Orders.isolate_adds s.orders e) fun _ => ByResolver.silent)
    have served : ((s.ordersEvent fun o => o.isolate e).work e).door.InService := ⟨connected, present⟩
    exact ordered.doorEventKeeping (c := c) e (Work.isolate_keeps _ served) (Work.isolate_service _ served).2.1 (.isolated served)
  | restoreDoor e isolated idle =>
    have settled : FaultedAgrees (s.doorEvent s e Work.enterSettling) :=
      h.doorEventKeeping (c := c) e (Work.enterSettling_keeps _ isolated idle) rfl (.settles isolated idle)
    refine settled.other rfl rfl rfl rfl ?_
    obtain ⟨ms, eq, all⟩ := Orders.restore_adds (s.doorEvent s e Work.enterSettling).orders e
    exact ⟨ms, congrArg ((s.doorEvent s e Work.enterSettling).inFlight ++ ·) eq, fun m mem => (all m mem).silent⟩
  | log reaction => exact h.logEvent (h.log.reaction reaction)
  | alarms a => exact h.other rfl rfl rfl rfl (.refl _)
  | store x active => exact h.other rfl active rfl rfl (.refl _)
  | written x active draws outcome =>
    refine h.other rfl active rfl rfl ((Adds.refl _).one ?_)
    rcases outcome with rfl | rfl <;> exact fun _ => rfl
  | commit => exact h.commit
  | serial reaction => exact h.other rfl rfl rfl rfl (adding (Serial.reaction_adds _ reaction) fun _ => ToAlarms.silent)
  | pinRestart => exact h.restart _ rfl rfl rfl rfl rfl rfl
  | replyRestart l => exact h.restart _ rfl rfl rfl rfl rfl rfl
  | _ => exact h.other rfl rfl rfl rfl (.refl _)

end

end FaultedAgrees
end

/-- Settles O12: a message of the recorder in its turn tells a door of its capture, and no other event does. -/
theorem faultedFollowsCapture : Obligations.FaultedFollowsCapture := by
  unfold Obligations.FaultedFollowsCapture
  intro s t faulted own hstep
  refine (faultedAgrees_iff t).mp (step_keeps_own ?_ ?_ ((faultedAgrees_iff s).mpr faulted) own hstep)
  · exact fun _ _ h => ⟨h.presence, h.captured, h.told, h.calm⟩
  · exact fun _ _ _ _ own event h => h.event event own

end Sys2Proof.Machine

/-! The order of a step, and the order in which the messages of one way are taken. -/

namespace Sys2Proof.Machine

open Sys2Proof

/-- Settles O1: the front command's meaning is what a step on a queue that is not empty is. -/
theorem stepTakesFrontCommand : Obligations.StepTakesFrontCommand := fun _ _ => rfl

/-! ### What the taking of a message makes -/

/-- What the block a message goes to makes as it takes it. -/
def AnsweredWith : Instr → Instr → Prop
  | .standingAuthorityReport .., x | .handleRuling .., x | .grant .., x | .pause _, x | .captureOccupiedNotice _, x
  | .captureEmptiedNotice _, x => doorTableMakes x = true
  | .handleReferral .., x | .arrivalNotice _, x | .openHandleReleaseNotice _, x =>
    ByResolver x ∨ ∃ d r, x = .handleRuling d r
  | .join .., x | .withdraw _, x | .release _, x | .reversed .., x | .taken .., x | .handedBack _, x => ByAllocator x
  | .faultReport .., x | .mismatchReport .., x | .obstructionNotice _, x | .driftNotice _, x => ByRecorder x
  | _, _ => False

theorem route_of_doorTableMakes {x : Instr} (h : doorTableMakes x = true) (d : DoorId) :
    route? x ≠ some (.toDoorTable d) ∧ route? x ≠ some (.fromAllocator d) ∧ route? x ≠ some (.fromRecorder d) := by
  cases x <;> simp_all [doorTableMakes, route?]

theorem ByResolver.route {x : Instr} (h : ByResolver x ∨ ∃ d r, x = .handleRuling d r) (d : DoorId) :
    route? x ≠ some (.referral d) ∧ route? x ≠ some (.arrival d) ∧ route? x ≠ some (.handleNotice d) := by
  rcases h with h | ⟨e, r, rfl⟩
  · cases x <;> simp_all [ByResolver, route?]
  · simp [route?]

theorem ByAllocator.route {x : Instr} (h : ByAllocator x) (d : DoorId) : route? x ≠ some (.toAllocator d) := by
  cases x <;> simp_all [ByAllocator, route?]

theorem ByRecorder.route {x : Instr} (h : ByRecorder x) (d : DoorId) : route? x ≠ some (.toRecorder d) := by
  cases x <;> simp_all [ByRecorder, route?]

/-- No message is answered on its own way. -/
theorem AnsweredWith.route_ne {m x : Instr} (h : AnsweredWith m x) : route? x ≠ route? m := by
  cases m with
  | standingAuthorityReport d => exact (route_of_doorTableMakes h d).1
  | handleRuling d => exact (route_of_doorTableMakes h d).1
  | grant d => exact (route_of_doorTableMakes h d).2.1
  | pause d => exact (route_of_doorTableMakes h d).2.1
  | captureOccupiedNotice d => exact (route_of_doorTableMakes h d).2.2
  | captureEmptiedNotice d => exact (route_of_doorTableMakes h d).2.2
  | handleReferral d => exact (ByResolver.route h d).1
  | arrivalNotice d => exact (ByResolver.route h d).2.1
  | openHandleReleaseNotice d => exact (ByResolver.route h d).2.2
  | join d => exact ByAllocator.route h d
  | withdraw d => exact ByAllocator.route h d
  | release d => exact ByAllocator.route h d
  | reversed d => exact ByAllocator.route h d
  | taken d => exact ByAllocator.route h d
  | handedBack d => exact ByAllocator.route h d
  | faultReport d => exact ByRecorder.route h d
  | mismatchReport d => exact ByRecorder.route h d
  | obstructionNotice d => exact ByRecorder.route h d
  | driftNotice d => exact ByRecorder.route h d
  | _ => exact h.elim

theorem Orders.referral_adds (o : Orders) (d : DoorId) (handle : Dir) (faulted held : Bool) :
    Adds (fun x => ByResolver x ∨ ∃ d r, x = .handleRuling d r) o.out (o.referral d handle faulted held).out := by
  have ruled (r : Ruling) :
      Adds (fun x => ByResolver x ∨ ∃ d r, x = .handleRuling d r) o.out (o.send (.handleRuling d r)).out :=
    (Adds.refl _).one (.inr ⟨d, r, rfl⟩)
  refine .ite (fun _ => .refl _) fun _ => .ite (fun _ => ruled _) fun _ => .ite (fun _ => ?_) fun _ => ruled _
  exact .ite (fun _ => (ruled _).one (m := .alarmRaise ..) (.inl trivial)) fun _ => ruled _

theorem ToAlarms.byRecorder {m : Instr} (h : ToAlarms m) : ByRecorder m := by cases m <;> trivial

theorem Log.report_adds (l : Log) (d : DoorId) (k : FaultKind) (second : Option FaultKind) (persisting : Bool)
    (x : FaultData) : Adds ByRecorder l.out (l.report d k second persisting x).out := by
  have counted (l : Log) (k : FaultKind) : Adds ByRecorder l.out (l.countFault d k).out :=
    (Log.countFault_adds l d k).mono fun _ => ToAlarms.byRecorder
  have counts (l1 : Log) (h : Adds ByRecorder l.out l1.out) : Adds ByRecorder l.out
      (if persisting then l1
        else match second with
          | none => l1.countFault d k
          | some k' => (l1.countFault d k).countFault d k').out := by
    refine .ite (fun _ => h) fun _ => ?_
    cases second with
    | none => exact h.trans (counted _ _)
    | some k' => exact (h.trans (counted _ _)).trans (counted _ _)
  have fills : Adds ByRecorder l.out (l.fill d k second x).out :=
    ((Adds.refl _).one (m := .alarmRaise ..) trivial).one (m := .captureOccupiedNotice _) trivial
  unfold Log.report
  refine .ite (fun _ => counts _ ?_) fun _ => .refl _
  split
  · exact fills
  · exact .refl _

theorem State.doorEvent_made {s0 s : State} {d : DoorId} {f : Work → Work} {out : List Instr}
    (same : s0.work d = s.work d) (moves : (s.work d).Keeps False .running .running (f (s.work d)))
    (begun : s0.inFlight = out) : Adds (fun x => doorTableMakes x = true) out (s0.doorEvent s0 d f).inFlight := by
  subst begun
  obtain ⟨ms, eq, all⟩ := (s0.work d).event_adds (s0.door d) (s0.channel d) (same ▸ moves)
  exact ⟨ms, congrArg (s0.inFlight ++ ·) (eq.trans (List.nil_append _)), all⟩

/-- What the taking of a message between blocks makes, behind those that stay on their way. -/
theorem State.deliver_made (m : Instr) (between : (route? m).isSome = true) (s : State) :
    Adds (AnsweredWith m) (s.inFlight.erase m) (s.deliver m).inFlight := by
  have moved {f : Work → Work} (d : DoorId) (moves : (s.work d).Moves False .running .running (f (s.work d))) :
      Adds (fun x => doorTableMakes x = true) (s.inFlight.erase m) ((s.taking m).doorEvent (s.taking m) d f).inFlight :=
    doorEvent_made (s := s) rfl moves.toKeeps rfl
  have made {p : Instr → Prop} {out : List Instr} (adds : Adds p [] out) :
      Adds p (s.inFlight.erase m) (s.inFlight.erase m ++ out) := by
    obtain ⟨ms, eq, all⟩ := adds
    exact ⟨ms, congrArg (s.inFlight.erase m ++ ·) eq, all⟩
  cases m with
  | standingAuthorityReport d a => exact moved d (Work.order_moves _ a)
  | handleRuling d r => exact moved d (Work.rule_moves _ r)
  | grant d dir => exact moved d (Work.takeGrant_moves _ dir)
  | pause d => exact moved d (Work.takePause_moves _)
  | captureOccupiedNotice d => exact doorEvent_made (s := s) rfl (Work.occupied_keeps _) rfl
  | captureEmptiedNotice d => exact doorEvent_made (s := s) rfl (Work.emptied_keeps _) rfl
  | handleReferral d handle faulted => exact made (Orders.referral_adds s.orders d handle faulted _)
  | arrivalNotice d => exact (made (Orders.arrival_adds s.orders d)).mono fun _ => .inl
  | openHandleReleaseNotice d => exact (made (Orders.handleReleased_adds s.orders d)).mono fun _ => .inl
  | join d c => exact made (Flow.join_adds s.flow d c)
  | withdraw d => exact made (Flow.withdraw_adds s.flow d)
  | release d => exact made (Flow.release_adds s.flow d)
  | reversed d dir => exact made (Flow.reversed_adds s.flow d dir)
  | taken d dir => exact made (Flow.taken_adds s.flow d dir)
  | handedBack d => exact made (Flow.handedBack_adds s.flow d)
  | faultReport d k second persisting x => exact made (Log.report_adds s.log d k second persisting x)
  | mismatchReport d valve expected =>
    exact (made (Log.mismatch_adds s.log d valve expected)).mono fun _ => ToAlarms.byRecorder
  | obstructionNotice d => exact (made (Log.notice_adds s.log d _)).mono fun _ => ToAlarms.byRecorder
  | driftNotice d => exact (made (Log.notice_adds s.log d _)).mono fun _ => ToAlarms.byRecorder
  | alarmRaise k x => exact .refl _
  | alarmClear k x => exact .refl _
  | alarmResetCondition k x => exact .refl _
  | _ => cases between

/-! ### The order of one way -/

/-- Of messages none of which goes the way of `m`, none is ahead of it. -/
theorem filter_takeWhile_eq_nil {w : Option Route} {m : Instr} {ms : List Instr} (off : ∀ x ∈ ms, route? x ≠ w) :
    ((ms.takeWhile (· != m)).filter fun x => route? x == w) = [] := by
  rw [List.filter_eq_nil_iff]
  intro x hx
  simpa using off x (List.takeWhile_subset _ hx)

/-- The messages ahead of `m` are those of its way among the ones before it. -/
theorem takeWhile_ne_append {m : Instr} {older : List Instr} (absent : m ∉ older) (rest : List Instr) :
    (older ++ rest).takeWhile (· != m) = older ++ rest.takeWhile (· != m) :=
  List.takeWhile_append_of_pos fun x hx => by simpa using ne_of_mem_of_not_mem hx absent

/-- Settles O17: the message `o` is the oldest of its way, so that it is taken alone, and what its taking makes goes other
ways. -/
theorem messagesKeepTheirOrder : Obligations.MessagesKeepTheirOrder := by
  unfold Obligations.MessagesKeepTheirOrder
  intro m o s t older younger flight absent ne between way off run
  have between' : (route? o).isSome = true := way ▸ between
  have o_absent : o ∉ older := fun h => off o h way
  have alone : s.ahead o = [] := by
    rw [State.ahead, flight, takeWhile_ne_append o_absent, List.takeWhile_cons_of_neg (by simp), List.append_nil,
      List.filter_eq_nil_iff]
    intro x hx
    simpa [way] using off x hx
  have taken : t = s.deliver o := by
    rw [exec_message between', State.inOrder, alone] at run
    exact (Host.Outcome.next.inj run).symm
  obtain ⟨made, eq, answers⟩ := s.deliver_made o between'
  have left : t.inFlight = older ++ (younger ++ made) := by
    rw [taken, eq, flight, List.erase_append_right _ o_absent, List.erase_cons_head, List.append_assoc]
  have made_off : ∀ x ∈ made, route? x ≠ route? m := fun x hx => way ▸ (answers x hx).route_ne
  have older_off : (older.filter fun x => route? x == route? m) = [] := by
    rw [List.filter_eq_nil_iff]
    intro x hx
    simpa using off x hx
  have behind : s.ahead m = o :: t.ahead m := by
    rw [State.ahead, State.ahead, flight, left, takeWhile_ne_append absent, takeWhile_ne_append absent,
      List.filter_append, List.filter_append, older_off, List.takeWhile_cons_of_pos (by simpa using Ne.symm ne),
      List.filter_cons_of_pos (by simp [way])]
    refine congrArg (o :: ·) (Eq.trans ?_ (List.nil_append _).symm)
    by_cases mine : m ∈ younger
    · obtain ⟨before, after, rfl, m_absent⟩ := List.eq_append_cons_of_mem mine
      rw [List.append_assoc, List.cons_append, takeWhile_ne_append m_absent, takeWhile_ne_append m_absent,
        List.takeWhile_cons_of_neg (by simp), List.takeWhile_cons_of_neg (by simp)]
    · rw [takeWhile_ne_append mine, List.filter_append, filter_takeWhile_eq_nil made_off, List.append_nil,
        
        List.takeWhile_eq_self_iff.mpr fun x hx => by simpa using ne_of_mem_of_not_mem hx mine]
  rw [exec_message between, exec_message between, State.inOrder, State.inOrder, behind, List.foldl_cons, taken]

end Sys2Proof.Machine

/-! What a step does on an empty queue. -/

namespace Sys2Proof.Machine

open Sys2Proof

/-! ### Doors that stand still -/

theorem Door.atRest_still (c : Channel) (r : Door) : isMoving (r.atRest c).motion = false := by
  unfold Door.atRest
  split <;> rfl

theorem Door.atRest_elapsed (c : Channel) (r : Door) : (r.atRest c).elapsed = r.elapsed := by
  unfold Door.atRest
  split <;> rfl

theorem Door.startsMove_elapsed (c : Channel) (dir : Dir) (a : MotionAuthority) (held : Bool) (r : Door) :
    (r.startsMove c dir a held).elapsed = r.elapsed := by
  unfold Door.startsMove
  split
  · exact r.atRest_elapsed c
  · rfl

theorem Door.startsMove_still (c : Channel) (dir : Dir) (a : MotionAuthority) (held : Bool) (r : Door) :
    isMoving (r.startsMove c dir a held).motion = false := by
  unfold Door.startsMove
  split
  · exact r.atRest_still c
  · rfl

theorem Door.proceeds_elapsed (i : Image) (c : Channel) (r : Door) : (r.proceeds i c).elapsed = r.elapsed := by
  unfold Door.proceeds Door.startsClose
  split
  · split
    · exact r.startsMove_elapsed ..
    · rfl
  · rfl

/-- A door that stands still does not move by R21 either: it joins its class first. -/
theorem Door.proceeds_still (i : Image) (c : Channel) {r : Door} (h : isMoving r.motion = false) :
    isMoving (r.proceeds i c).motion = false := by
  unfold Door.proceeds Door.startsClose
  split
  · split
    · exact r.startsMove_still ..
    · rfl
  · exact h

theorem Door.valveAt_elapsed (i : Image) (c : Channel) (v : Dir) (on : Bool) (r : Door) :
    (r.valveAt i c v on).elapsed = r.elapsed := by
  unfold Door.valveAt
  split <;> (try split) <;> (try split) <;> cases v <;> rfl

/-- What `still` leaves of a record. -/
theorem Door.motion_of_still {r r' : Door} (h : r.still = r'.still) : r.motion = r'.motion := by
  have same := congrArg Door.motion h
  exact same

theorem Door.elapsed_of_still {r r' : Door} (h : r.still = r'.still) : r.elapsed = r'.elapsed := by
  have same := congrArg Door.elapsed h
  exact same

/-! ### The deadline -/

/-- A stroke at its deadline: OVERTRAVEL reported, the stroke over, the door at rest (R33, R55). -/
theorem Work.deadlineExpiry_eq (w : Work) (moving : isMoving w.door.motion = true) :
    w.deadlineExpiry =
      let r : Door := { w.door with elapsed := w.door.deadline }
      { w with
        door := (r.strokeOver w.image w.channel).atRest w.channel
        channel := w.channel.withValve w.door.dir false
        out := w.out ++ [.faultReport w.id .overtravel none false r.asReported] ++ [.release w.id] ++
          restMessages w.id w.channel r } := by
  have waits : w.door.motion ≠ .queued := fun h => by simp [h, isMoving] at moving
  rw [Work.deadlineExpiry, if_pos moving]
  exact Work.endStroke_rest _ waits

/-! ### The stroke tick -/

/-- One door's part of a stroke tick (R50, R55). -/
def State.tickDoor (s : State) (d : DoorId) : State :=
  let r := s.door d
  if isMoving r.motion then
    (if r.elapsed + 1 < r.deadline then s.withDoor d r.tick else s.doorEvent s d Work.deadlineExpiry)
  else s

theorem State.tick_eq (s : State) : s.tick = allDoors.foldl State.tickDoor s := rfl

theorem State.withDoor_onlyDoor (s : State) (d : DoorId) (r : Door) : OnlyDoor d s (s.withDoor d r) :=
  ⟨⟨rfl, rfl, rfl, rfl, rfl, rfl, rfl, rfl, rfl, rfl, rfl⟩, fun _ he => s.withDoor_door_ne r he, fun _ _ => rfl⟩

theorem OnlyDoor.refl (d : DoorId) (s : State) : OnlyDoor d s s := ⟨.refl s, fun _ _ => rfl, fun _ _ => rfl⟩

theorem State.tickDoor_onlyDoor (s : State) (d : DoorId) : OnlyDoor d s (s.tickDoor d) := by
  unfold State.tickDoor
  dsimp only
  split
  · split
    · exact s.withDoor_onlyDoor d _
    · exact s.doorEvent_onlyDoor s d _
  · exact .refl d s

theorem State.tickDoor_inFlight (s : State) (d : DoorId) : s.inFlight ⊆ (s.tickDoor d).inFlight := by
  unfold State.tickDoor
  dsimp only
  split
  · split
    · exact List.Subset.refl _
    · exact List.subset_append_left _ _
  · exact List.Subset.refl _

/-- The ticks of some doors leave the others alone, and every message on its way. -/
theorem State.tickDoors_frame (ds : List DoorId) (s : State) :
    DoorTableOnly s (ds.foldl State.tickDoor s) ∧ s.inFlight ⊆ (ds.foldl State.tickDoor s).inFlight ∧
      ∀ e, e ∉ ds → (ds.foldl State.tickDoor s).door e = s.door e ∧ (ds.foldl State.tickDoor s).channel e = s.channel e := by
  induction ds generalizing s with
  | nil => exact ⟨.refl s, List.Subset.refl _, fun _ _ => ⟨rfl, rfl⟩⟩
  | cons d ds ih =>
    obtain ⟨only, messages, others⟩ := ih (s.tickDoor d)
    have own := s.tickDoor_onlyDoor d
    refine ⟨own.toDoorTableOnly.trans only, List.Subset.trans (s.tickDoor_inFlight d) messages, fun e he => ?_⟩
    rw [List.mem_cons, not_or] at he
    obtain ⟨ne, he⟩ := he
    exact ⟨((others e he).1).trans (own.doors e ne), ((others e he).2).trans (own.channels e ne)⟩

/-- What a tick makes of a door is its own part's work, on the door as it stood before the tick. -/
theorem State.tick_door (s : State) (d : DoorId) : ∃ u : State, u.door d = s.door d ∧ u.channel d = s.channel d ∧
    s.tick.door d = (u.tickDoor d).door d ∧ s.tick.channel d = (u.tickDoor d).channel d ∧
    (u.tickDoor d).inFlight ⊆ s.tick.inFlight := by
  obtain ⟨before, after, split, absent⟩ := List.eq_append_cons_of_mem (mem_allDoors d)
  have absent' : d ∉ after := by
    have once := nodup_allDoors
    rw [split, List.nodup_append] at once
    exact (List.nodup_cons.mp once.2.1).1
  obtain ⟨-, -, same⟩ := s.tickDoors_frame before
  obtain ⟨-, messages, same'⟩ := ((before.foldl State.tickDoor s).tickDoor d).tickDoors_frame after
  refine ⟨before.foldl State.tickDoor s, (same d absent).1, (same d absent).2, ?_⟩
  rw [State.tick_eq, split, List.foldl_append, List.foldl_cons]
  exact ⟨(same' d absent').1, (same' d absent').2, messages⟩

/-- One door's part of a tick that brings E to D. -/
theorem State.tickDoor_expires {s : State} {d : DoorId} (moving : isMoving (s.door d).motion = true)
    (due : (s.door d).deadline ≤ (s.door d).elapsed + 1) :
    isMoving ((s.tickDoor d).door d).motion = false ∧ ((s.tickDoor d).door d).elapsed = (s.door d).deadline ∧
      .faultReport d .overtravel none false { s.door d with elapsed := (s.door d).deadline }.asReported ∈
        (s.tickDoor d).inFlight := by
  have event : s.tickDoor d = s.doorEvent s d Work.deadlineExpiry := by
    rw [State.tickDoor, if_pos moving, if_neg (by omega)]
  have reaction := (s.work d).deadlineExpiry_eq moving
  have record : ((s.tickDoor d).door d).still = (((s.work d).deadlineExpiry.door.proceeds s.image
      ((s.channel d).withValve (s.door d).dir false))).still := by
    rw [event, State.doorEvent_door, Work.event_still, Work.startIfDue_eq _ (by rw [reaction]; rfl), reaction]
    rfl
  refine ⟨?_, ?_, ?_⟩
  · rw [Door.motion_of_still record, reaction]
    exact Door.proceeds_still _ _ (Door.atRest_still ..)
  · rw [Door.elapsed_of_still record, Door.proceeds_elapsed, reaction]
    exact (Door.atRest_elapsed ..).trans (Door.valveAt_elapsed ..)
  · rw [event, State.doorEvent_inFlight, Work.event_out, Work.startIfDue_eq _ (by rw [reaction]; rfl), reaction]
    simp [State.work]

/-- Settles O2: what `State.idle` takes first, and the tick door by door. -/
theorem idleStepOrder : Obligations.IdleStepOrder := by
  unfold Obligations.IdleStepOrder
  intro s empty
  have idles : step s = s.idle := by rw [step, empty]
  rw [idles]
  refine ⟨fun m ms h => by rw [State.idle, h], fun h c ha => by rw [State.idle, h, ha],
    fun h ha c hb => by rw [State.idle, h, ha, hb], fun h ha hb => ?_⟩
  refine ⟨s.tick, by rw [State.idle, h, ha, hb], (s.tickDoors_frame allDoors).1, fun d => ?_⟩
  obtain ⟨u, door, channel, ticked, ticked', messages⟩ := s.tick_door d
  rw [ticked, ticked', ← door, ← channel]
  refine ⟨fun still => ?_, fun moving short => ?_, fun moving due => ?_⟩
  · rw [State.tickDoor, if_neg (by simp [still])]
    exact ⟨rfl, rfl⟩
  · rw [State.tickDoor, if_pos moving, if_pos short]
    exact ⟨u.withDoor_door d _, rfl⟩
  · obtain ⟨stands, elapsed, reported⟩ := State.tickDoor_expires moving due
    exact ⟨stands, elapsed, messages reported⟩

end Sys2Proof.Machine

/-! How a request that waits is taken to its reply, and the rows of the kind-code table. -/

namespace Sys2Proof.Machine

open Sys2Proof

/-! ### The kind-code table -/

/-- The rows of R173: the kind code of each request, the lengths of its body and its owner's part. -/
inductive RequestRow (r : Req) : Byte → List Nat → (List Byte → State → Answer) → Prop
  | identify : RequestRow r 0x01 [0] State.identify
  | groupStatus : RequestRow r 0x02 [0] State.groupStatus
  | doorStatus : RequestRow r 0x03 [2] State.doorStatus
  | alarmRead : RequestRow r 0x04 [1] State.alarmRead
  | alarmAck : RequestRow r 0x05 [1, 3] State.alarmAck
  | modeSet : RequestRow r 0x06 [1] State.modeSet
  | closeDoors : RequestRow r 0x07 [3] State.closeDoors
  | closeZones : RequestRow r 0x08 [1] State.closeZones
  | releaseDoors : RequestRow r 0x09 [3] State.releaseDoors
  | isolate : RequestRow r 0x0A [1] State.isolate
  | restore : RequestRow r 0x0B [1] State.restore
  | faultClear : RequestRow r 0x0C [3] State.faultClear
  | floodSet : RequestRow r 0x0D [1] State.floodSet
  | floodClear : RequestRow r 0x0E [1] State.floodClear
  | emergencyRelease : RequestRow r 0x0F [0] State.emergencyRelease
  | driveTest : RequestRow r 0x10 [1] State.driveTest
  | captureRead : RequestRow r 0x11 [1] State.captureRead
  | driveCaptureRead : RequestRow r 0x12 [0] State.driveCaptureRead
  | maintRead : RequestRow r 0x13 [1] State.maintRead
  | countersClear : RequestRow r 0x14 [3] State.countersClear
  | linesRead : RequestRow r 0x15 [0] State.linesRead
  | linesClear : RequestRow r 0x16 [1] State.linesClear
  | supervisionSet : RequestRow r 0x17 [1] State.supervisionSet
  | timeSet : RequestRow r 0x18 [4] State.timeSet
  | configRead : RequestRow r 0x19 [3] State.configRead
  | configStage : RequestRow r 0x1A [29, 49] State.configStage
  | configCommit : RequestRow r 0x1B [0] State.configCommit
  | configDiscard : RequestRow r 0x1C [0] State.configDiscard
  | restart : RequestRow r 0x1D [0] (State.restartRequested r.line)

section
variable {r : Req} {kind : Byte} {lens : List Nat} {owner : List Byte → State → Answer}

theorem RequestRow.exec (h : RequestRow r kind lens owner) (s : State) :
    exec (decodeRequest kind r) s = .next (s.serve (decodeRequest kind r) kind r lens owner) := by
  cases h <;> rfl

theorem RequestRow.bodyLengths (h : RequestRow r kind lens owner) : bodyLengths kind = some lens := by
  cases h <;> rfl

end

/-- A kind code below 0x80 outside 0x01-0x1D has no row (R173). -/
theorem unlisted_of_range : ∀ kind : Byte, kind.toNat < 0x80 → kind.toNat = 0 ∨ 0x1D < kind.toNat →
    bodyLengths kind = none ∧ unknownKind kind = true := by
  decide

/-- A kind code below 0x80 is one that a row of the table gives, or one that it does not list (R168, R173). -/
theorem listed_or_unknown {kind : Byte} (r : Req) (low : kind.toNat < 0x80) :
    (∃ lens owner, RequestRow r kind lens owner) ∨
      bodyLengths kind = none ∧ unknownKind kind = true ∧ decodeRequest kind r = .unknownKindRequest kind r := by
  have named {n : Nat} (h : kind.toNat = n) : kind = BitVec.ofNat 8 n := by
    rw [← h, BitVec.ofNat_toNat, BitVec.setWidth_eq]
  unfold decodeRequest
  split
  case h_30 =>
    have range : kind.toNat = 0 ∨ 0x1D < kind.toNat := by
      simp only [imp_false] at *
      omega
    obtain ⟨none, unknown⟩ := unlisted_of_range kind low range
    exact .inr ⟨none, unknown, rfl⟩
  all_goals
    rename_i code
    rw [named code]
    exact .inl ⟨_, _, by constructor⟩

/-! ### A request that waits -/

/-- The state in which a request has been taken from its line (R167). -/
def State.begun (s : State) (r : Req) : State := s.withLine r.line (s.port.line r.line).busyTaking

section
variable {s u : State} {c : Instr} {r : Req} {kind : Byte} {reason : Option Reason} {data : List Byte}

theorem State.meet_waits (h : Waits s c r) : s.meet c r true = .taken (s.begun r) := by
  unfold State.meet
  simp [h.noReply, h.waiting, h.noRestart, State.begun]

/-- A request that waits is taken and answered. -/
theorem State.serve_waits (h : Waits s c r) (lens : List Nat) (owner : List Byte → State → Answer) :
    s.serve c kind r lens owner = (s.begun r).answer kind r lens owner := by
  rw [State.serve, h.addressed, Bool.not_false, Bool.true_or, State.meet_waits h]

theorem State.answer_refused {lens : List Nat} {owner : List Byte → State → Answer} {reason : Reason}
    (length : r.body.length ∈ lens) (part : owner r.body u = .refused reason data) :
    u.answer kind r lens owner = u.reply kind r (some reason) data := by
  rw [State.answer, State.carryOut, if_pos length, part]

theorem State.answer_badLength {lens : List Nat} {owner : List Byte → State → Answer} (length : r.body.length ∉ lens) :
    u.answer kind r lens owner = u.reply kind r (some .badLength) [] := by
  rw [State.answer, State.carryOut, if_neg length]

theorem State.answer_accepted {lens : List Nat} {owner : List Byte → State → Answer} {t : State}
    (length : r.body.length ∈ lens) (part : owner r.body u = .accepted t data) :
    u.answer kind r lens owner = (t.complete u.inFlight.length).reply kind r none data := by
  rw [State.answer, State.carryOut, if_pos length, part]

theorem State.answer_completed {lens : List Nat} {owner : List Byte → State → Answer} {t : State}
    (length : r.body.length ∈ lens) (part : owner r.body u = .completed t data) :
    u.answer kind r lens owner = t.reply kind r none data := by
  rw [State.answer, State.carryOut, if_pos length, part]

/-! ### The reply -/

/-- A reply changes the port alone. -/
theorem State.reply_eq (u : State) : u.reply kind r reason data = { u with port := (u.reply kind r reason data).port } := by
  unfold State.reply
  dsimp only
  split <;> rfl

theorem State.begun_eq (s : State) (r : Req) : s.begun r = { s with port := (s.begun r).port } := rfl

theorem Port.withLine_withLine (p : Port) (l : Line) (y z : LinePort) : (p.withLine l y).withLine l z = p.withLine l z := by
  cases l <;> rfl

theorem Port.withLine_address (p : Port) (l : Line) (y : LinePort) : (p.withLine l y).address = p.address := by
  cases l <;> rfl

theorem Port.withLine_flags (p : Port) (l : Line) (y : LinePort) :
    (p.withLine l y).restarted = p.restarted ∧ (p.withLine l y).remoteWasLost = p.remoteWasLost := by
  cases l <;> exact ⟨rfl, rfl⟩

/-- The attention field is no concern of a line. -/
theorem State.withLine_attention (u : State) (l : Line) (y : LinePort) : (u.withLine l y).attention = u.attention := by
  obtain ⟨restarted, lost⟩ := u.port.withLine_flags l y
  unfold State.attention
  rw [State.withLine_port, restarted, lost]
  rfl

/-- The reply to an addressed request is being sent on its line (R168, R169). -/
theorem State.reply_answered (u : State) (addressed : r.broadcast = false) :
    Answered u.port r kind reason data (u.reply kind r reason data) := by
  have replied : u.reply kind r reason data = u.withLine r.line
      { (u.port.line r.line).busyTaking with
        reply := some (replyFrame u.port.address kind reason u.attention data) } := by
    unfold State.reply
    simp [addressed]
  rw [Answered, replied, State.withLine_attention]
  rfl

/-- Taking the request from its line beforehand makes no difference to the reply. -/
theorem answered_begun {t : State} :
    Answered (s.begun r).port r kind reason data t ↔ Answered s.port r kind reason data t := by
  unfold Answered State.begun
  rw [State.withLine_port, Port.withLine_withLine, Port.withLine_line, Port.withLine_address]
  rfl

/-- What a refusal leaves: the reply alone. -/
structure Replied (s : State) (r : Req) (kind : Byte) (reason : Option Reason) (data : List Byte) (t : State) : Prop where
  answered : Answered s.port r kind reason data t
  eq : t = { s with port := t.port }

theorem Replied.onlyPort {t : State} (h : Replied s r kind reason data t) : OnlyPort s t ∧ t.inFlight = s.inFlight := by
  rw [h.eq]
  exact ⟨⟨rfl, rfl, rfl, rfl, rfl, rfl, rfl, rfl, rfl, rfl, rfl, rfl⟩, rfl⟩

/-- A request that waits and is answered where its owner has changed nothing. -/
theorem State.begun_reply (h : Waits s c r) : Replied s r kind reason data ((s.begun r).reply kind r reason data) :=
  ⟨answered_begun.mp ((s.begun r).reply_answered h.addressed), (s.begun r).reply_eq⟩

/-- A request whose owner refuses it. -/
theorem State.serve_refused {lens : List Nat} {owner : List Byte → State → Answer} {reason : Reason} (h : Waits s c r)
    (length : r.body.length ∈ lens) (part : owner r.body (s.begun r) = .refused reason data) :
    Replied s r kind (some reason) data (s.serve c kind r lens owner) := by
  rw [State.serve_waits h, State.answer_refused length part]
  exact State.begun_reply h

/-- A request that waits behind messages of which none completes and whose owner makes none that does. -/
theorem State.serve_accepted {lens : List Nat} {owner : List Byte → State → Answer} {t : State} (h : Waits s c r)
    (length : r.body.length ∈ lens) (part : owner r.body (s.begun r) = .accepted t data) :
    s.serve c kind r lens owner = (t.complete s.inFlight.length).reply kind r none data := by
  rw [State.serve_waits h, State.answer_accepted length part]
  rfl

theorem State.serve_completed {lens : List Nat} {owner : List Byte → State → Answer} {t : State} (h : Waits s c r)
    (length : r.body.length ∈ lens) (part : owner r.body (s.begun r) = .completed t data) :
    s.serve c kind r lens owner = t.reply kind r none data := by
  rw [State.serve_waits h, State.answer_completed length part]

/-- An owner's part that makes no message is followed by no completion. -/
theorem State.complete_of_quiet {t : State} (quiet : t.inFlight = s.inFlight) : t.complete s.inFlight.length = t := by
  refine State.complete_of_none fun m hm => ?_
  rw [quiet, List.drop_length] at hm
  cases hm

/-- A request whose owner reads. -/
theorem State.serve_read {lens : List Nat} {owner : List Byte → State → Answer} (h : Waits s c r)
    (length : r.body.length ∈ lens) (part : owner r.body (s.begun r) = .accepted (s.begun r) data) :
    Replied s r kind none data (s.serve c kind r lens owner) := by
  rw [State.serve_accepted h length part, State.complete_of_quiet (s := s) (t := s.begun r) rfl]
  exact State.begun_reply h

/-- Whether a reply is a refusal stands in its frame. -/
theorem Answered.reason_isSome {p q : Port} {reason' : Option Reason} {data' : List Byte} {t : State}
    (h : Answered p r kind reason data t) (k : Answered q r kind reason' data' t) : reason.isSome = reason'.isSome := by
  have lines : (p.withLine r.line (answeredLine (p.line r.line) (replyFrame p.address kind reason t.attention data))).line
        r.line =
      (q.withLine r.line (answeredLine (q.line r.line) (replyFrame q.address kind reason' t.attention data'))).line r.line :=
    congrArg (·.line r.line) (h.symm.trans k)
  rw [Port.withLine_line, Port.withLine_line] at lines
  have frames := Option.some.inj (congrArg LinePort.reply lines)
  have status := congrArg (fun frame : List Byte => frame[4]?) frames
  cases reason <;> cases reason' <;> first | rfl | simp [replyFrame, statusBytes] at status

end

/-! ### Refusals -/

/-- Settles O19: a refusal is the one answer whose reply says REFUSED, and it leaves the reply alone. -/
theorem refusalsChangeNothing : Obligations.RefusalsChangeNothing := by
  unfold Obligations.RefusalsChangeNothing
  intro kind r s low waits
  rcases listed_or_unknown r low with ⟨lens, owner, listed⟩ | ⟨unlisted, unknown, command⟩
  · have run := listed.exec s
    refine ⟨fun t reason data meaning answered => ?_, fun none => ?_, fun lens' row length => ?_⟩
    · have served : t = s.serve (decodeRequest kind r) kind r lens owner :=
        (Host.Outcome.next.inj (run.symm.trans meaning)).symm
      rw [State.serve_waits waits, State.answer] at served
      have accepted {u : State} {data' : List Byte} (replied : t = u.reply kind r none data') : False := by
        have other := u.reply_answered (kind := kind) (reason := none) (data := data') waits.addressed
        rw [← replied] at other
        cases answered.reason_isSome other
      split at served
      · rw [served]
        exact (State.begun_reply waits).onlyPort
      · exact (accepted served).elim
      · exact (accepted served).elim
    · rw [listed.bodyLengths] at none
      cases none
    · cases row.symm.trans listed.bodyLengths
      refine ⟨_, run, ?_⟩
      rw [State.serve_waits waits, State.answer_badLength length]
      have replied := State.begun_reply (kind := kind) (reason := some .badLength) (data := []) waits
      exact ⟨replied.answered, replied.onlyPort⟩
  · have run : exec (decodeRequest kind r) s = .next ((s.begun r).reply kind r (some .unknownKind) []) := by
      rw [command] at waits ⊢
      show execUnknownKindRequest kind r s = _
      rw [execUnknownKindRequest, if_pos unknown, waits.addressed, Bool.not_false, State.meet_waits waits]
    have replied := State.begun_reply (kind := kind) (reason := some .unknownKind) (data := []) waits
    refine ⟨fun t reason data meaning _ => ?_, fun _ => ⟨_, run, replied.answered, replied.onlyPort⟩,
      fun lens row => absurd row (by rw [unlisted]; nofun)⟩
    rw [run] at meaning
    cases meaning
    exact replied.onlyPort

end Sys2Proof.Machine

/-! What each reaction of the door table makes of a door: its record, its channel and its messages (chapter 2). -/

namespace Sys2Proof.Machine

open Sys2Proof

/-! ### One event as a whole -/

/-- A message whose turn has come is taken alone. -/
theorem exec_first {m : Instr} {s : State} (between : (route? m).isSome = true) (first : FirstOnItsWay s m) :
    exec m s = .next (s.deliver m) := by
  rw [exec_message between, State.inOrder_of_first first]

section
variable (s before : State) (d : DoorId) (f : Work → Work) (r : Door) (ms : List Instr)

/-- A door event that leaves a door which is not due. -/
theorem State.doorEvent_leaves_idle (o c : Bool)
    (hf : f (s.work d) = ⟨s.image, d, r, { s.channel d with openValve := o, closeValve := c }, ms, false⟩)
    (idle : r.due = false) : Leaves d s (s.doorEvent before d f) r o c ms := by
  have leaves := s.doorEvent_leaves before d f r o c ms hf
  rwa [Door.proceeds_of_not_due _ _ idle, proceedMessages_of_not_due _ _ _ idle, List.append_nil] at leaves

theorem State.doorEvent_leavesUndriven_idle (hf : f (s.work d) = ⟨s.image, d, r, s.channel d, ms, false⟩)
    (idle : r.due = false) : LeavesUndriven d s (s.doorEvent before d f) r ms :=
  s.doorEvent_leaves_idle before d f r ms _ _ hf idle

theorem State.doorEvent_leavesUndriven_barred (hf : f (s.work d) = ⟨s.image, d, r, s.channel d, ms, true⟩) :
    LeavesUndriven d s (s.doorEvent before d f) r ms :=
  s.doorEvent_leaves_barred before d f r _ _ ms hf

end

/-! ### Doors that are not due -/

theorem Door.due_of_faulted {r : Door} (h : r.faulted = true) : r.due = false := by
  simp [Door.due, h]

theorem Door.due_of_motion {r : Door} (h : r.motion ≠ .opened) (k : r.motion ≠ .stopped) : r.due = false := by
  simp [Door.due, h, k]

theorem Door.due_of_transit {r : Door} (h : r.transit = true) : r.due = false := by
  simp [Door.due, h]

theorem Door.due_of_standing {r : Door} (h : r.standing = .none) : r.due = false := by
  simp [Door.due, h]

/-! ### A door's fault (R43, R44) -/

/-- A door whose fault holds it (R43). -/
def Door.heldByFault (c : Channel) (r : Door) : Door :=
  if r.motion = .warning ∨ r.motion = .dwell ∨ r.motion = .queued then r.outOfTransit.atRest c
  else { r.outOfTransit with edgeWait := .none, edgeTimer := none }

theorem Door.atRest_faulted (c : Channel) (r : Door) : (r.atRest c).faulted = r.faulted := by
  unfold Door.atRest
  split <;> rfl

theorem Door.heldByFault_faulted (c : Channel) (r : Door) : (r.heldByFault c).faulted = r.faulted := by
  unfold Door.heldByFault
  split
  · exact Door.atRest_faulted c _
  · rfl

theorem restMessages_outOfTransit (d : DoorId) (c : Channel) (r : Door) : restMessages d c r.outOfTransit = [] := by
  unfold restMessages
  split <;> rfl

theorem Work.heldByFault_eq (w : Work) :
    w.heldByFault =
      { w with
        door := w.door.heldByFault w.channel
        out := w.out ++ (transitMessages w.id w.door ++ if w.door.motion = .queued then [.withdraw w.id] else []) } := by
  have rests (h : w.door.motion = .warning ∨ w.door.motion = .dwell ∨ w.door.motion = .queued) :
      w.clearTransit.rest =
        { w with
          door := w.door.heldByFault w.channel
          out := w.out ++ (transitMessages w.id w.door ++ if w.door.motion = .queued then [.withdraw w.id] else []) } := by
    rw [Work.rest_eq, Work.clearTransit_eq, Door.heldByFault, if_pos h]
    dsimp only
    rw [restMessages_outOfTransit, List.append_nil, List.append_assoc]
    rfl
  have stays (h : ¬(w.door.motion = .warning ∨ w.door.motion = .dwell ∨ w.door.motion = .queued)) :
      w.clearTransit.endEdgeWait =
        { w with
          door := w.door.heldByFault w.channel
          out := w.out ++ (transitMessages w.id w.door ++ if w.door.motion = .queued then [.withdraw w.id] else []) } := by
    have queued : w.door.motion ≠ .queued := fun q => h (.inr (.inr q))
    rw [Work.clearTransit_eq, Door.heldByFault, if_neg h, if_neg queued, List.append_nil]
    rfl
  have motion : w.clearTransit.door.motion = w.door.motion := by
    rw [Work.clearTransit_eq]
    rfl
  unfold Work.heldByFault
  dsimp only
  split <;> rename_i stands <;> rw [motion] at stands
  case h_1 | h_2 | h_3 => exact rests (by simp [stands])
  all_goals exact stays (by simp [stands])

theorem Work.noteConflict_eq (w : Work) :
    w.noteConflict = { w with door := { w.door with
      settle := { w.door.settle with conflict := w.door.settle.conflict || w.door.motion == .settling } } } := by
  unfold Work.noteConflict
  split
  · next settling => simp [settling]
  · next other => simp [beq_false_of_ne other]

/-- A present door whose capture has been emptied is looked at again (R44). -/
theorem Work.emptied_examined (w : Work) {mismatches conflicts : Bool} (here : w.door.motion ≠ .absent)
    (present : w.config.present = true) (hm : w.mismatchStands = mismatches)
    (hc : (w.channel.conflict && w.door.motion != .isolated) = conflicts) :
    w.emptied =
      if mismatches = true ∨ conflicts = true then
        let w1 := (w.withFaulted false).report (if mismatches then .driveFault else .switchConflict)
          (if mismatches && conflicts then some .switchConflict else none) true
        { (if conflicts then w1.noteConflict else w1) with dueBarred := true }
      else w.withFaulted false := by
  unfold Work.emptied
  rw [if_neg (not_or.mpr ⟨here, by simp [present]⟩)]
  dsimp only
  split <;> rename_i m c <;> cases hm.symm.trans m <;> cases hc.symm.trans c <;> rfl

/-- Settles O35: an occupied capture by `Work.heldByFault_eq`, an emptied one by the conditions that persist. -/
theorem captureNotices_taken : Obligations.CaptureNotices := by
  unfold Obligations.CaptureNotices
  refine ⟨fun s d => ?_, fun s d => ?_⟩
  · intro m r c faulted first
    have made (r' : Door) (ms : List Instr)
        (reaction : Work.occupied ((s.taking m).work d) = ⟨s.image, d, r', c, ms, false⟩) (idle : r'.due = false) :
        LeavesUndriven d (s.taking m) (s.deliver m) r' ms :=
      (s.taking m).doorEvent_leavesUndriven_idle _ d Work.occupied r' ms reaction idle
    have held (here : r.motion ≠ .absent) : Work.occupied ((s.taking m).work d) =
        ⟨s.image, d, faulted.heldByFault c,  c,
          transitMessages d r ++ if r.motion = .queued then [.withdraw d] else [], false⟩ := by
      rw [Work.occupied_present _ here, Work.heldByFault_eq]
      rfl
    have faults (h : r.motion = .warning ∨ r.motion = .dwell ∨ r.motion = .queued) : faulted.heldByFault c = faulted.atRest c :=
      if_pos h
    have idle : (faulted.heldByFault c).due = false :=
      Door.due_of_faulted (Door.heldByFault_faulted c faulted)
    refine ⟨s.deliver m, exec_first rfl first, fun absent => ?_, fun timed => ?_, fun queued => ?_, fun here nw nd nq => ?_⟩
    · exact made _ _ (Work.occupied_absent _ absent) (Door.due_of_motion (by simp [absent]) (by simp [absent]))
    · have here : r.motion ≠ .absent := by rcases timed with h | h <;> simp [h]
      have nq : r.motion ≠ .queued := by rcases timed with h | h <;> simp [h]
      have leaves := made _ _ (held here) idle
      rwa [faults (timed.imp_right .inl), if_neg nq, List.append_nil] at leaves
    · have leaves := made _ _ (held (by simp [queued])) idle
      rwa [faults (.inr (.inr queued)), if_pos queued] at leaves
    · have leaves := made _ _ (held here) idle
      have stays : faulted.heldByFault c = { faulted with edgeWait := .none, edgeTimer := none } :=
        if_neg fun h => h.elim nw fun h => h.elim nd nq
      rwa [stays, if_neg nq, List.append_nil] at leaves
  · intro m r c i cleared noted mismatch conflict first
    have made (r' : Door) (ms : List Instr)
        (reaction : Work.emptied ((s.taking m).work d) = ⟨i, d, r', c, ms, true⟩) :
        LeavesUndriven d (s.taking m) (s.deliver m) r' ms :=
      (s.taking m).doorEvent_leavesUndriven_barred _ d Work.emptied r' ms reaction
    let w : Work := (s.taking m).work d
    have examined (here : r.motion ≠ .absent) (present : i.doors[d].present = true) {mismatches conflicts : Bool}
        (hm : w.mismatchStands = mismatches) (hc : (c.conflict && r.motion != .isolated) = conflicts) :=
      w.emptied_examined here present hm hc
    have mismatches : mismatch ↔ w.mismatchStands = true := by
      simp [mismatch, Work.mismatchStands, w, State.work, Work.config, r, i]
    have conflicts : conflict ↔ (c.conflict && r.motion != .isolated) = true := by
      simp [conflict, Channel.conflict, and_assoc]
    have notes (ms : List Instr) : Work.noteConflict ⟨i, d, cleared, c, ms, false⟩ = ⟨i, d, noted, c, ms, false⟩ :=
      Work.noteConflict_eq _
    refine ⟨s.deliver m, exec_first rfl first, fun gone => ?_, fun here present => ⟨fun hm hc => ?_, fun hm hc => ?_,
      fun hm hc => ?_, fun hm hc => ?_⟩⟩
    · exact made _ _ (if_pos gone)
    · refine made _ _ ((examined here present (mismatches.mp hm) (conflicts.mp hc)).trans ?_)
      exact congrArg (fun w : Work => { w with dueBarred := true }) (notes _)
    · exact made _ _ (examined here present (mismatches.mp hm) (Bool.eq_false_of_not_eq_true fun h => hc (conflicts.mpr h)))
    · refine made _ _ ((examined here present (Bool.eq_false_of_not_eq_true fun h => hm (mismatches.mpr h)) (conflicts.mp hc)).trans ?_)
      exact congrArg (fun w : Work => { w with dueBarred := true }) (notes _)
    · refine (s.taking m).doorEvent_leavesUndriven _ d Work.emptied cleared [] ?_
      exact examined here present (Bool.eq_false_of_not_eq_true fun h => hm (mismatches.mpr h)) (Bool.eq_false_of_not_eq_true fun h => hc (conflicts.mpr h))

end Sys2Proof.Machine

/-! A request leaves no message on its way that completes: what each message causes weighs less than the message. -/

namespace Sys2Proof.Machine

open Sys2Proof

/-! ### What a message causes -/

/-- A bound on the messages that complete which a message causes in all its turns, itself among them. -/
def weight : Instr → Nat
  | .alarmRaise .. | .alarmClear .. | .alarmResetCondition .. => 1
  | .mismatchReport .. | .obstructionNotice _ | .driftNotice _ | .captureOccupiedNotice _ => 2
  | .standingAuthorityReport .. => 4
  | .faultReport .. => 6
  | .captureEmptiedNotice _ => 7
  | _ => 0

/-- What some messages weigh together. -/
def load (ms : List Instr) : Nat := (ms.map weight).sum

theorem load_append (ms ns : List Instr) : load (ms ++ ns) = load ms + load ns := by
  rw [load, List.map_append, List.sum_append]
  rfl

theorem weight_le (m : Instr) : weight m ≤ 7 := by
  cases m <;> simp [weight]

theorem load_le (ms : List Instr) : load ms ≤ 7 * ms.length := by
  induction ms with
  | nil => exact Nat.le_refl 0
  | cons m ms ih =>
    have := weight_le m
    rw [List.length_cons, show load (m :: ms) = weight m + load ms from rfl]
    omega

theorem load_erase {ms : List Instr} {m : Instr} (h : m ∈ ms) : load (ms.erase m) + weight m = load ms := by
  rw [load, load, ((List.perm_cons_erase h).map weight).sum_eq, List.map_cons, List.sum_cons]
  omega

theorem weight_pos {m : Instr} (h : completes m = true) : 1 ≤ weight m := by
  cases m <;> simp_all [completes, weight]

theorem weight_le_load {ms : List Instr} {m : Instr} (h : m ∈ ms) : weight m ≤ load ms := by
  rw [← load_erase h]
  omega

/-- A message that no ruling is. -/
def Plain : Instr → Prop
  | .handleRuling .. => False
  | _ => True

theorem plain_of_doorTableMakes {m : Instr} (h : doorTableMakes m = true) : Plain m := by
  cases m <;> trivial

theorem ByResolver.plain {m : Instr} (h : ByResolver m) : Plain m := by
  cases m <;> trivial

theorem ByAllocator.plain {m : Instr} (h : ByAllocator m) : Plain m := by
  cases m <;> trivial

theorem ByRecorder.plain {m : Instr} (h : ByRecorder m) : Plain m := by
  cases m <;> trivial

theorem ToAlarms.plain {m : Instr} (h : ToAlarms m) : Plain m := h.byRecorder.plain

/-! ### What the door table makes as it takes a message -/

theorem load_transitMessages (d : DoorId) (r : Door) : load (transitMessages d r) ≤ 1 := by
  unfold transitMessages
  split <;> simp [load, weight]

theorem load_restMessages (d : DoorId) (c : Channel) (r : Door) : load (restMessages d c r) ≤ 1 := by
  unfold restMessages
  split
  · exact load_transitMessages d r
  · exact Nat.zero_le 1

theorem load_proceedMessages (i : Image) (d : DoorId) (c : Channel) (r : Door) : load (proceedMessages i d c r) ≤ 1 := by
  unfold proceedMessages closeMessages moveMessages
  split
  · split
    · split
      · exact load_restMessages d c r
      · exact Nat.zero_le 1
    · exact Nat.zero_le 1
  · exact Nat.zero_le 1

namespace Work

variable (w : Work)

theorem startIfDue_load : load w.startIfDue.out ≤ load w.out + 1 := by
  cases barred : w.dueBarred
  · rw [w.startIfDue_eq barred, load_append]
    exact Nat.add_le_add_left (load_proceedMessages ..) _
  · rw [w.startIfDue_barred barred]
    omega

theorem rest_load : load w.rest.out ≤ load w.out + 1 := by
  have rests := load_restMessages w.id w.channel w.door
  rw [w.rest_eq, load_append, load_append]
  split <;> simpa [load, weight] using rests

theorem stopAndRest_load : load w.stopAndRest.out ≤ load w.out + 1 := by
  unfold stopAndRest
  refine (rest_load _).trans (Nat.add_le_add_right ?_ 1)
  split
  · rw [w.endStroke_other, load_append]
    exact Nat.le_refl _
  · exact Nat.le_refl _

theorem clearTransit_load : load w.clearTransit.out ≤ load w.out + 1 := by
  rw [w.clearTransit_eq, load_append]
  exact Nat.add_le_add_left (load_transitMessages ..) _

theorem order_load (a : Standing) : load (w.order a).out ≤ load w.out + 2 := by
  have rises (w : Work) : load (w.orderRises a).out ≤ load w.out + 2 := by
    unfold orderRises
    split <;> first | exact (stopAndRest_load w).trans (by omega) | (split <;> exact Nat.le_add_right _ 2) |
      exact Nat.le_add_right _ 2
  have changes (w : Work) : load (w.orderChanges a).out ≤ load w.out + 2 := by
    unfold orderChanges
    split <;> first | exact Nat.le_add_right _ 2 | (split <;> exact Nat.le_add_right _ 2)
  have ends (w : Work) (transit : Bool) : load (w.orderEnds transit).out ≤ load w.out + 1 := by
    unfold orderEnds
    split <;> first | exact rest_load w | exact Nat.le_add_right _ 1 |
      (split <;> first | exact Nat.le_add_right _ 1 | exact rest_load w)
  have stays : load w.out ≤ load w.out + 2 := Nat.le_add_right _ 2
  unfold order
  split
  · exact stays
  · exact stays
  all_goals
    split
    · exact stays
    · split
      · exact rises _
      · split
        · exact (ends _ _).trans (Nat.add_le_add_right (clearTransit_load _) 1)
        · exact changes _

/-- A door that its fault holds makes the end of its transit alone of what completes, and is not due. -/
theorem occupied_load : load w.occupied.startIfDue.out ≤ load w.out + 1 := by
  by_cases absent : w.door.motion = .absent
  · rw [w.occupied_absent absent]
    exact w.startIfDue_load
  · have faulted : (w.withFaulted true).heldByFault.door.faulted = true := by
      rw [heldByFault_eq, Door.heldByFault_faulted]
      rfl
    have idle : (w.withFaulted true).heldByFault.startIfDue = (w.withFaulted true).heldByFault := by
      unfold startIfDue
      rw [Door.due_of_faulted faulted]
      rfl
    rw [w.occupied_present absent, idle, heldByFault_eq]
    dsimp only
    rw [load_append, load_append]
    have transit := load_transitMessages (w.withFaulted true).id (w.withFaulted true).door
    have withdraws : load (if (w.withFaulted true).door.motion = .queued then [.withdraw (w.withFaulted true).id] else []) = 0 := by
      split <;> rfl
    rw [withdraws]
    exact Nat.add_le_add_left transit _

theorem report_load (k : FaultKind) (second : Option FaultKind) (persisting : Bool) :
    load (w.report k second persisting).out = load w.out + 6 := load_append _ _

/-- What persists is reported in one report, and a door of which nothing persists may start its close. -/
theorem emptied_load : load w.emptied.startIfDue.out ≤ load w.out + 6 := by
  have barred {w' : Work} (bar : w'.dueBarred = true) (h : load w'.out ≤ load w.out + 6) :
      load w'.startIfDue.out ≤ load w.out + 6 := by
    rwa [w'.startIfDue_barred bar]
  by_cases gone : w.door.motion = .absent ∨ w.config.present = false
  · rw [emptied, if_pos gone]
    exact barred rfl (Nat.le_add_right _ 6)
  · obtain ⟨here, present⟩ := not_or.mp gone
    rw [w.emptied_examined here (Bool.eq_true_of_not_eq_false present) rfl rfl]
    split
    · refine barred rfl ?_
      dsimp only
      split
      · rw [noteConflict_eq, report_load]
        exact Nat.le_refl _
      · rw [report_load]
        exact Nat.le_refl _
    · exact (startIfDue_load _).trans (Nat.add_le_add_left (by decide) _)

end Work

/-! ### What the fault recorder makes -/

namespace Log

variable (l : Log) (d : DoorId)

theorem evalWear_load : load (l.evalWear d).out ≤ load l.out + 1 := by
  unfold evalWear
  dsimp only
  split
  · exact (load_append _ _).le
  · split
    · exact (load_append _ _).le
    · exact Nat.le_add_right _ 1

theorem countFault_load (k : FaultKind) : load (l.countFault d k).out ≤ load l.out + 1 := by
  unfold countFault
  split
  · exact Nat.le_add_right _ 1
  · exact evalWear_load _ d

theorem notice_load (k : WearKind) : load (l.notice d k).out ≤ load l.out + 1 := by
  unfold notice
  split
  · exact evalWear_load _ d
  · exact Nat.le_add_right _ 1

theorem mismatch_load (valve : Dir) (expected : Bool) : load (l.mismatch d valve expected).out ≤ load l.out + 1 := by
  unfold mismatch
  split
  · exact evalWear_load _ d
  · exact Nat.le_add_right _ 1

theorem report_load (k : FaultKind) (second : Option FaultKind) (persisting : Bool) (x : FaultData) :
    load (l.report d k second persisting x).out ≤ load l.out + 5 := by
  have counts (l1 : Log) (h : load l1.out ≤ load l.out + 3) :
      load (if persisting then l1
        else match second with
          | none => l1.countFault d k
          | some k' => (l1.countFault d k).countFault d k').out ≤ load l.out + 5 := by
    split
    · exact h.trans (by omega)
    · cases second with
      | none => exact (countFault_load l1 d k).trans (by omega)
      | some k' => exact (countFault_load _ d k').trans ((Nat.add_le_add_right (countFault_load l1 d k) 1).trans (by omega))
  unfold report
  split
  · refine counts _ ?_
    split
    · refine le_of_eq ?_
      show load ((l.out ++ [_]) ++ [_]) = _
      rw [load_append, load_append]
      rfl
    · exact Nat.le_add_right _ 3
  · exact Nat.le_add_right _ 5

end Log

/-! ### One message taken in a completion -/

/-- What the taking of a message weighs less than the message, where it goes a way of the messages that complete and is no
ruling. -/
theorem State.deliver_load {m : Instr} {w : Route} (way : route? m = some w) (completing : completesWay w = true)
    (plain : Plain m) (s : State) :
    ∃ made, (s.deliver m).inFlight = s.inFlight.erase m ++ made ∧ (∀ x ∈ made, Plain x) ∧ load made < weight m := by
  obtain ⟨made, eq, answers⟩ := s.deliver_made m (by rw [way]; rfl)
  have heavier {out : List Instr} {n : Nat} (flight : (s.deliver m).inFlight = s.inFlight.erase m ++ out) (light : load out ≤ n)
      (heavy : n < weight m) : load made < weight m := by
    rw [List.append_cancel_left (eq.symm.trans flight)]
    exact light.trans_lt heavy
  refine ⟨made, eq, fun x hx => ?_, ?_⟩
  · have answer := answers x hx
    cases m with
    | standingAuthorityReport | captureOccupiedNotice | captureEmptiedNotice => exact plain_of_doorTableMakes answer
    | faultReport | mismatchReport | obstructionNotice | driftNotice => exact answer.plain
    | alarmRaise | alarmClear | alarmResetCondition => exact answer.elim
    | handleRuling => exact plain.elim
    | _ => cases way <;> cases completing
  · cases m with
    | standingAuthorityReport d a =>
      refine heavier (n := 3) rfl ?_ (Nat.lt_succ_self _)
      rw [Work.event_out]
      exact (Work.startIfDue_load _).trans (Nat.add_le_add_right (Work.order_load _ a) 1)
    | captureOccupiedNotice d =>
      refine heavier (n := 1) rfl ?_ (Nat.lt_succ_self _)
      rw [Work.event_out]
      exact Work.occupied_load _
    | captureEmptiedNotice d =>
      refine heavier (n := 6) rfl ?_ (Nat.lt_succ_self _)
      rw [Work.event_out]
      exact Work.emptied_load _
    | faultReport d k second persisting x => exact heavier (n := 5) rfl (Log.report_load _ d k second persisting x) (Nat.lt_succ_self _)
    | mismatchReport d valve expected => exact heavier (n := 1) rfl (Log.mismatch_load _ d valve expected) (Nat.lt_succ_self _)
    | obstructionNotice d => exact heavier (n := 1) rfl (Log.notice_load _ d _) (Nat.lt_succ_self _)
    | driftNotice d => exact heavier (n := 1) rfl (Log.notice_load _ d _) (Nat.lt_succ_self _)
    | alarmRaise k x => exact heavier (n := 0) (List.append_nil _).symm (Nat.le_refl 0) (Nat.lt_succ_self _)
    | alarmClear k x => exact heavier (n := 0) (List.append_nil _).symm (Nat.le_refl 0) (Nat.lt_succ_self _)
    | alarmResetCondition k x => exact heavier (n := 0) (List.append_nil _).symm (Nat.le_refl 0) (Nat.lt_succ_self _)
    | handleRuling => exact plain.elim
    | _ => cases way <;> cases completing

/-! ### A completion from an empty way -/

theorem load_eq_zero {ms : List Instr} (h : load ms = 0) {m : Instr} (hm : m ∈ ms) : completes m = false := by
  by_contra completing
  have pos := weight_pos (Bool.eq_true_of_not_eq_false completing)
  have le := weight_le_load hm
  omega

/-- What is owed where every message on its way is the completion's own is one of them that goes a way of those that complete. -/
theorem State.owed_own {s : State} {m : Instr} {older : Bool} (h : s.owed 0 = some (m, older)) :
    older = false ∧ m ∈ s.inFlight := by
  unfold State.owed at h
  split at h
  · cases h
  · split at h
    · next found => cases found
    · split at h
      · next found =>
        cases h
        exact ⟨rfl, List.mem_of_find?_eq_some found⟩
      · cases h

theorem State.nothing_owed {s : State} (h : s.owed 0 = none) : ∀ m ∈ s.inFlight, completes m = false := by
  unfold State.owed at h
  split at h
  · next none => exact fun m hm => by simpa using List.find?_eq_none.mp none m hm
  · next m found =>
    split at h
    · cases h
    · split at h
      · cases h
      · next none =>
        have hm : m ∈ s.inFlight := List.mem_of_find?_eq_some found
        exact absurd (List.find?_eq_none.mp none m hm) (by simp)

/-- A completion with fuel for what the messages weigh leaves none that completes. -/
theorem State.completeFrom_drains (fuel : Nat) (s : State) (plain : ∀ m ∈ s.inFlight, Plain m)
    (enough : load s.inFlight ≤ fuel) : ∀ m ∈ (s.completeFrom fuel 0).inFlight, completes m = false := by
  induction fuel generalizing s with
  | zero => exact fun m hm => load_eq_zero (Nat.le_zero.mp enough) hm
  | succ n ih =>
    unfold State.completeFrom
    split
    · next none => exact State.nothing_owed none
    · next m older owed =>
      obtain ⟨own, hm⟩ := State.owed_own owed
      obtain ⟨w, way, completing⟩ := State.owed_way owed
      obtain ⟨made, eq, others, light⟩ := s.deliver_load way completing (plain m hm)
      subst own
      refine ih (s.deliver m) (fun x hx => ?_) ?_
      · rw [eq] at hx
        exact (List.mem_append.mp hx).elim (fun hx => plain x (List.mem_of_mem_erase hx)) (others x)
      · have lighter := load_erase hm
        rw [eq, load_append]
        omega

theorem State.complete_drains (s : State) (plain : ∀ m ∈ s.inFlight, Plain m) :
    ∀ m ∈ (s.complete 0).inFlight, completes m = false := by
  have light := load_le s.inFlight
  exact State.completeFrom_drains _ s plain (by omega)

/-! ### What the owners of the requests make -/

theorem State.settleDoors_of_empty {s : State} (empty : s.inFlight = []) (ds : List DoorId) : s.settleDoors ds = (s, 0) := by
  have stays (d : DoorId) : s.settleDoor d = s := by
    rw [State.settleDoor, empty]
    rfl
  have same : ds.foldl (fun s d => s.settleDoor d) s = s := by
    induction ds with
    | nil => rfl
    | cons d ds ih => rw [List.foldl_cons, stays, ih]
  rw [State.settleDoors, same, empty]
  rfl

/-- What an owner leaves on its way, where nothing was: no ruling, and after a completion of its own nothing that completes. -/
def Answer.Drains : Answer → Prop
  | .refused .. => True
  | .accepted t _ => ∀ m ∈ t.inFlight, Plain m
  | .completed t _ => ∀ m ∈ t.inFlight, completes m = false

section
variable {s t : State} (empty : s.inFlight = [])
include empty

theorem plain_of_same (same : t.inFlight = s.inFlight) : ∀ m ∈ t.inFlight, Plain m := by
  rw [same, empty]
  exact fun m hm => absurd hm List.not_mem_nil

theorem plain_of_made {out : List Instr} (made : Adds Plain [] out) : ∀ m ∈ s.inFlight ++ out, Plain m := by
  obtain ⟨ms, eq, all⟩ := made
  rw [empty, eq]
  exact all

theorem State.ordersEvent_plain {f : Orders → Orders} (made : Adds ByResolver s.orders.out (f s.orders).out) :
    ∀ m ∈ (s.ordersEvent f).inFlight, Plain m :=
  plain_of_made empty (made.mono fun _ => ByResolver.plain)

theorem State.serialEvent_plain {f : Serial → Serial} (made : Adds ToAlarms s.serial.out (f s.serial).out) :
    ∀ m ∈ (s.serialEvent f).inFlight, Plain m :=
  plain_of_made empty (made.mono fun _ => ToAlarms.plain)

theorem State.logEvent_plain {f : Log → Log} (made : Adds ByRecorder s.log.out (f s.log).out) :
    ∀ m ∈ (s.logEvent f).inFlight, Plain m :=
  plain_of_made empty (made.mono fun _ => ByRecorder.plain)

theorem State.isolate_drains (body : List Byte) : (s.isolate body).Drains := by
  unfold State.isolate
  split
  · trivial
  · next d _ =>
    split
    · trivial
    · next here =>
      split
      · exact plain_of_same empty rfl
      · next connected =>
        have resolved := State.ordersEvent_plain (f := fun o => o.isolate d) empty (Orders.isolate_adds s.orders d)
        obtain ⟨ms, eq, made⟩ := State.doorEvent_made (s0 := s.ordersEvent fun o => o.isolate d) (s := s) (d := d)
          (f := Work.isolate) rfl (Work.isolate_keeps _ ⟨connected, here⟩) rfl
        intro m hm
        rw [State.isolateDoor, eq] at hm
        exact (List.mem_append.mp hm).elim (resolved m) fun hm => plain_of_doorTableMakes (made m hm)

theorem State.restore_drains (body : List Byte) : (s.restore body).Drains := by
  unfold State.restore
  split
  · trivial
  · next d _ =>
    split
    · trivial
    · split
      · exact plain_of_same empty rfl
      · next isolated =>
        split
        · trivial
        · next idle =>
          rw [State.settleDoors_of_empty empty]
          refine State.complete_drains _ fun m hm => ?_
          obtain ⟨ms, eq, made⟩ := State.doorEvent_made (s0 := s) (s := s) (d := d) (f := Work.enterSettling) rfl
            (Work.enterSettling_keeps _ (not_not.mp isolated) idle) rfl
          obtain ⟨ns, eq', resolved⟩ := Orders.restore_adds (s.doorEvent s d Work.enterSettling).orders d
          rw [State.restoreDoor, State.ordersEvent_inFlight, eq, eq', empty] at hm
          exact (List.mem_append.mp hm).elim (fun hm => plain_of_doorTableMakes (made m hm)) fun hm => (resolved m hm).plain

theorem State.floodSet_drains (body : List Byte) : (s.floodSet body).Drains := by
  unfold State.floodSet
  dsimp only
  rw [State.settleDoors_of_empty empty]
  refine State.complete_drains _ fun m hm => ?_
  have events (named : List DoorId) (s1 : State) : named.foldl (fun s d => s.doorEvent s d Work.floodStop) s1 =
      s1.doorEvents named fun _ => Work.floodStop := by
    unfold State.doorEvents
    rfl
  rw [events, State.doorEvents_inFlight _ (nodup_allDoors.filter _)] at hm
  rcases List.mem_append.mp hm with hm | hm
  · exact plain_of_same empty (List.append_nil _) m hm
  · obtain ⟨d, -, hm⟩ := List.mem_flatMap.mp hm
    obtain ⟨ms, eq, made⟩ := Work.event_adds (w := (s.ordersEvent fun o => o.floodSet (byteAt body 0)).work d)
      (f := Work.floodStop) (strict := False) (s.door d) (s.channel d) (Work.floodStop_moves _).toKeeps
    have eq : (State.worked (s.ordersEvent fun o => o.floodSet (byteAt body 0)) d Work.floodStop).out = ms := eq
    exact plain_of_doorTableMakes (made m (eq ▸ hm))

end

/-! ### A commit's messages -/

theorem Work.commit_made (w : Work) (old : DoorRecord) (a : Standing) :
    Adds (fun x => doorTableMakes x = true) w.out (w.commit old a).out := by
  unfold Work.commit
  split
  · rw [Work.makeAbsent_eq]
    refine ((Adds.add (.refl _) fun m hm => ?_).add fun m hm => ?_).add fun m hm => ?_
    · unfold transitMessages at hm
      split at hm <;> simp at hm
      rw [hm]
      rfl
    · unfold driftMessages at hm
      split at hm <;> simp at hm
      rw [hm]
      rfl
    · unfold travelMessages at hm
      split at hm <;> simp at hm
      rw [hm]
      rfl
  · rw [Work.makePresent, Work.recheckBoth, Work.recheck_eq, Work.recheck_eq]
    exact .refl _
  · exact (Work.keepPresent_moves (strict := False) (x := .running) w old).made
  · exact .refl _

theorem Log.commit_adds (l : Log) (old : Image) : Adds ByRecorder l.out (l.commit old).out := by
  refine .foldl (fun l d => ?_) allDoors l
  unfold Log.commitDoor
  split
  · split
    · exact ((Adds.refl _).one (m := .alarmResetCondition ..) trivial).one (m := .captureEmptiedNotice _) trivial
    · exact .refl _
  · exact .refl _
  · exact (Log.evalWear_adds l d).mono fun _ => ToAlarms.byRecorder
  · exact .refl _

theorem Work.startIfDue_made (w : Work) : Adds (fun x => doorTableMakes x = true) w.out w.startIfDue.out :=
  (Work.startIfDue_moves (strict := False) w).made

theorem State.commit_plain {s : State} (empty : s.inFlight = []) : ∀ m ∈ s.commit.inFlight, Plain m := by
  intro m hm
  rw [State.commit_eq, State.commitRest_eq, State.doorEvents_inFlight _ nodup_allDoors] at hm
  have begun : s.commitBegun.inFlight = [.alarmClear .configDefault .group] := by
    show s.inFlight ++ _ = _
    rw [empty]
    rfl
  obtain ⟨os, ho, resolved⟩ := Orders.commit_adds s.commitBegun.orders s.image
  obtain ⟨fs, hf, allocated⟩ := Flow.commit_adds s.commitBegun.flow s.commitBegun.lines
  obtain ⟨ls, hl, recorded⟩ := Log.commit_adds s.commitBegun.log s.image
  obtain ⟨xs, hx, reported⟩ := Serial.commit_adds s.commitBegun.serial s.image
  rw [s.commit_frame.orders, s.commit_frame.flow, s.commit_frame.log, s.commit_frame.serial, s.commit_frame.lines, ho, hf,
    hl, hx, begun] at hm
  simp only [List.mem_append, List.mem_singleton, List.mem_flatMap] at hm
  rcases hm with ((((rfl | ⟨d, -, hm⟩) | hm | hm) | hm | hm) | hm | hm) | hm | hm
  · trivial
  · obtain ⟨ms, eq, made⟩ := (Work.commit_made (s.commitBegun.work d) s.image.doors[d]
      (standingOfFresh s.store.staging s.resolver d)).trans (Work.startIfDue_made _)
    rw [State.worked, Work.event_out, eq] at hm
    exact plain_of_doorTableMakes (made m hm)
  all_goals first
    | exact absurd hm List.not_mem_nil
    | exact (resolved m hm).plain
    | exact (allocated m hm).plain
    | exact (recorded m hm).plain
    | exact (reported m hm).plain

/-! ### Every owner -/

theorem State.configCommit_drains {s : State} (empty : s.inFlight = []) (body : List Byte) : (s.configCommit body).Drains := by
  unfold State.configCommit
  split
  · trivial
  · split
    · trivial
    · rw [State.settleDoors_of_empty empty]
      exact State.complete_drains _ (State.commit_plain empty)

theorem RequestRow.drains {r : Req} {kind : Byte} {lens : List Nat} {owner : List Byte → State → Answer}
    (row : RequestRow r kind lens owner) {s : State} (empty : s.inFlight = []) (body : List Byte) : (owner body s).Drains := by
  have quiet {t : State} (same : t.inFlight = s.inFlight) : ∀ m ∈ t.inFlight, Plain m := plain_of_same empty same
  cases row with
  | identify | groupStatus | timeSet | configDiscard | linesRead | driveCaptureRead => exact quiet rfl
  | doorStatus =>
    unfold State.doorStatus
    split
    · trivial
    · exact quiet (List.foldlRecOn (motive := fun t : State => t.inFlight = s.inFlight) _ _ rfl fun _ h _ _ => h)
  | alarmRead =>
    unfold State.alarmRead
    dsimp only
    split
    · trivial
    · refine quiet ?_
      split <;> rfl
  | alarmAck =>
    unfold State.alarmAck State.alarmAckOne
    split <;> split <;> first | trivial | exact quiet rfl | (split <;> first | trivial | exact quiet rfl)
  | modeSet =>
    unfold State.modeSet
    split
    · trivial
    · exact State.ordersEvent_plain empty (Orders.setMode_adds _ _)
  | closeDoors => exact State.ordersEvent_plain empty (Orders.closeDoors_adds _ _ _)
  | closeZones => exact State.ordersEvent_plain empty (Orders.closeDoors_adds _ _ _)
  | releaseDoors => exact State.ordersEvent_plain empty (Orders.releaseDoors_adds _ _)
  | isolate => exact State.isolate_drains empty body
  | restore => exact State.restore_drains empty body
  | faultClear =>
    refine State.logEvent_plain empty (.foldl (fun l d => ?_) _ _)
    unfold Log.clearFault
    split
    · exact ((Adds.refl _).one (m := .alarmResetCondition ..) trivial).one (m := .captureEmptiedNotice _) trivial
    · exact .refl _
  | floodSet => exact State.floodSet_drains empty body
  | floodClear => exact State.ordersEvent_plain empty (.refl _)
  | emergencyRelease =>
    unfold State.emergencyRelease
    split
    · trivial
    · exact State.ordersEvent_plain empty (Orders.releaseLatch_adds _)
  | driveTest =>
    unfold State.driveTest
    split
    · trivial
    · next d _ =>
      split
      · trivial
      · next isolated =>
        split
        · trivial
        · next idle =>
          obtain ⟨ms, eq, made⟩ := State.doorEvent_made (s0 := s) (s := s) (d := d) (f := Work.beginTest) rfl
            (Work.beginTest_moves _ (not_not.mp isolated) idle).toKeeps rfl
          intro m hm
          rw [eq, empty] at hm
          exact plain_of_doorTableMakes (made m hm)
  | captureRead =>
    unfold State.captureRead
    split <;> first | trivial | exact quiet rfl
  | maintRead =>
    unfold State.maintRead
    split <;> first | trivial | exact quiet rfl
  | countersClear =>
    exact State.logEvent_plain empty
      (.foldl (fun l d => (Log.clearCounters_adds l d).mono fun _ => ToAlarms.byRecorder) _ _)
  | linesClear =>
    unfold State.linesClear
    split
    · trivial
    · exact State.serialEvent_plain empty (.foldl Serial.clearErrors_adds _ _)
  | supervisionSet => exact State.serialEvent_plain empty (Serial.setInterval_adds _ _)
  | configRead =>
    unfold State.configRead
    dsimp only
    split
    · trivial
    · split
      · exact quiet rfl
      · split <;> first | trivial | exact quiet rfl
  | configStage =>
    unfold State.configStage
    dsimp only
    split
    · trivial
    · split
      · trivial
      · split <;> split <;> first | trivial | exact quiet rfl
  | configCommit => exact State.configCommit_drains empty body
  | restart =>
    unfold State.restartRequested
    refine quiet ?_
    dsimp only
    split <;> rfl

/-- Settles O18: what an owner makes weighs no more than its completion has fuel for, and each message taken weighs more than what
it causes. -/
theorem requestCompletesItsMessages : Obligations.RequestCompletesItsMessages := by
  unfold Obligations.RequestCompletesItsMessages
  intro kind r s t low waits empty run
  have replied {u : State} {reason : Option Reason} {data : List Byte} : (u.reply kind r reason data).inFlight = u.inFlight := by
    rw [State.reply_eq]
  have nothing {u : State} (same : u.inFlight = s.inFlight) : ∀ m ∈ u.inFlight, completes m = false := by
    rw [same, empty]
    exact fun m hm => absurd hm List.not_mem_nil
  rcases listed_or_unknown r low with ⟨lens, owner, listed⟩ | ⟨-, unknown, command⟩
  · rw [listed.exec, State.serve_waits waits, State.answer, State.carryOut] at run
    cases run
    by_cases length : r.body.length ∈ lens
    · rw [if_pos length]
      have drains := listed.drains (s := s.begun r) empty r.body
      cases part : owner r.body (s.begun r) with
      | refused reason data => exact nothing replied
      | accepted u data =>
        rw [part] at drains
        dsimp only
        rw [replied, show (s.begun r).inFlight = [] from empty]
        exact State.complete_drains u drains
      | completed u data =>
        rw [part] at drains
        dsimp only
        rw [replied]
        exact drains
    · rw [if_neg length]
      exact nothing replied
  · rw [command] at waits run
    have met : exec (.unknownKindRequest kind r) s = .next ((s.begun r).reply kind r (some .unknownKind) []) := by
      show execUnknownKindRequest kind r s = _
      rw [execUnknownKindRequest, if_pos unknown, waits.addressed, Bool.not_false, State.meet_waits waits]
    rw [met] at run
    cases run
    exact nothing replied

end Sys2Proof.Machine

/-! The requests that read, stage a record, or set the group time. -/

namespace Sys2Proof.Machine

open Sys2Proof

/-! ### Requests that read -/

section
variable {s : State} {c : Instr} {r : Req} {kind : Byte} {lens : List Nat} {owner : List Byte → State → Answer}
  {data : List Byte}

theorem Replied.exec {t : State} {reason : Option Reason} (run : exec c s = .next t)
    (h : Replied s r kind reason data t) :
    ∃ t, Machine.exec c s = .next t ∧ Answered s.port r kind reason data t ∧ OnlyPort s t ∧ t.inFlight = s.inFlight :=
  ⟨t, run, h.answered, h.onlyPort⟩

/-- Port flags that an owner's part changes are changed beneath the reply. -/
theorem answered_busy {p : Port} {reason : Option Reason} {t : State} :
    Answered (p.withLine r.line (p.line r.line).busyTaking) r kind reason data t ↔ Answered p r kind reason data t := by
  unfold Answered
  rw [Port.withLine_withLine, Port.withLine_line, Port.withLine_address]
  rfl

/-- A request whose owner changes the port alone, beside the line of the request, and makes no message. -/
theorem State.serve_port {p : Port} (h : Waits s c r) (length : r.body.length ∈ lens)
    (part : owner r.body (s.begun r) = .accepted (s.withPort (p.withLine r.line (p.line r.line).busyTaking)) data) :
    Answered p r kind none data (s.serve c kind r lens owner) ∧
      s.serve c kind r lens owner = { s with port := (s.serve c kind r lens owner).port } := by
  rw [State.serve_accepted h length part, State.complete_of_quiet (s := s) (by rfl)]
  refine ⟨answered_busy.mp (State.reply_answered _ h.addressed), ?_⟩
  rw [State.reply_eq]
  rfl

end

theorem doorIndex?_of_val {b : Byte} {d : DoorId} (h : d.val = b.toNat) : doorIndex? b = some d := by
  unfold doorIndex?
  rw [dif_pos (h ▸ d.isLt)]
  exact congrArg some (Fin.ext h.symm)

theorem doorIndex?_of_le {b : Byte} (h : 24 ≤ b.toNat) : doorIndex? b = none := dif_neg (by omega)

/-- Settles O46: each reading request by its owner's part, which leaves the state as it was. -/
theorem readRequestsAnswer : Obligations.ReadRequestsAnswer := by
  unfold Obligations.ReadRequestsAnswer
  intro s r answers
  have reads {c : Instr} {kind : Byte} {lens : List Nat} {owner : List Byte → State → Answer} {data : List Byte}
      (run : exec c s = .next (s.serve c kind r lens owner)) (h : Waits s c r) (length : r.body.length ∈ lens)
      (part : owner r.body (s.begun r) = .accepted (s.begun r) data) : answers c kind s.port none data :=
    (State.serve_read h length part).exec run
  have refuses {c : Instr} {kind : Byte} {lens : List Nat} {owner : List Byte → State → Answer}
      (run : exec c s = .next (s.serve c kind r lens owner)) (h : Waits s c r) (length : r.body.length ∈ lens)
      (part : owner r.body (s.begun r) = .refused .badValue []) : answers c kind s.port (some .badValue) [] :=
    (State.serve_refused h length part).exec run
  have flags {c : Instr} {kind : Byte} {lens : List Nat} {owner : List Byte → State → Answer} {p : Port} {data : List Byte}
      (run : exec c s = .next (s.serve c kind r lens owner)) (h : Waits s c r) (length : r.body.length ∈ lens)
      (part : owner r.body (s.begun r) = .accepted (s.withPort (p.withLine r.line (p.line r.line).busyTaking)) data) :
      answers c kind p none data := by
    obtain ⟨answered, eq⟩ := State.serve_port (kind := kind) h length part
    refine ⟨_, run, answered, ?_⟩
    rw [eq]
    exact ⟨⟨rfl, rfl, rfl, rfl, rfl, rfl, rfl, rfl, rfl, rfl, rfl, rfl⟩, rfl⟩
  refine ⟨fun h body => ?_, fun h body => ?_, fun h body => ?_, fun h body => ?_, fun b h body => ⟨fun big => ?_, fun d hd => ?_⟩,
    fun b h body => ⟨fun big => ?_, fun d hd => ?_⟩, fun image record b h body => ?_⟩
  · refine flags rfl h (by simp [body]) ?_
    unfold State.identify State.begun
    cases r.line <;> rfl
  · refine flags rfl h (by simp [body]) ?_
    unfold State.groupStatus State.begun
    cases r.line <;> rfl
  · exact reads rfl h (by simp [body]) rfl
  · refine reads rfl h (by simp [body]) ?_
    unfold State.linesRead State.begun
    cases r.line <;> rfl
  · refine refuses rfl h (by simp [body]) ?_
    rw [body]
    unfold State.captureRead
    rw [show byteAt [b] 0 = b from rfl, doorIndex?_of_le big]
  · refine reads rfl h (by simp [body]) ?_
    rw [body]
    unfold State.captureRead
    rw [show byteAt [b] 0 = b from rfl, doorIndex?_of_val hd]
    rfl
  · refine refuses rfl h (by simp [body]) ?_
    rw [body]
    unfold State.maintRead
    rw [show byteAt [b] 0 = b from rfl, doorIndex?_of_le big]
  · refine reads rfl h (by simp [body]) ?_
    rw [body]
    unfold State.maintRead
    rw [show byteAt [b] 0 = b from rfl, doorIndex?_of_val hd]
    rfl
  · intro named outcome head
    have heads : [flagByte s.store.writing, outcomeCode s.store.outcome, flagByte s.store.defaultLoaded, record] = head := rfl
    have part : (s.begun r).configRead r.body =
        if 1 < image.toNat ∨ 1 < record.toNat then .refused .badValue []
        else if record = 0 then .accepted (s.begun r) (head ++ groupBytes named.group)
        else match doorIndex? b with
          | none => .refused .badValue []
          | some d => .accepted (s.begun r) (head ++ doorBytes d named.doors[d]) := by
      rw [← heads, body]
      rfl
    refine ⟨fun bad => ?_, fun image_le record_eq => ?_, fun d hd image_le record_eq => ?_⟩
    · refine refuses rfl h (by simp [body]) ?_
      rw [part]
      by_cases high : 1 < image.toNat ∨ 1 < record.toNat
      · exact if_pos high
      · obtain ⟨one, big⟩ : record = 1 ∧ 24 ≤ b.toNat := bad.elim (fun h => absurd (.inl h) high)
          fun bad => bad.elim (fun h => absurd (.inr h) high) fun h => h
        rw [if_neg high, if_neg (by simp [one]), doorIndex?_of_le big]
    · refine reads rfl h (by simp [body]) ?_
      rw [part, if_neg (by simp [record_eq]; omega), if_pos record_eq]
    · refine reads rfl h (by simp [body]) ?_
      rw [part, if_neg (by simp [record_eq]; omega), if_neg (by simp [record_eq]), doorIndex?_of_val hd]

/-! ### Group time -/

/-- A byte behind others adds its value to 256 times theirs. -/
theorem toNat_append_byte {n : Nat} (x : BitVec n) (b : Byte) : (x ++ b).toNat = x.toNat * 256 + b.toNat := by
  rw [BitVec.toNat_append, ← Nat.shiftLeft_add_eq_or_of_lt b.isLt, Nat.shiftLeft_eq]

theorem groupTimeOf_toNat (b3 b2 b1 b0 : Byte) : (groupTimeOf [b3, b2, b1, b0]).toNat =
    b3.toNat * 16777216 + b2.toNat * 65536 + b1.toNat * 256 + b0.toNat := by
  show (b3 ++ b2 ++ b1 ++ b0 : BitVec 32).toNat = _
  rw [toNat_append_byte, toNat_append_byte, toNat_append_byte]
  omega

/-- A broadcast that waits is taken without a reply (R166). -/
theorem State.serve_broadcast {s : State} {c : Instr} {r : Req} {kind : Byte} {lens : List Nat}
    {owner : List Byte → State → Answer} (waiting : (s.port.line r.line).waiting = some c)
    (noReply : (s.port.line r.line).reply = none) (noRestart : s.port.restarting = none)
    (taken : takenByBroadcast kind = true) :
    s.serve c kind r lens owner = (s.begun r).answer kind r lens owner := by
  have met : s.meet c r (!r.broadcast || takenByBroadcast kind) = .taken (s.begun r) := by
    unfold State.meet
    simp [noReply, waiting, noRestart, State.begun, taken]
  rw [State.serve, met]

/-- A broadcast leaves its line in HUNT (R166). -/
theorem State.reply_broadcast {u : State} {r : Req} {kind : Byte} {reason : Option Reason} {data : List Byte}
    (broadcast : r.broadcast = true) : u.reply kind r reason data = u.withLine r.line (u.port.line r.line).freed := by
  unfold State.reply
  simp [broadcast]

/-- Settles O30: a second by the sum of a 32-bit word, a TIME_SET by the value of its four bytes. -/
theorem groupTimeCountsAndIsSet : Obligations.GroupTimeCountsAndIsSet := by
  unfold Obligations.GroupTimeCountsAndIsSet
  refine ⟨fun s => ⟨_, rfl, rfl, ?_⟩, fun s r b3 b2 b1 b0 h body => ?_,
    fun s r b3 b2 b1 b0 broadcast waiting noReply noRestart body => ?_⟩
  · exact BitVec.toNat_add _ _
  · have length : r.body.length ∈ [4] := by simp [body]
    have served := State.serve_accepted (kind := 0x18) (lens := [4]) (owner := State.timeSet) h length rfl
    rw [State.complete_of_quiet (s := s) (by rfl)] at served
    refine ⟨_, congrArg Host.Outcome.next served, answered_begun.mp (State.reply_answered _ h.addressed), ?_, ?_⟩
    · rw [State.reply_eq]
      rfl
    · rw [State.reply_eq, ← groupTimeOf_toNat, ← body]
  · have length : r.body.length ∈ [4] := by simp [body]
    have served := (State.serve_broadcast (kind := 0x18) (lens := [4]) (owner := State.timeSet) waiting noReply noRestart
      rfl).trans (State.answer_accepted length rfl)
    rw [State.complete_of_quiet (s := s.begun r) (by rfl), State.reply_broadcast broadcast] at served
    refine ⟨_, congrArg Host.Outcome.next served, rfl, ?_, ?_⟩
    · show (s.port.withLine r.line _).withLine r.line ((s.port.withLine r.line _).line r.line).freed = _
      rw [Port.withLine_withLine, Port.withLine_line]
      rfl
    · rw [← groupTimeOf_toNat, ← body]
      rfl

/-! ### DOOR_STATUS -/

/-- A door is among those counted from a first one onward where its index lies there. -/
theorem mem_take_drop_allDoors {first count : Nat} (d : DoorId) :
    d ∈ (allDoors.drop first).take count ↔ first ≤ d.val ∧ d.val < first + count := by
  unfold allDoors
  rw [List.mem_iff_getElem]
  constructor
  · rintro ⟨k, hk, rfl⟩
    simp only [List.length_take, List.length_drop, List.length_finRange] at hk
    simp only [List.getElem_take, List.getElem_drop, List.getElem_finRange, Fin.val_cast]
    omega
  · rintro ⟨low, high⟩
    have := d.isLt
    refine ⟨d.val - first, ?_, ?_⟩
    · simp only [List.length_take, List.length_drop, List.length_finRange]
      omega
    · refine Fin.ext ?_
      simp only [List.getElem_take, List.getElem_drop, List.getElem_finRange, Fin.val_cast]
      omega

/-- The doors read by a DOOR_STATUS. -/
def State.readDoors (s : State) (ds : List DoorId) : State :=
  ds.foldl (fun s d => s.withDoor d (readDoor (s.channel d) (s.door d))) s

/-- Reading doors leaves every other block, every channel and every message as it was. -/
theorem State.readDoors_eq (ds : List DoorId) (s : State) : s.readDoors ds = { s with doors := (s.readDoors ds).doors } := by
  induction ds generalizing s with
  | nil => rfl
  | cons d ds ih => exact ih (s.withDoor d _)

theorem State.readDoors_door {ds : List DoorId} (once : ds.Nodup) (s : State) (e : DoorId) :
    (s.readDoors ds).door e = if e ∈ ds then readDoor (s.channel e) (s.door e) else s.door e := by
  induction ds generalizing s with
  | nil => rfl
  | cons d ds ih =>
    obtain ⟨fresh, once⟩ := List.nodup_cons.mp once
    refine (ih once (s.withDoor d _)).trans ?_
    by_cases he : e = d
    · subst he
      rw [if_neg fresh, if_pos List.mem_cons_self]
      exact s.withDoor_door e _
    · simp only [List.mem_cons, he, false_or, State.withDoor_door_ne s _ he, State.withDoor_channel]

/-- Settles O48: the doors covered are those with an index from the first to the last counted, each read once. -/
theorem doorStatusReads : Obligations.DoorStatusReads := by
  unfold Obligations.DoorStatusReads
  intro s r first count h body valid
  have length : r.body.length ∈ [2] := by simp [body]
  by_cases ok : valid
  · have covered : coveredDoors? first count = some ((allDoors.drop first.toNat).take count.toNat) :=
      if_pos (by simp only [valid] at ok; omega)
    have part : State.doorStatus r.body (s.begun r) =
        .accepted ((s.begun r).readDoors ((allDoors.drop first.toNat).take count.toNat))
          ([first, count] ++ ((allDoors.drop first.toNat).take count.toNat).flatMap
            fun d => doorEntry d (s.door d) (s.channel d)) := by
      rw [body]
      unfold State.doorStatus
      rw [show byteAt [first, count] 0 = first from rfl, show byteAt [first, count] 1 = count from rfl, covered]
      rfl
    have frame := State.readDoors_eq ((allDoors.drop first.toNat).take count.toNat) (s.begun r)
    have once : ((allDoors.drop first.toNat).take count.toNat).Nodup :=
      nodup_allDoors.sublist ((List.take_sublist _ _).trans (List.drop_sublist _ _))
    have doors := State.readDoors_door once (s.begun r)
    revert part frame doors
    generalize (s.begun r).readDoors ((allDoors.drop first.toNat).take count.toNat) = u
    intro part frame doors
    have quiet : u.inFlight = s.inFlight := by
      rw [frame]
      rfl
    have port : u.port = (s.begun r).port := by
      rw [frame]
    have served := State.serve_accepted (c := .doorStatus r) (kind := 0x03) h length part
    rw [State.complete_of_quiet quiet] at served
    have replied := u.reply_answered (kind := 0x03) (reason := none) (data := [first, count] ++
      ((allDoors.drop first.toNat).take count.toNat).flatMap fun d => doorEntry d (s.door d) (s.channel d)) h.addressed
    rw [port, answered_begun] at replied
    refine ⟨_, congrArg Host.Outcome.next served, ?_, ?_, ?_, fun bad => absurd ok bad, fun _ => ⟨replied, fun d => ?_⟩⟩
    · rw [State.reply_eq]
      exact quiet
    · rw [State.reply_eq, frame]
      exact ⟨rfl, rfl, rfl, rfl, rfl, rfl, rfl, rfl, rfl, rfl, rfl⟩
    · rw [State.reply_eq, frame]
      rfl
    · rw [State.reply_eq]
      refine (doors d).trans ?_
      simp only [mem_take_drop_allDoors]
      rfl
  · have covered : coveredDoors? first count = none := if_neg (by simp only [valid] at ok; omega)
    have part : State.doorStatus r.body (s.begun r) = .refused .badValue [] := by
      rw [body]
      unfold State.doorStatus
      rw [show byteAt [first, count] 0 = first from rfl, show byteAt [first, count] 1 = count from rfl, covered]
    have replied := State.serve_refused (c := .doorStatus r) (kind := 0x03) h length part
    refine ⟨_, rfl, replied.onlyPort.2, ?_, replied.onlyPort.1.channels, fun _ => ⟨replied.answered, replied.onlyPort.1.doors⟩,
      fun good => absurd good ok⟩
    rw [replied.eq]
    exact .refl s

/-! ### Staging -/

/-- Settles O57: the checks in their order, then the record staged. -/
theorem stagingRequests : Obligations.StagingRequests := by
  unfold Obligations.StagingRequests
  intro s r
  have refuses {c : Instr} {kind : Byte} {lens : List Nat} {owner : List Byte → State → Answer} {reason : Reason}
      (h : Waits s c r) (length : r.body.length ∈ lens) (part : owner r.body (s.begun r) = .refused reason []) :
      Answered s.port r kind (some reason) [] (s.serve c kind r lens owner) ∧
        (s.serve c kind r lens owner).store = s.store ∧
        s.serve c kind r lens owner =
          { s with port := (s.serve c kind r lens owner).port, store := (s.serve c kind r lens owner).store } := by
    obtain ⟨answered, eq⟩ := State.serve_refused (kind := kind) h length part
    refine ⟨answered, ?_, ?_⟩
    · rw [eq]
    · rw [eq]
  have stages {c : Instr} {kind : Byte} {lens : List Nat} {owner : List Byte → State → Answer} {x : Store} {data : List Byte}
      (h : Waits s c r) (length : r.body.length ∈ lens)
      (part : owner r.body (s.begun r) = .accepted ((s.begun r).withStore x) data) :
      Answered s.port r kind none data (s.serve c kind r lens owner) ∧ (s.serve c kind r lens owner).store = x ∧
        s.serve c kind r lens owner =
          { s with port := (s.serve c kind r lens owner).port, store := (s.serve c kind r lens owner).store } := by
    rw [State.serve_accepted h length part, State.complete_of_quiet (s := s) (by rfl)]
    refine ⟨answered_begun.mp (State.reply_answered _ h.addressed), ?_, ?_⟩
    · rw [State.reply_eq]
      rfl
    · rw [State.reply_eq]
      rfl
  refine ⟨fun selector record h body lengths => ?_, fun h body => ?_⟩
  · have length : r.body.length ∈ [29, 49] := by
      rw [body, List.length_cons]
      rcases lengths with h | h <;> simp [h]
    have part : State.configStage r.body (s.begun r) =
        if 1 < selector.toNat then .refused .badValue []
        else if (selector == 0) != (record.length == 48) then .refused .badLength []
        else if selector = 0 then
          if groupChecked record then
            .accepted ((s.begun r).withStore (stageGroup record s.store)) (0 :: groupBytes (groupOf record).clamped)
          else .refused .badValue []
        else if doorChecked record then
          .accepted ((s.begun r).withStore (stageDoor record s.store)) (1 :: doorBytes (doorIndexOf record) (doorOf record).clamped)
        else .refused .badValue [] := by
      rw [body]
      rfl
    have low {n : Nat} (h : selector.toNat = n) : selector = BitVec.ofNat 8 n := by
      rw [← h, BitVec.ofNat_toNat, BitVec.setWidth_eq]
    by_cases high : 1 < selector.toNat
    · obtain ⟨answered, store, eq⟩ := refuses (c := .configStage r) (kind := 0x1A) h length (part.trans (if_pos high))
      refine ⟨_, rfl, eq, fun _ => ⟨answered, store⟩, fun bad => ?_, fun zero => ?_, fun one => ?_⟩
      · rcases bad with ⟨rfl, -⟩ | ⟨rfl, -⟩ <;> exact absurd high (by decide)
      · exact absurd high (by subst zero; decide)
      · exact absurd high (by subst one; decide)
    rw [if_neg high] at part
    have selects : selector = 0 ∨ selector = 1 := by
      rcases Nat.le_one_iff_eq_zero_or_eq_one.mp (Nat.not_lt.mp high) with h | h
      · exact .inl (low h)
      · exact .inr (low h)
    by_cases mismatch : selector = 0 ∧ record.length = 28 ∨ selector = 1 ∧ record.length = 48
    · rw [if_pos (by rcases mismatch with ⟨rfl, h⟩ | ⟨rfl, h⟩ <;> simp [h])] at part
      obtain ⟨answered, store, eq⟩ := refuses (c := .configStage r) (kind := 0x1A) h length part
      refine ⟨_, rfl, eq, fun bad => absurd bad high, fun _ => ⟨answered, store⟩, fun zero long => ?_, fun one short => ?_⟩
      · rcases mismatch with ⟨-, h⟩ | ⟨one, -⟩
        · omega
        · exact absurd (zero.symm.trans one) (by decide)
      · rcases mismatch with ⟨zero, -⟩ | ⟨-, h⟩
        · exact absurd (zero.symm.trans one) (by decide)
        · omega
    rcases selects with rfl | rfl
    · have long : record.length = 48 := lengths.resolve_left fun h => mismatch (.inl ⟨rfl, h⟩)
      rw [if_neg (by simp [long]), if_pos rfl] at part
      by_cases ok : groupChecked record = true
      · rw [if_pos ok] at part
        obtain ⟨answered, store, eq⟩ := stages (c := .configStage r) (kind := 0x1A) h length part
        refine ⟨_, rfl, eq, fun bad => absurd bad high, fun bad => absurd bad mismatch,
          fun _ _ => ⟨fun bad => absurd (ok.symm.trans bad) (by decide), fun _ => ⟨answered, store⟩⟩, fun one => absurd one (by decide)⟩
      · rw [if_neg ok] at part
        obtain ⟨answered, store, eq⟩ := refuses (c := .configStage r) (kind := 0x1A) h length part
        refine ⟨_, rfl, eq, fun bad => absurd bad high, fun bad => absurd bad mismatch,
          fun _ _ => ⟨fun _ => ⟨answered, store⟩, fun good => absurd good ok⟩, fun one => absurd one (by decide)⟩
    · have short : record.length = 28 := lengths.resolve_right fun h => mismatch (.inr ⟨rfl, h⟩)
      rw [if_neg (by simp [short]), if_neg (by decide)] at part
      by_cases ok : doorChecked record = true
      · rw [if_pos ok] at part
        obtain ⟨answered, store, eq⟩ := stages (c := .configStage r) (kind := 0x1A) h length part
        refine ⟨_, rfl, eq, fun bad => absurd bad high, fun bad => absurd bad mismatch, fun zero => absurd zero (by decide),
          fun _ _ => ⟨fun bad => absurd (ok.symm.trans bad) (by decide), fun _ d hd => ?_⟩⟩
        have index : doorIndexOf record = d := by
          rw [doorIndexOf, ← hd]
          exact Fin.ext (Nat.mod_eq_of_lt d.isLt)
        subst index
        exact ⟨answered, store⟩
      · rw [if_neg ok] at part
        obtain ⟨answered, store, eq⟩ := refuses (c := .configStage r) (kind := 0x1A) h length part
        refine ⟨_, rfl, eq, fun bad => absurd bad high, fun bad => absurd bad mismatch, fun zero => absurd zero (by decide),
          fun _ _ => ⟨fun _ => ⟨answered, store⟩, fun good => absurd good ok⟩⟩
  · obtain ⟨answered, store, eq⟩ := stages (c := .configDiscard r) (kind := 0x1C) (lens := [0]) (owner := State.configDiscard)
      h (by simp [body]) rfl
    rw [store] at eq
    exact ⟨_, rfl, answered, eq⟩

end Sys2Proof.Machine

/-! Completions that the alarm list alone takes part in, and the requests that end in one. -/

namespace Sys2Proof.Machine

open Sys2Proof

/-! ### One message of a completion -/

/-- A message that does not complete goes no way to the alarm list. -/
theorem route_ne_alarm {x : Instr} (h : completes x = false) (k : AlarmKind) (y : Subject) : route? x ≠ some (.alarm k y) := by
  cases x <;> simp_all [completes, route?]

theorem ToAlarms.completes {m : Instr} (h : ToAlarms m) : completes m = true := by
  cases m <;> first | rfl | cases h

theorem ToAlarms.route {m : Instr} (h : ToAlarms m) : ∃ k y, route? m = some (.alarm k y) := by
  cases m <;> first | exact ⟨_, _, rfl⟩ | cases h

section
variable {s : State} {old pre post : List Instr} {m : Instr}

/-- The first message made since that completes is the next taken, where no message ahead of it goes its way. -/
theorem State.completeFrom_next (fuel : Nat) (flight : s.inFlight = old ++ pre ++ m :: post) (completing : completes m = true)
    (oldOff : ∀ x ∈ old, route? x ≠ route? m) (preOff : ∀ x ∈ pre, completes x = false ∧ route? x ≠ route? m) :
    s.completeFrom (fuel + 1) old.length = (s.deliver m).completeFrom fuel old.length := by
  have dropped : s.inFlight.drop old.length = pre ++ m :: post := by
    rw [flight, List.append_assoc, List.drop_left]
  have kept : s.inFlight.take old.length = old := by
    rw [flight, List.append_assoc, List.take_left]
  have first : (pre ++ m :: post).find? completes = some m := by
    rw [List.find?_append, List.find?_eq_none.mpr fun x hx => by simp [(preOff x hx).1], List.find?_cons_of_pos completing]
    rfl
  have none : old.find? (fun x => route? x == route? m) = none := List.find?_eq_none.mpr fun x hx => by simpa using oldOff x hx
  have next : (pre ++ m :: post).find? (fun x => route? x == route? m) = some m := by
    rw [List.find?_append, List.find?_eq_none.mpr fun x hx => by simpa using (preOff x hx).2,
      List.find?_cons_of_pos (by simp)]
    rfl
  have owed : s.owed old.length = some (m, false) := by
    unfold State.owed
    rw [dropped, kept, first]
    dsimp only
    rw [none]
    dsimp only
    rw [next]
  rw [State.completeFrom, owed]
  rfl

end

/-! ### Messages to the alarm list -/

theorem State.deliver_alarm {s : State} {m : Instr} (h : ToAlarms m) :
    s.deliver m = { s.taking m with alarms := AlarmList.takeAll s.image s.time [m] s.alarms } := by
  cases m <;> first | rfl | cases h

theorem AlarmList.takeAll_cons (i : Image) (t : GroupTime) (m : Instr) (ms : List Instr) (a : AlarmList) :
    a.takeAll i t (m :: ms) = (a.takeAll i t [m]).takeAll i t ms := rfl

theorem AlarmList.takeAll_append (i : Image) (t : GroupTime) (ms ns : List Instr) (a : AlarmList) :
    a.takeAll i t (ms ++ ns) = (a.takeAll i t ms).takeAll i t ns := List.foldl_append

/-- Reports to the alarm list behind messages that do not complete are taken in their order. -/
theorem State.completeFrom_alarms {old pre : List Instr} (others : ∀ x ∈ old ++ pre, completes x = false) (ms : List Instr) :
    ∀ (s : State) (fuel : Nat), ms.length ≤ fuel → (∀ m ∈ ms, ToAlarms m) → s.inFlight = old ++ pre ++ ms →
      s.completeFrom fuel old.length =
        { s with inFlight := old ++ pre, alarms := s.alarms.takeAll s.image s.time ms } := by
  induction ms with
  | nil =>
    intro s fuel _ _ flight
    rw [List.append_nil] at flight
    have none : s.owed old.length = none := by
      have : (s.inFlight.drop old.length).find? completes = none := List.find?_eq_none.mpr fun x hx => by
        simp [others x (flight ▸ List.mem_of_mem_drop hx)]
      rw [State.owed, this]
    cases fuel with
    | zero =>
      rw [← flight]
      rfl
    | succ n =>
      rw [State.completeFrom, none, ← flight]
      rfl
  | cons m ms ih =>
    intro s fuel enough alarms flight
    obtain ⟨n, rfl⟩ : ∃ n, fuel = n + 1 := ⟨fuel - 1, by rw [List.length_cons] at enough; omega⟩
    have own := alarms m List.mem_cons_self
    obtain ⟨k, y, way⟩ := own.route
    have off (x : Instr) (hx : x ∈ old ++ pre) : route? x ≠ route? m := way ▸ route_ne_alarm (others x hx) k y
    have absent : m ∉ old ++ pre := fun h => off m h rfl
    have left : (s.deliver m).inFlight = old ++ pre ++ ms := by
      rw [State.deliver_alarm own]
      show s.inFlight.erase m = _
      rw [flight, List.erase_append_right _ absent, List.erase_cons_head]
    rw [State.completeFrom_next n flight own.completes (fun x hx => off x (List.mem_append_left _ hx))
        fun x hx => ⟨others x (List.mem_append_right _ hx), off x (List.mem_append_right _ hx)⟩,
      ih (s.deliver m) n (by rw [List.length_cons] at enough; omega) (fun x hx => alarms x (List.mem_cons_of_mem _ hx)) left,
      State.deliver_alarm own]
    rfl

/-- What an owner reports to the alarm list is taken before the reply, where nothing older is owed. -/
theorem State.complete_alarms {s : State} {old ms : List Instr} (others : ∀ x ∈ old, completes x = false)
    (alarms : ∀ m ∈ ms, ToAlarms m) (flight : s.inFlight = old ++ ms) :
    s.complete old.length = { s with inFlight := old, alarms := s.alarms.takeAll s.image s.time ms } := by
  have enough : ms.length ≤ 8 * s.inFlight.length + 8 := by
    rw [flight, List.length_append]
    omega
  have done := State.completeFrom_alarms (pre := []) (by simpa using others) ms s _ enough alarms (by rwa [List.append_nil])
  rw [List.append_nil] at done
  exact done

theorem toAlarms_of_route {x : Instr} {k : AlarmKind} {y : Subject} (h : route? x = some (.alarm k y)) : ToAlarms x := by
  cases x <;> first | trivial | cases h

/-- Where only reports to the alarm list have been made, a completion takes reports to it alone. -/
theorem State.completeFrom_onlyAlarms (fuel : Nat) : ∀ (s : State) (mark : Nat), (∀ m ∈ s.inFlight.drop mark, ToAlarms m) →
    s.completeFrom fuel mark =
      { s with
        inFlight := (s.completeFrom fuel mark).inFlight
        alarms := (s.completeFrom fuel mark).alarms } := by
  induction fuel with
  | zero => exact fun _ _ _ => rfl
  | succ n ih =>
    intro s mark made
    have step {m : Instr} {mark' : Nat} (own : ToAlarms m) (left : ∀ x ∈ (s.inFlight.erase m).drop mark', x ∈ s.inFlight.drop mark) :
        (s.deliver m).completeFrom n mark' =
          { s with
            inFlight := ((s.deliver m).completeFrom n mark').inFlight
            alarms := ((s.deliver m).completeFrom n mark').alarms } := by
      have flight : (s.deliver m).inFlight = s.inFlight.erase m := by
        rw [State.deliver_alarm own]
        rfl
      rw [ih (s.deliver m) mark' fun x hx => made x (left x (flight ▸ hx)), State.deliver_alarm own]
      rfl
    have split : s.inFlight.take mark ++ s.inFlight.drop mark = s.inFlight := List.take_append_drop ..
    rw [State.completeFrom]
    unfold State.owed
    split
    · rfl
    next found =>
      split at found
      · cases found
      next m first =>
        obtain ⟨k, y, way⟩ := (made m (List.mem_of_find?_eq_some first)).route
        split at found
        · next o older =>
          cases found
          have ofWay := List.find?_some older
          have early := List.mem_of_find?_eq_some older
          refine step (toAlarms_of_route ((beq_iff_eq.mp ofWay).trans way)) fun x hx => ?_
          have length := List.length_erase_of_mem early
          have bound := List.length_take_le mark s.inFlight
          rw [← split, List.erase_append_left _ early, if_pos rfl, List.drop_append,
            List.drop_eq_nil_of_le (by omega), List.nil_append] at hx
          exact List.mem_of_mem_drop hx
        · next none =>
          split at found
          · next o same =>
            cases found
            have ofWay := List.find?_some same
            refine step (toAlarms_of_route ((beq_iff_eq.mp ofWay).trans way)) fun x hx => ?_
            have off : ∀ y ∈ s.inFlight.take mark, y ≠ _ := fun y hy h => absurd (h ▸ ofWay) (List.find?_eq_none.mp none y hy)
            rw [← split, List.erase_append_right _ fun h => off _ h rfl, if_neg Bool.false_ne_true, List.drop_append,
              List.drop_eq_nil_of_le (List.length_take_le ..), List.nil_append] at hx
            exact List.mem_of_mem_erase (List.mem_of_mem_drop hx)
          · cases found

/-! ### Requests to the order resolver -/

theorem Completes.frame {s u : State} (h : Completes s u) : CompletionFrame s u := h.toCompletionFrame

section
variable {s : State} {c : Instr} {r : Req} {kind : Byte} {lens : List Nat} {owner : List Byte → State → Answer}
  {data : List Byte}

theorem CompletionFrame.reply {u : State} {reason : Option Reason} (h : CompletionFrame s u) :
    CompletionFrame s (u.reply kind r reason data) := by
  rw [State.reply_eq]
  exact ⟨h.lines, h.straps, h.alloc, h.store, h.time, h.pending, h.freeDraws⟩

/-- A request that the resolver's part alone accepts. -/
theorem State.serve_orders {f : Orders → Orders} (h : Waits s c r) (length : r.body.length ∈ lens)
    (part : owner r.body (s.begun r) = .accepted ((s.begun r).ordersEvent f) data) :
    CompletionFrame s (s.serve c kind r lens owner) ∧ Answered s.port r kind none data (s.serve c kind r lens owner) ∧
      (s.serve c kind r lens owner).resolver = (f s.orders).resolver := by
  rw [State.serve_accepted h length part]
  have completes := ((s.begun r).ordersEvent f).complete_completes s.inFlight.length
  have answered := State.reply_answered (kind := kind) (reason := none) (data := data)
    (((s.begun r).ordersEvent f).complete s.inFlight.length) h.addressed
  rw [completes.port] at answered
  refine ⟨CompletionFrame.reply ⟨completes.lines, completes.straps, completes.alloc, completes.store, completes.time,
    completes.pending, completes.freeDraws⟩, answered_begun.mp answered, ?_⟩
  rw [State.reply_eq]
  exact completes.resolver

end

/-! ### Registrations -/

/-- Registrations placed or cleared for some doors, by what a door's own record and the group's say. -/
theorem Orders.registerFold_step (on : Bool) (p : DoorId → Bool) :
    Orders.DoorStep (fun o d => if p d then o.register d on else o)
      (fun o d => if p d then { o.door d with registered := on } else o.door d) fun _ _ => [] where
  eq o d := by
    rw [List.append_nil]
    split
    · rfl
    · rw [o.withDoor_self d]
  own o o' d _ door := by
    rw [door]
    exact ⟨rfl, rfl⟩

theorem Orders.registered_all (on : Bool) (p : DoorId → Bool) (o : Orders) :
    let o' := (allDoors.foldl (fun o d => if p d then o.register d on else o) o).recomputeAll
    o.SameGroup o' ∧ ∀ d, (o'.door d).registered = (if p d then on else (o.door d).registered) ∧
      (o'.door d).isolated = (o.door d).isolated ∧ (o'.door d).mark = (o.door d).mark ∧ (o'.door d).reported = o'.due d := by
  obtain ⟨group, -, doors⟩ := (Orders.registerFold_step on p).folded allDoors nodup_allDoors o
  intro o'
  have group' : o.SameGroup o' := group.trans (Orders.recomputeAll_group _)
  refine ⟨group', fun d => ?_⟩
  have door : (allDoors.foldl (fun o d => if p d then o.register d on else o) o).door d =
      if p d then { o.door d with registered := on } else o.door d := (doors d).trans (if_pos (mem_allDoors d))
  have reported : o'.Reported := Orders.Reported.recomputeAll _
  refine ⟨?_, ?_, ?_, reported d⟩
  all_goals
    rw [show o'.door d = _ from Orders.recomputeAll_door _ d, door]
    cases p d <;> rfl

/-- The standing authority of a door by its sources, one by one (R66). -/
theorem strongestSource_cases (i : Image) (r : Resolver) (d : DoorId) :
    let serves := i.doors[d].present = true ∧ r.doors[d].isolated = false
    (¬serves → strongestSource i r d = .none) ∧
    (serves → r.latch = true → strongestSource i r d = .emergency) ∧
    (serves → r.latch = false → r.mode = .closed → strongestSource i r d = .central) ∧
    (serves → r.latch = false → r.mode = .local_ → strongestSource i r d = if r.doors[d].registered then .remote else .none) := by
  intro serves
  refine ⟨fun out => if_neg out, fun h latch => ?_, fun h latch mode => ?_, fun h latch mode => ?_⟩
  all_goals rw [strongestSource, if_pos h, latch]
  · rfl
  · rw [mode]
    rfl
  · rw [mode]
    cases r.doors[d].registered <;> rfl

/-- The registrations that a request of this kind leaves, and the standing authorities that follow from them. -/
def Registers (s : State) (r : Req) (c : Instr) (kind : Byte) (after : DoorId → Bool) : Prop :=
  ∃ t, exec c s = .next t ∧ CompletionFrame s t ∧ Answered s.port r kind none [] t ∧
    t.resolver.mode = s.resolver.mode ∧ t.resolver.latch = s.resolver.latch ∧
    t.resolver.flood = s.resolver.flood ∧ StandingInv t ∧
    ∀ d : DoorId, t.resolver.doors[d].registered = after d ∧
      t.resolver.doors[d].isolated = s.resolver.doors[d].isolated ∧
      t.resolver.doors[d].mark = s.resolver.doors[d].mark ∧
      (let serves := s.image.doors[d].present = true ∧ s.resolver.doors[d].isolated = false
       let reported := t.resolver.doors[d].reported
       (¬serves → reported = .none) ∧
       (serves → s.resolver.latch = true → reported = .emergency) ∧
       (serves → s.resolver.latch = false → s.resolver.mode = .closed → reported = .central) ∧
       (serves → s.resolver.latch = false → s.resolver.mode = .local_ →
         reported = if after d then .remote else .none))

/-- A request that registers, or ends the registrations of, the doors that `p` names. -/
theorem registers_of_part {s : State} {r : Req} {kind : Byte} {lens : List Nat} {owner : List Byte → State → Answer}
    (row : RequestRow r kind lens owner) (h : Waits s (decodeRequest kind r) r) (length : r.body.length ∈ lens) (on : Bool)
    (p : DoorId → Bool) (after : DoorId → Bool) (gives : ∀ d, after d = if p d then on else s.resolver.doors[d].registered)
    (part : owner r.body (s.begun r) = .accepted ((s.begun r).ordersEvent fun o =>
      (allDoors.foldl (fun o d => if p d then o.register d on else o) o).recomputeAll) []) :
    Registers s r (decodeRequest kind r) kind after := by
  obtain ⟨frame, answered, resolver⟩ := State.serve_orders h length part
  obtain ⟨group, doors⟩ := Orders.registered_all on p s.orders
  refine ⟨_, row.exec s, frame, answered, ?_⟩
  have image : State.image (s.serve (decodeRequest kind r) kind r lens owner) = s.image := congrArg Store.active frame.store
  have standing : StandingInv (s.serve (decodeRequest kind r) kind r lens owner) := fun d => by
    rw [resolver, image]
    exact ((doors d).2.2.2.trans (Orders.due_eq_strongestSource _ d)).trans (by rw [group.image]; rfl)
  refine ⟨?_, ?_, ?_, standing, fun d => ?_⟩
  · rw [resolver]; exact group.mode
  · rw [resolver]; exact group.latch
  · rw [resolver]; exact group.flood
  · obtain ⟨registered, isolated, mark, -⟩ := doors d
    have own := strongestSource_cases s.image (s.serve (decodeRequest kind r) kind r lens owner).resolver d
    rw [← image, ← standing d] at own
    rw [image] at own
    rw [resolver] at own ⊢
    have latch := group.latch
    have mode := group.mode
    have registered' := registered.trans (gives d).symm
    unfold Orders.door at registered' isolated mark
    rw [show s.orders.resolver = s.resolver from rfl] at latch mode isolated mark
    simp only [latch, mode, isolated, registered'] at own
    exact ⟨registered', isolated, mark, own⟩

/-- Settles O51: each of the three requests sets or ends the registrations of the doors that it names and computes every standing
authority afresh. -/
theorem registrationRequests : Obligations.RegistrationRequests := by
  unfold Obligations.RegistrationRequests
  intro s r registers isOpen held
  refine ⟨fun b2 b1 b0 h body => ?_, fun b h body => ?_, fun b2 b1 b0 h body => ?_⟩
  · refine registers_of_part .closeDoors h (by simp [body]) true
      (fun d => inDoors (doorSetOf r.body) d && Machine.registers ((s.begun r).door d).motion) _ (fun d => ?_) rfl
    rw [body]
    show (held d || ((b2 ++ b1 ++ b0).getLsbD d.val && isOpen d)) = _
    have named : inDoors (doorSetOf [b2, b1, b0]) d = (b2 ++ b1 ++ b0).getLsbD d.val := rfl
    have opens : Machine.registers ((s.begun r).door d).motion = isOpen d := rfl
    rw [named, opens]
    cases (b2 ++ b1 ++ b0).getLsbD d.val && isOpen d <;> simp [held]
  · refine registers_of_part .closeZones h (by simp [body]) true
      (fun d => (s.begun r).inNamedZone (byteAt r.body 0) d && Machine.registers ((s.begun r).door d).motion) _ (fun d => ?_) rfl
    rw [body]
    have named : (s.begun r).inNamedZone (byteAt [b] 0) d =
      (s.image.doors[d].present && !s.resolver.doors[d].isolated && b.getLsbD s.image.doors[d].zone.val) := rfl
    have opens : Machine.registers ((s.begun r).door d).motion = isOpen d := rfl
    rw [named, opens]
    cases s.image.doors[d].present && !s.resolver.doors[d].isolated && b.getLsbD s.image.doors[d].zone.val && isOpen d <;>
      simp [held]
  · refine registers_of_part .releaseDoors h (by simp [body]) false (inDoors (doorSetOf r.body)) _ (fun d => ?_) rfl
    rw [body]
    have named : inDoors (doorSetOf [b2, b1, b0]) d = (b2 ++ b1 ++ b0).getLsbD d.val := rfl
    rw [named]
    cases (b2 ++ b1 ++ b0).getLsbD d.val <;> simp [held]

/-! ### Requests to the line port -/

section
variable {s : State} {c : Instr} {r : Req} {kind : Byte} {lens : List Nat} {owner : List Byte → State → Answer}
  {data : List Byte} {p : Port} {ms : List Instr}

/-- A request that the line port's part alone accepts, reporting to the alarm list at most. -/
theorem State.serve_serial {f : Serial → Serial} (h : Waits s c r) (length : r.body.length ∈ lens)
    (part : owner r.body (s.begun r) = .accepted ((s.begun r).serialEvent f) data)
    (work : f (s.begun r).serial = ⟨s.image, p.withLine r.line (p.line r.line).busyTaking, ms⟩)
    (alarms : ∀ m ∈ ms, ToAlarms m) :
    let t := s.serve c kind r lens owner
    Answered p r kind none data t ∧ t = { s with port := t.port, inFlight := t.inFlight, alarms := t.alarms } ∧
      ((∀ m ∈ s.inFlight, completes m = false) →
        t = { s with port := t.port, alarms := AlarmList.takeAll s.image s.time ms s.alarms }) := by
  intro t
  have event : (s.begun r).serialEvent f =
      { s with port := p.withLine r.line (p.line r.line).busyTaking, inFlight := s.inFlight ++ ms } := by
    rw [State.serialEvent, work]
    rfl
  have served : t = _ := State.serve_accepted (kind := kind) h length (event ▸ part)
  generalize hu : ({ s with
    port := p.withLine r.line (p.line r.line).busyTaking, inFlight := s.inFlight ++ ms } : State) = u at served
  have flight : u.inFlight = s.inFlight ++ ms := by rw [← hu]
  have completed := State.completeFrom_onlyAlarms (8 * u.inFlight.length + 8) u s.inFlight.length fun m hm => by
    rw [flight, List.drop_left] at hm
    exact alarms m hm
  have port : (u.complete s.inFlight.length).port = p.withLine r.line (p.line r.line).busyTaking := by
    rw [(u.complete_completes s.inFlight.length).port, ← hu]
  refine ⟨answered_busy.mp ?_, ?_, fun others => ?_⟩
  · rw [← port, served]
    exact State.reply_answered _ h.addressed
  · have same : t = { u with port := t.port, inFlight := t.inFlight, alarms := t.alarms } := by
      rw [served, State.reply_eq]
      unfold State.complete
      rw [completed]
    rw [same, ← hu]
  · have same : t = { u.complete s.inFlight.length with port := t.port } := by rw [served]; exact State.reply_eq _
    rw [same, State.complete_alarms others alarms flight, ← hu]
    rfl

end

/-- The clear of LINE_DEGRADED of a line where it stands. -/
def degradedClears (l : Line) (y : LinePort) : List Instr :=
  if y.degraded = true then [.alarmClear .lineDegraded (.line l)] else []

/-- A line whose error counters have been cleared (R170). -/
def LinePort.cleared (y : LinePort) : LinePort := { y with checkErrors := 0, framingErrors := 0, degraded := false }

theorem Serial.clearErrors_eq (x : Serial) (l : Line) :
    x.clearErrors l =
      { x with port := x.port.withLine l (x.port.line l).cleared, out := x.out ++ degradedClears l (x.port.line l) } := by
  have fine : lineDegraded x.image.group { x.port.line l with checkErrors := 0, framingErrors := 0 } = false := by
    simp [lineDegraded]
  unfold Serial.clearErrors Serial.evalDegraded Serial.withLine Serial.line degradedClears LinePort.cleared
  simp only [Port.withLine_line, Port.withLine_withLine, fine]
  cases (x.port.line l).degraded <;> simp [Serial.send]

/-- The counters of a line are cleared beneath a request that is being taken. -/
theorem Serial.clearErrors_busy (i : Image) (p : Port) (out : List Instr) (l k : Line) :
    Serial.clearErrors ⟨i, p.withLine l (p.line l).busyTaking, out⟩ k =
      ⟨i, (p.withLine k (p.line k).cleared).withLine l ((p.withLine k (p.line k).cleared).line l).busyTaking,
        out ++ degradedClears k (p.line k)⟩ := by
  rw [Serial.clearErrors_eq]
  cases l <;> cases k <;> rfl

theorem State.serial_begun (s : State) (r : Req) :
    (s.begun r).serial = ⟨s.image, s.port.withLine r.line (s.port.line r.line).busyTaking, []⟩ := rfl

theorem Serial.setInterval_busy_zero (i : Image) (p : Port) (l : Line) :
    let stopped := fun (z : LinePort) => { z with silence := none, silent := false }
    let p' := { p with interval := 0, lineA := stopped p.lineA, lineB := stopped p.lineB }
    Serial.setInterval ⟨i, p.withLine l (p.line l).busyTaking, []⟩ 0 =
      ⟨i, p'.withLine l (p'.line l).busyTaking,
        [.alarmClear .lineSilent (.line .a), .alarmClear .lineSilent (.line .b), .alarmClear .remoteLost .group]⟩ := by
  cases l <;> rfl

theorem Serial.setInterval_busy {n : Nat} (above : n ≠ 0) (i : Image) (p : Port) (l : Line) :
    let timed := fun (z : LinePort) => if z.silent then z else { z with silence := some n }
    let p' := { p with interval := n, lineA := timed p.lineA, lineB := timed p.lineB }
    Serial.setInterval ⟨i, p.withLine l (p.line l).busyTaking, []⟩ n = ⟨i, p'.withLine l (p'.line l).busyTaking, []⟩ := by
  intro timed p'
  have busy (z : LinePort) : z.busyTaking.restartSilence n = (timed z).busyTaking := by
    show _ = LinePort.busyTaking (if z.silent then z else { z with silence := some n })
    unfold LinePort.restartSilence
    rw [show z.busyTaking.silent = z.silent from rfl]
    split <;> rfl
  rw [Serial.setInterval]
  dsimp only
  rw [if_neg above]
  cases l <;> simp only [Port.withLine, Port.line, busy] <;> rfl

theorem degradedClears_toAlarms {l : Line} {y : LinePort} : ∀ m ∈ degradedClears l y, ToAlarms m := by
  intro m hm
  unfold degradedClears at hm
  split at hm
  · rw [List.mem_singleton.mp hm]
    trivial
  · cases hm

/-- A command that takes a request while a restart is awaited leaves its line with no request and every block as it was (R179). -/
theorem State.meet_awaited {s : State} {c : Instr} {r : Req} {wanted : Bool} (awaited : s.port.restarting.isSome = true)
    (free : (s.port.line r.line).waiting = none) :
    ∃ u, s.meet c r wanted = .lost u ∧ (u.port.line r.line).waiting = none ∧ u.resolver = s.resolver ∧ u.doors = s.doors ∧
      u.store = s.store ∧ u.alarms = s.alarms := by
  unfold State.meet
  simp only [free]
  split
  · exact ⟨s, rfl, free, rfl, rfl, rfl, rfl⟩
  · rw [awaited, Bool.true_or, if_pos rfl]
    refine ⟨_, rfl, ?_, rfl, rfl, rfl, rfl⟩
    rw [State.withLine_port, Port.withLine_line]
    rfl

theorem exec_awaited {s : State} {r : Req} {kind : Byte} (low : kind.toNat < 0x80)
    (awaited : s.port.restarting.isSome = true) (free : (s.port.line r.line).waiting = none) :
    ∃ u, exec (decodeRequest kind r) s = .next u ∧ (u.port.line r.line).waiting = none ∧ u.resolver = s.resolver ∧
      u.doors = s.doors ∧ u.store = s.store ∧ u.alarms = s.alarms := by
  rcases listed_or_unknown r low with ⟨lens, owner, row⟩ | ⟨-, unknown, command⟩
  · obtain ⟨u, met, rest⟩ := State.meet_awaited (c := decodeRequest kind r) (wanted := !r.broadcast || takenByBroadcast kind)
      awaited free
    refine ⟨u, ?_, rest⟩
    rw [row.exec, State.serve, met]
  · obtain ⟨u, met, rest⟩ := State.meet_awaited (c := .unknownKindRequest kind r) (wanted := !r.broadcast) awaited free
    refine ⟨u, ?_, rest⟩
    rw [command]
    show execUnknownKindRequest kind r s = _
    rw [execUnknownKindRequest, if_pos unknown, met]

theorem Port.withLine_restarting (p : Port) (l : Line) (y : LinePort) : (p.withLine l y).restarting = p.restarting := by
  cases l <;> rfl

theorem Port.withLine_otherLine (p : Port) (l : Line) (y : LinePort) :
    (p.withLine l y).line (otherLine l) = p.line (otherLine l) := by
  cases l <;> rfl

theorem Port.line_of_freed (p : Port) (l : Line) (y : LinePort) (x : Option Line) :
    Port.line { p.withLine l y with restarting := x } l = y := by
  cases l <;> rfl

/-- The line port awaiting a restart by request, the other line freed of the request that waited there (R179). -/
theorem State.restartRequested_begun (s : State) (r : Req) :
    let other := s.port.line (otherLine r.line)
    let freed : LinePort :=
      if other.waiting.isSome then { other with rx := .hunt, buffer := [], gap := false, waiting := none } else other
    let p : Port := { s.port.withLine (otherLine r.line) freed with restarting := some r.line }
    State.restartRequested r.line r.body (s.begun r) =
      .accepted (s.withPort (p.withLine r.line (p.line r.line).busyTaking)) [] := by
  obtain ⟨l, broadcast, body⟩ := r
  unfold State.restartRequested State.begun
  cases l
  · dsimp only [otherLine, Port.line, State.withLine, State.withPort, Port.withLine]
    cases s.port.lineB.waiting <;> rfl
  · dsimp only [otherLine, Port.line, State.withLine, State.withPort, Port.withLine]
    cases s.port.lineA.waiting <;> rfl

/-- Settles O56: the three requests to the line port by its owner's part, whose alarms are taken before the reply. -/
theorem linePortRequests : Obligations.LinePortRequests := by
  unfold Obligations.LinePortRequests
  refine ⟨fun s r b body => ?_, fun s r h body => ?_⟩
  · intro a y cleared timed stopped nothingOwed alarmsTake
    have operand : byteAt r.body 0 = b := by rw [body]; rfl
    have quiet {t : State} (same : t = { s with port := t.port, inFlight := t.inFlight, alarms := t.alarms }) :
        CompletionFrame s t ∧ t.resolver = s.resolver ∧ t.recorder = s.recorder ∧ t.doors = s.doors := by
      rw [same]
      exact ⟨⟨rfl, rfl, rfl, rfl, rfl, rfl, rfl⟩, rfl, rfl, rfl⟩
    have portOnly {t : State} (same : t = { s with port := t.port }) :
        CompletionFrame s t ∧ t.resolver = s.resolver ∧ t.recorder = s.recorder ∧ t.doors = s.doors := by
      rw [same]
      exact ⟨⟨rfl, rfl, rfl, rfl, rfl, rfl, rfl⟩, rfl, rfl, rfl⟩
    have length : r.body.length ∈ [1] := by simp [body]
    refine ⟨fun h => ⟨_, rfl, ?_⟩, fun h => ⟨_, rfl, ?_⟩⟩
    · have known : b = 0 ∨ b = 1 ∨ b = 2 ∨ 2 < b.toNat := by bv_omega
      have part {ls : List Line} (lines : lines? b = some ls) :
          State.linesClear r.body (s.begun r) =
            .accepted ((s.begun r).serialEvent fun x => ls.foldl Serial.clearErrors x) [] := by
        rw [State.linesClear, operand, lines]
      rcases known with rfl | rfl | rfl | above
      · obtain ⟨answered, same, taken⟩ := State.serve_serial (kind := 0x16) (p := { s.port with lineA := cleared a })
          (ms := degradedClears .a a) h length (part rfl) (Serial.clearErrors_busy s.image s.port [] r.line .a)
          degradedClears_toAlarms
        obtain ⟨frame, resolver, recorder, doors⟩ := quiet same
        refine ⟨frame, resolver, recorder, doors, fun owed _ => ?_, fun _ => answered, ?_⟩
        · have list := taken owed
          simpa [alarmsTake, degradedClears] using list
        · simp
      · obtain ⟨answered, same, taken⟩ := State.serve_serial (kind := 0x16) (p := { s.port with lineB := cleared y })
          (ms := degradedClears .b y) h length (part rfl) (Serial.clearErrors_busy s.image s.port [] r.line .b)
          degradedClears_toAlarms
        obtain ⟨frame, resolver, recorder, doors⟩ := quiet same
        refine ⟨frame, resolver, recorder, doors, fun owed _ => ?_, fun zero => ?_, fun _ => answered, ?_⟩
        · have list := taken owed
          simpa [alarmsTake, degradedClears] using list
        · cases zero
        · simp
      · obtain ⟨answered, same, taken⟩ := State.serve_serial (kind := 0x16)
          (p := { s.port with lineA := cleared a, lineB := cleared y })
          (ms := degradedClears .a a ++ degradedClears .b y) h length (part rfl)
          (by
            rw [List.foldl_cons, List.foldl_cons, List.foldl_nil, State.serial_begun, Serial.clearErrors_busy,
              Serial.clearErrors_busy]
            rfl)
          fun m hm => (List.mem_append.mp hm).elim (degradedClears_toAlarms m) (degradedClears_toAlarms m)
        obtain ⟨frame, resolver, recorder, doors⟩ := quiet same
        refine ⟨frame, resolver, recorder, doors, fun owed _ => ?_, fun zero => ?_, fun one => ?_, fun _ => answered, ?_⟩
        · have list := taken owed
          simpa [alarmsTake, degradedClears] using list
        · cases zero
        · cases one
        · simp
      · have unlisted : lines? b = none := by
          unfold lines?
          rw [if_neg (by bv_omega), if_neg (by bv_omega), if_neg (by bv_omega)]
        have refused := State.serve_refused (kind := 0x16) (data := []) (reason := .badValue)
          (owner := State.linesClear) h length (by rw [State.linesClear, operand, unlisted])
        obtain ⟨frame, resolver, recorder, doors⟩ := portOnly refused.eq
        exact ⟨frame, resolver, recorder, doors, fun _ low => absurd low (by omega), fun zero => absurd above (by rw [zero]; decide),
          fun one => absurd above (by rw [one]; decide), fun two => absurd above (by rw [two]; decide),
          fun _ => ⟨refused.answered, refused.eq⟩⟩
    · have part : State.supervisionSet r.body (s.begun r) =
          .accepted ((s.begun r).serialEvent fun x => x.setInterval b.toNat) [] := by
        rw [State.supervisionSet, operand]
      by_cases zero : b = 0
      · subst zero
        obtain ⟨answered, same, taken⟩ := State.serve_serial (kind := 0x17)
          (p := { s.port with interval := 0, lineA := stopped a, lineB := stopped y })
          (ms := [.alarmClear .lineSilent (.line .a), .alarmClear .lineSilent (.line .b), .alarmClear .remoteLost .group])
          h length part (Serial.setInterval_busy_zero ..) (by simp [ToAlarms])
        obtain ⟨frame, resolver, recorder, doors⟩ := quiet same
        exact ⟨frame, resolver, recorder, doors, fun owed _ => taken owed, fun _ => answered, fun other => absurd rfl other⟩
      · have above : b.toNat ≠ 0 := by bv_omega
        obtain ⟨answered, same⟩ := State.serve_port (kind := 0x17) (owner := State.supervisionSet)
          (p := { s.port with interval := b.toNat, lineA := timed a, lineB := timed y }) (data := []) h length (by
            rw [part, State.serialEvent, State.serial_begun, Serial.setInterval_busy above, State.finishSerial,
              State.send, List.append_nil]
            rfl)
        obtain ⟨frame, resolver, recorder, doors⟩ := portOnly same
        exact ⟨frame, resolver, recorder, doors, fun _ zero' => absurd zero' zero, fun zero' => absurd zero' zero,
          fun _ => ⟨answered, same⟩⟩
  · intro other freed
    have length : r.body.length ∈ [0] := by simp [body]
    obtain ⟨answered, same⟩ := State.serve_port (kind := 0x1D) (data := []) h length
      (p := { s.port.withLine (otherLine r.line) freed with restarting := some r.line }) (owner := State.restartRequested r.line)
      (State.restartRequested_begun s r)
    refine ⟨_, rfl, answered, same, fun c r' kind command low line _ => ?_⟩
    subst command
    have awaited := congrArg Port.restarting answered
    have unasked := congrArg (fun p : Port => (p.line (otherLine r.line)).waiting) answered
    rw [Port.withLine_restarting] at awaited
    dsimp only at unasked
    rw [Port.withLine_otherLine, Port.line_of_freed] at unasked
    have free : freed.waiting = none := by
      show LinePort.waiting (if other.waiting.isSome then _ else other) = none
      cases waiting : other.waiting with
      | none => exact waiting
      | some _ => rfl
    obtain ⟨u, run, none, resolver, doors, store, alarms⟩ := exec_awaited (r := r') low (by rw [awaited]; rfl)
      (by rw [line]; exact unasked.trans free)
    exact ⟨u, run, none, resolver.symm, doors.symm, store.symm, alarms.symm⟩

end Sys2Proof.Machine

/-! The alarm list: what its entries become by a raise, the end of a condition and an acknowledgement. -/

namespace Sys2Proof.Machine

open Sys2Proof

/-! ### The entry of a kind and subject -/

section
variable {a : AlarmList} {k : AlarmKind} {x : Subject} {e : Entry}

theorem AlarmList.isOf_of_find (found : a.find k x = some e) : e ∈ a.entries ∧ e.isOf k x = true :=
  ⟨List.mem_of_find?_eq_some found, List.find?_some (p := fun e : Entry => e.isOf k x) found⟩

/-- In a list that holds each kind and subject once, the entry found is the only one of its kind and subject (R124). -/
theorem AlarmList.isOf_iff_eq (once : (a.entries.map Entry.key).Nodup) (found : a.find k x = some e) {e' : Entry}
    (held : e' ∈ a.entries) : e'.isOf k x = true ↔ e' = e := by
  obtain ⟨mine, own⟩ := a.isOf_of_find found
  refine ⟨fun other => ?_, fun same => same ▸ own⟩
  exact List.inj_on_of_nodup_map once held mine
    (((e'.isOf_iff k x).mp other).trans ((e.isOf_iff k x).mp own).symm)

theorem AlarmList.update_found (once : (a.entries.map Entry.key).Nodup) (found : a.find k x = some e) (f : Entry → Entry) :
    a.update k x f = { a with entries := a.entries.map fun e' => if e' = e then f e else e' } := by
  unfold AlarmList.update
  congr 1
  refine List.map_congr_left fun e' held => ?_
  by_cases same : e' = e
  · rw [if_pos ((a.isOf_iff_eq once found held).mpr same), if_pos same, same]
  · rw [if_neg fun own => same ((a.isOf_iff_eq once found held).mp own), if_neg same]

theorem AlarmList.remove_found (once : (a.entries.map Entry.key).Nodup) (found : a.find k x = some e) :
    a.remove k x = { a with entries := a.entries.erase e } := by
  unfold AlarmList.remove
  congr 1
  rw [(List.Nodup.of_map _ once).erase_eq_filter]
  refine List.filter_congr fun e' held => ?_
  rw [Bool.eq_iff_iff, Bool.not_eq_true', bne_iff_ne, ← Bool.not_eq_true]
  exact not_congr (a.isOf_iff_eq once found held)

theorem AlarmList.length_remove_found (found : a.find k x = some e) : (a.entries.erase e).length = a.entries.length - 1 :=
  List.length_erase_of_mem (a.isOf_of_find found).1

end

theorem AlarmList.evalOverflow_eq (t : GroupTime) (a : AlarmList) : a.evalOverflow t = a.withRoom t := by
  unfold AlarmList.evalOverflow AlarmList.withRoom overflowReset AlarmList.touched
  split
  · rfl
  · cases a.overflow with
    | none => rfl
    | some o =>
      dsimp only
      cases o.state <;> rfl

theorem AlarmList.withRoom_of_stays {t : GroupTime} {a : AlarmList} (h : 40 < a.entries.length ∨ a.overflow = none) :
    a.withRoom t = a := by
  unfold AlarmList.withRoom
  rcases h with many | none
  · rw [if_pos many]
  · rw [none]
    split <;> rfl

theorem AlarmList.withRoom_of_room {t : GroupTime} {a : AlarmList} {o : Entry} (room : a.entries.length ≤ 40)
    (held : a.overflow = some o) :
    a.withRoom t = match o.state with
      | .activeUnack => { a with overflow := some { o with state := .clearedUnack, last := t }, changed := true }
      | .activeAck => { a with overflow := none, changed := true }
      | .clearedUnack => a := by
  unfold AlarmList.withRoom
  rw [if_neg (by omega), held]
  dsimp only
  cases state : o.state <;> rfl

theorem saturatingSucc_eq (n : Nat) : saturatingSucc 255 n = if n < 255 then n + 1 else 255 := rfl

/-! ### Reports taken by the list -/

section
variable {i : Image} {t : GroupTime} {k : AlarmKind} {x : Subject} {a : AlarmList} {e : Entry}

/-- The list once its entries or its overflow entry have changed. -/
def AlarmList.changedTo (a : AlarmList) (routed : KindSet) (entries : List Entry) (overflow : Option Entry) : AlarmList :=
  AlarmList.setOutputs routed { a with entries := entries, overflow := overflow, changed := true }

theorem AlarmList.raise_absent (ordinary : k ≠ .listOverflow) (absent : a.find k x = none) :
    a.raise i t k x =
      if (recordMaskable k && inKinds i.group.recordMask k) || absentSubject i x then a
      else if listLimit ≤ a.entries.length then
        a.changedTo i.group.routedKinds a.entries (some (overflowRaised i.group t a.overflow))
      else a.changedTo i.group.routedKinds (a.entries ++ [.new i.group t k x]) a.overflow := by
  unfold AlarmList.raise
  dsimp only
  rw [if_neg ordinary, absent]
  rfl

theorem AlarmList.raise_found (ordinary : k ≠ .listOverflow) (found : a.find k x = some e) :
    a.raise i t k x =
      if e.state = .clearedUnack then
        a.changedTo i.group.routedKinds (a.update k x (Entry.reraised i.group t)).entries a.overflow
      else a := by
  unfold AlarmList.raise
  dsimp only
  rw [if_neg ordinary, found]
  dsimp only
  cases e.state <;> rfl

theorem AlarmList.conditionEnds_absent (ordinary : k ≠ .listOverflow) (absent : a.find k x = none) :
    a.conditionEnds i t k x = a := by
  unfold AlarmList.conditionEnds
  dsimp only
  rw [if_neg ordinary, absent]

theorem AlarmList.conditionEnds_found (ordinary : k ≠ .listOverflow) (found : a.find k x = some e) :
    a.conditionEnds i t k x =
      match e.state with
      | .activeUnack => a.changedTo i.group.routedKinds
          (a.update k x fun e => { e with state := .clearedUnack, last := t }).entries a.overflow
      | .activeAck => AlarmList.setOutputs i.group.routedKinds (AlarmList.withRoom t (a.remove k x).touched)
      | .clearedUnack => a := by
  unfold AlarmList.conditionEnds
  dsimp only
  rw [if_neg ordinary, found]
  simp only [AlarmList.evalOverflow_eq]
  rfl

end

/-- Settles O39: a raise and the end of a condition by the entry that the list finds. -/
theorem alarmListTakesReports : Obligations.AlarmListTakesReports := by
  unfold Obligations.AlarmListTakesReports
  refine ⟨fun s k x ordinary => ?_, fun s k x m ordinary reports once => ?_⟩
  · intro m a g masked changes first
    have taken : s.deliver m = (s.taking m).withAlarms (a.raise s.image s.time k x) := rfl
    refine ⟨_, exec_first rfl first, fun absent => ?_, fun e found => ?_⟩
    · rw [taken, AlarmList.raise_absent ordinary absent]
      refine ⟨fun passed => ?_, fun unmasked present => ⟨fun room => ?_, fun full none => ?_, fun full e held state => ?_,
        fun full e held state => ?_⟩⟩
      · rw [if_pos (by simpa [masked] using passed)]
        rfl
      all_goals rw [if_neg (by simp [show (recordMaskable k && inKinds s.image.group.recordMask k) = false from unmasked, present])]
      · rw [if_neg (by rw [listLimit]; omega)]
        rfl
      · rw [if_pos (show listLimit ≤ a.entries.length from full), none]
        rfl
      all_goals rw [if_pos (show listLimit ≤ a.entries.length from full), held, overflowRaised]
      · cases state' : e.state <;> first | exact absurd state' state | rfl
      · rw [state, Entry.reraised, state]
        rfl
    · rw [taken, AlarmList.raise_found ordinary found]
      refine ⟨fun active => ?_, fun cleared once => ?_⟩
      · rw [if_neg active]
        rfl
      · have kind : e.kind = k := congrArg Prod.fst ((e.isOf_iff k x).mp (a.isOf_of_find found).2)
        rw [if_pos cleared, AlarmList.update_found once found, Entry.reraised, cleared, kind]
        rfl
  · intro a changes first
    have taken : s.deliver m = (s.taking m).withAlarms (a.conditionEnds s.image s.time k x) := by
      rcases reports with rfl | rfl <;> rfl
    have between : (route? m).isSome = true := by
      rcases reports with rfl | rfl <;> rfl
    refine ⟨_, exec_first between first, fun absent => ?_, fun e found => ?_⟩
    · rw [taken, AlarmList.conditionEnds_absent ordinary absent]
      rfl
    · rw [taken, AlarmList.conditionEnds_found ordinary found]
      refine ⟨fun state => ?_, fun state => ?_, fun state => ?_⟩
      all_goals rw [state]
      · rfl
      · dsimp only
        rw [AlarmList.update_found once found]
        rfl
      · dsimp only
        rw [AlarmList.remove_found once found]
        have left := AlarmList.length_remove_found found
        refine ⟨fun stays => ?_, fun room o held => ?_⟩
        · rw [AlarmList.withRoom_of_stays]
          · rfl
          · rcases stays with many | none
            · exact .inl (show 40 < (a.entries.erase e).length by omega)
            · exact .inr none
        · rw [AlarmList.withRoom_of_room (a := AlarmList.touched { a with entries := a.entries.erase e })
            (show (a.entries.erase e).length ≤ 40 by omega) held]
          refine ⟨fun state => ?_, fun state => ?_, fun state => ?_⟩
          · rw [state]
            rfl
          · rw [state]
            rfl
          · rw [state, ← held]
            rfl

end Sys2Proof.Machine

/-! The requests to the alarm list: reading a page, acknowledging every entry and acknowledging one. -/

namespace Sys2Proof.Machine

open Sys2Proof

theorem AlarmList.withRoom_touched (t : GroupTime) (a : AlarmList) : a.touched.withRoom t = (a.withRoom t).touched := by
  obtain ⟨entries, overflow, common, routed, changed⟩ := a
  unfold AlarmList.withRoom AlarmList.touched
  dsimp only
  split
  · rfl
  · cases overflow with
    | none => rfl
    | some o =>
      obtain ⟨kind, subject, state, annunciated, first, last, count⟩ := o
      cases state <;> rfl

/-! ### Reading -/

/-- What a reading leaves of ALARMS_CHANGED (R136). -/
theorem AlarmList.reachesEnd_eq (a : AlarmList) (b : Byte) :
    a.reachesEnd b.toNat =
      (decide (a.all = [] ∧ b = 0) || decide (b.toNat < a.all.length ∧ a.all.length ≤ b.toNat + 12)) := by
  unfold AlarmList.reachesEnd AlarmList.total
  have zero : b.toNat = 0 ↔ b = 0 := by bv_omega
  rw [Bool.eq_iff_iff]
  simp [zero]

/-! ### Acknowledging every entry -/

/-- An entry that is not yet acknowledged, acknowledged (R129). -/
def Entry.acknowledged (t : GroupTime) (e : Entry) : Entry :=
  if e.state = .activeUnack then { e with state := .activeAck, last := t } else e

theorem Entry.acked_eq (t : GroupTime) (e : Entry) :
    e.acked t = if e.state != .clearedUnack then some (e.acknowledged t) else none := by
  unfold Entry.acked Entry.acknowledged
  cases state : e.state <;> rfl

theorem Entry.acknowledged_state {t : GroupTime} {e : Entry} (stays : (e.state != .clearedUnack) = true) :
    (e.acknowledged t).state = .activeAck := by
  unfold Entry.acknowledged
  cases state : e.state <;> simp_all

theorem filterMap_acked (t : GroupTime) (es : List Entry) :
    es.filterMap (Entry.acked t) = (es.filter (·.state != .clearedUnack)).map (Entry.acknowledged t) := by
  induction es with
  | nil => rfl
  | cons e es ih =>
    rw [List.filterMap_cons, Entry.acked_eq, List.filter_cons, ih]
    split <;> split <;> simp_all

theorem bind_acked (t : GroupTime) (o : Option Entry) :
    o.bind (Entry.acked t) = (o.filter (·.state != .clearedUnack)).map (Entry.acknowledged t) := by
  cases o with
  | none => rfl
  | some e =>
    rw [Option.bind_some, Entry.acked_eq, Option.filter_some]
    split <;> rfl

/-- No output is held by entries that are acknowledged all (R134). -/
theorem AlarmList.setOutputs_acked {routed : KindSet} {a : AlarmList} (acked : ∀ e ∈ a.all, e.state = .activeAck) :
    a.setOutputs routed = { a with common := false, routed := false } := by
  have quiet : ∀ e ∈ a.all, e.calls = false := fun e he => by simp [Entry.calls, acked e he]
  unfold AlarmList.setOutputs
  rw [List.any_eq_false.mpr fun e he => by simp [quiet e he], List.any_eq_false.mpr fun e he => by simp [quiet e he]]

theorem AlarmList.withRoom_acked {t : GroupTime} {a : AlarmList} (acked : ∀ e ∈ a.overflow, e.state = .activeAck) :
    a.withRoom t =
      if 40 < a.entries.length then a else { a with overflow := none, changed := a.changed || a.overflow.isSome } := by
  split
  · next many => exact AlarmList.withRoom_of_stays (.inl many)
  · next room =>
    cases held : a.overflow with
    | none =>
      rw [AlarmList.withRoom_of_stays (.inr held)]
      obtain ⟨entries, overflow, common, routed, changed⟩ := a
      cases held
      simp
    | some o =>
      rw [AlarmList.withRoom_of_room (by omega) held, acked o held]
      simp

/-- Every entry acknowledged, by what is left of the list (R129, R131, R137). -/
theorem AlarmList.ackAll_eq (i : Image) (t : GroupTime) (a : AlarmList) :
    let left := a.entries.filter (·.state != .clearedUnack)
    a.ackAll i t =
      ⟨left.map (Entry.acknowledged t),
        if 40 < left.length then (a.overflow.filter (·.state != .clearedUnack)).map (Entry.acknowledged t) else none,
        false, false,
        a.changed || (a.all.any (·.state != .activeAck) || (a.overflow.isSome && decide (left.length ≤ 40)))⟩ := by
  intro left
  have acked : ∀ e ∈ left.map (Entry.acknowledged t), e.state = .activeAck := by
    intro e he
    obtain ⟨x, hx, rfl⟩ := List.mem_map.mp he
    exact Entry.acknowledged_state (List.mem_filter.mp hx).2
  have ackedOverflow : ∀ e ∈ (a.overflow.filter (·.state != .clearedUnack)).map (Entry.acknowledged t), e.state = .activeAck := by
    intro e he
    obtain ⟨x, hx, rfl⟩ := Option.mem_map.mp he
    exact Entry.acknowledged_state (Option.mem_filter_iff.mp hx).2
  have touched (b : Bool) (x : AlarmList) : (if b = true then x else x.touched) = { x with changed := x.changed || !b } := by
    cases b <;> simp [AlarmList.touched]
  unfold AlarmList.ackAll
  simp only [filterMap_acked, bind_acked, touched, AlarmList.evalOverflow_eq]
  rw [AlarmList.withRoom_acked ackedOverflow, List.length_map]
  have quiet : (!a.all.all fun e => e.state == .activeAck) = a.all.any (·.state != .activeAck) := by
    rw [List.not_all_eq_any_not]
    rfl
  have dropped : a.overflow.isSome = true → ((a.overflow.filter (·.state != .clearedUnack)).map (Entry.acknowledged t)).isSome = false →
      a.all.any (·.state != .activeAck) = true := by
    intro held gone
    obtain ⟨o, held⟩ := Option.isSome_iff_exists.mp held
    rw [List.any_eq_true]
    refine ⟨o, by simp [AlarmList.all, held], ?_⟩
    rw [held, Option.filter_some] at gone
    split at gone
    · cases gone
    · next cleared => simp_all
  split
  · next many =>
    rw [AlarmList.setOutputs_acked]
    · rw [quiet, decide_eq_false (show ¬left.length ≤ 40 from Nat.not_le.mpr many), Bool.and_false, Bool.or_false]
    · intro e he
      rcases List.mem_append.mp he with he | he
      · exact acked e he
      · exact ackedOverflow e (Option.mem_toList.mp he)
  · next room =>
    rw [AlarmList.setOutputs_acked]
    · rw [quiet, decide_eq_true (show left.length ≤ 40 from Nat.le_of_not_lt room), Bool.and_true]
      congr 1
      dsimp only
      rw [Bool.or_assoc]
      congr 1
      have fewer : ((a.overflow.filter (·.state != .clearedUnack)).map (Entry.acknowledged t)).isSome = true →
          a.overflow.isSome = true := fun h => by
        cases held : a.overflow with
        | none => rw [held] at h; cases h
        | some _ => rfl
      revert dropped fewer
      cases a.overflow.isSome <;>
        cases ((a.overflow.filter (·.state != .clearedUnack)).map (Entry.acknowledged t)).isSome <;> simp
    · intro e he
      rw [AlarmList.all, Option.toList_none, List.append_nil] at he
      exact acked e he

/-! ### Acknowledging one entry -/

theorem alarmKind?_code (k : AlarmKind) : alarmKind? (byteOf (alarmCode k)) = some k := by
  cases k <;> rfl

theorem alarmKind?_of_out {b : Byte} (h : b = 0 ∨ 20 < b.toNat) : alarmKind? b = none := by
  unfold alarmKind?
  split
  · rfl
  · next other =>
    refine List.getElem?_eq_none ?_
    have length : allAlarmKinds.length = 20 := rfl
    rw [length]
    rcases h with zero | above
    · exact absurd zero other
    · omega

theorem byteOf_toNat {n : Nat} (h : n < 256) : (byteOf n).toNat = n := by
  rw [byteOf, BitVec.toNat_ofNat]
  exact Nat.mod_eq_of_lt h

theorem subject?_bytes (x : Subject) : ∃ b c, subjectBytes x = [b, c] ∧ subject? b c = some x := by
  cases x with
  | group => exact ⟨_, _, rfl, rfl⟩
  | door d =>
    refine ⟨1, byteOf d.val, rfl, ?_⟩
    have code : (byteOf d.val).toNat = d.val := byteOf_toNat (by omega)
    show (if h : (byteOf d.val).toNat < 24 then _ else _) = _
    rw [dif_pos (by rw [code]; exact d.isLt)]
    exact congrArg (some ∘ Subject.door) (Fin.ext code)
  | hpu h =>
    refine ⟨2, byteOf h.val, rfl, ?_⟩
    have code : (byteOf h.val).toNat = h.val := byteOf_toNat (by omega)
    show (if h : (byteOf h.val).toNat < 4 then _ else _) = _
    rw [dif_pos (by rw [code]; exact h.isLt)]
    exact congrArg (some ∘ Subject.hpu) (Fin.ext code)
  | line l => cases l <;> exact ⟨_, _, rfl, rfl⟩

/-- A subject of a sort above 3, or with an index outside its sort's range, is none (R136). -/
theorem subject?_of_out {x n : Byte}
    (h : 3 < x.toNat ∨ x.toNat = 0 ∧ 1 ≤ n.toNat ∨ x.toNat = 1 ∧ 24 ≤ n.toNat ∨ x.toNat = 2 ∧ 4 ≤ n.toNat ∨
      x.toNat = 3 ∧ 2 ≤ n.toNat) : subject? x n = none := by
  unfold subject?
  split
  · rw [if_neg (by bv_omega)]
  · rw [dif_neg (by omega)]
  · rw [dif_neg (by omega)]
  · rw [if_neg (by bv_omega), if_neg (by bv_omega)]
  · rfl

section
variable {a : AlarmList} {k : AlarmKind} {x : Subject}

/-- A list holds an ordinary entry where it finds one, the overflow entry being of no other kind (R124, R130). -/
theorem AlarmList.has_ordinary (ordinary : k ≠ .listOverflow)
    (own : ∀ e ∈ a.overflow, e.kind = .listOverflow ∧ e.subject = .group) : a.has k x = (a.find k x).isSome := by
  have off : (a.overflow.toList.any fun e => e.isOf k x) = false := List.any_eq_false.mpr fun e he => by
    obtain ⟨kind, -⟩ := own e (Option.mem_toList.mp he)
    simp [Entry.isOf, kind, Ne.symm ordinary]
  rw [AlarmList.has, AlarmList.all, List.any_append, off, Bool.or_false, AlarmList.find, List.isSome_find?]

/-- A list holds LIST_OVERFLOW where its overflow entry is occupied (R130). -/
theorem AlarmList.has_overflow (fits : AlarmKind.listOverflow.fits x = true)
    (ordinary : ∀ e ∈ a.entries, e.kind ≠ .listOverflow)
    (own : ∀ e ∈ a.overflow, e.kind = .listOverflow ∧ e.subject = .group) : a.has .listOverflow x = a.overflow.isSome := by
  have group : x = .group := by cases x <;> first | rfl | cases fits
  have off : (a.entries.any fun e => e.isOf .listOverflow x) = false := List.any_eq_false.mpr fun e he => by
    simp [Entry.isOf, ordinary e he]
  rw [AlarmList.has, AlarmList.all, List.any_append, off, Bool.false_or]
  cases held : a.overflow with
  | none => rfl
  | some o =>
    obtain ⟨kind, subject⟩ := own o held
    simp [Entry.isOf, kind, subject, group]

end

section
variable {s : State} {c : Instr} {r : Req} {kind : Byte} {lens : List Nat} {owner : List Byte → State → Answer}
  {data : List Byte}

/-- A request that the alarm list's part alone accepts. -/
theorem State.serve_alarmList {a : AlarmList} (h : Waits s c r) (length : r.body.length ∈ lens)
    (part : owner r.body (s.begun r) = .accepted ((s.begun r).withAlarms a) data) :
    let t := s.serve c kind r lens owner
    t = { s with port := t.port, alarms := t.alarms } ∧ Answered s.port r kind none data t ∧ t.alarms = a := by
  intro t
  have served : t = (((s.begun r).withAlarms a).complete s.inFlight.length).reply kind r none data :=
    State.serve_accepted h length part
  rw [State.complete_of_quiet (s := s) (by rfl)] at served
  have alarms : t.alarms = a := by
    rw [served, State.reply_eq]
    rfl
  refine ⟨?_, ?_, alarms⟩
  · rw [alarms, served, State.reply_eq]
    rfl
  · rw [served]
    exact answered_begun.mp (State.reply_answered _ h.addressed)

end

/-- Settles O49: a reading and an acknowledgement by the list's own procedures. -/
theorem alarmRequests : Obligations.AlarmRequests := by
  unfold Obligations.AlarmRequests
  intro s r a
  have refused {lens : List Nat} {c : Instr} {kind : Byte} {owner : List Byte → State → Answer} (h : Waits s c r)
      (length : r.body.length ∈ lens) (part : owner r.body (s.begun r) = .refused .badValue []) :
      let t := s.serve c kind r lens owner
      t = { s with port := t.port, alarms := t.alarms } ∧ Answered s.port r kind (some .badValue) [] t ∧ t.alarms = a ∧
        t = { s with port := t.port } := by
    intro t
    have reply : Replied s r kind (some .badValue) [] t := State.serve_refused h length part
    have alarms : t.alarms = a := by rw [reply.eq]
    exact ⟨by rw [alarms]; exact reply.eq, reply.answered, alarms, reply.eq⟩
  refine ⟨fun b h body => ⟨_, rfl, ?_⟩, fun b h body => ⟨_, rfl, ?_⟩, fun k x n h body => ?_,
    fun k x h body ordinary own once => ?_⟩
  · have length : r.body.length ∈ [1] := by simp [body]
    have operand : byteAt r.body 0 = b := by rw [body]; rfl
    by_cases high : 48 < b.toNat
    · obtain ⟨frame, answered, same, -⟩ := refused (kind := 0x04) (owner := State.alarmRead) h length (by
        rw [State.alarmRead, operand]
        exact if_pos high)
      exact ⟨frame, fun _ => ⟨answered, same⟩, fun low => absurd low (by omega)⟩
    · have part : State.alarmRead r.body (s.begun r) = .accepted ((s.begun r).withAlarms { a with
          changed := a.changed && !a.reachesEnd b.toNat }) (alarmPage a b.toNat) := by
        rw [State.alarmRead, operand]
        refine (if_neg high).trans ?_
        show Answer.accepted (if a.reachesEnd b.toNat then _ else _) _ = _
        cases a.reachesEnd b.toNat
        · rw [Bool.not_false, Bool.and_true]
          rfl
        · rw [Bool.not_true, Bool.and_false]
          rfl
      obtain ⟨frame, answered, same⟩ := State.serve_alarmList (kind := 0x04) h length part
      rw [AlarmList.reachesEnd_eq] at same
      exact ⟨frame, fun above => absurd above high, fun _ => ⟨answered, same⟩⟩
  · have length : r.body.length ∈ [1, 3] := by simp [body]
    have operand : byteAt r.body 0 = b := by rw [body]; rfl
    have part : State.alarmAck r.body (s.begun r) =
        if b = 0 then .accepted ((s.begun r).withAlarms (a.ackAll s.image s.time)) [] else .refused .badValue [] := by
      rw [State.alarmAck, operand, if_pos (by simp [body])]
      rfl
    by_cases zero : b = 0
    · rw [if_pos zero] at part
      obtain ⟨frame, answered, same⟩ := State.serve_alarmList (kind := 0x05) h length part
      exact ⟨frame, fun other => absurd zero other, fun _ => ⟨answered, same.trans (AlarmList.ackAll_eq ..)⟩⟩
    · rw [if_neg zero] at part
      obtain ⟨frame, answered, same, -⟩ := refused (kind := 0x05) h length part
      exact ⟨frame, fun _ => ⟨answered, same⟩, fun other => absurd other zero⟩
  · intro sort index out
    have length : r.body.length ∈ [1, 3] := by simp [body]
    have none : alarmKind? k = none ∨ subject? x n = none := by
      rcases out with out | out | out
      · exact .inl (alarmKind?_of_out (.inl out))
      · exact .inl (alarmKind?_of_out (.inr out))
      · exact .inr (subject?_of_out out)
    obtain ⟨-, answered, -, same⟩ := refused (kind := 0x05) (owner := State.alarmAck) h length (by
      rw [State.alarmAck, if_neg (by simp [body]), State.alarmAckOne, body]
      show (match alarmKind? k, subject? x n with
        | some k, some x => _
        | _, _ => _) = _
      rcases none with none | none
      · rw [none]
      · rw [none]
        cases alarmKind? k <;> rfl)
    exact ⟨_, rfl, same, answered⟩
  · intro changes
    obtain ⟨b, c, bytes, subject⟩ := subject?_bytes x
    rw [bytes] at body
    have length : r.body.length ∈ [1, 3] := by simp [body]
    have part : State.alarmAck r.body (s.begun r) =
        if k.fits x && a.has k x then .accepted ((s.begun r).withAlarms (a.ackOne s.image s.time k x)) []
        else .refused .badValue [] := by
      rw [State.alarmAck, if_neg (by simp [body]), State.alarmAckOne, body]
      show (match alarmKind? (byteOf (alarmCode k)), subject? b c with
        | some k, some x => _
        | _, _ => _) = _
      rw [alarmKind?_code, subject]
      rfl
    have rejects (h' : (k.fits x && a.has k x) = false) := refused (kind := 0x05) (owner := State.alarmAck) h length (by
      rw [part, h']
      rfl)
    have accepts (h' : (k.fits x && a.has k x) = true) := State.serve_alarmList (kind := 0x05) (owner := State.alarmAck)
      (a := a.ackOne s.image s.time k x) (data := []) h length (by rw [part, if_pos h'])
    refine ⟨_, rfl, ?_⟩
    by_cases fits : k.fits x = true
    · by_cases special : k = .listOverflow
      · subst special
        have holds := AlarmList.has_overflow fits ordinary own
        rw [fits, holds, Bool.true_and] at rejects accepts
        cases held : a.overflow with
        | none =>
          obtain ⟨frame, answered, same, -⟩ := rejects (by rw [held]; rfl)
          exact ⟨frame, fun _ => ⟨answered, same⟩, fun e _ other => absurd rfl other, fun _ _ _ found => nomatch found⟩
        | some o =>
          obtain ⟨frame, answered, same⟩ := accepts (by rw [held]; rfl)
          refine ⟨frame, fun out => ?_, fun e _ other => absurd rfl other, fun e _ _ found => ⟨answered, ?_⟩⟩
          · rcases out with unfit | ⟨other, -⟩ | ⟨-, none⟩
            · cases fits.symm.trans unfit
            · exact absurd rfl other
            · cases none
          · cases found
            rw [AlarmList.ackOne, if_pos rfl, held] at same
            refine ⟨fun state => ?_, fun state => ?_, fun state => ?_⟩
            · exact same.trans (if_pos state)
            all_goals
              refine same.trans ?_
              dsimp only
              rw [if_neg (by rw [state]; decide), Entry.acked, state]
              rfl
      · have holds := AlarmList.has_ordinary (x := x) special own
        rw [fits, holds, Bool.true_and] at rejects accepts
        cases found : a.find k x with
        | none =>
          obtain ⟨frame, answered, same, -⟩ := rejects (by rw [found]; rfl)
          exact ⟨frame, fun _ => ⟨answered, same⟩, fun _ _ _ found => (Option.some_ne_none _ found.symm).elim, fun e _ other => absurd other special⟩
        | some e =>
          obtain ⟨frame, answered, same⟩ := accepts (by rw [found]; rfl)
          refine ⟨frame, fun out => ?_, fun e' _ _ found' => ⟨answered, ?_⟩, fun e _ other => absurd other special⟩
          · rcases out with unfit | ⟨-, none⟩ | ⟨other, -⟩
            · cases fits.symm.trans unfit
            · cases none
            · exact absurd other special
          · cases found'
            have mine := AlarmList.update_found once found fun e => { e with state := .activeAck, last := s.time }
            rw [AlarmList.ackOne, if_neg special, found] at same
            dsimp only at same
            refine ⟨fun state => ?_, fun state => ?_, fun state => ?_⟩
            all_goals rw [state] at same
            · exact same
            · refine same.trans ?_
              dsimp only
              rw [mine]
              rfl
            · refine same.trans ?_
              dsimp only
              rw [AlarmList.evalOverflow_eq, AlarmList.remove_found once found, AlarmList.withRoom_touched]
              rfl
    · obtain ⟨frame, answered, same, -⟩ := rejects (by rw [Bool.eq_false_iff.mpr fits, Bool.false_and])
      exact ⟨frame, fun _ => ⟨answered, same⟩, fun e fits' => absurd fits' fits, fun e fits' => absurd fits' fits⟩

end Sys2Proof.Machine

/-! What a report of its standing authority makes of a door (R41). -/

namespace Sys2Proof.Machine

open Sys2Proof

/-! ### Valves of a stroke that has ended -/

theorem Channel.withValve_false (c : Channel) (v : Dir) :
    c.withValve v false =
      { c with
        openValve := if v = .opn then false else c.openValve
        closeValve := if v = .cls then false else c.closeValve } := by
  cases v <;> rfl

theorem Door.atRest_standing (c : Channel) (r : Door) : (r.atRest c).standing = r.standing := by
  unfold Door.atRest
  split <;> rfl

/-! ### The report in each standing of the door -/

section
variable {w : Work} {a : Standing}

theorem Work.order_unserved (h : ¬(w.door.motion ≠ .isolated ∧ w.door.motion ≠ .absent)) : w.order a = w.withStanding .none := by
  rcases not_and_or.mp h with h | h <;> rw [Work.order, not_not.mp h]

theorem Work.order_served (h : w.door.motion ≠ .isolated ∧ w.door.motion ≠ .absent) :
    w.order a =
      if a = w.door.standing then w
      else if w.door.standing = .none then (w.withStanding a).orderRises a
      else if a = .none then ((w.withStanding a).clearTransit).orderEnds w.door.transit
      else (w.withStanding a).orderChanges a := by
  obtain ⟨isolated, absent⟩ := h
  unfold Work.order
  split
  · exact absurd ‹_› isolated
  · exact absurd ‹_› absent
  all_goals rfl

/-! ### An order that rises -/

theorem Work.orderRises_opening (motion : w.door.motion = .opening) (held : w.door.held = false) :
    w.orderRises a = (w.endStroke .other).rest := by
  unfold Work.orderRises
  rw [motion, held]
  simp [Work.stopAndRest, isMoving, motion]

theorem Work.orderRises_queuedOpen (motion : w.door.motion = .queued) (dir : w.door.dir = .opn) (held : w.door.held = false) :
    w.orderRises a = w.rest := by
  unfold Work.orderRises
  rw [motion, held, dir]
  simp [Work.stopAndRest, isMoving, motion]

theorem Work.orderRises_latchedClose
    (h : (w.door.motion = .closing ∨ w.door.motion = .queued ∧ w.door.dir = .cls) ∧ w.door.held = false ∧ w.door.authority = .local_) :
    w.orderRises a = w.withAuthority a.motion := by
  obtain ⟨closing | ⟨queued, dir⟩, held, latched⟩ := h
  · unfold Work.orderRises
    rw [closing, held]
    exact if_pos latched
  · unfold Work.orderRises
    rw [queued, held, dir]
    exact if_pos latched

theorem Work.orderRises_other
    (opening : ¬((w.door.motion = .opening ∨ w.door.motion = .queued ∧ w.door.dir = .opn) ∧ w.door.held = false))
    (closing : ¬((w.door.motion = .closing ∨ w.door.motion = .queued ∧ w.door.dir = .cls) ∧ w.door.held = false ∧
      w.door.authority = .local_)) : w.orderRises a = w := by
  unfold Work.orderRises
  split
  · next motion dir held => exact absurd ⟨.inr ⟨motion, dir⟩, held⟩ opening
  · next motion held => exact absurd ⟨.inl motion, held⟩ opening
  · next motion dir held => exact if_neg fun latched => closing ⟨.inr ⟨motion, dir⟩, held, latched⟩
  · next motion held => exact if_neg fun latched => closing ⟨.inl motion, held, latched⟩
  · rfl

/-! ### An order that changes its source -/

theorem Work.orderChanges_ordered
    (h : w.door.motion = .warning ∨
      (w.door.motion = .closing ∨ w.door.motion = .queued ∧ w.door.dir = .cls) ∧ w.door.authority ≠ .local_) :
    w.orderChanges a = w.withAuthority a.motion := by
  unfold Work.orderChanges
  rcases h with warning | ⟨closing | ⟨queued, dir⟩, ordered⟩
  · rw [warning]
  · rw [closing]
    exact if_neg ordered
  · rw [queued, dir]
    exact if_neg ordered

theorem Work.orderChanges_other (warning : w.door.motion ≠ .warning)
    (ordered : ¬((w.door.motion = .closing ∨ w.door.motion = .queued ∧ w.door.dir = .cls) ∧ w.door.authority ≠ .local_)) :
    w.orderChanges a = w := by
  unfold Work.orderChanges
  split
  · exact absurd ‹_› warning
  · next motion dir => exact if_pos (not_not.mp fun h => ordered ⟨.inr ⟨motion, dir⟩, h⟩)
  · next motion => exact if_pos (not_not.mp fun h => ordered ⟨.inl motion, h⟩)
  · rfl

/-! ### An order that ends -/

theorem Work.orderEnds_timed {transit : Bool} (h : w.door.motion = .warning ∨ w.door.motion = .dwell) :
    w.orderEnds transit = w.rest := by
  unfold Work.orderEnds
  rcases h with h | h <;> rw [h]

theorem Work.orderEnds_queuedClose {transit : Bool} (queued : w.door.motion = .queued) (dir : w.door.dir = .cls)
    (ordered : w.door.authority ≠ .local_) : w.orderEnds transit = w.rest := by
  unfold Work.orderEnds
  rw [queued, dir]
  exact if_neg ordered

theorem Work.orderEnds_closing {transit : Bool} (closing : w.door.motion = .closing) (ordered : w.door.authority ≠ .local_) :
    w.orderEnds transit = w.withAuthority .local_ := by
  unfold Work.orderEnds
  rw [closing]
  exact if_neg ordered

theorem Work.orderEnds_opening (h : w.door.motion = .opening ∨ w.door.motion = .queued ∧ w.door.dir = .opn) :
    w.orderEnds true = { w with door := { w.door with held := false } } := by
  unfold Work.orderEnds
  rcases h with opening | ⟨queued, dir⟩
  · rw [opening]
    rfl
  · rw [queued, dir]
    rfl

theorem Work.orderEnds_stopped {transit : Bool} (h : w.door.motion = .stopped) : w.orderEnds transit = w.endEdgeWait := by
  unfold Work.orderEnds
  rw [h]

theorem Work.orderEnds_other {transit : Bool} (warning : w.door.motion ≠ .warning) (dwell : w.door.motion ≠ .dwell)
    (stopped : w.door.motion ≠ .stopped)
    (ordered : ¬((w.door.motion = .closing ∨ w.door.motion = .queued ∧ w.door.dir = .cls) ∧ w.door.authority ≠ .local_))
    (opening : ¬((w.door.motion = .opening ∨ w.door.motion = .queued ∧ w.door.dir = .opn) ∧ transit = true)) :
    w.orderEnds transit = w := by
  unfold Work.orderEnds
  split
  · exact absurd ‹_› warning
  · exact absurd ‹_› dwell
  · next motion dir => exact if_pos (not_not.mp fun h => ordered ⟨.inr ⟨motion, dir⟩, h⟩)
  · next motion => exact if_pos (not_not.mp fun h => ordered ⟨.inl motion, h⟩)
  · next motion dir => exact if_neg fun on => opening ⟨.inr ⟨motion, dir⟩, on⟩
  · next motion => exact if_neg fun on => opening ⟨.inl motion, on⟩
  · exact absurd ‹_› stopped
  · rfl

end

/-- Settles O31: a report by the standing of the door that takes it, and what R21 then does. -/
theorem standingReportMoves : Obligations.StandingReportMoves := by
  unfold Obligations.StandingReportMoves
  intro s d a m r c i served told openOff closeOff latchedClose orderedClose freeOpening ended first
  let w : Work := (s.taking m).work d
  have proceeding (r' : Door) (o q : Bool) (ms : List Instr)
      (reaction : w.order a = ⟨i, d, r', { c with openValve := o, closeValve := q }, ms, false⟩) :
      Leaves d (s.taking m) (s.deliver m) (r'.proceeds i c) o q (ms ++ proceedMessages i d c r') :=
    (s.taking m).doorEvent_leaves _ d (·.order a) r' o q ms reaction
  have undriven (r' : Door) (ms : List Instr) (reaction : w.order a = ⟨i, d, r', c, ms, false⟩) :
      LeavesUndriven d (s.taking m) (s.deliver m) (r'.proceeds i c) (ms ++ proceedMessages i d c r') :=
    (s.taking m).doorEvent_leavesUndriven _ d (·.order a) r' ms reaction
  have idle (r' : Door) (ms : List Instr) (reaction : w.order a = ⟨i, d, r', c, ms, false⟩) (notDue : r'.due = false) :
      LeavesUndriven d (s.taking m) (s.deliver m) r' ms :=
    (s.taking m).doorEvent_leavesUndriven_idle _ d (·.order a) r' ms reaction notDue
  have waits (h : r.motion = .queued ∨ r.motion = .opening ∨ r.motion = .closing ∨ r.motion = .warning) (r' : Door)
      (same : r'.motion = r.motion) : r'.due = false := by
    apply Door.due_of_motion <;> rw [same] <;> rcases h with h | h | h | h <;> rw [h] <;> decide
  have risen (serves : served) (none : r.standing = .none) (rises : a ≠ .none) :
      w.order a = (w.withStanding a).orderRises a := by
    rw [Work.order_served serves, if_neg (show a ≠ w.door.standing by rw [show w.door.standing = .none from none]; exact rises),
      if_pos (show w.door.standing = .none from none)]
  have changed (serves : served) (some : r.standing ≠ .none) (rises : a ≠ .none) (other : a ≠ r.standing) :
      w.order a = (w.withStanding a).orderChanges a := by
    rw [Work.order_served serves, if_neg (show a ≠ w.door.standing from other), if_neg (show w.door.standing ≠ .none from some), if_neg rises]
  refine ⟨s.deliver m, exec_first rfl first, fun unserved => ?_, fun serves same => ?_, fun serves none rises => ⟨?_, ?_, ?_, ?_⟩,
    fun serves some none => ?_, fun serves some rises other => ⟨?_, ?_⟩⟩
  · exact idle _ _ (Work.order_unserved unserved) (Door.due_of_standing rfl)
  · exact undriven r [] ((Work.order_served serves).trans (if_pos same))
  · intro opening held rested
    have reaction : w.order a =
        ⟨i, d, rested, { c with openValve := openOff, closeValve := closeOff }, [.release d] ++ restMessages d c r, false⟩ := by
      rw [risen serves none rises, Work.orderRises_opening (w := w.withStanding a) opening held,
        Work.endStroke_rest (w.withStanding a) (by rw [show (w.withStanding a).door.motion = .opening from opening]; decide),
        Channel.withValve_false]
      rfl
    exact proceeding _ _ _ _ reaction
  · intro queued dir held
    refine undriven _ _ ?_
    rw [risen serves none rises, Work.orderRises_queuedOpen (w := w.withStanding a) queued dir held, Work.rest_eq,
      show (w.withStanding a).door.motion = .queued from queued]
    rfl
  · intro latched
    refine idle _ _ ?_ (waits (latched.1.elim (fun h => .inr (.inr (.inl h))) fun h => .inl h.1) _ rfl)
    rw [risen serves none rises, Work.orderRises_latchedClose (w := w.withStanding a) latched]
    rfl
  · intro opening closing
    exact undriven _ _ ((risen serves none rises).trans (Work.orderRises_other (w := w.withStanding a) opening closing))
  · subst none
    have ending : w.order .none = Work.orderEnds ⟨i, d, ended, c, transitMessages d r, false⟩ r.transit := by
      rw [Work.order_served serves, if_neg (show Standing.none ≠ w.door.standing from Ne.symm some),
        if_neg (show w.door.standing ≠ .none from some), if_pos rfl, Work.clearTransit_eq]
      rfl
    let x : Work := ⟨i, d, ended, c, transitMessages d r, false⟩
    have rested : (ended.atRest c).due = false := Door.due_of_standing (Door.atRest_standing c ended)
    have rests : x.rest = ⟨i, d, ended.atRest c, c, transitMessages d r ++ (if r.motion = .queued then [.withdraw d] else []), false⟩ := by
      rw [Work.rest_eq]
      dsimp only [x]
      rw [show restMessages d c ended = [] from restMessages_outOfTransit d c told, List.append_nil]
      rfl
    refine ⟨fun timed => ?_, fun queued ordered => ?_, fun closing ordered => ?_, fun opening transit => ?_, fun stopped => ?_,
      fun warning dwell stopped ordered opening => ?_⟩
    · refine idle _ _ ?_ rested
      rw [ending, Work.orderEnds_timed (w := x) timed, rests, if_neg (by rcases timed with h | h <;> rw [h] <;> decide), List.append_nil]
    · refine idle _ _ ?_ rested
      have dir : r.dir = .cls := ordered.1.elim (fun h => by rw [queued] at h; cases h) fun h => h.2
      rw [ending, Work.orderEnds_queuedClose (w := x) queued dir ordered.2, rests, if_pos queued]
    · refine idle _ _ ?_ (Door.due_of_standing rfl)
      rw [ending, Work.orderEnds_closing (w := x) closing ordered.2]
      rfl
    · refine idle _ _ ?_ (Door.due_of_standing rfl)
      rw [ending, transit, Work.orderEnds_opening (w := x) opening]
    · refine idle _ _ ?_ (Door.due_of_standing rfl)
      rw [ending, Work.orderEnds_stopped (w := x) stopped]
      rfl
    · refine idle _ _ ?_ (Door.due_of_standing rfl)
      rw [ending, Work.orderEnds_other (w := x) warning dwell stopped ordered opening]
  · intro ordered
    refine idle _ _ ?_ (waits (ordered.elim (fun h => .inr (.inr (.inr h))) fun h => h.1.elim (fun h => .inr (.inr (.inl h)))
      fun h => .inl h.1) _ rfl)
    rw [changed serves some rises other, Work.orderChanges_ordered (w := w.withStanding a) ordered]
    rfl
  · intro warning ordered
    exact undriven _ _ ((changed serves some rises other).trans (Work.orderChanges_other (w := w.withStanding a) warning ordered))

end Sys2Proof.Machine

/-! No reaction of the door table but the entry into SETTLING touches the filters of a door's inputs (R9). -/

namespace Sys2Proof.Machine

open Sys2Proof

@[simp] theorem Channel.withValve_inputs (c : Channel) (v : Dir) (on : Bool) : (c.withValve v on).inputs = c.inputs := by
  cases v <;> rfl

theorem Channel.filter_of_inputs {c c' : Channel} (h : c'.inputs = c.inputs) (k : DoorInput) : c'.filter k = c.filter k := by
  have same : c'.inputs.filter k = c.inputs.filter k := by rw [h]
  cases k <;> exact same

/-- A work whose channel has the same filters. -/
def Work.SameInputs (w w' : Work) : Prop := w'.channel.inputs = w.channel.inputs

namespace Work.SameInputs

variable {w w' w'' : Work}

theorem refl (w : Work) : w.SameInputs w := rfl

theorem trans (h : w.SameInputs w') (k : w'.SameInputs w'') : w.SameInputs w'' := Eq.trans k h

theorem ite {p : Prop} [Decidable p] {x y : Work} (h : w.SameInputs x) (k : w.SameInputs y) :
    w.SameInputs (if p then x else y) := by
  split
  · exact h
  · exact k

end Work.SameInputs

namespace Work

variable (w : Work)

/-! ### Shared procedures -/

theorem recheck_inputs (v : Dir) : w.SameInputs (w.recheck v) := .ite (.refl w) (.refl w)

theorem switchValve_inputs (v : Dir) (on : Bool) : w.SameInputs (w.switchValve v on) := by
  rw [SameInputs, switchValve_eq]
  exact Channel.withValve_inputs ..

theorem clearTransit_inputs : w.SameInputs w.clearTransit := by
  rw [clearTransit_eq]
  exact .refl w

theorem clearDrift_inputs : w.SameInputs w.clearDrift := .ite (.refl w) (.refl w)

theorem endStroke_inputs (how : StrokeEnd) : w.SameInputs (w.endStroke how) := by
  unfold endStroke
  exact .ite (w.switchValve_inputs w.door.dir false) (w.switchValve_inputs w.door.dir false)

theorem rest_inputs : w.SameInputs w.rest := by
  rw [rest_eq]
  exact .refl w

theorem startMove_inputs (dir : Dir) (a : MotionAuthority) (held : Bool) : w.SameInputs (w.startMove dir a held) :=
  .ite (w.stopTimers.endEdgeWait.rest_inputs) (.refl w)

theorem startClose_inputs : w.SameInputs w.startClose := .ite (w.startMove_inputs ..) (.refl w)

theorem startIfDue_inputs : w.SameInputs w.startIfDue := .ite w.startClose_inputs (.refl w)

theorem enterDwell_inputs : w.SameInputs w.enterDwell := by
  unfold enterDwell SameInputs
  dsimp only
  split <;> rfl

theorem evalTravelDrift_inputs : w.SameInputs w.evalTravelDrift := .ite (.refl w) (.ite (.refl w) (.refl w))

theorem learn_inputs : w.SameInputs w.learn := .ite (evalTravelDrift_inputs { w with door := _ }) (.refl w)

theorem arrive_inputs : w.SameInputs w.arrive := by
  have learned (x : Work) (same : w.SameInputs x) : w.SameInputs (if x.door.full then x.learn else x) :=
    .ite (same.trans x.learn_inputs) same
  have notified (x : Work) (same : w.SameInputs x) : w.SameInputs ((x.send (.arrivalNotice w.id)).clearTransit).clearDrift :=
    (same.trans (clearTransit_inputs (x.send _))).trans (clearDrift_inputs _)
  have ended := learned { w.endStroke .arrival with door := { (w.endStroke .arrival).door with
    motion := endMotion w.door.dir, estimate := endEstimate w.door.dir } } (w.endStroke_inputs .arrival)
  unfold arrive
  dsimp only
  split
  · exact ended
  · exact notified _ ended

theorem obstruct_inputs : w.SameInputs w.obstruct := w.endStroke_inputs .other

theorem endStrokeRest_inputs (how : StrokeEnd) : w.SameInputs (w.endStroke how).rest :=
  (w.endStroke_inputs how).trans (rest_inputs _)

theorem meetTarget_inputs : w.SameInputs w.meetTarget := .ite (endStrokeRest_inputs (w.report ..) .other) w.arrive_inputs

theorem edgeAtStart_inputs : w.SameInputs w.edgeAtStart := .ite w.obstruct_inputs (.refl w)

theorem beginStroke_inputs (dir : Dir) (full : Bool) : w.SameInputs (w.beginStroke dir full) :=
  switchValve_inputs { w with door := _ } dir true

theorem takeGrant_inputs (dir : Dir) : w.SameInputs (w.takeGrant dir) :=
  .ite ((w.beginStroke_inputs dir _).trans (edgeAtStart_inputs (send ..))) (.refl w)

theorem takePause_inputs : w.SameInputs w.takePause := .ite (w.endStroke_inputs .pause) (.refl w)

theorem reverse_inputs (a : MotionAuthority) (held : Bool) : w.SameInputs (w.reverse a held) := by
  have begun := (w.endStroke_inputs .reversal).trans (beginStroke_inputs _ w.door.dir.flip false)
  exact .ite (.ite (begun.trans (meetTarget_inputs (send ..))) (begun.trans (edgeAtStart_inputs (send ..))))
    (.ite w.rest_inputs (.refl w))

theorem stopAndRest_inputs : w.SameInputs w.stopAndRest :=
  (SameInputs.ite (w.endStroke_inputs .other) (.refl w)).trans (rest_inputs _)

/-! ### End switches, handles and leaf edge -/

theorem noteConflict_inputs : w.SameInputs w.noteConflict := .ite (.refl w) (.refl w)

theorem conflictAtRest_inputs : w.SameInputs w.conflictAtRest := rest_inputs (w.report ..)

theorem confirmMoving_inputs (end_ : Dir) : w.SameInputs (w.confirmMoving end_) :=
  .ite w.meetTarget_inputs (.ite (endStrokeRest_inputs (w.report ..) .other) (endStrokeRest_inputs (w.report ..) .other))

theorem endConfirm_inputs (end_ : Dir) : w.SameInputs (w.endConfirm end_) := by
  unfold endConfirm
  split
  case h_1 | h_2 => exact .refl w
  case h_3 => exact .ite (noteConflict_inputs (w.report ..)) (.refl w)
  case h_4 | h_5 => exact w.confirmMoving_inputs end_
  case h_6 | h_7 => exact .ite w.conflictAtRest_inputs (.refl w)
  case h_8 => exact .ite w.conflictAtRest_inputs w.rest_inputs
  case h_9 | h_10 =>
    refine .ite w.conflictAtRest_inputs ?_
    split
    · exact w.rest_inputs
    · exact .refl w
  case h_11 => exact .ite w.conflictAtRest_inputs (.ite w.rest_inputs (.refl w))

theorem endRelease_inputs (end_ : Dir) : w.SameInputs (w.endRelease end_) := by
  unfold endRelease
  split <;> first | exact .refl w | exact .ite w.rest_inputs (.refl w)

theorem endSwitch_inputs (end_ : Dir) (active : Bool) : w.SameInputs (w.endSwitch end_ active) := by
  refine .ite (.refl w) ?_
  split
  · exact w.clearDrift_inputs.trans (endConfirm_inputs _ .cls)
  · exact endRelease_inputs { w with door := _ } .cls
  · exact w.endConfirm_inputs .opn
  · exact w.endRelease_inputs .opn

theorem endPrimed_inputs (end_ : Dir) : w.SameInputs (w.endPrimed end_) := by
  refine .ite (.ite ?_ (.refl w)) (.refl w)
  refine SameInputs.trans ?_ (rest_inputs _)
  exact .ite (.refl w) (.refl w)

theorem leafEdge_inputs (active : Bool) : w.SameInputs (w.leafEdge active) := by
  refine .ite (.refl w) ?_
  split
  · exact w.obstruct_inputs
  all_goals exact .refl w

theorem openRelease_inputs : w.SameInputs w.openRelease := by
  unfold openRelease
  split
  · exact .ite (.ite w.enterDwell_inputs w.rest_inputs) (.refl w)
  · exact .ite (.ite ((w.endStroke_inputs .other).trans (enterDwell_inputs _)) (w.endStrokeRest_inputs .other)) (.refl w)
  · exact .ite w.enterDwell_inputs (.refl w)
  · exact .ite w.enterDwell_inputs (.refl w)
  all_goals exact .refl w

theorem closeRelease_inputs : w.SameInputs w.closeRelease := by
  unfold closeRelease
  split
  · exact .ite w.rest_inputs (.refl w)
  · exact .ite (w.endStrokeRest_inputs .other) (.refl w)
  all_goals exact .refl w

theorem handle_inputs (dir : Dir) (active : Bool) : w.SameInputs (w.handle dir active) := by
  unfold handle
  split
  · split <;> exact .refl w
  · exact .ite (.refl w) w.openRelease_inputs
  · exact w.closeRelease_inputs

theorem inputEvent_inputs (k : DoorInput) (active : Bool) : w.SameInputs (w.inputEvent k active) := by
  cases k
  case closedSwitch => exact w.endSwitch_inputs .cls active
  case openSwitch => exact w.endSwitch_inputs .opn active
  case openHandle => exact w.handle_inputs .opn active
  case closeHandle => exact w.handle_inputs .cls active
  case leafEdge => exact w.leafEdge_inputs active
  case openReadback => exact w.recheck_inputs .opn
  case closeReadback => exact w.recheck_inputs .cls

theorem inputPrimed_inputs (k : DoorInput) : w.SameInputs (w.inputPrimed k) := by
  cases k
  case closedSwitch => exact w.endPrimed_inputs .cls
  case openSwitch => exact w.endPrimed_inputs .opn
  case openReadback => exact w.recheck_inputs .opn
  case closeReadback => exact w.recheck_inputs .cls
  all_goals exact .refl w

/-! ### Rulings, reports and notices -/

theorem ruleOpening_inputs (held : Bool) : w.SameInputs (w.ruleOpening held) := by
  unfold ruleOpening
  split <;> first | exact w.startMove_inputs .. | exact .ite (.refl w) (.refl w) | exact w.reverse_inputs .. | exact .refl w

theorem ruleClosing_inputs (a : MotionAuthority) (held : Bool) : w.SameInputs (w.ruleClosing a held) := by
  unfold ruleClosing
  split <;> first | exact w.startMove_inputs .. | exact .ite (.refl w) (.refl w) | exact w.reverse_inputs .. | exact .refl w

theorem releasedMeanwhile_inputs (dir : Dir) : w.SameInputs (w.releasedMeanwhile dir) := by
  cases dir
  · exact .ite (.refl w) w.openRelease_inputs
  · exact .ite (.refl w) w.closeRelease_inputs

theorem setTransit_inputs : w.SameInputs w.setTransit := .ite (.refl w) (.refl w)

theorem obey_inputs (r : Ruling) : w.SameInputs (w.obey r) := by
  cases r
  case ignore => exact .refl w
  case latchOpen => exact w.ruleOpening_inputs false
  case latchClose => exact w.ruleClosing_inputs .local_ false
  case transitOpen =>
    exact (w.setTransit_inputs.trans (ruleOpening_inputs _ true)).trans (releasedMeanwhile_inputs _ .opn)
  case closeNow => exact w.ruleClosing_inputs _ false
  case holdOpen => exact (w.ruleOpening_inputs true).trans (releasedMeanwhile_inputs _ .opn)
  case holdClose => exact (w.ruleClosing_inputs .local_ true).trans (releasedMeanwhile_inputs _ .cls)

theorem heldByFault_inputs : w.SameInputs w.heldByFault := by
  rw [heldByFault_eq]
  exact .refl w

theorem rule_inputs (r : Ruling) : w.SameInputs (w.rule r) := by
  have outruled : w.SameInputs ((w.obey r).faultAfterRuling w.door.dir) := by
    have held := (w.obey_inputs r).trans (heldByFault_inputs _)
    exact .ite (held.trans (endStrokeRest_inputs _ .other)) held
  unfold rule
  split <;> first | exact .refl w | exact .ite outruled (w.obey_inputs r)

theorem order_inputs (a : Standing) : w.SameInputs (w.order a) := by
  by_cases serves : w.door.motion ≠ .isolated ∧ w.door.motion ≠ .absent
  · rw [order_served serves]
    refine .ite (.refl w) (.ite ?_ (.ite ?_ ?_))
    · unfold orderRises
      split
      · exact stopAndRest_inputs (w.withStanding a)
      · exact stopAndRest_inputs (w.withStanding a)
      · exact .ite (.refl w) (.refl w)
      · exact .ite (.refl w) (.refl w)
      · exact .refl w
    · have cleared := clearTransit_inputs (w.withStanding a)
      unfold orderEnds
      split
      · exact SameInputs.trans cleared (rest_inputs _)
      · exact SameInputs.trans cleared (rest_inputs _)
      · exact .ite cleared (SameInputs.trans cleared (rest_inputs _))
      · exact .ite cleared cleared
      · exact .ite cleared cleared
      · exact .ite cleared cleared
      · exact cleared
      · exact cleared
    · unfold orderChanges
      split
      · exact .refl w
      · exact .ite (.refl w) (.refl w)
      · exact .ite (.refl w) (.refl w)
      · exact .refl w
  · rw [order_unserved serves]
    exact .refl w

theorem occupied_inputs : w.SameInputs w.occupied := .ite (.refl w) (heldByFault_inputs { w with door := _ })

theorem emptied_inputs : w.SameInputs w.emptied := by
  refine .ite (.refl w) ?_
  split
  · exact noteConflict_inputs (report { w with door := _ } ..)
  · exact .refl w
  · exact noteConflict_inputs (report { w with door := _ } ..)
  · exact .refl w

end Work

end Sys2Proof.Machine

/-! Input filters and straps: what a voltage change and the end of an interval leave of each of them (chapter 1). -/

namespace Sys2Proof.Machine

open Sys2Proof

/-! ### Filters that are kept -/

/-- Every filter is as it was. -/
def FiltersKept (s t : State) : Prop := ∀ j, t.filter j = s.filter j

theorem FiltersKept.refl (s : State) : FiltersKept s s := fun _ => rfl

theorem FiltersKept.trans {s t u : State} (h : FiltersKept s t) (k : FiltersKept t u) : FiltersKept s u :=
  fun j => (k j).trans (h j)

theorem FiltersKept.of_wires {s t : State} (channels : ∀ d, (t.channel d).inputs = (s.channel d).inputs)
    (lines : t.lines = s.lines) : FiltersKept s t := by
  intro j
  cases j with
  | door d k => exact Channel.filter_of_inputs (channels d) k
  | emergency | mainSupply | pressure | resetPin =>
    unfold State.filter
    rw [lines]

section
variable (s : State)

theorem Work.event_inputs {w : Work} {f : Work → Work} (h : w.SameInputs (f w)) (before : Door) (bc : Channel) :
    (w.event before bc f).channel.inputs = w.channel.inputs := by
  rw [Work.event_channel]
  exact h.trans (Work.startIfDue_inputs _)

theorem State.doorEvent_filters (before : State) (d : DoorId) {f : Work → Work} (h : (s.work d).SameInputs (f (s.work d))) :
    FiltersKept s (s.doorEvent before d f) := by
  have only := s.doorEvent_onlyDoor before d f
  refine .of_wires (fun e => ?_) only.lines
  by_cases same : e = d
  · rw [same, State.doorEvent_channel]
    exact Work.event_inputs h _ _
  · rw [only.channels e same]

theorem State.taking_filters (m : Instr) : FiltersKept s (s.taking m) := fun j => by cases j <;> rfl

theorem State.ordersEvent_filters (f : Orders → Orders) : FiltersKept s (s.ordersEvent f) := fun j => by cases j <;> rfl

theorem State.flowEvent_filters (f : Flow → Flow) : FiltersKept s (s.flowEvent f) := fun j => by cases j <;> rfl

theorem State.logEvent_filters (f : Log → Log) : FiltersKept s (s.logEvent f) := fun j => by cases j <;> rfl

theorem State.alarmEvent_filters (f : Image → GroupTime → AlarmList → AlarmList) : FiltersKept s (s.alarmEvent f) :=
  fun j => by cases j <;> rfl

/-- No message between blocks touches a filter. -/
theorem State.deliver_filters (m : Instr) : FiltersKept s (s.deliver m) := by
  have told (d : DoorId) {f : Work → Work} (h : ∀ w : Work, w.SameInputs (f w)) :
      FiltersKept s ((s.taking m).doorEvent (s.taking m) d f) :=
    (s.taking_filters m).trans ((s.taking m).doorEvent_filters _ d (h _))
  have resolver (f : Orders → Orders) : FiltersKept s ((s.taking m).ordersEvent f) :=
    (s.taking_filters m).trans ((s.taking m).ordersEvent_filters f)
  have allocator (f : Flow → Flow) : FiltersKept s ((s.taking m).flowEvent f) :=
    (s.taking_filters m).trans ((s.taking m).flowEvent_filters f)
  have recorder (f : Log → Log) : FiltersKept s ((s.taking m).logEvent f) :=
    (s.taking_filters m).trans ((s.taking m).logEvent_filters f)
  have list (f : Image → GroupTime → AlarmList → AlarmList) : FiltersKept s ((s.taking m).alarmEvent f) :=
    (s.taking_filters m).trans ((s.taking m).alarmEvent_filters f)
  cases m
  case standingAuthorityReport d a => exact told d fun w => w.order_inputs a
  case handleRuling d r => exact told d fun w => w.rule_inputs r
  case grant d dir => exact told d fun w => w.takeGrant_inputs dir
  case pause d => exact told d fun w => w.takePause_inputs
  case captureOccupiedNotice d => exact told d fun w => w.occupied_inputs
  case captureEmptiedNotice d => exact told d fun w => w.emptied_inputs
  case handleReferral | arrivalNotice | openHandleReleaseNotice => exact resolver _
  case join | withdraw | release | reversed | taken | handedBack => exact allocator _
  case faultReport | mismatchReport | obstructionNotice | driftNotice => exact recorder _
  case alarmRaise | alarmClear | alarmResetCondition => exact list _
  all_goals exact .refl s

theorem State.complete_filters (mark : Nat) : FiltersKept s (s.complete mark) :=
  State.complete_keeps (P := FiltersKept s) (fun m _ h => h.trans (State.deliver_filters _ m)) mark (.refl s)

end

theorem Work.restartMotion_inputs (w : Work) : w.SameInputs w.restartMotion := by
  unfold Work.restartMotion
  split <;> exact .refl w

theorem Work.recheckBoth_inputs (w : Work) : w.SameInputs w.recheckBoth :=
  (w.recheck_inputs .opn).trans (Work.recheck_inputs _ .cls)

theorem Work.restartReports_inputs (w : Work) : w.SameInputs w.restartReports := .ite (.refl w) (.refl w)

theorem Work.restart_inputs (w : Work) : w.SameInputs w.restart :=
  (w.restartMotion_inputs.trans (Work.recheckBoth_inputs (Work.clearChecks { w.restartMotion with
    door := _, channel := { w.restartMotion.channel with openValve := false, closeValve := false }, dueBarred := true }))).trans
    (Work.restartReports_inputs _)

/-- A restart keeps every filter (R10, R179), and what the supply alone gives or loses. -/
theorem State.restart_frame (cause : StartCause) (s : State) :
    FiltersKept s (s.restart cause) ∧ (s.restart cause).store.stored = s.store.stored ∧ (s.restart cause).straps = s.straps ∧
      (s.restart cause).time = s.time ∧ (s.restart cause).pending = s.pending ∧ (s.restart cause).freeDraws = s.freeDraws := by
  have blocks : FiltersKept s (s.restartBlocks cause) := .of_wires
    (fun d => by
      rw [(State.restartBlocks_door cause s d).2]
      exact Work.event_inputs (Work.restart_inputs _) _ _)
    (State.restartBlocks_lines cause s)
  have completes := (s.restartBlocks cause).complete_completes s.discardMessages.inFlight.length
  refine ⟨(blocks.trans (State.complete_filters _ _)).trans (State.alarmEvent_filters _ _), ?_, ?_, ?_, ?_, ?_⟩
  · exact (congrArg Store.stored completes.store).trans (by rw [State.restartBlocks_store])
  · exact completes.straps.trans (State.restartBlocks_straps cause s)
  · exact completes.time.trans (State.restartBlocks_time cause s)
  · exact completes.pending.trans (State.restartBlocks_pending cause s)
  · exact completes.freeDraws.trans (State.restartBlocks_freeDraws cause s)

/-! ### The end of an interval -/

section
variable {s : State} {i : InputId} {c : Instr} {f : Filter}

theorem State.filterExpiry_eq {p : Pending} (primed : (s.filter i).primed = true) (pending : (s.filter i).pending = some p) :
    s.filterExpiry i = (s.withFilter i ((s.filter i).expired p)).inputEvent s i p.target := by
  unfold State.filterExpiry
  simp only [primed, pending]

theorem State.firstIntervalExpiry_eq (first : (s.filter i).first.isSome = true) :
    s.firstIntervalExpiry i =
      State.inputPrimed i (if (s.filter i).raw = (s.filter i).filtered then s.withFilter i (s.filter i).firstExpired
        else (s.withFilter i (s.filter i).firstExpired).firstEvent s i (s.filter i).raw) := by
  unfold State.firstIntervalExpiry
  simp only [first, if_true]

end

section
variable (s before : State) (i : InputId) (active : Bool)

/-- An event of a filter is none of any filter's (R6), and leaves what the supply alone gives or loses. -/
theorem State.inputEvent_frame :
    FiltersKept s (s.inputEvent before i active) ∧ (s.inputEvent before i active).store.stored = s.store.stored ∧
      (s.inputEvent before i active).straps = s.straps ∧ (s.inputEvent before i active).time = s.time ∧
      (s.inputEvent before i active).pending = s.pending ∧ (s.inputEvent before i active).freeDraws = s.freeDraws := by
  have same : FiltersKept s s ∧ s.store.stored = s.store.stored ∧ s.straps = s.straps ∧ s.time = s.time ∧
    s.pending = s.pending ∧ s.freeDraws = s.freeDraws := ⟨.refl s, rfl, rfl, rfl, rfl, rfl⟩
  unfold State.inputEvent
  cases i with
  | door d k => exact ⟨s.doorEvent_filters before d (Work.inputEvent_inputs _ k active), rfl, rfl, rfl, rfl, rfl⟩
  | emergency =>
    cases active
    · exact same
    · exact ⟨s.ordersEvent_filters _, rfl, rfl, rfl, rfl, rfl⟩
  | mainSupply => exact ⟨s.flowEvent_filters _, rfl, rfl, rfl, rfl, rfl⟩
  | pressure h => exact ⟨s.flowEvent_filters _, rfl, rfl, rfl, rfl, rfl⟩
  | resetPin =>
    cases active
    · exact same
    · exact s.restart_frame .resetPin

/-- What an event that ends a first interval, or the end of it, leaves alone (R8). -/
structure FirstFrame (s t : State) : Prop where
  filters : FiltersKept s t
  store : t.store = s.store
  straps : t.straps = s.straps
  port : t.port = s.port
  recorder : t.recorder = s.recorder
  alarms : t.alarms = s.alarms
  time : t.time = s.time
  pending : t.pending = s.pending
  freeDraws : t.freeDraws = s.freeDraws

theorem State.firstEvent_frame : FirstFrame s (s.firstEvent before i active) := by
  have same : FirstFrame s s := ⟨.refl s, rfl, rfl, rfl, rfl, rfl, rfl, rfl, rfl⟩
  cases i with
  | door d k =>
    exact ⟨s.doorEvent_filters before d (Work.inputEvent_inputs _ k active), rfl, rfl, rfl, rfl, rfl, rfl, rfl, rfl⟩
  | emergency =>
    cases active
    · exact same
    · exact ⟨s.ordersEvent_filters _, rfl, rfl, rfl, rfl, rfl, rfl, rfl, rfl⟩
  | mainSupply => exact ⟨s.flowEvent_filters _, rfl, rfl, rfl, rfl, rfl, rfl, rfl, rfl⟩
  | pressure h => exact ⟨s.flowEvent_filters _, rfl, rfl, rfl, rfl, rfl, rfl, rfl, rfl⟩
  | resetPin => exact same

theorem State.inputPrimed_frame : FirstFrame s (s.inputPrimed i) := by
  have same : FirstFrame s s := ⟨.refl s, rfl, rfl, rfl, rfl, rfl, rfl, rfl, rfl⟩
  cases i with
  | door d k => exact ⟨s.doorEvent_filters s d (Work.inputPrimed_inputs _ k), rfl, rfl, rfl, rfl, rfl, rfl, rfl, rfl⟩
  | mainSupply => exact ⟨s.flowEvent_filters _, rfl, rfl, rfl, rfl, rfl, rfl, rfl, rfl⟩
  | pressure h => exact ⟨s.flowEvent_filters _, rfl, rfl, rfl, rfl, rfl, rfl, rfl, rfl⟩
  | emergency | resetPin => exact same

theorem FirstFrame.trans {s t u : State} (h : FirstFrame s t) (k : FirstFrame t u) : FirstFrame s u :=
  ⟨h.filters.trans k.filters, k.store.trans h.store, k.straps.trans h.straps, k.port.trans h.port, k.recorder.trans h.recorder,
    k.alarms.trans h.alarms, k.time.trans h.time, k.pending.trans h.pending, k.freeDraws.trans h.freeDraws⟩

/-- Writing a filter writes the wires alone. -/
theorem State.withFilter_eq (f : Filter) :
    s.withFilter i f = { s with channels := (s.withFilter i f).channels, lines := (s.withFilter i f).lines } := by
  cases i <;> rfl

end

/-! ### Voltage changes -/

/-- What a voltage change makes of a filter (R1, R5, R8). -/
theorem Filter.onVoltage_rule (f : Filter) (t : FilterTimes) (mv : Nat) :
    let f' := f.onVoltage t mv
    f'.millivolts = mv ∧ f'.filtered = f.filtered ∧ f'.primed = f.primed ∧
      f'.raw = (if 15000 < mv then true else if mv < 6000 then false else f.raw) ∧
      (f'.raw = f.raw → f'.pending = f.pending ∧ f'.first = f.first) ∧
      (f'.raw ≠ f.raw →
        let time := if f'.raw then t.assert else t.release
        (f.primed = true → f'.first = f.first ∧
          f'.pending = if f'.raw = f.filtered then none else some ⟨f'.raw, time⟩) ∧
        (f.primed = false → f'.pending = f.pending ∧ f'.first = some time)) := by
  intro f'
  have raw : rawAfter f.raw mv = if 15000 < mv then true else if mv < 6000 then false else f.raw := rfl
  rw [← raw]
  by_cases same : rawAfter f.raw mv = f.raw
  · have eq : f' = { f with millivolts := mv } := by
      show f.onVoltage t mv = _
      rw [Filter.onVoltage, if_pos same]
    rw [eq]
    exact ⟨rfl, rfl, rfl, same.symm, fun _ => ⟨rfl, rfl⟩, fun other => absurd rfl other⟩
  · cases primed : f.primed with
    | true =>
      have eq : f' = { f with
          millivolts := mv, raw := rawAfter f.raw mv, pending := pendingAfter t f.filtered (rawAfter f.raw mv) } := by
        show f.onVoltage t mv = _
        rw [Filter.onVoltage, if_neg same, if_pos primed]
      rw [eq]
      exact ⟨rfl, rfl, primed, rfl, fun h => absurd h same, fun _ => ⟨fun _ => ⟨rfl, rfl⟩, nofun⟩⟩
    | false =>
      have eq : f' = { f with
          millivolts := mv, raw := rawAfter f.raw mv, first := some (intervalToward t (rawAfter f.raw mv)) } := by
        show f.onVoltage t mv = _
        rw [Filter.onVoltage, if_neg same, primed]
        rfl
      rw [eq]
      exact ⟨rfl, rfl, primed, rfl, fun h => absurd h same, fun _ => ⟨nofun, fun _ => ⟨rfl, rfl⟩⟩⟩

/-! ### Straps -/

theorem getLsbD_setBit (x : BitVec 5) (j k : Fin 5) (on : Bool) :
    (if on then x ||| 1#5 <<< j.val else x &&& ~~~(1#5 <<< j.val)).getLsbD k.val =
      if j = k then on else x.getLsbD k.val := by
  revert x on j k
  decide

/-- Settles O20: a voltage change by the filter's own rule or the strap's, and the end of an interval by what its event
leaves alone. -/
theorem filtersAndStraps : Obligations.FiltersAndStraps := by
  unfold Obligations.FiltersAndStraps
  refine ⟨fun g d h => ?_, fun i mv s => ?_, fun w mv s strap => ?_, fun i s => ⟨fun p primed pending => ?_, fun idle => ?_⟩,
    fun i s first => ?_⟩
  · simp only [List.mem_cons, List.not_mem_nil, or_false, forall_eq_or_imp, forall_eq]
    exact ⟨⟨rfl, rfl⟩, ⟨rfl, rfl⟩, rfl, ⟨rfl, rfl⟩, ⟨rfl, rfl, rfl⟩, rfl⟩
  · have written : (s.voltage (.input i) mv).filter i = (s.filter i).onVoltage (inputTimes s.image.group i) mv :=
      State.withFilter_filter ..
    refine ⟨s.voltage (.input i) mv, rfl, ?_⟩
    rw [written]
    exact ⟨rfl, (s.filter i).onVoltage_rule (inputTimes s.image.group i) mv⟩
  · refine ⟨s.voltage w mv, rfl, ?_⟩
    cases w with
    | input i => exact absurd rfl (strap i)
    | addressStrap j =>
      refine ⟨rfl, fun k => ?_, rfl, rfl⟩
      refine (getLsbD_setBit s.straps.address j k _).trans ?_
      by_cases same : j = k
      · subst same
        rw [if_pos rfl, if_pos rfl]
        rfl
      · rw [if_neg same, if_neg fun h => same (Wire.addressStrap.inj h)]
    | parityStrap => exact ⟨rfl, fun k => rfl, rfl, rfl⟩
    | rateStrap => exact ⟨rfl, fun k => rfl, rfl, rfl⟩
  · obtain ⟨filters, stored, straps, time, queue, draws⟩ :=
      State.inputEvent_frame (s.withFilter i ((s.filter i).expired p)) s i p.target
    have written := s.withFilter_eq i ((s.filter i).expired p)
    refine ⟨s.filterExpiry i, rfl, ?_⟩
    rw [State.filterExpiry_eq primed pending]
    refine ⟨(filters i).trans (State.withFilter_filter ..), fun j ne => (filters j).trans (State.withFilter_filter_ne _ _ ne), ?_⟩
    rw [stored, straps, time, queue, draws, written]
    exact ⟨rfl, rfl, rfl, rfl, rfl⟩
  · show Host.Outcome.next (s.filterExpiry i) = _
    unfold State.filterExpiry
    dsimp only
    split
    · next primed pending => rcases idle with h | h <;> simp_all
    · rfl
  · have written := s.withFilter_eq i (s.filter i).firstExpired
    let s1 : State := s.withFilter i (s.filter i).firstExpired
    have frame : FirstFrame s1 (s.firstIntervalExpiry i) := by
      rw [State.firstIntervalExpiry_eq first]
      refine FirstFrame.trans ?_ (State.inputPrimed_frame _ i)
      split
      · exact ⟨.refl _, rfl, rfl, rfl, rfl, rfl, rfl, rfl, rfl⟩
      · exact State.firstEvent_frame _ _ _ _
    refine ⟨s.firstIntervalExpiry i, rfl, (frame.filters i).trans (State.withFilter_filter ..),
      fun j ne => (frame.filters j).trans (State.withFilter_filter_ne _ _ ne), ?_⟩
    rw [frame.store, frame.straps, frame.port, frame.recorder, frame.alarms, frame.time, frame.pending, frame.freeDraws,
      show s1 = _ from written]
    exact ⟨rfl, rfl, rfl, rfl, rfl, rfl, rfl, rfl⟩

end Sys2Proof.Machine

/-! The events of a door's handles, leaf edge and readbacks, and of the emergency-close line. -/

namespace Sys2Proof.Machine

open Sys2Proof

/-! ### Commands that end an interval of a filter -/

section
variable {s : State} {c : Instr} {i : InputId} {f : Filter}

/-- A command that delivers an event is the event, with the primed notification after that of a first interval (R6, R8). -/
theorem Delivers.runs (h : Delivers s c i f) :
    exec c s = .next ((s.withFilter i f).inputEvent s i f.filtered) ∨
      exec c s = .next (State.inputPrimed i ((s.withFilter i f).firstEvent s i f.filtered)) := by
  obtain ⟨⟨p, primed, pending, rfl, rfl⟩ | ⟨first, rfl, rfl⟩, changes⟩ := h
  · exact .inl (congrArg Host.Outcome.next (State.filterExpiry_eq primed pending))
  · refine .inr (congrArg Host.Outcome.next ((State.firstIntervalExpiry_eq first).trans ?_))
    rw [if_neg (changes rfl)]
    rfl

/-- A command that ends an interval and delivers no event is that of a first interval whose values agree (R8). -/
theorem FilterEnds.exec_quiet (h : FilterEnds s c i f) (quiet : ¬Delivers s c i f) :
    exec c s = .next (State.inputPrimed i (s.withFilter i f)) ∧ f.filtered = (s.filter i).filtered := by
  rcases id h with ⟨p, primed, pending, rfl, rfl⟩ | ⟨first, rfl, rfl⟩
  · exact absurd ⟨h, nofun⟩ quiet
  · have same : (s.filter i).raw = (s.filter i).filtered := by
      by_contra differ
      exact quiet ⟨h, fun _ => differ⟩
    refine ⟨congrArg Host.Outcome.next ((State.firstIntervalExpiry_eq first).trans ?_), same⟩
    rw [if_pos same]
    rfl

end

/-! ### The emergency-close line -/

theorem flatMap_ite_singleton {α β : Type} (p : α → Bool) (g : α → β) (xs : List α) :
    xs.flatMap (fun x => if p x then [g x] else []) = (xs.filter p).map g := by
  induction xs with
  | nil => rfl
  | cons x xs ih =>
    rw [List.flatMap_cons, ih, List.filter_cons]
    split <;> simp_all

/-- A door's sources under a set latch (R66). -/
theorem Orders.due_latched {o : Orders} (latched : o.resolver.latch = true) (d : DoorId) :
    o.due d = if o.isPresent d && !(o.door d).isolated then .emergency else .none := by
  unfold Orders.due standingOf Orders.isPresent Orders.door
  rw [latched]
  cases o.image.doors[d].present <;> cases o.resolver.doors[d].isolated <;> rfl

theorem Orders.due_unserved {o : Orders} {d : DoorId} (h : (o.isPresent d && !(o.door d).isolated) = false) : o.due d = .none := by
  unfold Orders.isPresent Orders.door at h
  unfold Orders.due standingOf
  cases present : o.image.doors[d].present <;> cases isolated : o.resolver.doors[d].isolated <;>
    rw [present, isolated] at h <;> first | rfl | cases h

theorem Orders.due_ne_emergency {o : Orders} (clear : o.resolver.latch = false) (d : DoorId) : o.due d ≠ .emergency := by
  unfold Orders.due standingOf
  rw [clear]
  cases o.resolver.mode <;> cases o.resolver.doors[d].registered <;> simp <;> split <;> simp

/-- Settles O25: a clear latch set, and every door's standing authority computed afresh. -/
theorem emergencyLineConfirm : Obligations.EmergencyLineConfirm := by
  unfold Obligations.EmergencyLineConfirm
  intro s c f standing delivers
  let u := s.withFilter .emergency f
  have run : exec c s = .next (if f.filtered then u.ordersEvent Orders.emergency else u) := delivers.runs.elim id id
  have only (g : Orders → Orders) : OnlyResolver u (u.ordersEvent g) := ⟨rfl, rfl, rfl, rfl, rfl, rfl, rfl, rfl, rfl, rfl, rfl, rfl⟩
  refine ⟨_, run, ?_⟩
  cases confirmed : f.filtered with
  | false => exact ⟨⟨rfl, rfl, rfl, rfl, rfl, rfl, rfl, rfl, rfl, rfl, rfl, rfl⟩, fun _ => ⟨rfl, rfl⟩, nofun⟩
  | true =>
    rw [if_pos rfl]
    cases latch : s.resolver.latch with
    | true =>
      have stays : Orders.emergency u.orders = u.orders := if_pos latch
      refine ⟨only _, fun _ => ?_, nofun⟩
      rw [State.ordersEvent, stays]
      exact ⟨rfl, List.append_nil _⟩
    | false =>
      refine ⟨only _, fun h => (h.elim nofun nofun), fun _ _ => ?_⟩
      let o : Orders := ⟨s.image, { s.resolver with latch := true }, [.alarmRaise .emergencyClose .group]⟩
      have sets : Orders.emergency u.orders = o.recomputeAll := if_neg (by rw [show u.orders.resolver.latch = false from latch]; nofun)
      have group := o.recomputeAll_group
      have doors := o.recomputeAll_door
      have out := o.recomputeAll_out
      have due := Orders.due_latched (o := o) rfl
      have reports (d : DoorId) : o.reports d =
          if s.image.doors[d].present && !s.resolver.doors[d].isolated then [.standingAuthorityReport d .emergency] else [] := by
        have last : (o.door d).reported = s.orders.due d := (standing d).trans (s.orders.due_eq_strongestSource d).symm
        have other : s.orders.due d ≠ .emergency := Orders.due_ne_emergency latch d
        unfold Orders.reports
        rw [due d, last]
        cases serves : s.image.doors[d].present && !s.resolver.doors[d].isolated with
        | true =>
          have present : o.isPresent d = true := (Bool.and_eq_true_iff.mp serves).1
          rw [if_pos (show (o.isPresent d && !(o.door d).isolated) = true from serves), if_neg (by simp [present, Ne.symm other]),
            if_pos rfl]
        | false =>
          rw [if_neg (show ¬(o.isPresent d && !(o.door d).isolated) = true by rw [Bool.not_eq_true]; exact serves),
            if_pos (.inl (Orders.due_unserved (o := s.orders) serves).symm), if_neg nofun]
      rw [State.ordersEvent, sets]
      generalize o.recomputeAll = o' at group doors out
      refine ⟨group.latch, group.mode, group.flood, fun d => (doors d).trans (by rw [due d]; rfl), ?_⟩
      have flight : (u.finishOrders o').inFlight = s.inFlight ++ o'.out := rfl
      rw [flight, out, funext reports, flatMap_ite_singleton, List.singleton_append]

/-! ### A second event of one door -/

section
variable {d : DoorId} {s t u : State} {r r' : Door} {o o' c c' : Bool} {ms ms' : List Instr}

theorem Leaves.trans (h : Leaves d s t r o c ms) (k : Leaves d t u r' o' c' ms') : Leaves d s u r' o' c' (ms ++ ms') where
  toOnlyDoor := h.toOnlyDoor.trans k.toOnlyDoor
  record := k.record
  drives := ⟨k.drives.inputs.trans h.drives.inputs, k.drives.openValve, k.drives.closeValve⟩
  messages := by rw [k.messages, h.messages, List.append_assoc]

theorem Door.due_of_still (h : r.still = r'.still) : r.due = r'.due := by
  have due (x : Door) : x.still.due = x.due := rfl
  rw [← due, h, due]

/-- An event that changes nothing of a door which is not due leaves what the event before it left. -/
theorem Leaves.again (h : Leaves d s t r o c ms) (idle : r.due = false) (before : State) {f : Work → Work}
    (stays : f (t.work d) = t.work d) : Leaves d s (t.doorEvent before d f) r o c ms := by
  have idle' : (t.door d).due = false := (Door.due_of_still h.record).trans idle
  have second := h.trans (t.doorEvent_leaves_idle before d f (t.door d) [] _ _ stays idle')
  rw [List.append_nil] at second
  exact { second with
    record := second.record.trans h.record
    drives := ⟨second.drives.inputs, second.drives.openValve.trans h.drives.openValve,
      second.drives.closeValve.trans h.drives.closeValve⟩ }

/-- A door that has started a movement to CLOSED is not due (R21). -/
theorem Door.startsMove_due (ch : Channel) (a : MotionAuthority) (held : Bool) (r : Door) :
    (r.startsMove ch .cls a held).due = false := by
  unfold Door.startsMove
  split
  · next rests =>
    simp only [Channel.restsAt, Channel.endActive, Dir.flip, Bool.and_eq_true, Bool.not_eq_true'] at rests
    unfold Door.atRest
    rw [rests.1, rests.2]
    exact Door.due_of_motion nofun nofun
  · exact Door.due_of_motion nofun nofun

theorem Door.startsClose_due (i : Image) (ch : Channel) (r : Door) : (r.startsClose i ch).due = false := by
  unfold Door.startsClose
  split
  · exact Door.startsMove_due ch _ _ r
  · exact Door.due_of_motion nofun nofun

/-- A door that has proceeded is due no longer (R21). -/
theorem Door.proceeds_due (i : Image) (ch : Channel) (r : Door) : (r.proceeds i ch).due = false := by
  unfold Door.proceeds
  split
  · exact Door.startsClose_due i ch r
  · next idle => exact Bool.eq_false_of_not_eq_true idle

/-- A command that ends an interval of a door's input, by the door event it is (R6, R8). -/
theorem Delivers.runs_door {e : Instr} {k : DoorInput} {f : Filter} (h : Delivers s e (.door d k) f) :
    let event := (s.withFilter (.door d k) f).doorEvent s d fun w => w.inputEvent k f.filtered
    ∃ t, exec e s = .next t ∧ (t = event ∨ t = event.doorEvent event d fun w => w.inputPrimed k) :=
  h.runs.elim (fun run => ⟨_, run, .inl rfl⟩) fun run => ⟨_, run, .inr rfl⟩

/-- Where the primed notification that may follow changes nothing, what the event leaves is what the command leaves. -/
theorem Delivers.leaves {e : Instr} {k : DoorInput} {f : Filter} (h : Delivers s e (.door d k) f) :
    ∃ t, exec e s = .next t ∧ ∀ r o c ms,
      Leaves d (s.withFilter (.door d k) f)
        ((s.withFilter (.door d k) f).doorEvent s d fun w => w.inputEvent k f.filtered) r o c ms → r.due = false →
      (∀ t', Leaves d (s.withFilter (.door d k) f) t' r o c ms → (t'.work d).inputPrimed k = t'.work d) →
      Leaves d (s.withFilter (.door d k) f) t r o c ms := by
  obtain ⟨t, run, rfl | rfl⟩ := h.runs_door
  · exact ⟨_, run, fun r o c ms leaves _ _ => leaves⟩
  · exact ⟨_, run, fun r o c ms leaves idle stays => leaves.again idle _ (stays _ leaves)⟩

end

/-! ### Handles and leaf edge -/

section
variable (w : Work)

theorem Work.handle_confirm (dir : Dir)
    (serves : w.door.motion ≠ .settling ∧ w.door.motion ≠ .isolated ∧ w.door.motion ≠ .absent) :
    w.handle dir true = w.send (.handleReferral w.id dir w.door.faulted) := by
  obtain ⟨settling, isolated, absent⟩ := serves
  unfold Work.handle
  dsimp only
  split
  · exact absurd ‹_› settling
  · exact absurd ‹_› isolated
  · exact absurd ‹_› absent
  all_goals rfl

theorem Work.handle_unserved (dir : Dir)
    (unserved : ¬(w.door.motion ≠ .settling ∧ w.door.motion ≠ .isolated ∧ w.door.motion ≠ .absent)) :
    w.handle dir true = w := by
  have motion : w.door.motion = .settling ∨ w.door.motion = .isolated ∨ w.door.motion = .absent := by
    simpa only [not_and_or, not_not] using unserved
  unfold Work.handle
  rcases motion with h | h | h <;> rw [h]

/-- An obstruction (R36). -/
theorem Work.obstruct_eq :
    w.obstruct =
      { w with
        door := w.door.obstructed w.image w.channel
        channel := w.channel.withValve w.door.dir false
        out := w.out ++ [.release w.id, .obstructionNotice w.id] } := by
  have ordered : (isOrdered w.door.authority && w.door.standing != .none) =
      decide (w.door.authority ≠ .local_ ∧ w.door.standing ≠ .none) := by
    cases w.door.authority <;> cases w.door.standing <;> rfl
  unfold Work.obstruct Door.obstructed
  rw [Work.endStroke_other, ordered]
  simp [Work.send]

theorem Work.leafEdge_disabled (active : Bool) (h : w.config.edgeEnable = false) : w.leafEdge active = w :=
  if_pos (by rw [h]; rfl)

theorem Work.leafEdge_enabled (active : Bool) (enabled : w.config.edgeEnable = true) :
    w.leafEdge active =
      if active = true ∧ w.door.motion = .closing then w.obstruct
      else if active = false ∧ w.door.edgeWait = .edgeHeld then
        { w with door := { w.door with edgeWait := .clearing, edgeTimer := some w.group.edgeClear } }
      else if active = true ∧ w.door.edgeWait = .clearing then
        { w with door := { w.door with edgeWait := .edgeHeld, edgeTimer := none } }
      else w := by
  unfold Work.leafEdge
  rw [if_neg (by rw [enabled]; nofun)]
  split
  case h_4 closing waits clears =>
    rw [if_neg fun h => closing h.1 h.2, if_neg fun h => waits h.1 h.2, if_neg fun h => clears h.1 h.2]
  all_goals simp_all

end

/-- Settles O23: the door table's own reaction to a handle's confirm and to each event of the leaf edge. -/
theorem handleAndEdgeEvents : Obligations.HandleAndEdgeEvents := by
  unfold Obligations.HandleAndEdgeEvents
  intro s d k e f u r c i serves stopped unmoved delivers
  obtain ⟨t, run, leaves⟩ := delivers.leaves
  have door : u.door d = r := rfl
  have image : u.image = i := rfl
  have work : u.work d = ⟨i, d, r, c, [], false⟩ := rfl
  have idle (unserved : ¬serves) : r.due = false := by
    have motion : r.motion = .settling ∨ r.motion = .isolated ∨ r.motion = .absent := by
      simpa only [serves, not_and_or, not_not] using unserved
    apply Door.due_of_motion <;> rcases motion with h | h | h <;> rw [h] <;> nofun
  have stays (reaction : (u.work d).inputEvent k f.filtered = ⟨i, d, r, c, [], false⟩)
      (primed : ∀ w : Work, w.inputPrimed k = w) : unmoved t :=
    leaves _ _ _ _ (u.doorEvent_leavesUndriven s d _ r [] reaction) (Door.proceeds_due ..) fun _ _ => primed _
  refine ⟨t, run, fun handle input confirmed => ⟨fun serves => ?_, fun unserved => ?_⟩, fun edge enabled => ⟨fun confirmed closing => ?_,
    fun confirmed motion clearing => ?_, fun confirmed motion clearing => ?_, fun released waits => ?_, fun released waits => ?_⟩,
    fun edge disabled => ?_⟩
  · subst input
    refine leaves _ _ _ _ (u.doorEvent_leavesUndriven s d _ r [.handleReferral d handle r.faulted] ?_) (Door.proceeds_due ..) ?_
    · rw [work, confirmed]
      have reaction := Work.handle_confirm ⟨i, d, r, c, [], false⟩ handle serves
      cases handle <;> exact reaction
    · cases handle <;> exact fun _ _ => rfl
  · subst input
    refine leaves _ _ _ _ (u.doorEvent_leavesUndriven_idle s d _ r [] ?_ ?_) ?_ ?_
    · rw [work, confirmed]
      have reaction := Work.handle_unserved ⟨i, d, r, c, [], false⟩ handle unserved
      cases handle <;> exact reaction
    · exact idle unserved
    · exact idle unserved
    · cases handle <;> exact fun _ _ => rfl
  all_goals subst edge
  · have reaction := (Work.leafEdge_enabled ⟨i, d, r, c, [], false⟩ true enabled).trans (if_pos ⟨rfl, closing⟩)
    rw [Work.obstruct_eq, Channel.withValve_false] at reaction
    exact leaves _ _ _ _ (u.doorEvent_leaves s d _ stopped _ _ [.release d, .obstructionNotice d] (by rw [work, confirmed]; exact reaction))
      (Door.proceeds_due ..) fun _ _ => rfl
  · have reaction := Work.leafEdge_enabled ⟨i, d, r, c, [], false⟩ true enabled
    rw [if_neg fun h => motion h.2, if_neg nofun, if_pos ⟨rfl, clearing⟩] at reaction
    have notDue : Door.due { r with edgeWait := .edgeHeld, edgeTimer := none } = false := by simp [Door.due]
    exact leaves _ _ _ _ (u.doorEvent_leavesUndriven_idle s d _ _ [] (by rw [work, confirmed]; exact reaction) notDue) notDue
      fun _ _ => rfl
  · have reaction := Work.leafEdge_enabled ⟨i, d, r, c, [], false⟩ true enabled
    rw [if_neg fun h => motion h.2, if_neg nofun, if_neg fun h => clearing h.2] at reaction
    exact stays (by rw [work, confirmed]; exact reaction) fun _ => rfl
  · have reaction := Work.leafEdge_enabled ⟨i, d, r, c, [], false⟩ false enabled
    rw [if_neg nofun, if_pos ⟨rfl, waits⟩] at reaction
    have notDue : Door.due { r with edgeWait := .clearing, edgeTimer := some i.group.edgeClear } = false := by simp [Door.due]
    exact leaves _ _ _ _ (u.doorEvent_leavesUndriven_idle s d _ _ [] (by rw [work, released]; exact reaction) notDue) notDue
      fun _ _ => rfl
  · have reaction := Work.leafEdge_enabled ⟨i, d, r, c, [], false⟩ false enabled
    rw [if_neg nofun, if_neg fun h => waits h.2, if_neg nofun] at reaction
    exact stays (by rw [work, released]; exact reaction) fun _ => rfl
  · exact stays (Work.leafEdge_disabled ⟨i, d, r, c, [], false⟩ f.filtered disabled) fun _ => rfl

/-! ### Readbacks and their drive checks -/

/-- A valve's drive check is up to date (R11). -/
def Door.checkCurrent (c : Channel) (v : Dir) (on : Bool) (r : Door) : Prop :=
  (r.present && r.testResult != .running && (c.readback v).primed) = true →
    (on = (c.readback v).filtered → r.check v = .idle) ∧
    (on ≠ (c.readback v).filtered → ((r.check v).reported || (r.check v).timer.isSome) = true)

theorem Door.withCheck_check (r : Door) (v : Dir) (x : Check) : (r.withCheck v x).check v = x := by
  cases v <;> rfl

theorem Door.withCheck_self (r : Door) (v : Dir) : r.withCheck v (r.check v) = r := by
  cases v <;> rfl

theorem Door.valveAt_of_current {i : Image} {c : Channel} {v : Dir} {on : Bool} {r : Door} (h : r.checkCurrent c v on) :
    r.valveAt i c v on = r := by
  unfold Door.valveAt
  split
  · next runs =>
    obtain ⟨agrees, differs⟩ := h runs
    split
    · next same =>
      rw [← agrees same]
      exact r.withCheck_self v
    · next other => exact if_pos (differs other)
  · rfl

theorem Door.checkCurrent_valveAt (i : Image) (c : Channel) (v : Dir) (on : Bool) (r : Door) :
    (r.valveAt i c v on).checkCurrent c v on := by
  unfold Door.valveAt
  split
  · split
    · next same => exact fun _ => ⟨fun _ => r.withCheck_check v _, fun other => absurd same other⟩
    · next other =>
      split
      · next noted => exact fun _ => ⟨fun same => absurd same other, fun _ => noted⟩
      · refine fun _ => ⟨fun same => absurd same other, fun _ => ?_⟩
        rw [r.withCheck_check]
        rfl
  · next stopped => exact fun runs => absurd runs stopped

/-- What a drive check depends on of a door's record. -/
theorem Door.checkCurrent_congr {c c' : Channel} {v : Dir} {on : Bool} {r r' : Door} (present : r'.present = r.present)
    (test : r'.testResult = r.testResult) (check : r'.check v = r.check v) (readback : c'.readback v = c.readback v)
    (h : r.checkCurrent c v on) : r'.checkCurrent c' v on := by
  unfold Door.checkCurrent
  rw [present, test, check, readback]
  exact h

theorem Door.proceeds_checks (i : Image) (c : Channel) (v : Dir) (r : Door) :
    (r.proceeds i c).present = r.present ∧ (r.proceeds i c).testResult = r.testResult ∧ (r.proceeds i c).check v = r.check v := by
  unfold Door.proceeds Door.startsClose Door.startsMove Door.atRest
  split
  · split
    · split
      · split <;> cases v <;> exact ⟨rfl, rfl, rfl⟩
      · cases v <;> exact ⟨rfl, rfl, rfl⟩
    · cases v <;> exact ⟨rfl, rfl, rfl⟩
  · exact ⟨rfl, rfl, rfl⟩

/-- The readback input of a valve. -/
def readbackInput : Dir → DoorInput
  | .opn => .openReadback
  | .cls => .closeReadback

/-- Bringing a drive check up to date once more changes nothing (R11). -/
theorem Leaves.recheck_again {d : DoorId} {u t : State} {v : Dir} {i : Image} {r : Door} {ms : List Instr}
    (h : LeavesUndriven d u t ((r.valveAt i (u.channel d) v ((u.channel d).valve v)).proceeds i (u.channel d)) ms) :
    (t.work d).recheck v = t.work d := by
  obtain ⟨present, test, check⟩ := Door.proceeds_checks i (u.channel d) v (r.valveAt i (u.channel d) v ((u.channel d).valve v))
  have still {x y : Door} (same : x.still = y.still) : x.present = y.present ∧ x.testResult = y.testResult ∧ x.check v = y.check v := by
    have fields (z : Door) : z.still.present = z.present ∧ z.still.testResult = z.testResult ∧ z.still.check v = z.check v := by
      cases v <;> exact ⟨rfl, rfl, rfl⟩
    obtain ⟨px, tx, cx⟩ := fields x
    obtain ⟨py, ty, cy⟩ := fields y
    rw [← px, ← tx, ← cx, same, py, ty, cy]
    exact ⟨rfl, rfl, rfl⟩
  obtain ⟨present', test', check'⟩ := still h.record
  have valve : (t.channel d).valve v = (u.channel d).valve v := by
    cases v
    · exact h.drives.openValve
    · exact h.drives.closeValve
  have readback : (t.channel d).readback v = (u.channel d).readback v := by
    cases v
    · exact Channel.filter_of_inputs h.drives.inputs .openReadback
    · exact Channel.filter_of_inputs h.drives.inputs .closeReadback
  have current : (t.door d).checkCurrent (t.channel d) v ((t.channel d).valve v) := by
    rw [valve]
    exact Door.checkCurrent_congr (present'.trans present) (test'.trans test) (check'.trans check) readback
      (Door.checkCurrent_valveAt i _ _ _ r)
  rw [Work.recheck_eq]
  show ({ t.work d with door := (t.door d).valveAt t.image (t.channel d) v ((t.channel d).valve v) } : Work) = _
  rw [Door.valveAt_of_current current]
  rfl

/-- Settles O27: `Work.recheck_eq` for an event of a readback, and the report of an expired check. -/
theorem driveChecks : Obligations.DriveChecks := by
  unfold Obligations.DriveChecks
  refine ⟨fun s d v e f => ?_, fun s d v runs => ?_⟩
  · intro input u c x ends
    have reaction (active : Bool) : (u.work d).inputEvent input active = ⟨u.image, d, x, u.channel d, [], false⟩ := by
      have rechecked := Work.recheck_eq (u.work d) v
      cases v <;> exact rechecked
    have again (w : Work) : w.inputPrimed input = w.recheck v := by
      cases v <;> rfl
    by_cases delivers : Delivers s e (.door d input) f
    · obtain ⟨t, run, leaves⟩ := delivers.leaves
      refine ⟨t, run, leaves _ _ _ _ (u.doorEvent_leavesUndriven s d _ x [] (reaction _)) (Door.proceeds_due ..) fun t' h => ?_⟩
      rw [again]
      exact h.recheck_again
    · obtain ⟨run, -⟩ := ends.exec_quiet delivers
      refine ⟨_, run, u.doorEvent_leavesUndriven u d _ x [] ?_⟩
      rw [again]
      exact Work.recheck_eq (u.work d) v
  · intro r c mismatch fault
    have data : (s.door d).asReported = r.asReported := by cases v <;> rfl
    have motion : r.motion = (s.door d).motion := by cases v <;> rfl
    have expired : (s.work d).checkExpiry v =
        if s.image.doors[d].driveCheck then
          if isMoving r.motion then
            ((⟨s.image, d, r, c, [mismatch, fault], false⟩ : Work).endStroke .other).rest
          else ⟨s.image, d, r, c, [mismatch, fault], false⟩
        else ⟨s.image, d, r, c, [mismatch], false⟩ := by
      rw [Work.checkExpiry, if_pos (show (((s.work d).door.check v).timer.isSome) = true from runs), motion]
      show (if s.image.doors[d].driveCheck then _ else _) = _
      rw [show fault = .faultReport d .driveFault none false r.asReported from congrArg (Instr.faultReport d .driveFault none false) data]
      rfl
    refine ⟨fun stays => ⟨_, rfl, s.doorEvent_leavesUndriven s d _ r _ ?_⟩, fun checks moving => ?_⟩
    · rw [expired]
      rcases stays with off | still
      · rw [off]
        rfl
      · cases s.image.doors[d].driveCheck
        · rfl
        · rw [if_pos rfl, if_neg (by rw [still]; nofun)]
          rfl
    · intro rested
      refine ⟨_, rfl, s.doorEvent_leaves s d _ rested _ _ ([mismatch, fault, .release d] ++ restMessages d c r) ?_⟩
      have notQueued : r.motion ≠ .queued := fun h => by rw [h] at moving; cases moving
      rw [expired, if_pos checks, if_pos moving, Work.endStroke_rest _ notQueued, Channel.withValve_false]
      rfl

end Sys2Proof.Machine

/-! The timers of a door, and the grants and pauses of its stroke (R26 to R33, R55, R95). -/

namespace Sys2Proof.Machine

open Sys2Proof

/-! ### Timers -/

/-- Settles O29: each timer by the shared procedure that its end starts. -/
theorem doorTimersExpire : Obligations.DoorTimersExpire := by
  unfold Obligations.DoorTimersExpire
  refine ⟨fun s d => ?_, fun s d moving => ?_⟩
  · intro r c
    refine ⟨fun motion runs => ⟨_, rfl, ?_⟩, fun motion runs => ⟨_, rfl, ?_⟩, fun clearing runs => ?_, fun runs transit => ⟨_, rfl, ?_⟩⟩
    · refine s.doorEvent_leavesUndriven_idle s d _ _ _ ?_ (Door.startsMove_due ..)
      have notQueued : (s.work d).door.motion ≠ .queued := by rw [show (s.work d).door.motion = .warning from motion]; nofun
      rw [Work.warningExpiry, if_pos ⟨motion, runs⟩, Work.startMove_eq _ _ _ _ notQueued]
      rfl
    · refine s.doorEvent_leavesUndriven_idle s d _ _ _ ?_ (Door.startsClose_due ..)
      have notQueued : (s.work d).door.motion ≠ .queued := by rw [show (s.work d).door.motion = .dwell from motion]; nofun
      rw [Work.dwellExpiry, if_pos ⟨motion, runs⟩, Work.startClose_eq _ notQueued]
      rfl
    · intro waited
      refine ⟨_, rfl, s.doorEvent_leavesUndriven s d _ waited [] ?_⟩
      rw [Work.edgeClearExpiry, if_pos ⟨clearing, runs⟩]
      rfl
    · exact s.doorEvent_leavesUndriven_idle s d _ _ _ (if_pos runs) (Door.due_of_transit transit)
  · intro c late rested
    refine ⟨_, rfl, s.doorEvent_leaves s d _ rested _ _ ([.faultReport d .overtravel none false late.asReported, .release d] ++
      restMessages d c late) ?_⟩
    have notQueued : late.motion ≠ .queued := fun h => by
      rw [show (s.door d).motion = .queued from h] at moving
      cases moving
    let w : Work := ⟨s.image, d, late, c, [.faultReport d .overtravel none false late.asReported], false⟩
    have expired : (s.work d).deadlineExpiry = (w.endStroke .other).rest := if_pos moving
    rw [expired, Work.endStroke_rest w notQueued, Channel.withValve_false]
    rfl

/-! ### Drive checks beside the rest of a record -/

theorem Door.valveAt_eq (i : Image) (c : Channel) (v : Dir) (on : Bool) (r : Door) :
    ∃ x, r.valveAt i c v on = r.withCheck v x := by
  unfold Door.valveAt
  have self := (r.withCheck_self v).symm
  split
  · split
    · exact ⟨_, rfl⟩
    · split
      · exact ⟨_, self⟩
      · exact ⟨_, rfl⟩
  · exact ⟨_, self⟩

theorem Door.valveAt_dir (i : Image) (c : Channel) (v : Dir) (on : Bool) (r : Door) : (r.valveAt i c v on).dir = r.dir := by
  obtain ⟨x, eq⟩ := r.valveAt_eq i c v on
  rw [eq]
  cases v <;> rfl

theorem Door.valveAt_withValve (i : Image) (c : Channel) (v u : Dir) (on lit : Bool) (r : Door) :
    r.valveAt i (c.withValve u lit) v on = r.valveAt i c v on := by
  cases u <;> cases v <;> rfl

theorem Door.strokeOver_withValve (i : Image) (c : Channel) (u : Dir) (lit : Bool) (r : Door) :
    r.strokeOver i (c.withValve u lit) = r.strokeOver i c := by
  unfold Door.strokeOver
  rw [Door.valveAt_withValve]

theorem Door.obstructed_withValve (i : Image) (c : Channel) (u : Dir) (lit : Bool) (r : Door) :
    r.obstructed i (c.withValve u lit) = r.obstructed i c := by
  unfold Door.obstructed
  rw [Door.strokeOver_withValve]

/-! ### Strokes begun -/

/-- A new stroke from where the door stands (R30, R54). -/
def Door.strokes (i : Image) (d : DoorId) (c : Channel) (dir : Dir) (full : Bool) (r : Door) : Door :=
  Door.valveAt i c dir true
    { r with
      motion := movingMotion dir, dir := dir, p0 := r.estimate, elapsed := 0
      deadline := strokeDeadline dir r.estimate (r.learned dir) i.doors[d].margin, full := full }

theorem Work.beginStroke_eq (w : Work) (dir : Dir) (full : Bool) :
    w.beginStroke dir full =
      { w with door := w.door.strokes w.image w.id w.channel dir full, channel := w.channel.withValve dir true } := by
  rw [Work.beginStroke, Work.switchValve_eq]
  rfl

/-- An edge that meets a stroke at its start obstructs it (R30, R36). -/
theorem Work.edgeAtStart_eq (w : Work) (motion : w.door.motion = movingMotion w.door.dir) :
    w.edgeAtStart = if edgeMeets w.image w.id w.channel w.door.dir then w.obstruct else w := by
  have meets : (w.door.motion = .closing && w.config.edgeEnable && w.channel.leafEdge.filtered) =
      edgeMeets w.image w.id w.channel w.door.dir := by
    rw [edgeMeets, motion]
    cases w.door.dir <;> rfl
  rw [Work.edgeAtStart, meets]

theorem edgeMeets_withValve (i : Image) (d : DoorId) (c : Channel) (v : Dir) (on : Bool) (dir : Dir) :
    edgeMeets i d (c.withValve v on) dir = edgeMeets i d c dir := by
  cases v <;> rfl

theorem edgeMeets_dir {i : Image} {d : DoorId} {c : Channel} {dir : Dir} (h : edgeMeets i d c dir = true) : dir = .cls := by
  cases dir
  · cases h
  · rfl

theorem movingMotion_moves (dir : Dir) : isMoving (movingMotion dir) = true := by
  cases dir <;> rfl

theorem Door.due_of_moving {r : Door} (h : isMoving r.motion = true) : r.due = false := by
  apply Door.due_of_motion <;> intro m <;> rw [m] at h <;> cases h

theorem Channel.withValve_true (c : Channel) (v : Dir) :
    c.withValve v true =
      { c with
        openValve := if v = .opn then true else c.openValve
        closeValve := if v = .cls then true else c.closeValve } := by
  cases v <;> rfl

theorem Door.strokes_motion (i : Image) (d : DoorId) (c : Channel) (dir : Dir) (full : Bool) (r : Door) :
    (r.strokes i d c dir full).motion = movingMotion dir := by
  rw [Door.strokes, Door.valveAt_motion]

theorem Door.strokes_dir (i : Image) (d : DoorId) (c : Channel) (dir : Dir) (full : Bool) (r : Door) :
    (r.strokes i d c dir full).dir = dir := by
  rw [Door.strokes, Door.valveAt_dir]

/-- A grant that finds its door QUEUED in its direction (R30). -/
theorem Work.takeGrant_eq (w : Work) {dir : Dir} (queued : w.door.motion = .queued) (own : w.door.dir = dir) :
    let started := w.door.strokes w.image w.id w.channel dir
      (w.channel.endActive dir.flip && w.door.estimate == endEstimate dir.flip)
    w.takeGrant dir =
      if edgeMeets w.image w.id w.channel dir then
        { w with
          door := started.obstructed w.image w.channel
          channel := (w.channel.withValve dir true).withValve dir false
          out := w.out ++ [.taken w.id dir, .release w.id, .obstructionNotice w.id] }
      else { w with door := started, channel := w.channel.withValve dir true, out := w.out ++ [.taken w.id dir] } := by
  intro started
  have moves : started.motion = movingMotion started.dir := by
    rw [Door.strokes_motion, Door.strokes_dir]
  have grants : w.takeGrant dir =
      Work.edgeAtStart ⟨w.image, w.id, started, w.channel.withValve dir true, w.out ++ [.taken w.id dir], w.dueBarred⟩ := by
    rw [Work.takeGrant, if_pos ⟨queued, own⟩]
    dsimp only
    rw [Work.beginStroke_eq]
    rfl
  rw [grants, Work.edgeAtStart_eq _ moves]
  dsimp only
  rw [edgeMeets_withValve, show started.dir = dir from Door.strokes_dir ..]
  split
  · rw [Work.obstruct_eq]
    dsimp only
    rw [Door.obstructed_withValve, show started.dir = dir from Door.strokes_dir .., List.append_assoc]
    rfl
  · rfl

/-- Settles O34: a grant by the stroke that it begins, a pause by the stroke that it ends. -/
theorem grantAndPause : Obligations.GrantAndPause := by
  unfold Obligations.GrantAndPause
  intro s d dir r c i started stopped
  refine ⟨fun first => ⟨_, exec_first rfl first, ?_⟩, fun first => ⟨_, exec_first rfl first, ?_⟩⟩
  · let t : State := s.taking (.grant d dir)
    have taken (queued : r.motion = .queued) (own : r.dir = dir) := (t.work d).takeGrant_eq queued own
    have begun (own : r.dir = dir) : started = r.strokes i d c dir
        (c.endActive dir.flip && r.estimate == endEstimate dir.flip) := by
      subst own
      rfl
    refine ⟨fun queued own clear => ?_, fun queued own meets => ?_, fun other => ?_⟩
    · have idle : started.due = false := Door.due_of_moving (by rw [begun own, Door.strokes_motion]; exact movingMotion_moves dir)
      refine t.doorEvent_leaves_idle t d _ started _ _ _ ?_ idle
      refine (taken queued own).trans ((if_neg (by rw [Bool.not_eq_true]; exact clear)).trans ?_)
      rw [Channel.withValve_true, begun own]
      rfl
    · have close := edgeMeets_dir meets
      subst close
      refine t.doorEvent_leaves t d _ stopped _ _ [.taken d .cls, .release d, .obstructionNotice d] ?_
      refine (taken queued own).trans ((if_pos meets).trans ?_)
      rw [show stopped = _ from congrArg (Door.obstructed i c) (begun own)]
      rfl
    · refine t.doorEvent_leavesUndriven t d _ r [.handedBack d] ?_
      rw [Work.takeGrant, if_neg fun h => other.elim (fun k => k h.1) fun k => k h.2]
      rfl
  · let t : State := s.taking (.pause d)
    refine ⟨fun moving => ?_, fun still => ?_⟩
    · refine t.doorEvent_leaves_idle t d _ _ [] _ _ ?_ (Door.due_of_motion nofun nofun)
      refine Eq.trans (if_pos moving) ?_
      dsimp only
      rw [Work.endStroke, Work.switchValve_eq, Channel.withValve_false]
      rfl
    · refine t.doorEvent_leavesUndriven t d _ r [] ?_
      exact if_neg (by rw [Bool.not_eq_true]; exact still)

end Sys2Proof.Machine

/-! The drive test from its request to its result (R14 to R17, R175). -/

namespace Sys2Proof.Machine

open Sys2Proof

/-! ### The end of a test -/

/-- What the end of a drive test leaves of a record (R13, R16). -/
def Door.tested (i : Image) (c : Channel) (result : TestResult) (r : Door) : Door :=
  ({ r with testResult := result, test := none }.valveAt i c .opn false).valveAt i c .cls false

theorem Work.endTest_eq (w : Work) (result : TestResult) :
    w.endTest result =
      { w with
        door := w.door.tested w.image w.channel result
        channel := { w.channel with openValve := false, closeValve := false } } := by
  rw [Work.endTest, Work.recheckBoth, Work.recheck_eq, Work.recheck_eq]
  rfl

theorem Door.tested_motion (i : Image) (c : Channel) (result : TestResult) (r : Door) :
    (r.tested i c result).motion = r.motion := by
  rw [Door.tested, Door.valveAt_motion, Door.valveAt_motion]

section
variable {w : Work} {x : TestRun} (test : w.door.test = some x)
include test

theorem Work.holdExpiry_running (hold : x.hold = true) :
    w.holdExpiry = if x.onPassed then w.switchOff { x with hold := false } else w.withTest { x with hold := false } := by
  unfold Work.holdExpiry
  rw [test]
  exact if_pos hold

theorem Work.onCheckExpiry_running (onCheck : x.onCheck = true) :
    w.onCheckExpiry =
      if (w.channel.readback x.phase).filtered then
        if x.hold then w.withTest { x with onCheck := false, onPassed := true }
        else w.switchOff { x with onCheck := false, onPassed := true }
      else w.failTest x true := by
  unfold Work.onCheckExpiry
  rw [test]
  exact if_pos onCheck

theorem Work.offCheckExpiry_running (offCheck : x.offCheck = true) :
    w.offCheckExpiry =
      if (w.channel.readback x.phase).filtered then w.failTest x false
      else match x.phase with
        | .opn => w.beginPhase .cls x.settle
        | .cls => w.endTest .pass := by
  unfold Work.offCheckExpiry
  rw [test]
  exact if_pos offCheck

end

theorem Work.switchOff_eq (w : Work) (x : TestRun) :
    w.switchOff x =
      { w with
        door := { w.door with test := some { x with offCheck := true } }
        channel :=
          { w.channel with
            openValve := if x.phase = .opn then false else w.channel.openValve
            closeValve := if x.phase = .cls then false else w.channel.closeValve } } := by
  rw [Work.switchOff, Channel.withValve_false]
  rfl

theorem Work.failTest_eq (w : Work) (x : TestRun) (expected : Bool) :
    w.failTest x expected =
      { w with
        door := w.door.tested w.image w.channel (failResult x.phase)
        channel := { w.channel with openValve := false, closeValve := false }
        out := w.out ++ [.mismatchReport w.id x.phase expected] } := by
  rw [Work.failTest, Work.endTest_eq]
  rfl

/-! ### The request -/

section
variable {s : State} {c : Instr} {r : Req} {kind : Byte} {lens : List Nat} {owner : List Byte → State → Answer}
  {data : List Byte} {d : DoorId} {f : Work → Work} {x : Door} {o q : Bool}

/-- A request that is one silent event of a door. -/
theorem State.serve_door (h : Waits s c r) (length : r.body.length ∈ lens)
    (part : owner r.body (s.begun r) = .accepted ((s.begun r).doorEvent (s.begun r) d f) data)
    (reaction : f (s.work d) = ⟨s.image, d, x, { s.channel d with openValve := o, closeValve := q }, [], false⟩)
    (idle : x.due = false) :
    let t := s.serve c kind r lens owner
    Answered s.port r kind none data t ∧ Leaves d s { t with port := s.port } x o q [] := by
  intro t
  have event := (s.begun r).doorEvent_leaves_idle (s.begun r) d f x [] o q reaction idle
  generalize (s.begun r).doorEvent (s.begun r) d f = u at part event
  have quiet : u.inFlight = s.inFlight := event.messages.trans (List.append_nil _)
  have served : t = u.reply kind r none data := by
    rw [show t = _ from State.serve_accepted h length part, State.complete_of_quiet quiet]
  have port : u.port = (s.begun r).port := event.port
  refine ⟨?_, ?_⟩
  · rw [served]
    refine answered_begun.mp ?_
    rw [← port]
    exact State.reply_answered u h.addressed
  · rw [served, State.reply_eq]
    exact ⟨⟨⟨event.lines, event.straps, event.resolver, event.alloc, event.recorder, event.alarms, event.store, rfl,
      event.time, event.pending, event.freeDraws⟩, event.doors, event.channels⟩, event.record, event.drives, event.messages⟩

end

/-- Settles O28: the request by its checks, each phase by the timers that it runs. -/
theorem driveTest : Obligations.DriveTest := by
  unfold Obligations.DriveTest
  refine ⟨fun s r b h body => ?_, fun s d x isolated test => ?_⟩
  · have length : r.body.length ∈ [1] := by simp [body]
    have operand : byteAt r.body 0 = b := by rw [body]; rfl
    have refuses {reason : Reason} (part : State.driveTest r.body (s.begun r) = .refused reason []) :
        ∃ t, exec (.driveTest r) s = .next t ∧ Answered s.port r 0x10 (some reason) [] t ∧ OnlyPort s t ∧
          t.inFlight = s.inFlight :=
      (State.serve_refused h length part).exec rfl
    refine ⟨fun out => refuses ?_, fun d index => ⟨fun serves => refuses ?_, fun isolated runs => refuses ?_, fun isolated idle => ?_⟩⟩
    · rw [State.driveTest, operand, doorIndex?_of_le out]
    · rw [State.driveTest, operand, doorIndex?_of_val index]
      exact if_pos serves
    · rw [State.driveTest, operand, doorIndex?_of_val index]
      exact (if_neg (not_not.mpr isolated)).trans (if_pos runs)
    · refine ⟨_, rfl, State.serve_door (f := Work.beginTest) (d := d) h length ?_ rfl (Door.due_of_motion ?_ ?_)⟩
      · rw [State.driveTest, operand, doorIndex?_of_val index]
        exact (if_neg (not_not.mpr isolated)).trans (if_neg idle)
      all_goals
        show (s.door d).motion ≠ _
        rw [isolated]
        nofun
  · intro r c active openOff closeOff ended failed
    have idle {r' : Door} (same : r'.motion = r.motion) : r'.due = false :=
      Door.due_of_motion (by rw [same, isolated]; nofun) (by rw [same, isolated]; nofun)
    have final {result : TestResult} : (ended result).due = false := idle (Door.tested_motion s.image c result r)
    have fails : failResult x.phase = failed := by
      show failResult x.phase = match x.phase with | .opn => .failOpen | .cls => .failClose
      cases x.phase <;> rfl
    have test' : (s.work d).door.test = some x := test
    refine ⟨fun hold passed => ⟨_, rfl, ?_⟩, fun hold passed => ⟨_, rfl, ?_⟩, fun onCheck agrees hold => ⟨_, rfl, ?_⟩,
      fun onCheck agrees hold => ⟨_, rfl, ?_⟩, fun onCheck differs => ⟨_, rfl, ?_⟩, fun offCheck differs => ⟨_, rfl, ?_⟩,
      fun offCheck agrees phase => ⟨_, rfl, ?_⟩, fun offCheck agrees phase => ⟨_, rfl, ?_⟩⟩
    · refine s.doorEvent_leavesUndriven_idle s d _ _ [] ?_ (idle rfl)
      rw [Work.holdExpiry_running test' hold, passed]
      rfl
    · refine s.doorEvent_leaves_idle s d _ _ [] _ _ ?_ (idle rfl)
      rw [Work.holdExpiry_running test' hold, passed, if_pos rfl, Work.switchOff_eq]
      rfl
    · refine s.doorEvent_leavesUndriven_idle s d _ _ [] ?_ (idle rfl)
      exact (Work.onCheckExpiry_running test' onCheck).trans ((if_pos agrees).trans (if_pos hold))
    · refine s.doorEvent_leaves_idle s d _ _ [] _ _ ?_ (idle rfl)
      refine (Work.onCheckExpiry_running test' onCheck).trans ((if_pos agrees).trans ?_)
      rw [hold, Work.switchOff_eq]
      rfl
    · refine s.doorEvent_leaves_idle s d _ _ _ _ _ ?_ final
      refine (Work.onCheckExpiry_running test' onCheck).trans ((if_neg ((Bool.not_eq_true _).mpr differs)).trans ?_)
      rw [Work.failTest_eq, fails]
      rfl
    · refine s.doorEvent_leaves_idle s d _ _ _ _ _ ?_ final
      refine (Work.offCheckExpiry_running test' offCheck).trans ((if_pos differs).trans ?_)
      rw [Work.failTest_eq, fails]
      rfl
    · refine s.doorEvent_leaves_idle s d _ _ [] _ _ ?_ (idle rfl)
      refine (Work.offCheckExpiry_running test' offCheck).trans ((if_neg ((Bool.not_eq_true _).mpr agrees)).trans ?_)
      rw [phase]
      rfl
    · refine s.doorEvent_leaves_idle s d _ _ [] _ _ ?_ final
      refine (Work.offCheckExpiry_running test' offCheck).trans ((if_neg ((Bool.not_eq_true _).mpr agrees)).trans ?_)
      rw [phase]
      exact Work.endTest_eq _ _

end Sys2Proof.Machine

/-! The notices that the order resolver takes (R76, R81 to R83, R89). -/

namespace Sys2Proof.Machine

open Sys2Proof

/-! ### One door among all -/

theorem flatMap_only {α β : Type} [DecidableEq α] {xs : List α} (once : xs.Nodup) {x : α} (h : x ∈ xs) (ys : List β) :
    xs.flatMap (fun e : α => if e = x then ys else []) = ys := by
  have elsewhere (zs : List α) (off : x ∉ zs) : zs.flatMap (fun e => if e = x then ys else []) = [] :=
    List.flatMap_eq_nil_iff.mpr fun e he => if_neg fun (same : e = x) => off (same ▸ he)
  obtain ⟨front, back, rfl⟩ := List.append_of_mem h
  obtain ⟨-, tail, apart⟩ := List.nodup_append.mp once
  obtain ⟨fresh, -⟩ := List.nodup_cons.mp tail
  rw [List.flatMap_append, List.flatMap_cons, if_pos rfl, elsewhere back fresh,
    elsewhere front fun hx => apart x hx x List.mem_cons_self rfl, List.nil_append, List.append_nil]

/-- What the resolver holds, by what it holds for the group and for each door. -/
theorem Orders.resolver_eq {o o' : Orders} (group : o.SameGroup o') (doors : ∀ d, o'.door d = o.door d) :
    o'.resolver = o.resolver := by
  obtain ⟨i, ⟨mode, latch, flood, held⟩, out⟩ := o
  obtain ⟨i', ⟨mode', latch', flood', held'⟩, out'⟩ := o'
  obtain ⟨-, rfl, rfl, rfl⟩ := group
  have same : held' = held := Vector.ext fun k hk => doors ⟨k, hk⟩
  rw [same]

theorem State.finishOrders_orders (s : State) : s.finishOrders s.orders = s := by
  show { s with inFlight := s.inFlight ++ [] } = s
  rw [List.append_nil]

/-! ### Arrivals -/

/-- An arrival at CLOSED of a present door, where every last report was the authority due (R67, R76). -/
theorem Orders.arrival_eq {o : Orders} {d : DoorId} (reported : o.Reported) (present : o.isPresent d = true) :
    (o.arrival d).resolver = (o.withDoor d { o.door d with
      registered := false, reported := if (o.door d).reported = .remote then .none else (o.door d).reported }).resolver ∧
    (o.arrival d).out = o.out ++ if (o.door d).reported = .remote then [.standingAuthorityReport d .none] else [] := by
  let o1 := o.register d false
  have arrives : o.arrival d = o1.recomputeAll := if_pos present
  have other {e : DoorId} (ne : e ≠ d) : o1.door e = o.door e := o.withDoor_door_ne _ ne
  have own : o1.door d = { o.door d with registered := false } := o.withDoor_door d _
  have dueOther {e : DoorId} (ne : e ≠ d) : o1.due e = (o.door e).reported := by
    rw [reported e]
    exact Orders.due_congr rfl rfl rfl (by rw [other ne]) (by rw [other ne])
  have dueOwn : o1.due d = if (o.door d).reported = .remote then .none else (o.door d).reported := by
    have registered : o1.resolver.doors[d].registered = false := congrArg DoorOrder.registered own
    have isolated : o1.resolver.doors[d].isolated = o.resolver.doors[d].isolated :=
      (congrArg DoorOrder.isolated own :)
    rw [reported d]
    unfold Orders.due standingOf
    rw [registered, isolated, show o1.resolver.latch = o.resolver.latch from rfl, show o1.resolver.mode = o.resolver.mode from rfl,
      show o1.image = o.image from rfl]
    cases o.image.doors[d].present <;> cases o.resolver.doors[d].isolated <;> cases o.resolver.latch <;>
      cases o.resolver.mode <;> cases o.resolver.doors[d].registered <;> rfl
  rw [arrives]
  have group := o1.recomputeAll_group
  refine ⟨Orders.resolver_eq ⟨group.image, group.latch, group.mode, group.flood⟩ fun e => ?_, ?_⟩
  · rw [Orders.recomputeAll_door]
    by_cases same : e = d
    · rw [same, dueOwn, own, Orders.withDoor_door]
    · rw [dueOther same, other same, Orders.withDoor_door_ne _ _ same]
  · have reports (e : DoorId) : o1.reports e =
        if e = d then (if (o.door d).reported = .remote then [.standingAuthorityReport d .none] else []) else [] := by
      unfold Orders.reports
      by_cases same : e = d
      · rw [same, if_pos rfl, dueOwn, own]
        by_cases remote : (o.door d).reported = .remote
        · rw [if_pos remote, if_pos remote, if_neg]
          rw [show o1.isPresent d = true from present, remote]
          nofun
        · rw [if_neg remote, if_neg remote, if_pos (.inl rfl)]
      · rw [if_neg same, dueOther same, other same, if_pos (.inl rfl)]
    rw [Orders.recomputeAll_out, funext reports, flatMap_only nodup_allDoors (mem_allDoors d)]
    rfl

/-! ### Referrals -/

section
variable {o : Orders} {d : DoorId} {handle : Dir} {faulted held : Bool}

theorem Orders.referral_present (present : o.isPresent d = true) :
    o.referral d handle faulted held =
      if (o.door d).isolated then o.send (.handleRuling d .ignore)
      else if handle = .opn ∧ floodBars o.image o.resolver d then
        (if held then
          ((o.send (.handleRuling d .ignore)).withDoor d { o.door d with mark := true }).send (.alarmRaise .openInhibited (.door d))
        else o.send (.handleRuling d .ignore))
      else o.send (.handleRuling d (rulingOf handle faulted (o.door d).reported)) := by
  unfold Orders.referral
  rw [if_neg (by rw [present]; nofun)]
  rfl

end

/-- The ruling of an unfaulted door under a standing order (R81). -/
theorem rulingOf_ordered (handle : Dir) {a : Standing} (ordered : a ≠ .none) :
    rulingOf handle false a = match handle with | .opn => .transitOpen | .cls => .closeNow := by
  cases handle <;> cases a <;> first | rfl | exact absurd rfl ordered

/-- Settles O36: a referral by the ruling that answers it, an arrival and a release by the record that each writes. -/
theorem resolverNotices : Obligations.ResolverNotices := by
  unfold Obligations.ResolverNotices
  refine ⟨fun s d handle faulted => ?_, fun s d standing => ?_⟩
  · intro m x barred rules first
    have only : OnlyResolver s (s.deliver m) := ⟨rfl, rfl, rfl, rfl, rfl, rfl, rfl, rfl, rfl, rfl, rfl, rfl⟩
    let o := (s.taking m).orders
    let held := (s.channel d).openHandle.filtered
    have event : s.deliver m = (s.taking m).finishOrders (o.referral d handle faulted held) := rfl
    have ruled {r : Ruling} (answer : o.referral d handle faulted held = o.send (.handleRuling d r)) : rules (s.deliver m) r := by
      rw [event, answer]
      exact ⟨rfl, rfl⟩
    refine ⟨s.deliver m, exec_first rfl first, only, fun absent => ?_, fun present isolated => ?_, fun present serves => ?_⟩
    · rw [event, Orders.referral, if_pos (show o.isPresent d = false from absent)]
      exact State.finishOrders_orders _
    · exact ruled ((Orders.referral_present (o := o) present).trans (if_pos isolated))
    · have answer : o.referral d handle faulted held = _ := (Orders.referral_present (o := o) present).trans
        (if_neg (by rw [show (o.door d).isolated = false from serves]; nofun))
      have bars : (handle = .opn ∧ floodBars o.image o.resolver d = true) ↔ barred := by
        simp [barred, floodBars, inZones, o, State.orders]
      have unbarred (h : ¬barred) {r : Ruling} (rule : rulingOf handle faulted x.reported = r) : rules (s.deliver m) r :=
        ruled (answer.trans ((if_neg fun k => h (bars.mp k)).trans (by rw [← rule]; rfl)))
      have closes (h : handle = .cls) : ¬barred := fun k => nomatch h.symm.trans k.1
      refine ⟨fun bar released => ruled ?_, fun bar stays => ?_, fun free dir fine none => unbarred free ?_,
        fun free dir fine some => unbarred free ?_, fun free dir fault => unbarred free ?_,
        fun dir fine none => unbarred (closes dir) ?_, fun dir fine some => unbarred (closes dir) ?_,
        fun dir fault => unbarred (closes dir) ?_⟩
      · exact answer.trans ((if_pos (bars.mpr bar)).trans (if_neg (by rw [show held = false from released]; nofun)))
      · rw [event, answer, if_pos (bars.mpr bar), if_pos (show held = true from stays)]
        exact ⟨rfl, rfl⟩
      · rw [dir, fine, none]
        rfl
      · rw [dir, fine, rulingOf_ordered .opn some]
      · rw [dir, fault]
        rfl
      · rw [dir, fine, none]
        rfl
      · rw [dir, fine, rulingOf_ordered .cls some]
      · rw [dir, fault]
        rfl
  · intro x
    refine ⟨fun first => ⟨_, exec_first rfl first, ⟨rfl, rfl, rfl, rfl, rfl, rfl, rfl, rfl, rfl, rfl, rfl, rfl⟩, fun absent => ?_,
      fun present => ?_⟩, fun first => ⟨_, exec_first rfl first, ⟨rfl, rfl, rfl, rfl, rfl, rfl, rfl, rfl, rfl, rfl, rfl, rfl⟩,
      fun absent => ?_, fun present => ?_⟩⟩
    · let t : State := s.taking (.arrivalNotice d)
      show t.finishOrders (t.orders.arrival d) = t
      rw [Orders.arrival, if_neg (by rw [show t.orders.isPresent d = false from absent]; nofun)]
      exact State.finishOrders_orders _
    · let t : State := s.taking (.arrivalNotice d)
      have reported : t.orders.Reported := fun e => (standing e).trans (t.orders.due_eq_strongestSource e).symm
      obtain ⟨resolver, out⟩ := Orders.arrival_eq reported (d := d) present
      exact ⟨resolver, congrArg (t.inFlight ++ ·) out⟩
    · let t : State := s.taking (.openHandleReleaseNotice d)
      show t.finishOrders (t.orders.handleReleased d) = t
      rw [Orders.handleReleased, if_neg (by rw [show t.orders.isPresent d = false from absent]; nofun)]
      exact State.finishOrders_orders _
    · let t : State := s.taking (.openHandleReleaseNotice d)
      have clears : t.orders.handleReleased d =
          (t.orders.withDoor d { t.orders.door d with mark := false }).send (.alarmClear .openInhibited (.door d)) := if_pos present
      show (t.finishOrders (t.orders.handleReleased d)).resolver = _ ∧ (t.finishOrders (t.orders.handleReleased d)).inFlight = _
      rw [clears]
      exact ⟨rfl, rfl⟩

end Sys2Proof.Machine

/-! The reports that the fault recorder takes (R108 to R118). -/

namespace Sys2Proof.Machine

open Sys2Proof

/-! ### Wear -/

theorem saturatingSucc_eq_min (n : Nat) : saturatingSucc 65535 n = min 65535 (n + 1) := by
  unfold saturatingSucc
  split <;> omega

/-- A door's counters and its WEAR condition as given, with the report that the change of the condition makes (R116). -/
def DoorFaults.worn (t : Wear) (w : Wear) (x : DoorFaults) : DoorFaults := { x with counters := w, wear := w.exceeds t }

theorem Log.withDoor_withDoor (l : Log) (d : DoorId) (x y : DoorFaults) : (l.withDoor d x).withDoor d y = l.withDoor d y := by
  simp [Log.withDoor]

theorem Log.evalWear_eq (l : Log) (d : DoorId) :
    l.evalWear d =
      { l.withDoor d ((l.door d).worn l.image.group.wearThresholds (l.door d).counters) with
        out := l.out ++ changeMessages .wear (.door d) (l.door d).wear
          ((l.door d).counters.exceeds l.image.group.wearThresholds) } := by
  unfold Log.evalWear DoorFaults.worn
  dsimp only
  cases now : (l.door d).counters.exceeds l.image.group.wearThresholds <;> cases was : (l.door d).wear <;>
    simp only [Bool.and_true, Bool.and_false, Bool.not_true, Bool.not_false, if_true,
      Bool.false_eq_true, if_false, changeMessages, reduceCtorEq, List.append_nil] <;> rfl

theorem Log.count_eq (l : Log) (d : DoorId) (k : WearKind) :
    l.count d k =
      { l.withDoor d ((l.door d).worn l.image.group.wearThresholds ((l.door d).counters.count k)) with
        out := l.out ++ changeMessages .wear (.door d) (l.door d).wear
          (((l.door d).counters.count k).exceeds l.image.group.wearThresholds) } := by
  rw [Log.count, Log.evalWear_eq, Log.withDoor_door, Log.withDoor_withDoor]
  rfl

/-! ### Counted faults -/

/-- What a fault kind counts at a door: its records and the report made (R115). -/
def DoorFaults.counted (t : Wear) (d : DoorId) (x : DoorFaults) (k : FaultKind) : DoorFaults × List Instr :=
  match wearOf k with
  | none => (x, [])
  | some c => (x.worn t (x.counters.count c), changeMessages .wear (.door d) x.wear ((x.counters.count c).exceeds t))

theorem Log.withDoor_self (l : Log) (d : DoorId) : l.withDoor d (l.door d) = l := by
  simp [Log.withDoor, Log.door]

theorem Log.countFault_eq (l : Log) (d : DoorId) (k : FaultKind) :
    l.countFault d k =
      { l.withDoor d ((l.door d).counted l.image.group.wearThresholds d k).1 with
        out := l.out ++ ((l.door d).counted l.image.group.wearThresholds d k).2 } := by
  unfold Log.countFault DoorFaults.counted
  cases wearOf k with
  | none =>
    dsimp only
    rw [Log.withDoor_self, List.append_nil]
  | some c => exact l.count_eq d c

/-- The capture is no concern of the counters. -/
theorem DoorFaults.counted_capture (t : Wear) (d : DoorId) (x : DoorFaults) (c : Option Capture) (k : FaultKind) :
    ({ x with capture := c }.counted t d k) = ({ (x.counted t d k).1 with capture := c }, (x.counted t d k).2) := by
  unfold DoorFaults.counted
  cases wearOf k <;> rfl

/-- Several fault kinds counted one after the other, after some reports have been made. -/
def DoorFaults.countedAll (t : Wear) (d : DoorId) (x : DoorFaults × List Instr) (ks : List FaultKind) : DoorFaults × List Instr :=
  ks.foldl (fun x k => ((x.1.counted t d k).1, x.2 ++ (x.1.counted t d k).2)) x

/-- The log with a door's capture as given, its other records and what has been reported so far. -/
def Log.during (l : Log) (d : DoorId) (c : Option Capture) (x : DoorFaults × List Instr) : Log :=
  { l.withDoor d { x.1 with capture := c } with out := l.out ++ x.2 }

theorem Log.countFault_during (l : Log) (d : DoorId) (c : Option Capture) (x : DoorFaults × List Instr) (k : FaultKind) :
    let y := x.1.counted l.image.group.wearThresholds d k
    (l.during d c x).countFault d k = l.during d c (y.1, x.2 ++ y.2) := by
  intro y
  have own : (l.during d c x).door d = { x.1 with capture := c } := l.withDoor_door d _
  have counted := (l.during d c x).countFault_eq d k
  rw [own, DoorFaults.counted_capture] at counted
  refine counted.trans ?_
  show Log.mk _ _ _ _ = Log.mk _ _ _ _
  congr 1
  · simp [Log.during, Log.withDoor, y]
  · exact List.append_assoc ..

theorem Log.countFaults_during (l : Log) (d : DoorId) (c : Option Capture) (ks : List FaultKind) :
    ∀ x, ks.foldl (fun l k => l.countFault d k) (l.during d c x) =
      l.during d c (DoorFaults.countedAll l.image.group.wearThresholds d x ks) := by
  induction ks with
  | nil => exact fun _ => rfl
  | cons k ks ih =>
    intro x
    rw [List.foldl_cons, Log.countFault_during]
    exact ih _

/-! ### Fault reports -/

theorem Log.report_present {l : Log} {d : DoorId} (present : l.image.doors[d].present = true) (k : FaultKind)
    (second : Option FaultKind) (persisting : Bool) (x : FaultData) :
    l.report d k second persisting x =
      (if persisting then [] else k :: second.toList).foldl (fun l k => l.countFault d k)
        (match (l.door d).capture with
          | none => l.fill d k second x
          | some c => l.also d c k second) := by
  rw [Log.report, if_pos present]
  cases persisting <;> cases second <;> rfl

theorem Log.fill_eq (l : Log) (d : DoorId) (k : FaultKind) (second : Option FaultKind) (x : FaultData) :
    l.fill d k second x =
      Log.during { l with out := l.out ++ [.alarmRaise (faultAlarm (byPriority k second).1) (.door d), .captureOccupiedNotice d] } d
        (some ⟨(byPriority k second).1, x, l.time, seenOf (byPriority k second).2⟩) (l.door d, []) := by
  simp [Log.fill, Log.during, Log.send, Log.withDoor]

theorem Log.also_eq (l : Log) (d : DoorId) (c : Capture) (k : FaultKind) (second : Option FaultKind) :
    l.also d c k second = l.during d (some (second.toList.foldl alsoSee (alsoSee c k))) (l.door d, []) := by
  cases second <;> simp [Log.also, Log.during, Log.withDoor]

/-- The kinds that an also-seen set names after one more kind was seen. -/
theorem alsoSee_seen (c : Capture) (k k' : FaultKind) :
    (alsoSee c k).alsoSeen &&& faultBit k' ≠ 0 ↔ c.alsoSeen &&& faultBit k' ≠ 0 ∨ (k' ≠ c.kind ∧ k' = k) := by
  obtain ⟨kind, data, time, seen⟩ := c
  have bits : ∀ (seen : FaultSet) (kind k k' : FaultKind),
      (if k = kind then seen else seen ||| faultBit k) &&& faultBit k' ≠ 0 ↔
        seen &&& faultBit k' ≠ 0 ∨ (k' ≠ kind ∧ k' = k) := by
    intro seen kind k k'
    cases kind <;> cases k <;> cases k' <;> revert seen <;> decide
  have held : (alsoSee ⟨kind, data, time, seen⟩ k).alsoSeen = if k = kind then seen else seen ||| faultBit k := by
    unfold alsoSee
    split <;> rfl
  rw [held]
  exact bits seen kind k k'

theorem alsoSee_kind (c : Capture) (k : FaultKind) : (alsoSee c k).kind = c.kind := by
  unfold alsoSee
  split <;> rfl

theorem alsoSee_alike (c : Capture) (k : FaultKind) : alsoSee c k = { c with alsoSeen := (alsoSee c k).alsoSeen } := by
  unfold alsoSee
  split <;> rfl

theorem alsoSee_all_seen (c : Capture) (k : FaultKind) (second : Option FaultKind) :
    ∃ seen, second.toList.foldl alsoSee (alsoSee c k) = { c with alsoSeen := seen } ∧
      ∀ k', seen &&& faultBit k' ≠ 0 ↔
        c.alsoSeen &&& faultBit k' ≠ 0 ∨ (k' ≠ c.kind ∧ (k' = k ∨ second = some k')) := by
  cases second with
  | none => exact ⟨_, alsoSee_alike c k, fun k' => by simpa using alsoSee_seen c k k'⟩
  | some k2 =>
    refine ⟨(alsoSee (alsoSee c k) k2).alsoSeen, ?_, fun k' => ?_⟩
    · rw [Option.toList_some, List.foldl_cons, List.foldl_nil, alsoSee_alike (alsoSee c k) k2, alsoSee_alike c k]
    · rw [alsoSee_seen, alsoSee_seen, alsoSee_kind, Option.some.injEq, @eq_comm _ k2 k']
      tauto

/-- Two kinds of one report by their priority (R108). -/
theorem byPriority_eq (k : FaultKind) (second : Option FaultKind) : second ≠ some k →
    (byPriority k second).1 = (match second with | none => k | some k' => if faultCode k' < faultCode k then k' else k) ∧
    seenOf (byPriority k second).2 = if second.isSome then
      faultBit (match second with | none => k | some k' => if faultCode k' < faultCode k then k else k') else 0 := by
  intro apart
  cases second with
  | none => exact ⟨rfl, rfl⟩
  | some k' =>
    have ne : k' ≠ k := fun same => apart (congrArg some same)
    unfold byPriority
    dsimp only
    rw [if_neg ne]
    split <;> exact ⟨rfl, rfl⟩

theorem State.finishLog_log (s : State) : s.finishLog s.log = s := by
  show { s with inFlight := s.inFlight ++ [] } = s
  rw [List.append_nil]

theorem Log.during_other (l : Log) {d e : DoorId} (c : Option Capture) (x : DoorFaults × List Instr) (h : e ≠ d) :
    (l.during d c x).door e = l.door e := l.withDoor_door_ne _ h

theorem Log.during_own (l : Log) (d : DoorId) (c : Option Capture) (x : DoorFaults × List Instr) :
    (l.during d c x).door d = { x.1 with capture := c } := l.withDoor_door d _

/-- Settles O38: a report by the capture it fills or adds to and the counts that follow, a notice by its one count. -/
theorem recorderTakesReports : Obligations.RecorderTakesReports := by
  unfold Obligations.RecorderTakesReports
  refine ⟨fun s d k second persisting x => ?_, fun s d => ?_⟩
  · intro m y reports counts counted low high apart first
    let l := (s.taking m).log
    let ks := if persisting then [] else k :: second.toList
    let all := DoorFaults.countedAll l.image.group.wearThresholds d (y, []) ks
    have event : s.deliver m = (s.taking m).finishLog (l.report d k second persisting x) := rfl
    have folds : counted = all := by
      refine congrArg (fun f => List.foldl f (y, []) ks) (funext fun x => funext fun k' => ?_)
      cases k' <;> simp [counts, reports, DoorFaults.counted, wearOf, DoorFaults.worn, Wear.count, changeMessages,
        saturatingSucc_eq_min, l, State.log]
    rw [folds]
    refine ⟨_, exec_first rfl first, ⟨rfl, rfl, rfl, rfl, rfl, rfl, rfl, rfl, rfl, rfl, rfl, rfl⟩, fun absent => ?_, fun present => ?_⟩
    · rw [event, Log.report, if_neg (by rw [show l.image.doors[d].present = false from absent]; nofun)]
      exact State.finishLog_log _
    · rw [event, Log.report_present (show l.image.doors[d].present = true from present)]
      cases held : y.capture with
      | none =>
        obtain ⟨lowest, highest⟩ : (byPriority k second).1 = low ∧
            seenOf (byPriority k second).2 = if second.isSome then faultBit high else 0 := byPriority_eq k second apart
        have empty : (l.door d).capture = none := held
        rw [empty, Log.fill_eq, Log.countFaults_during]
        refine ⟨rfl, fun e ne => Log.during_other _ _ _ ne, ?_, ?_, fun _ => ⟨?_, ?_⟩, fun c h => absurd h nofun⟩
        · exact (congrArg DoorFaults.counters (Log.during_own ..) :)
        · exact (congrArg DoorFaults.wear (Log.during_own ..) :)
        · rw [← highest, ← lowest]
          exact (congrArg DoorFaults.capture (Log.during_own ..) :)
        · rw [← lowest]
          exact (congrArg ((s.taking m).inFlight ++ ·) (List.append_assoc ..) :)
      | some c =>
        obtain ⟨seen, alike, names⟩ := alsoSee_all_seen c k second
        have occupied : (l.door d).capture = some c := held
        rw [occupied]
        dsimp only
        rw [Log.also_eq, Log.countFaults_during]
        refine ⟨rfl, fun e ne => Log.during_other _ _ _ ne, (congrArg DoorFaults.counters (Log.during_own ..) :),
          (congrArg DoorFaults.wear (Log.during_own ..) :), fun h => absurd h nofun, fun c' h => ?_⟩
        obtain rfl : c = c' := Option.some.inj h
        exact ⟨seen, (congrArg DoorFaults.capture (Log.during_own ..) :).trans (congrArg some alike), names, rfl⟩
  · intro y w counts
    have counted {m : Instr} (k : WearKind) (drive : Option DriveCapture) (between : (route? m).isSome = true)
        (event : s.deliver m = (s.taking m).finishLog (if s.image.doors[d].present then
          Log.count { (s.taking m).log with recorder := ⟨s.recorder.doors, drive⟩ } d k else (s.taking m).log)) :
        counts m (w.count k) drive := by
      intro first
      refine ⟨_, exec_first between first, ?_, fun absent => ?_, fun present => ?_⟩
      · rw [event]
        exact ⟨rfl, rfl, rfl, rfl, rfl, rfl, rfl, rfl, rfl, rfl, rfl, rfl⟩
      · rw [event, if_neg (by rw [absent]; nofun)]
        exact State.finishLog_log _
      · rw [event, if_pos present, Log.count_eq]
        exact ⟨rfl, rfl⟩
    refine ⟨fun valve expected => ?_, ?_, ?_⟩
    · rw [← saturatingSucc_eq_min]
      exact counted .drive _ rfl rfl
    · rw [← saturatingSucc_eq_min]
      exact counted .obstruction _ rfl rfl
    · rw [← saturatingSucc_eq_min]
      exact counted .drift _ rfl rfl

end Sys2Proof.Machine

/-! The end of a store write, frames that are counted, and the silence of a line (R159, R163, R164, R170, R171, R70). -/

namespace Sys2Proof.Machine

open Sys2Proof

/-- Settles O40: each outcome of a write by the store and the message it leaves. -/
theorem storeWriteEnds : Obligations.StoreWriteEnds := by
  unfold Obligations.StoreWriteEnds
  intro s
  have ends (success : Bool) : exec (.storeWriteComplete success) s =
      if s.store.writing then .next (if success then s.writeSucceeded else s.writeFailed) else .next s := rfl
  refine ⟨fun none success => ?_, fun inFlight => ⟨⟨_, (ends true).trans (if_pos inFlight), rfl⟩,
    ⟨_, (ends false).trans (if_pos inFlight), rfl⟩⟩⟩
  rw [ends, if_neg (by rw [none]; nofun)]

/-! ### Error counters -/

/-- LINE_DEGRADED evaluated: its condition, and the report that a change of it makes (R170). -/
theorem Serial.evalDegraded_eq (x : Serial) (l : Line) :
    let now := lineDegraded x.image.group (x.line l)
    x.evalDegraded l = { x.withLine l { x.line l with degraded := now } with
      out := x.out ++ changeMessages .lineDegraded (.line l) (x.line l).degraded now } := by
  unfold Serial.evalDegraded
  dsimp only
  cases now : lineDegraded x.image.group (x.line l) <;> cases was : (x.line l).degraded <;>
    simp only [Bool.and_true, Bool.and_false, Bool.not_true, Bool.not_false, if_true,
      Bool.false_eq_true, if_false, changeMessages, reduceCtorEq, List.append_nil] <;> rfl

/-- A receiver back in HUNT with its counters as given and LINE_DEGRADED evaluated. -/
theorem Serial.evalDegraded_withLine (x : Serial) (l : Line) (y : LinePort) :
    let now := lineDegraded x.image.group y
    (x.withLine l y).evalDegraded l =
      { x with port := x.port.withLine l { y with degraded := now }
               out := x.out ++ changeMessages .lineDegraded (.line l) y.degraded now } := by
  intro now
  have line : (x.withLine l y).line l = y := x.port.withLine_line l y
  rw [Serial.evalDegraded_eq, line]
  show Serial.mk _ ((x.port.withLine l y).withLine l _) _ = _
  rw [Port.withLine_withLine]
  rfl

/-! ### Characters -/

section
variable {x : Serial} {l : Line}

theorem Serial.character_listening (silent : (x.line l).reply = none) (c : Byte) : x.character l c true = x.goodCharacter l c := by
  refine (if_neg ?_).trans (if_pos rfl)
  rw [silent]
  nofun

theorem Serial.goodCharacter_hunt (rx : (x.line l).rx = .hunt) : x.goodCharacter l startByte =
    x.withLine l { x.line l with rx := .address, buffer := [], gap := true } := by
  unfold Serial.goodCharacter
  dsimp only
  rw [rx]
  rfl

theorem Serial.goodCharacter_address (rx : (x.line l).rx = .address) (c : Byte) :
    x.goodCharacter l c = x.withLine l ((x.line l).keep c .kind) := by
  unfold Serial.goodCharacter
  dsimp only
  rw [rx]

theorem Serial.goodCharacter_kind (rx : (x.line l).rx = .kind) (c : Byte) :
    x.goodCharacter l c = x.withLine l ((x.line l).keep c .length) := by
  unfold Serial.goodCharacter
  dsimp only
  rw [rx]

theorem Serial.goodCharacter_length (rx : (x.line l).rx = .length) (c : Byte) :
    x.goodCharacter l c =
      if 240 < c.toNat then x.abandon l else x.withLine l ((x.line l).keep c (if c = 0 then .check else .body)) := by
  unfold Serial.goodCharacter
  dsimp only
  rw [rx]

theorem Serial.goodCharacter_body (rx : (x.line l).rx = .body) (c : Byte) :
    x.goodCharacter l c = x.withLine l ((x.line l).keep c
      (if (x.line l).buffer.length + 1 = 3 + (byteAt (x.line l).buffer 2).toNat then .check else .body)) := by
  unfold Serial.goodCharacter
  dsimp only
  rw [rx]

theorem Serial.goodCharacter_check (rx : (x.line l).rx = .check) (c : Byte) :
    let n := 3 + (byteAt (x.line l).buffer 2).toNat
    x.goodCharacter l c =
      if (x.line l).buffer.length = n then x.withLine l ((x.line l).keep c .check)
      else x.frameDone l ((x.line l).buffer.take n) (byteAt (x.line l).buffer n) c := by
  unfold Serial.goodCharacter
  dsimp only
  rw [rx]

theorem Serial.character_deaf (h : (x.line l).rx = .closed ∨ (x.line l).reply.isSome = true) (c : Byte) (good : Bool) :
    x.character l c good = x := by
  unfold Serial.character Serial.goodCharacter
  dsimp only
  by_cases sends : (x.line l).reply.isSome = true
  · exact if_pos sends
  · rw [if_neg sends, h.resolve_right sends]
    exact ite_self _

end

/-- Settles O42: each of the four abandons or discards the frame, and a receiver that is CLOSED or sends takes nothing. -/
theorem badFramesAreCounted : Obligations.BadFramesAreCounted := by
  unfold Obligations.BadFramesAreCounted
  intro s l c y counts length
  have counted {m : Instr} {f : Serial → Serial} {framing check : Nat} (runs : exec m s = .next (s.serialEvent f))
      (takes : f s.serial = (s.serial.withLine l { y.hunting with framingErrors := framing, checkErrors := check }).evalDegraded l) :
      counts m framing check := by
    refine ⟨_, runs, s.serialEvent_onlyPort f, ?_, ?_⟩
    · rw [State.serialEvent_port, takes, Serial.evalDegraded_withLine]
      rfl
    · rw [State.serialEvent_inFlight, takes, Serial.evalDegraded_withLine]
      rfl
  have abandons {m : Instr} {f : Serial → Serial} (runs : exec m s = .next (s.serialEvent f))
      (takes : f s.serial = s.serial.abandon l) : counts m (min 65535 (y.framingErrors + 1)) y.checkErrors :=
    counted runs (takes.trans (by rw [← saturatingSucc_eq_min]; rfl))
  refine ⟨fun silent hunt closed => abandons rfl ?_, fun hunt closed gap => abandons rfl ?_,
    fun silent rx long => abandons rfl ?_, fun silent rx full differs => counted rfl ?_, fun deaf good => ?_⟩
  · unfold Serial.character
    rw [show (s.serial.line l).reply = none from silent, show (s.serial.line l).rx = y.rx from rfl]
    cases rx : y.rx <;> first | rfl | exact absurd rx hunt | exact absurd rx closed
  · unfold Serial.gapExpired
    rw [show (s.serial.line l).gap = true from gap, show (s.serial.line l).rx = y.rx from rfl]
    cases rx : y.rx <;> first | rfl | exact absurd rx hunt | exact absurd rx closed
  · rw [Serial.character_listening (x := s.serial) silent, Serial.goodCharacter_length (x := s.serial) rx]
    exact if_pos long
  · have second : ¬y.buffer.length = length := by omega
    rw [Serial.character_listening (x := s.serial) silent, Serial.goodCharacter_check (x := s.serial) rx]
    refine (if_neg second).trans ((if_neg differs).trans ?_)
    rw [← saturatingSucc_eq_min]
    rfl
  · show Host.Outcome.next (s.finishSerial (s.serial.character l c good)) = .next s
    rw [Serial.character_deaf (x := s.serial) deaf]
    exact congrArg Host.Outcome.next (congrArg (fun ms => { s with inFlight := ms }) (List.append_nil s.inFlight))

/-! ### Silence -/

/-- A door's sources in the mode CLOSED (R66). -/
theorem Orders.due_closed {o : Orders} (closed : o.resolver.mode = .closed) (clear : o.resolver.latch = false) (d : DoorId) :
    o.due d = if o.isPresent d && !(o.door d).isolated then .central else .none := by
  unfold Orders.due standingOf Orders.isPresent Orders.door
  rw [closed, clear]
  cases o.image.doors[d].present <;> cases o.resolver.doors[d].isolated <;> rfl

theorem Orders.due_ne_central {o : Orders} (here : o.resolver.mode = .local_) (d : DoorId) : o.due d ≠ .central := by
  unfold Orders.due standingOf
  rw [here]
  cases o.resolver.latch <;> cases o.resolver.doors[d].registered <;> simp <;> split <;> simp

/-- What the mode CLOSED after LOCAL reports: every door in service CENTRAL, unless the latch is set (R67, R70). -/
theorem Orders.reports_closed {o o' : Orders} (reported : o.Reported) (here : o.resolver.mode = .local_)
    (closes : o' = { o with resolver := { o.resolver with mode := .closed } }) (d : DoorId) :
    o'.reports d = if !o.resolver.latch && o.isPresent d && !(o.door d).isolated then [.standingAuthorityReport d .central] else [] := by
  have door : o'.door d = o.door d := by rw [closes]; rfl
  have latches : o'.resolver.latch = o.resolver.latch := by rw [closes]
  have present : o'.isPresent d = o.isPresent d := by rw [closes]; rfl
  unfold Orders.reports
  rw [door, reported d, present]
  cases latch : o.resolver.latch with
  | true =>
    rw [Orders.due_latched latch, Orders.due_latched (latches.trans latch), door, present, if_pos (.inl rfl)]
    rfl
  | false =>
    rw [Orders.due_closed (by rw [closes]) (latches.trans latch), door, present]
    cases serves : o.isPresent d && !(o.door d).isolated with
    | true =>
      have there : o.isPresent d = true := (Bool.and_eq_true_iff.mp serves).1
      have other := Orders.due_ne_central here d
      have reports : ¬(Standing.central = o.due d ∨ o.isPresent d = false) := by
        rintro (same | absent)
        · exact other same.symm
        · exact absurd (there.symm.trans absent) nofun
      rw [if_pos rfl, if_neg reports, Bool.and_assoc, serves]
      rfl
    | false =>
      have silent : (Standing.none = o.due d ∨ o.isPresent d = false) := .inl (Orders.due_unserved serves).symm
      rw [if_neg (show ¬false = true from nofun), if_pos silent, Bool.and_assoc, serves]
      rfl

/-- Settles O43: a running timer, with the other line silent or not, and the mode that close-on-loss gives. -/
theorem silenceIsRaised : Obligations.SilenceIsRaised := by
  unfold Obligations.SilenceIsRaised
  intro s l standing y silent closes
  let x := s.serial.silenceExpired l
  have run : exec (.silenceTimerExpiry l) s =
      .next (if x.2 then (s.finishSerial x.1).ordersEvent Orders.remoteLost else s.finishSerial x.1) := rfl
  refine ⟨fun idle => ?_, fun running => ?_⟩
  · have stays : x = (s.serial, false) := if_neg (by rw [show (s.serial.line l).silence = none from idle]; nofun)
    rw [run, stays]
    exact congrArg Host.Outcome.next (congrArg (fun ms => { s with inFlight := ms }) (List.append_nil s.inFlight))
  · have expires : x = if (s.port.line (otherLine l)).silent then
          (⟨s.image, { s.port.withLine l silent with remoteWasLost := true },
            [.alarmRaise .lineSilent (.line l), .alarmRaise .remoteLost .group]⟩, true)
        else (⟨s.image, s.port.withLine l silent, [.alarmRaise .lineSilent (.line l)]⟩, false) := if_pos running
    cases other : (s.port.line (otherLine l)).silent with
    | false =>
      have once : x = _ := expires.trans (if_neg (by rw [other]; nofun))
      rw [run, once]
      exact ⟨_, [], rfl, rfl, fun _ => ⟨rfl, rfl, rfl⟩, nofun⟩
    | true =>
      have both : x = _ := expires.trans (if_pos other)
      rw [run, both]
      let u : State := s.finishSerial ⟨s.image, { s.port.withLine l silent with remoteWasLost := true },
        [.alarmRaise .lineSilent (.line l), .alarmRaise .remoteLost .group]⟩
      let o := Orders.remoteLost s.orders
      have event : (if true then u.ordersEvent Orders.remoteLost else u) = u.finishOrders o := rfl
      refine ⟨u.finishOrders o, .alarmRaise .remoteLost .group :: o.out, rfl, ?_, nofun, fun _ => ⟨rfl, rfl, fun stays => ?_,
        fun changes => ?_⟩⟩
      · exact congrArg (fun ms => { u with resolver := o.resolver, inFlight := ms }) (List.append_assoc ..)
      · have same : o = s.orders := if_neg stays
        exact ⟨congrArg Orders.resolver same, congrArg Orders.out same⟩
      · let o1 : Orders := ⟨s.image, { s.resolver with mode := .closed }, []⟩
        have reported : s.orders.Reported := fun d => (standing d).trans (s.orders.due_eq_strongestSource d).symm
        have sets : o = o1.recomputeAll := if_pos changes
        have group := o1.recomputeAll_group
        have doors := o1.recomputeAll_door
        have kept : o1.recomputeAll.Reported := .recomputeAll o1
        have out := o1.recomputeAll_out
        have reports : o1.reports = fun d => if !s.resolver.latch && s.image.doors[d].present &&
            !s.resolver.doors[d].isolated then [.standingAuthorityReport d .central] else [] :=
          funext fun d => Orders.reports_closed reported changes.2 rfl d
        rw [reports, flatMap_ite_singleton] at out
        rw [sets]
        generalize o1.recomputeAll = o' at group doors kept out
        refine ⟨group.mode, group.latch, fun d => ?_, group.flood, fun d => ?_, out⟩
        · refine (kept d).trans ((Orders.due_eq_strongestSource o' d).trans ?_)
          rw [show o'.image = s.image from group.image]
          rfl
        · have written : o'.door d = { s.resolver.doors[d] with reported := o1.due d } := doors d
          show o'.door d = { s.resolver.doors[d] with reported := (o'.door d).reported }
          rw [written]

end Sys2Proof.Machine

/-! The characters of a frame (R162 to R167, R171). -/

namespace Sys2Proof.Machine

open Sys2Proof

/-- A receiver within a frame, with the characters that it has kept. -/
def LinePort.receiving (y : LinePort) (rx : RxState) (buffer : List Byte) : LinePort :=
  { y with rx := rx, buffer := buffer, gap := true }

section
variable {s : State} {l : Line} {y : LinePort} {cs : List Byte}

/-- A character that moves the receiver on, and nothing else. -/
theorem execAll_moves {z z' : LinePort} {c : Byte} (silent : z.reply = none)
    (moves : ∀ x : Serial, x.line l = z → x.goodCharacter l c = x.withLine l z') :
    execAll (characters l (c :: cs)) (s.withLine l z) = execAll (characters l cs) (s.withLine l z') := by
  have line : (s.withLine l z).serial.line l = z := s.port.withLine_line l z
  have taken : (s.withLine l z).serial.character l c true = (s.withLine l z).serial.withLine l z' := by
    rw [Serial.character_listening (by rw [line]; exact silent)]
    exact moves _ line
  have run : exec (.lineCharacter l c true) (s.withLine l z) = .next (s.withLine l z') := by
    show Host.Outcome.next ((s.withLine l z).finishSerial ((s.withLine l z).serial.character l c true)) = _
    rw [taken]
    show Host.Outcome.next { s with port := (s.port.withLine l z).withLine l z', inFlight := s.inFlight ++ [] } = _
    rw [Port.withLine_withLine, List.append_nil]
    rfl
  show (match exec (.lineCharacter l c true) (s.withLine l z) with
    | .next t => execAll (characters l cs) t
    | .fault f => .fault f
    | .refused f => .refused f) = _
  rw [run]

/-- The characters of a body, up to its last. -/
theorem execAll_body (silent : y.reply = none) {a k n : Byte} (rest : List Byte) :
    ∀ done : List Byte, rest ≠ [] → done.length + rest.length = n.toNat →
      execAll (characters l (rest ++ cs)) (s.withLine l (y.receiving .body ([a, k, n] ++ done))) =
        execAll (characters l cs) (s.withLine l (y.receiving .check ([a, k, n] ++ done ++ rest))) := by
  induction rest with
  | nil => exact fun _ h => absurd rfl h
  | cons c rest ih =>
    intro done _ fits
    rw [List.length_cons] at fits
    have moved (x : Serial) (line : x.line l = y.receiving .body ([a, k, n] ++ done)) :
        x.goodCharacter l c = x.withLine l (y.receiving (if rest = [] then .check else .body) ([a, k, n] ++ (done ++ [c]))) := by
      have ends : ([a, k, n] ++ done).length + 1 = 3 + n.toNat ↔ rest = [] := by
        rw [List.length_append, show [a, k, n].length = 3 from rfl, ← List.length_eq_zero_iff]
        omega
      have step := Serial.goodCharacter_body (x := x) (l := l) (by rw [line]; rfl) c
      rw [line] at step
      refine step.trans (congrArg (x.withLine l) ?_)
      show y.receiving (if ([a, k, n] ++ done).length + 1 = 3 + n.toNat then .check else .body) ([a, k, n] ++ done ++ [c]) = _
      rw [if_congr ends rfl rfl, List.append_assoc]
    rw [List.cons_append, execAll_moves (z := y.receiving .body ([a, k, n] ++ done)) silent moved]
    by_cases last : rest = []
    · rw [if_pos last, last]
      simp
    · rw [if_neg last, ih (done ++ [c]) last (by simp; omega)]
      simp

/-- A whole frame: its check agrees, and what it spells is handed over. -/
theorem execAll_frame (hunt : (s.port.line l).rx = .hunt) (silent : (s.port.line l).reply = none) (station kind : Byte)
    {body : List Byte} (fits : body.length ≤ 240) :
    ∃ z : LinePort, z.hunting = (s.port.line l).hunting ∧
      execAll (characters l (requestFrame station kind body)) s =
        .next ((s.withLine l z).serialEvent fun x => x.validFrame l ([station, kind, byteOf body.length] ++ body)) := by
  let y := s.port.line l
  let covered := [station, kind, byteOf body.length] ++ body
  have count : (byteOf body.length).toNat = body.length := byteOf_toNat (by omega)
  have kept : s = s.withLine l y := by
    show s = { s with port := s.port.withLine l (s.port.line l) }
    cases l <;> rfl
  have count' : byteAt covered 2 = byteOf body.length := rfl
  have size : covered.length = 3 + body.length := by simp [covered]; omega
  let hi := (crc covered).extractLsb' 8 8
  let lo := (crc covered).extractLsb' 0 8
  let z := y.receiving .check (covered ++ [hi])
  have headed (rest : List Byte) : execAll (characters l (startByte :: station :: kind :: byteOf body.length :: rest)) s =
      execAll (characters l rest) (s.withLine l
        (y.receiving (if body = [] then .check else .body) [station, kind, byteOf body.length])) := by
    have empty : byteOf body.length = 0 ↔ body = [] := by
      rw [← List.length_eq_zero_iff, BitVec.toNat_eq, count]
      rfl
    conv_lhs => rw [kept]
    rw [execAll_moves (z' := y.receiving .address []) silent fun x line => by
          rw [Serial.goodCharacter_hunt (by rw [line]; exact hunt), line]; rfl,
      execAll_moves (z := y.receiving .address []) (z' := y.receiving .kind [station]) silent fun x line => by
          rw [Serial.goodCharacter_address (by rw [line]; rfl), line]; rfl,
      execAll_moves (z := y.receiving .kind [station]) (z' := y.receiving .length [station, kind]) silent fun x line => by
          rw [Serial.goodCharacter_kind (by rw [line]; rfl), line]; rfl,
      execAll_moves (z := y.receiving .length [station, kind])
        (z' := y.receiving (if body = [] then .check else .body) [station, kind, byteOf body.length]) silent
        fun x line => by
          rw [Serial.goodCharacter_length (by rw [line]; rfl), line, if_neg (by omega), if_congr empty rfl rfl]; rfl]
  have bodied (rest : List Byte) :
      execAll (characters l (body ++ rest)) (s.withLine l
        (y.receiving (if body = [] then .check else .body) [station, kind, byteOf body.length])) =
      execAll (characters l rest) (s.withLine l (y.receiving .check covered)) := by
    by_cases empty : body = []
    · simp only [covered, empty, if_true, List.nil_append, List.append_nil]
    · rw [if_neg empty]
      exact execAll_body (s := s) (y := y) silent body [] empty (by rw [count]; simp)
  have checked : execAll (characters l [hi, lo]) (s.withLine l (y.receiving .check covered)) =
      execAll (characters l [lo]) (s.withLine l z) := by
    refine execAll_moves (z := y.receiving .check covered) silent fun x line => ?_
    rw [Serial.goodCharacter_check (by rw [line]; rfl), line]
    exact if_pos (by show covered.length = 3 + (byteAt covered 2).toNat; rw [count', count, size])
  have ends : execAll (characters l [lo]) (s.withLine l z) =
      .next ((s.withLine l z).serialEvent fun x => x.validFrame l covered) := by
    have line : (s.withLine l z).serial.line l = z := s.port.withLine_line l z
    have length : 3 + (byteAt (covered ++ [hi]) 2).toNat = covered.length := by
      rw [show byteAt (covered ++ [hi]) 2 = byteOf body.length from rfl, count, size]
    have taken : (s.withLine l z).serial.character l lo true = (s.withLine l z).serial.validFrame l covered := by
      rw [Serial.character_listening (by rw [line]; exact silent), Serial.goodCharacter_check (by rw [line]; rfl), line,
        show z.buffer = covered ++ [hi] from rfl, length, List.take_left' rfl,
        if_neg (by rw [List.length_append, List.length_singleton]; omega)]
      have second : byteAt (covered ++ [hi]) covered.length = hi := by simp [byteAt]
      rw [second]
      exact if_pos rfl
    exact congrArg (fun x => Host.Outcome.next ((s.withLine l z).finishSerial x)) taken
  refine ⟨z, rfl, ?_⟩
  have spelled : requestFrame station kind body =
      startByte :: station :: kind :: byteOf body.length :: (body ++ [hi, lo]) := rfl
  rw [spelled, headed, bodied, checked, ends]

end

/-! ### A valid frame -/

/-- The line that a valid frame was heard on. -/
def LinePort.afterFrame (interval : Nat) (y : LinePort) : LinePort :=
  if interval = 0 then y else { y with silence := some interval, silent := false }

theorem Serial.heard_eq (x : Serial) (l : Line) :
    x.heard l = { x with
      port := x.port.withLine l ((x.port.line l).afterFrame x.port.interval)
      out := x.out ++ if (x.port.line l).silent = false ∨ x.port.interval = 0 then []
        else .alarmClear .lineSilent (.line l) ::
          if (x.port.line (otherLine l)).silent then [.alarmClear .remoteLost .group] else [] } := by
  unfold Serial.heard LinePort.afterFrame
  by_cases unsupervised : x.port.interval = 0
  · rw [if_pos unsupervised, if_pos unsupervised, if_pos (.inr unsupervised), List.append_nil]
    cases l <;> rfl
  · rw [if_neg unsupervised, if_neg unsupervised]
    have both : x.port.bothSilent = ((x.port.line l).silent && (x.port.line (otherLine l)).silent) := by
      cases l
      · rfl
      · exact Bool.and_comm ..
    dsimp only
    rw [both]
    cases silent : (x.port.line l).silent with
    | false =>
      rw [Bool.false_and, show (x.line l).silent = false from silent]
      exact congrArg (Serial.mk _ _) (List.append_nil _).symm
    | true =>
      have revives : ¬(true = false ∨ x.port.interval = 0) := fun h => h.elim nofun unsupervised
      rw [if_neg revives, show (x.line l).silent = true from silent]
      cases (x.port.line (otherLine l)).silent
      · rfl
      · exact congrArg (Serial.mk _ _) (List.append_assoc ..)

/-- Settles O41: the characters bring the frame to its check, and the frame is handed over by its address and kind. -/
theorem frameIsTakenWhole : Obligations.FrameIsTakenWhole := by
  unfold Obligations.FrameIsTakenWhole
  intro s l station kind body hunt silent addressed fits y hunting heard revived ours served
  obtain ⟨z, hunts, run⟩ := execAll_frame hunt silent station kind fits
  let covered := [station, kind, byteOf body.length] ++ body
  let x := (s.withLine l z).serial
  refine ⟨_, run, ⟨rfl, rfl, rfl, rfl, rfl, rfl, rfl, rfl, rfl, rfl, rfl, rfl⟩, ?_⟩
  have start : x.withLine l (x.line l).hunting = s.serial.withLine l hunting := by
    rw [show x.line l = z from s.port.withLine_line l z, hunts]
    exact congrArg (fun p => (⟨s.image, p, []⟩ : Serial)) (s.port.withLine_withLine l z _)
  have hears : (s.serial.withLine l hunting).heard l = ⟨s.image, s.port.withLine l heard, revived⟩ := by
    have interval : (s.port.withLine l hunting).interval = s.port.interval := by cases l <;> rfl
    rw [Serial.heard_eq]
    show Serial.mk _ ((s.port.withLine l hunting).withLine l (LinePort.afterFrame (s.port.withLine l hunting).interval
      ((s.port.withLine l hunting).line l))) ([] ++ if ((s.port.withLine l hunting).line l).silent = false ∨
        (s.port.withLine l hunting).interval = 0 then [] else .alarmClear .lineSilent (.line l) ::
          if ((s.port.withLine l hunting).line (otherLine l)).silent then [.alarmClear .remoteLost .group] else []) = _
    rw [Port.withLine_withLine, interval, Port.withLine_line, Port.withLine_otherLine]
    rfl
  let broadcast := station == 0
  let wanted := if broadcast then takenByBroadcast kind else decide (kind.toNat < 0x80)
  have valid : x.validFrame l covered =
      if broadcast || station == s.port.address.setWidth 8 then
        if wanted && s.port.restarting.isNone then
          ⟨s.image, s.port.withLine l { heard with rx := .closed, waiting := some (decodeRequest kind ⟨l, broadcast, body⟩) }, revived⟩
        else ⟨s.image, s.port.withLine l heard, revived⟩
      else ⟨s.image, s.port.withLine l hunting, []⟩ := by
    have address : x.port.address = s.port.address := s.port.withLine_address l z
    have restarting : x.port.restarting = s.port.restarting := s.port.withLine_restarting l z
    unfold Serial.validFrame
    dsimp only
    rw [start, hears, address, restarting]
    rw [show byteAt covered 0 = station from rfl, show byteAt covered 1 = kind from rfl, show covered.drop 3 = body from rfl]
    have again (v : LinePort) : (s.port.withLine l heard).withLine l v = s.port.withLine l v := s.port.withLine_withLine l heard v
    refine if_congr Iff.rfl (if_congr Iff.rfl ?_ rfl) rfl
    show Serial.mk _ ((s.port.withLine l heard).withLine l
      { (s.port.withLine l heard).line l with rx := .closed, waiting := some (decodeRequest kind ⟨l, broadcast, body⟩) }) _ = _
    rw [Port.withLine_line, again]
  have apart : s.port.address.setWidth 8 ≠ 0 := fun zero => addressed (by
    have := congrArg BitVec.toNat zero
    rw [BitVec.toNat_setWidth, Nat.mod_eq_of_lt (by omega)] at this
    exact BitVec.eq_of_toNat_eq this)
  have named (h : ours ∨ station = 0) : (broadcast || station == s.port.address.setWidth 8) = true := by
    simpa [broadcast, Or.comm] using h
  have single (h : ours) : broadcast = false := by
    simpa [broadcast] using fun zero : station = 0 => apart (h.symm.trans zero)
  have byStation (h : ours) : wanted = decide (kind.toNat < 0x80) := by
    simp [wanted, single h]
  have byBroadcast (h : station = 0) : wanted = decide served := by
    simp [wanted, broadcast, h, takenByBroadcast, served, beq_eq_decide]
  have waits (h : ours ∨ station = 0) (wants : wanted = true) (free : s.port.restarting = none) :
      x.validFrame l covered =
        ⟨s.image, s.port.withLine l { heard with rx := .closed, waiting := some (decodeRequest kind ⟨l, broadcast, body⟩) }, revived⟩ := by
    rw [valid, if_pos (named h), wants, free]
    rfl
  have passes (h : ours ∨ station = 0) (not : wanted = false ∨ s.port.restarting.isSome = true) :
      x.validFrame l covered = ⟨s.image, s.port.withLine l heard, revived⟩ := by
    rw [valid, if_pos (named h)]
    refine if_neg fun both => ?_
    obtain ⟨wants, free⟩ := Bool.and_eq_true_iff.mp both
    rcases not with unwanted | awaited
    · exact absurd (wants.symm.trans unwanted) nofun
    · rw [← Option.not_isSome, awaited] at free
      cases free
  refine ⟨fun h => congrArg (s.inFlight ++ ·) ?_, fun h low free => ?_, fun h wants free => ?_, fun h not => ?_,
    fun h not => ?_, fun h other => ?_⟩
  · show (x.validFrame l covered).out = revived
    rw [valid, if_pos (named h)]
    split <;> rfl
  · show (x.validFrame l covered).port = _
    rw [waits (.inl h) (by rw [byStation h]; exact decide_eq_true low) free, single h]
  · show (x.validFrame l covered).port = _
    rw [waits (.inr h) (by rw [byBroadcast h]; exact decide_eq_true wants) free, show broadcast = true from by simp [broadcast, h]]
  · show (x.validFrame l covered).port = _
    rw [passes (.inl h) (not.imp_left fun high => by rw [byStation h]; exact decide_eq_false (Nat.not_lt.mpr high))]
  · show (x.validFrame l covered).port = _
    rw [passes (.inr h) (not.imp_left fun unserved => by rw [byBroadcast h]; exact decide_eq_false unserved)]
  · have foreign : x.validFrame l covered = ⟨s.image, s.port.withLine l hunting, []⟩ := by
      rw [valid, if_neg]
      simpa [broadcast] using ⟨h, other⟩
    show (x.validFrame l covered).port = _ ∧ s.inFlight ++ (x.validFrame l covered).out = _
    rw [foreign]
    exact ⟨rfl, List.append_nil _⟩

end Sys2Proof.Machine

/-! The arrival of a stroke, and what it teaches (R25, R32, R59, R61, R64). -/

namespace Sys2Proof.Machine

open Sys2Proof

/-! ### Learning -/

theorem strokeAccepted_eq (learned measured : Nat) :
    strokeAccepted learned measured = decide (learned / 2 ≤ measured ∧ measured ≤ 2 * learned) := by
  simp [strokeAccepted]

theorem relearned_eq (learned measured : Nat) :
    relearned learned measured = min 600 (max 30 ((3 * learned + measured + 2) / 4)) := by
  unfold relearned clamp
  split
  · omega
  · split <;> omega

theorem travelDrifts_eq (x : DoorRecord) (r : Door) : travelDrifts r x = r.travelsOff x := rfl

section
variable (w : Work)

theorem Work.evalTravelDrift_eq :
    w.evalTravelDrift =
      { w with
        door := { w.door with travelDrift := w.door.travelsOff w.config }
        out := w.out ++ changeMessages .travelDrift (.door w.id) w.door.travelDrift (w.door.travelsOff w.config) } := by
  unfold Work.evalTravelDrift
  dsimp only
  rw [travelDrifts_eq]
  cases now : w.door.travelsOff w.config <;> cases was : w.door.travelDrift <;>
    simp [changeMessages, Work.send]

/-- What the arrival of a full stroke teaches, and the report that it makes (R59, R61, R64). -/
theorem Work.learn_eq (full : w.door.full = true) :
    w.learn =
      { w with
        door := w.door.learns w.config
        out := w.out ++ changeMessages .travelDrift (.door w.id) w.door.travelDrift (w.door.learns w.config).travelDrift } := by
  unfold Work.learn Door.learns
  dsimp only
  rw [strokeAccepted_eq, full]
  by_cases accepted : w.door.learned w.door.dir / 2 ≤ w.door.elapsed ∧ w.door.elapsed ≤ 2 * w.door.learned w.door.dir
  · rw [if_pos (decide_eq_true accepted), Work.evalTravelDrift_eq, if_neg nofun, if_pos (decide_eq_true accepted), relearned_eq]
    cases w.door.dir <;> rfl
  · rw [if_neg (by rw [decide_eq_true_eq]; exact accepted), if_neg (show ¬true = false from nofun),
      if_neg (by rw [decide_eq_true_eq]; exact accepted)]
    dsimp only [changeMessages]
    rw [if_pos rfl, List.append_nil]

theorem Door.learns_of_brief {r : Door} (x : DoorRecord) (brief : r.full = false) : r.learns x = r := if_pos brief

/-- What a door learns leaves the rest of its record. -/
theorem Door.learns_keeps (x : DoorRecord) (r : Door) :
    ∃ close opening last drifts, r.learns x =
      { r with learnedClose := close, learnedOpen := opening, lastStroke := last, travelDrift := drifts } := by
  unfold Door.learns
  dsimp only
  split
  · exact ⟨_, _, _, _, rfl⟩
  · split
    · cases r.dir <;> exact ⟨_, _, _, _, rfl⟩
    · exact ⟨_, _, _, _, rfl⟩

/-- The arrival of a stroke (R25, R27, R32). -/
theorem Work.arrive_eq :
    w.arrive =
      { w with
        door := w.door.arrived w.image w.id w.channel
        channel := w.channel.withValve w.door.dir false
        out := w.out ++ arrivalMessages w.image w.id w.channel w.door } := by
  let stopped := w.door.valveAt w.image w.channel w.door.dir false
  let r2 : Door := { stopped with motion := endMotion w.door.dir, estimate := endEstimate w.door.dir, held := false }
  let w2 : Work := { w with door := r2, channel := w.channel.withValve w.door.dir false, out := w.out ++ [.release w.id] }
  have ended : { w.endStroke .arrival with door := { (w.endStroke .arrival).door with
      motion := endMotion w.door.dir, estimate := endEstimate w.door.dir } } = w2 := by
    rw [Work.endStroke, Work.switchValve_eq]
    rfl
  let learnt := r2.learns w.config
  let w3 : Work := { w2 with door := learnt, out := w2.out ++ changeMessages .travelDrift (.door w.id) r2.travelDrift learnt.travelDrift }
  have learns : (if r2.full then w2.learn else w2) = w3 := by
    cases full : r2.full with
    | true => exact w2.learn_eq full
    | false =>
      have same : learnt = r2 := Door.learns_of_brief _ full
      have quiet : w3 = { w2 with door := learnt, out := w2.out ++ [] } :=
        congrArg (fun ms => { w2 with door := learnt, out := w2.out ++ ms }) (if_pos (congrArg Door.travelDrift same))
      rw [quiet, same, List.append_nil]
      rfl
  have arrives : w.arrive = match w.door.dir with
      | .opn => w3
      | .cls => ((w3.send (.arrivalNotice w.id)).clearTransit).clearDrift := by
    let lands := fun v : Work => match w.door.dir with
      | .opn => v
      | .cls => ((v.send (.arrivalNotice w.id)).clearTransit).clearDrift
    have stops : w.arrive = lands (if r2.full then w2.learn else w2) :=
      congrArg (fun v : Work => lands (if v.door.full then v.learn else v)) ended
    rw [stops, learns]
  obtain ⟨check, checked⟩ := w.door.valveAt_eq w.image w.channel w.door.dir false
  have kept : r2.travelDrift = w.door.travelDrift ∧ learnt.transit = w.door.transit ∧ learnt.drifted = w.door.drifted := by
    obtain ⟨_, _, _, _, taught⟩ := r2.learns_keeps w.config
    have alike : learnt.transit = stopped.transit ∧ learnt.drifted = stopped.drifted := by
      rw [show learnt = _ from taught]
      exact ⟨rfl, rfl⟩
    rw [alike.1, alike.2, show r2.travelDrift = stopped.travelDrift from rfl, show stopped = _ from checked]
    cases w.door.dir <;> exact ⟨rfl, rfl, rfl⟩
  obtain ⟨drifts, transit, drifted⟩ := kept
  rw [arrives]
  unfold arrivalMessages Door.arrived
  cases dir : w.door.dir with
  | opn =>
    dsimp only
    rw [← drifts, List.append_nil]
    simp only [w3, w2, learnt, r2, stopped, dir, List.append_assoc, List.singleton_append]
    rfl
  | cls =>
    rw [Work.clearDrift_eq, Work.clearTransit_eq]
    have left : transitMessages w.id learnt = transitMessages w.id w.door ∧ driftMessages w.id learnt = driftMessages w.id w.door := by
      unfold transitMessages driftMessages
      rw [transit, drifted]
      exact ⟨rfl, rfl⟩
    have out : ((w3.out ++ [.arrivalNotice w.id]) ++ transitMessages w.id learnt) ++ driftMessages w.id learnt =
        w.out ++ (.release w.id :: changeMessages .travelDrift (.door w.id) w.door.travelDrift learnt.travelDrift ++
          (.arrivalNotice w.id :: transitMessages w.id w.door ++ driftMessages w.id w.door)) := by
      rw [left.1, left.2, ← drifts]
      simp only [w3, w2, List.append_assoc, List.cons_append, List.nil_append]
    refine (congrArg (fun ms => { w3 with door := { learnt.outOfTransit with drifted := false }, out := ms }) out).trans ?_
    simp only [w3, w2, learnt, r2, stopped, dir]
    rfl

/-! ### Events of an end switch -/

/-- A present door's end-switch event, once its drifted flag and its tight latch have taken it (R25, R145). -/
theorem Work.endSwitch_eq (e : Dir) (active : Bool) (here : w.door.motion ≠ .absent) :
    let x : Work := { w with door := w.door.switched e active, out := w.out ++ switchMessages e active w.id w.door }
    w.endSwitch e active = if active then x.endConfirm e else x.endRelease e := by
  refine (if_neg here).trans ?_
  cases e <;> cases active
  · exact congrArg (Work.endRelease · .opn) (congrArg (fun ms => { w with out := ms }) (List.append_nil w.out).symm)
  · exact congrArg (Work.endConfirm · .opn) (congrArg (fun ms => { w with out := ms }) (List.append_nil w.out).symm)
  · exact congrArg (Work.endRelease · .cls) (congrArg (fun ms => { w with door := { w.door with tight := false }, out := ms }) (List.append_nil w.out).symm)
  · exact congrArg (Work.endConfirm · .cls) (Work.clearDrift_eq (w := w))

theorem Work.endConfirm_moving (e : Dir) (moving : isMoving w.door.motion = true) : w.endConfirm e = w.confirmMoving e := by
  unfold Work.endConfirm
  cases motion : w.door.motion <;> rw [motion] at moving <;> first | rfl | cases moving

/-- The target switch of a stroke ACTIVE, the other one not: the arrival (R32). -/
theorem Work.meetTarget_arrive (alone : w.channel.conflict = false) : w.meetTarget = w.arrive :=
  if_neg (by rw [alone]; nofun)

end

/-- What an arrival leaves, whatever the stroke has taught (R25, R27, R32). -/
theorem Door.arrived_stands (i : Image) (d : DoorId) (c : Channel) (r : Door) :
    let there := r.arrived i d c
    there.motion = endMotion r.dir ∧ there.estimate = endEstimate r.dir ∧ there.held = false ∧
    there.transit = (r.transit && r.dir == .opn) ∧ there.drifted = (r.drifted && r.dir == .opn) := by
  intro there
  let stopped := r.valveAt i c r.dir false
  let r2 : Door := { stopped with motion := endMotion r.dir, estimate := endEstimate r.dir, held := false }
  obtain ⟨_, _, _, _, taught⟩ := r2.learns_keeps i.doors[d]
  obtain ⟨check, checked⟩ := r.valveAt_eq i c r.dir false
  have kept : stopped.transit = r.transit ∧ stopped.drifted = r.drifted := by
    rw [show stopped = _ from checked]
    cases r.dir <;> exact ⟨rfl, rfl⟩
  have arrives : there = match r.dir with
      | .opn => Door.learns i.doors[d] r2
      | .cls => { (Door.learns i.doors[d] r2).outOfTransit with drifted := false } := rfl
  rw [arrives, taught]
  cases dir : r.dir with
  | opn =>
    refine ⟨?_, ?_, rfl, ?_, ?_⟩
    · exact congrArg endMotion dir
    · exact congrArg endEstimate dir
    · exact kept.1.trans (Bool.and_true _).symm
    · exact kept.2.trans (Bool.and_true _).symm
  | cls =>
    refine ⟨?_, ?_, rfl, (Bool.and_false _).symm, (Bool.and_false _).symm⟩
    · exact congrArg endMotion dir
    · exact congrArg endEstimate dir

theorem Door.switched_alike (e : Dir) (active : Bool) (r : Door) :
    ∃ drifted tight, r.switched e active = { r with drifted := drifted, tight := tight } := by
  cases e <;> cases active <;> exact ⟨_, _, rfl⟩

theorem movingMotion_inj {v u : Dir} (h : movingMotion v = movingMotion u) : v = u := by
  cases v <;> cases u <;> first | rfl | cases h

/-- Settles O21: the confirm of the target end is the arrival, and R21 follows it. -/
theorem arrivalEndsStroke : Obligations.ArrivalEndsStroke := by
  unfold Obligations.ArrivalEndsStroke
  intro s d dir p r input u i c there moving own primed pending target clear
  let x := r.switched dir true
  have run : exec (.filterExpiry (.door d input)) s = .next (u.doorEvent s d fun w => w.inputEvent input true) := by
    show Host.Outcome.next (s.filterExpiry (.door d input)) = _
    rw [State.filterExpiry_eq primed pending, Filter.expired, target]
    rfl
  have same : x.motion = r.motion ∧ x.dir = r.dir ∧ x.transit = r.transit ∧ (x.drifted && dir == .opn) = (r.drifted && dir == .opn) := by
    cases dir <;> simp [x, Door.switched]
  obtain ⟨motion, towards, transit, drifted⟩ := same
  have active : c.conflict = false := by
    have channel : c = (s.channel d).withFilter input { s.filter (.door d input) with filtered := true, pending := none } :=
      State.withChannel_channel ..
    rw [channel]
    cases dir
    · exact Bool.and_eq_false_iff.mpr (.inl clear)
    · exact Bool.and_eq_false_iff.mpr (.inr clear)
  have arrives : Work.inputEvent (u.work d) input true =
      ⟨i, d, there, { c with openValve := c.openValve && dir == .cls, closeValve := c.closeValve && dir == .opn },
        switchMessages dir true d r ++ arrivalMessages i d c x, false⟩ := by
    have event : Work.inputEvent (u.work d) input true = (u.work d).endSwitch dir true := by
      cases dir <;> rfl
    have here : (u.work d).door.motion ≠ .absent := by
      show r.motion ≠ .absent
      rw [moving]
      cases dir <;> nofun
    let w : Work := ⟨i, d, x, c, switchMessages dir true d r, false⟩
    have confirms : (u.work d).endSwitch dir true = w.endConfirm dir := by
      rw [Work.endSwitch_eq _ _ _ here]
      rfl
    have moves : isMoving w.door.motion = true := by
      rw [show w.door.motion = movingMotion dir from motion.trans moving]
      exact movingMotion_moves dir
    rw [event, confirms, Work.endConfirm_moving _ _ moves, Work.confirmMoving, if_pos (towards.trans own).symm,
      Work.meetTarget_arrive _ active, Work.arrive_eq, Channel.withValve_false]
    rw [show w.door.dir = dir from towards.trans own]
    cases dir <;> simp [w, there, x]
  obtain ⟨hm, he, hh, ht, hd⟩ := x.arrived_stands i d c
  rw [towards, own] at hm he ht hd
  exact ⟨_, run, hm, he, hh, ht.trans (by rw [transit]), hd.trans drifted, u.doorEvent_leaves s d _ there _ _ _ arrives⟩

end Sys2Proof.Machine

/-! The events of end switches at rest, against a movement, while settling and while isolated (R22 to R25, R34, R35, R45). -/

namespace Sys2Proof.Machine

open Sys2Proof

theorem isolatedEstimate_eq (c : Channel) (n : Nat) :
    isolatedEstimate c n = if c.restsAt .cls then 0 else if c.restsAt .opn then 1000 else clamp 10 990 n := by
  unfold isolatedEstimate Channel.restsAt Channel.endActive Dir.flip
  cases c.closedSwitch.filtered <;> cases c.openSwitch.filtered <;> rfl

theorem restMessages_of_conflict {c : Channel} (conflict : c.conflict = true) (d : DoorId) (r : Door) : restMessages d c r = [] := by
  have opened : c.openSwitch.filtered = true := (Bool.and_eq_true_iff.mp conflict).2
  refine if_neg ?_
  rw [Channel.restsAt, show c.endActive Dir.cls.flip = true from opened, Bool.not_true, Bool.and_false]
  nofun

section
variable (w : Work)

/-! ### Reports before the door comes to rest -/

/-- A fault reported at a moving door, whose stroke it ends (R33 to R37). -/
theorem Work.report_ends (k : FaultKind) (second : Option FaultKind) (moving : isMoving w.door.motion = true) :
    ((w.report k second false).endStroke .other).rest =
      { w with
        door := (w.door.strokeOver w.image w.channel).atRest w.channel
        channel := w.channel.withValve w.door.dir false
        out := w.out ++ ([.faultReport w.id k second false w.door.asReported, .release w.id] ++
          restMessages w.id w.channel w.door) } := by
  have notQueued : w.door.motion ≠ .queued := fun h => by
    rw [h] at moving
    cases moving
  rw [Work.endStroke_rest (w.report k second false) notQueued]
  have made : w.out ++ [.faultReport w.id k second false w.door.asReported] ++ [.release w.id] ++ restMessages w.id w.channel w.door =
      w.out ++ ([.faultReport w.id k second false w.door.asReported, .release w.id] ++ restMessages w.id w.channel w.door) := by
    simp
  exact congrArg (fun ms => { w with
    door := (w.door.strokeOver w.image w.channel).atRest w.channel, channel := w.channel.withValve w.door.dir false, out := ms }) made

/-- A conflict of both switches at a door at rest (R35). -/
theorem Work.conflictAtRest_eq (conflict : w.channel.conflict = true) :
    w.conflictAtRest =
      { w with
        door := w.door.atRest w.channel
        out := w.out ++ (.faultReport w.id .switchConflict none false w.door.asReported ::
          if w.door.motion = .queued then [.withdraw w.id] else []) } := by
  unfold Work.conflictAtRest
  rw [Work.rest_eq]
  show { w with door := w.door.atRest w.channel, out := (w.out ++ [Instr.faultReport w.id .switchConflict none false w.door.asReported]) ++
    (if w.door.motion = Motion.queued then [Instr.withdraw w.id] else []) ++ restMessages w.id w.channel w.door } = _
  rw [restMessages_of_conflict conflict, List.append_nil, List.append_assoc, List.singleton_append]

/-! ### A confirm, by the motion state of its door -/

theorem Work.endConfirm_conflict (e : Dir) (conflict : w.channel.conflict = true)
    (served : w.door.motion ≠ .absent ∧ w.door.motion ≠ .isolated ∧ w.door.motion ≠ .settling)
    (still : isMoving w.door.motion = false) : w.endConfirm e = w.conflictAtRest := by
  obtain ⟨absent, isolated, settling⟩ := served
  unfold Work.endConfirm
  cases motion : w.door.motion <;> rw [motion] at still <;>
    first
      | exact if_pos conflict
      | exact absurd motion absent
      | exact absurd motion isolated
      | exact absurd motion settling
      | cases still

theorem Work.endConfirm_isolated (e : Dir) (isolated : w.door.motion = .isolated) :
    w.endConfirm e = w.withEstimate (isolatedEstimate w.channel w.door.estimate) := by
  unfold Work.endConfirm
  rw [isolated]

end

section
variable {w : Work} (alone : ¬w.channel.conflict = true)
include alone

theorem Work.endConfirm_stands (e : Dir) (h : w.door.motion = .closed ∨ w.door.motion = .opened) :
    w.endConfirm e = w.endEdgeWait := by
  unfold Work.endConfirm
  rcases h with h | h <;> rw [h] <;> exact if_neg alone

theorem Work.endConfirm_stopped (e : Dir) (h : w.door.motion = .stopped) : w.endConfirm e = w.rest := by
  unfold Work.endConfirm
  rw [h]
  exact if_neg alone

theorem Work.endConfirm_timed (e : Dir) (h : w.door.motion = .warning ∨ w.door.motion = .dwell) :
    w.endConfirm e = match e with
      | .cls => w.rest
      | .opn => w.endEdgeWait.withEstimate 1000 := by
  unfold Work.endConfirm
  rcases h with h | h <;> rw [h] <;> exact if_neg alone

theorem Work.endConfirm_queued (e : Dir) (h : w.door.motion = .queued) :
    w.endConfirm e = if e = w.door.dir then w.rest else w.endEdgeWait.withEstimate (endEstimate e) := by
  unfold Work.endConfirm
  rw [h]
  exact if_neg alone

end

section
variable {w : Work} {e : Dir}

theorem Work.endConfirm_against (moving : isMoving w.door.motion = true) (other : e ≠ w.door.dir) :
    w.endConfirm e =
      if w.channel.conflict then ((w.report .switchConflict (some .switchSequence) false).endStroke .other).rest
      else ((w.report .switchSequence none false).endStroke .other).rest := by
  rw [Work.endConfirm_moving _ _ moving]
  exact if_neg other

theorem Work.endConfirm_target (moving : isMoving w.door.motion = true) (own : e = w.door.dir) (conflict : w.channel.conflict = true) :
    w.endConfirm e = ((w.report .switchConflict none false).endStroke .other).rest := by
  rw [Work.endConfirm_moving _ _ moving]
  exact (if_pos own).trans (if_pos conflict)

/-! ### A release, by the motion state of its door -/

theorem Work.endRelease_isolated (isolated : w.door.motion = .isolated) :
    w.endRelease e = w.withEstimate (isolatedEstimate w.channel w.door.estimate) := by
  unfold Work.endRelease
  rw [isolated]

theorem Work.endRelease_moving (moving : isMoving w.door.motion = true) : w.endRelease e = w := by
  unfold Work.endRelease
  cases motion : w.door.motion <;> rw [motion] at moving <;> first | rfl | cases moving

theorem Work.endRelease_closed (closed : w.door.motion = .closed) (own : e = .cls) : w.endRelease e = w.drift := by
  unfold Work.endRelease
  rw [closed, own]

theorem Work.endRelease_opened (opened : w.door.motion = .opened) (own : e = .opn) :
    w.endRelease e = { w with door := { w.door with motion := .stopped, estimate := 990 } } := by
  unfold Work.endRelease
  rw [opened, own]

theorem Work.endRelease_stopped (stopped : w.door.motion = .stopped) :
    w.endRelease e = if w.channel.endActive e.flip then w.rest else w.withEstimate (Machine.offEnd e w.door.estimate) := by
  unfold Work.endRelease
  rw [stopped]

theorem Work.endRelease_timed (h : w.door.motion = .warning ∨ w.door.motion = .dwell) (own : e = .opn) :
    w.endRelease e = w.withEstimate 990 := by
  unfold Work.endRelease
  rcases h with h | h <;> rw [h, own]

theorem Work.endRelease_queued (queued : w.door.motion = .queued) :
    w.endRelease e = w.withEstimate (if e = w.door.dir then Machine.offEnd e w.door.estimate else besideEnd e) := by
  unfold Work.endRelease
  rw [queued]

theorem Work.endRelease_beside
    (h : w.door.motion = .closed ∧ e = .opn ∨ w.door.motion = .opened ∧ e = .cls ∨
      (w.door.motion = .warning ∨ w.door.motion = .dwell) ∧ e = .cls ∨ w.door.motion = .settling) :
    w.endRelease e = w.withEstimate (Machine.offEnd e w.door.estimate) := by
  unfold Work.endRelease
  rcases h with ⟨h, own⟩ | ⟨h, own⟩ | ⟨h | h, own⟩ | h
  · rw [h, own]
  · rw [h, own]
  · rw [h, own]
  · rw [h, own]
  · rw [h]

theorem Work.withEstimate_offEnd (e : Dir) :
    w.withEstimate (Machine.offEnd e w.door.estimate) = { w with door := w.door.offEnd e } := by
  cases e <;> rfl

end

/-! ### A SETTLING door -/

/-- An end-switch event of a SETTLING door (R22, R35, R145). -/
theorem Work.endSwitch_settling {w : Work} (e : Dir) (active : Bool) (settling : w.door.motion = .settling) :
    w.endSwitch e active =
      { w with
        door := w.door.settling e active w.channel.conflict
        out := w.out ++ settlingMessages e active w.channel.conflict w.id w.door } := by
  let x : Work := { w with door := w.door.switched e active, out := w.out ++ switchMessages e active w.id w.door }
  obtain ⟨_, _, same⟩ := w.door.switched_alike e active
  have settles : x.door.motion = .settling := by
    rw [show x.door = _ from same]
    exact settling
  have reported : x.door.asReported = w.door.asReported := by
    rw [show x.door = _ from same]
    rfl
  rw [Work.endSwitch_eq w e active (by rw [settling]; nofun)]
  cases active with
  | false =>
    rw [if_neg nofun, Work.endRelease_beside (w := x) (.inr (.inr (.inr settles))), Work.withEstimate_offEnd]
    unfold settlingMessages
    rw [Bool.false_and, if_neg nofun, List.append_nil]
    rfl
  | true =>
    rw [if_pos rfl]
    have confirms : x.endConfirm e = if x.channel.conflict then
        ((x.report .switchConflict none false).noteConflict).withEstimate (clamp 10 990 x.door.estimate) else x := by
      have noted : (x.report .switchConflict none false).noteConflict = _ := if_pos settles
      unfold Work.endConfirm
      rw [settles]
      dsimp only
      rw [noted]
      rfl
    refine confirms.trans ?_
    have noted : (x.report .switchConflict none false).noteConflict = _ := if_pos settles
    unfold settlingMessages
    cases conflict : w.channel.conflict with
    | false =>
      rw [Bool.and_false, if_neg nofun, if_neg nofun, List.append_nil]
      rfl
    | true =>
      rw [if_pos rfl]
      refine (congrArg (fun y : Work => y.withEstimate (clamp 10 990 x.door.estimate)) noted).trans ?_
      show Work.mk w.image w.id _ w.channel (x.out ++ [.faultReport w.id .switchConflict none false x.door.asReported]) w.dueBarred = _
      rw [reported, show x.out = w.out ++ switchMessages e true w.id w.door from rfl, List.append_assoc]
      rfl

theorem Door.settling_motion (e : Dir) (active both : Bool) (r : Door) : (r.settling e active both).motion = r.motion := by
  cases e <;> cases active <;> cases both <;> rfl

/-- A door that has noted a first interval of its end switch (R22). -/
def Door.notesPrimed (e : Dir) (r : Door) : Door :=
  { r with settle := match e with
      | .cls => { r.settle with closedPrimed := true }
      | .opn => { r.settle with openPrimed := true } }

/-- The first interval of an end switch of a SETTLING door, which ends settling where both have reported (R22, R23). -/
theorem Work.endPrimed_settling {w : Work} (e : Dir) (settling : w.door.motion = .settling) :
    let noted := w.door.notesPrimed e
    w.endPrimed e =
      if noted.settle.closedPrimed && noted.settle.openPrimed then
        { w with
          door := noted.atRest w.channel
          out := w.out ++ ((if w.channel.conflict && !noted.settle.conflict then
            [.faultReport w.id .switchConflict none false noted.asReported] else []) ++ restMessages w.id w.channel noted) }
      else { w with door := noted } := by
  intro noted
  let x : Work := { w with door := noted }
  have notes : w.endPrimed e = if noted.settle.closedPrimed && noted.settle.openPrimed then
      (if w.channel.conflict && !noted.settle.conflict then x.report .switchConflict none false else x).rest else x := by
    cases e <;> exact if_pos settling
  refine notes.trans (if_congr Iff.rfl ?_ rfl)
  have waits : noted.motion ≠ .queued := by
    show w.door.motion ≠ _
    rw [settling]
    nofun
  cases found : w.channel.conflict && !noted.settle.conflict with
  | false =>
    rw [if_neg nofun, Work.rest_eq, if_neg waits, if_neg nofun, List.append_nil]
    rfl
  | true =>
    rw [if_pos rfl, Work.rest_eq, if_neg (show (x.report .switchConflict none false).door.motion ≠ .queued from waits), List.append_nil, if_pos rfl]
    exact congrArg (fun ms => { w with door := noted.atRest w.channel, out := ms }) (List.append_assoc ..)

/-! ### The two notifications of a first interval -/

section
variable {d : DoorId} {s t u : State} {r r' : Door} {o c : Bool} {ms : List Instr}

theorem Leaves.record_congr (h : Leaves d s t r o c ms) (same : r.still = r'.still) : Leaves d s t r' o c ms :=
  { h with record := h.record.trans same }

/-- A record that agrees with another but for the change flag. -/
theorem Door.eq_of_still (h : r.still = r'.still) : ∃ b, r = { r' with changed := b } := by
  refine ⟨r.changed, ?_⟩
  have changed : r = { r.still with changed := r.changed } := rfl
  rw [changed, h]
  rfl

theorem Door.atRest_changed (ch : Channel) (b : Bool) (r : Door) :
    Door.atRest ch { r with changed := b } = { r.atRest ch with changed := b } := by
  unfold Door.atRest
  dsimp only
  split <;> rfl

theorem Door.atRest_stands (ch : Channel) (r : Door) : (r.atRest ch).motion ≠ .settling := by
  unfold Door.atRest
  split <;> nofun

theorem Door.startsMove_changed (ch : Channel) (dir : Dir) (a : MotionAuthority) (held b : Bool) (r : Door) :
    Door.startsMove ch dir a held { r with changed := b } = { r.startsMove ch dir a held with changed := b } := by
  unfold Door.startsMove
  rw [Door.atRest_changed]
  split <;> rfl

theorem Door.proceeds_changed (i : Image) (ch : Channel) (b : Bool) (r : Door) :
    Door.proceeds i ch { r with changed := b } = { r.proceeds i ch with changed := b } := by
  unfold Door.proceeds Door.startsClose
  rw [Door.startsMove_changed, show Door.due { r with changed := b } = r.due from rfl]
  split
  · split <;> rfl
  · rfl

theorem Door.proceeds_motion (i : Image) (ch : Channel) (h : r.motion ≠ .settling) : (r.proceeds i ch).motion ≠ .settling := by
  unfold Door.proceeds Door.startsClose Door.startsMove Door.atRest
  split
  · split
    · split
      · split <;> nofun
      · nofun
    · nofun
  · exact h

theorem Door.atRest_channel (r : Door) {ch ch' : Channel} (closed : ch'.closedSwitch = ch.closedSwitch)
    (opened : ch'.openSwitch = ch.openSwitch) :
    r.atRest ch' = r.atRest ch ∧ restMessages d ch' r = restMessages d ch r := by
  unfold Door.atRest restMessages Channel.restsAt Channel.endActive Dir.flip
  rw [closed, opened]
  exact ⟨rfl, rfl⟩

theorem Leaves.refl (d : DoorId) (s : State) : LeavesUndriven d s s (s.door d) [] :=
  ⟨.refl d s, rfl, ⟨rfl, rfl, rfl⟩, (List.append_nil _).symm⟩

theorem LeavesUndriven.trans (h : LeavesUndriven d s t r ms) {ms' : List Instr} (k : LeavesUndriven d t u r' ms') :
    LeavesUndriven d s u r' (ms ++ ms') := by
  have both := Leaves.trans h k
  exact { both with drives := ⟨both.drives.inputs, k.drives.openValve.trans h.drives.openValve,
    k.drives.closeValve.trans h.drives.closeValve⟩ }

theorem Work.endPrimed_settled {w : Work} (e : Dir) (h : w.door.motion ≠ .settling) : w.endPrimed e = w := if_neg h

end

/-- Settles O22: each event by the motion state of its door, and the second filter that ends settling. -/
theorem endSwitchEvents : Obligations.EndSwitchEvents := by
  unfold Obligations.EndSwitchEvents
  intro s d e c f input u ch i old r both primes becomes conflict ended ready woken
  let w : Work := ⟨i, d, r, ch, switchMessages e f.filtered d old, false⟩
  have event : Work.inputEvent (u.work d) input f.filtered = (u.work d).endSwitch e f.filtered := by
    cases e <;> rfl
  have taken (here : old.motion ≠ .absent) : Work.inputEvent (u.work d) input f.filtered =
      if f.filtered then w.endConfirm e else w.endRelease e :=
    event.trans (Work.endSwitch_eq _ _ _ here)
  have alike : ∃ drifted tight, r = { old with drifted := drifted, tight := tight } := old.switched_alike e f.filtered
  have motion : r.motion = old.motion := by
    obtain ⟨_, _, same⟩ := alike
    rw [same]
  have primed (w' : Work) : w'.inputPrimed input = w'.endPrimed e := by
    cases e <;> rfl
  refine ⟨fun delivers serves => ?_, fun delivers settles first => ?_, fun ends settles first => ?_⟩
  · obtain ⟨t, run, leaves⟩ := delivers.leaves
    refine ⟨t, run, ?_⟩
    have leaving (r' : Door) (p q : Bool) (ms : List Instr)
        (reaction : Work.inputEvent (u.work d) input f.filtered = ⟨i, d, r', { ch with openValve := p, closeValve := q }, ms, false⟩)
        (calm : r'.motion ≠ .settling) : Leaves d u t (r'.proceeds i ch) p q (ms ++ proceedMessages i d ch r') :=
      leaves _ _ _ _ (u.doorEvent_leaves s d _ r' p q ms reaction) (Door.proceeds_due ..) fun t' left => by
        rw [primed]
        refine Work.endPrimed_settled e ?_
        show (t'.door d).motion ≠ .settling
        rw [Door.motion_of_still left.record]
        exact Door.proceeds_motion i ch calm
    have making (r' : Door) (ms : List Instr) (here : r.motion ≠ .absent)
        (reaction : (if f.filtered then w.endConfirm e else w.endRelease e) = { w with door := r', out := w.out ++ ms })
        (calm : r'.motion ≠ .settling) : becomes t r' ms :=
      leaving r' _ _ _ ((taken (by rw [← motion]; exact here)).trans reaction) calm
    have confirming (r' : Door) (ms : List Instr) (active : f.filtered = true) (here : r.motion ≠ .absent)
        (reaction : w.endConfirm e = { w with door := r', out := w.out ++ ms }) (calm : r'.motion ≠ .settling) : becomes t r' ms :=
      making r' ms here ((if_pos active).trans reaction) calm
    have releasing (r' : Door) (ms : List Instr) (inactive : f.filtered = false) (here : r.motion ≠ .absent)
        (reaction : w.endRelease e = { w with door := r', out := w.out ++ ms }) (calm : r'.motion ≠ .settling) : becomes t r' ms :=
      making r' ms here ((if_neg (by rw [inactive]; nofun)).trans reaction) calm
    have rested : (r.atRest ch).motion ≠ .settling := Door.atRest_stands ch r
    have rests : w.rest = { w with door := r.atRest ch, out := w.out ++
        ((if r.motion = .queued then [.withdraw d] else []) ++ restMessages d ch r) } := by
      rw [Work.rest_eq, List.append_assoc]
    have still (r' : Door) : { w with door := r' } = { w with door := r', out := w.out ++ [] } := by
      rw [List.append_nil]
    have ending (k : FaultKind) (second : Option FaultKind) (active : f.filtered = true) (moving : isMoving r.motion = true)
        (reaction : w.endConfirm e = ((w.report k second false).endStroke .other).rest) : ended t k second := by
      have here : old.motion ≠ .absent := by
        rw [← motion]
        rintro absent
        rw [absent] at moving
        cases moving
      have reacts := (taken here).trans ((if_pos active).trans (reaction.trans (w.report_ends k second moving)))
      rw [Channel.withValve_false, ← List.append_assoc] at reacts
      exact leaving _ _ _ _ reacts (Door.atRest_stands ch (r.strokeOver i ch))
    refine ⟨fun absent => ?_, fun isolated => ?_, fun moving => ⟨?_, ?_, ?_, ?_⟩, ?_, fun active alone => ⟨?_, ?_, ?_, ?_⟩,
      fun inactive => ⟨?_, ?_, ?_, ?_, ?_, ?_, ?_⟩⟩
    · have gone : Work.inputEvent (u.work d) input f.filtered = u.work d := event.trans (if_pos (motion.symm.trans absent))
      have old' : old.due = false := Door.due_of_motion (by rw [← motion, absent]; nofun) (by rw [← motion, absent]; nofun)
      exact leaves _ _ _ _ (u.doorEvent_leavesUndriven_idle s d _ old [] gone old') old' fun t' left => by
        rw [primed]
        refine Work.endPrimed_settled e ?_
        show (t'.door d).motion ≠ .settling
        rw [Door.motion_of_still left.record]
        exact serves
    · have written : becomes t { r with estimate := isolatedEstimate ch r.estimate } [] := by
        refine making _ [] (by rw [isolated]; nofun) ?_ (by show r.motion ≠ _; rw [isolated]; nofun)
        rw [Work.endConfirm_isolated w e isolated, Work.endRelease_isolated (w := w) (e := e) isolated, ite_self]
        exact still _
      rw [isolatedEstimate_eq] at written
      exact written
    · intro inactive
      have moves : isMoving r.motion = true := by rcases moving with h | h <;> rw [h] <;> rfl
      exact releasing r [] inactive (by rcases moving with h | h <;> rw [h] <;> nofun)
        ((Work.endRelease_moving (w := w) moves).trans (still r)) (by rw [motion]; exact serves)
    · intro active own conflict
      have moves : isMoving r.motion = true := by rcases moving with h | h <;> rw [h] <;> rfl
      exact ending _ _ active moves (Work.endConfirm_target (w := w) moves own conflict)
    · intro active other conflict
      have moves : isMoving r.motion = true := by rcases moving with h | h <;> rw [h] <;> rfl
      exact ending _ _ active moves ((Work.endConfirm_against (w := w) moves other).trans (if_pos conflict))
    · intro active other alone
      have moves : isMoving r.motion = true := by rcases moving with h | h <;> rw [h] <;> rfl
      exact ending _ _ active moves ((Work.endConfirm_against (w := w) moves other).trans (if_neg (by rw [Bool.not_eq_true]; exact alone)))
    · intro active conflict absent isolated stands
      refine confirming (r.atRest ch) _ active absent ?_ rested
      exact (Work.endConfirm_conflict w e conflict ⟨absent, isolated, by rw [show w.door.motion = _ from motion]; exact serves⟩
        stands).trans (w.conflictAtRest_eq conflict)
    · intro stands
      refine confirming woken [] active (by rcases stands with h | h <;> rw [h] <;> nofun)
        ((Work.endConfirm_stands (w := w) (by rw [Bool.not_eq_true]; exact alone) e stands).trans (still woken))
        (by show r.motion ≠ _; rw [motion]; exact serves)
    · intro stopped
      refine confirming (r.atRest ch) _ active (by rw [stopped]; nofun) ?_ rested
      rw [Work.endConfirm_stopped (w := w) (by rw [Bool.not_eq_true]; exact alone) e stopped, rests, stopped]
      rfl
    · intro timed
      have waits : r.motion ≠ .queued := by rcases timed with h | h <;> rw [h] <;> nofun
      have reaction := Work.endConfirm_timed (w := w) (by rw [Bool.not_eq_true]; exact alone) e timed
      refine ⟨fun own => ?_, fun own => ?_⟩
      · subst own
        refine confirming (r.atRest ch) _ active (by rcases timed with h | h <;> rw [h] <;> nofun) (reaction.trans ?_) rested
        dsimp only
        rw [rests, if_neg waits]
        rfl
      · subst own
        exact confirming { woken with estimate := 1000 } [] active (by rcases timed with h | h <;> rw [h] <;> nofun)
          (reaction.trans (still { woken with estimate := 1000 })) (by show r.motion ≠ _; rw [motion]; exact serves)
    · intro queued
      have reaction := Work.endConfirm_queued (w := w) (by rw [Bool.not_eq_true]; exact alone) e queued
      have here : r.motion ≠ .absent := by rw [queued]; nofun
      refine ⟨fun own => ?_, fun other => ?_⟩
      · refine confirming (r.atRest ch) _ active here (reaction.trans ((if_pos own).trans ?_)) rested
        rw [rests, queued]
        rfl
      · have written : becomes t { woken with estimate := endEstimate e } [] :=
          confirming _ [] active here (reaction.trans ((if_neg other).trans (still _)))
            (by show r.motion ≠ _; rw [motion]; exact serves)
        cases e <;> exact written
    · intro closed own
      refine releasing _ _ inactive (by rw [closed]; nofun) ((Work.endRelease_closed (w := w) closed own).trans ?_) nofun
      unfold Work.drift
      exact congrArg (fun ms => { w with door := { r with motion := .stopped, estimate := 10, drifted := true }, out := ms })
        (List.append_assoc ..)
    · intro opened own
      exact releasing _ [] inactive (by rw [opened]; nofun) ((Work.endRelease_opened (w := w) opened own).trans (still _)) nofun
    · intro stopped on
      refine releasing (r.atRest ch) _ inactive (by rw [stopped]; nofun) ?_ rested
      refine (Work.endRelease_stopped (w := w) stopped).trans ((if_pos on).trans ?_)
      rw [rests, stopped]
      rfl
    · intro stopped off
      refine releasing (r.offEnd e) [] inactive (by rw [stopped]; nofun) ?_ (by cases e <;> (show r.motion ≠ _; rw [stopped]; nofun))
      exact (Work.endRelease_stopped (w := w) stopped).trans ((if_neg (by rw [Bool.not_eq_true]; exact off)).trans
        (Work.withEstimate_offEnd (w := w) e |>.trans (still _)))
    · intro timed own
      exact releasing _ [] inactive (by rcases timed with h | h <;> rw [h] <;> nofun)
        ((Work.endRelease_timed (w := w) timed own).trans (still _)) (by show r.motion ≠ _; rw [motion]; exact serves)
    · intro queued other
      have written : becomes t { r with estimate := besideEnd e } [] :=
        releasing _ [] inactive (by rw [queued]; nofun)
          ((Work.endRelease_queued (w := w) queued).trans ((congrArg w.withEstimate (if_neg other)).trans (still _)))
          (by show r.motion ≠ _; rw [motion]; exact serves)
      cases e <;> exact written
    · intro beside
      have here : r.motion ≠ .absent := by
        rcases beside with ⟨h, _⟩ | ⟨h, _⟩ | ⟨h | h, _⟩ | ⟨h, _⟩ <;> rw [h] <;> nofun
      refine releasing (r.offEnd e) [] inactive here ?_ (by cases e <;> (show r.motion ≠ _; rw [motion]; exact serves))
      refine Eq.trans ?_ (Work.withEstimate_offEnd (w := w) e |>.trans (still _))
      rcases beside with h | h | h | ⟨queued, own⟩
      · exact Work.endRelease_beside (w := w) (.inl h)
      · exact Work.endRelease_beside (w := w) (.inr (.inl h))
      · exact Work.endRelease_beside (w := w) (.inr (.inr (.inl h)))
      · exact (Work.endRelease_queued (w := w) queued).trans (congrArg w.withEstimate (if_pos own))
  · have settling : old.motion = .settling := not_not.mp settles
    obtain ⟨p, primed', pending, rfl, rfl⟩ | ⟨-, same, -⟩ := delivers.1
    · refine ⟨_, congrArg Host.Outcome.next (State.filterExpiry_eq primed' pending), ?_⟩
      refine u.doorEvent_leavesUndriven_idle s d _ _ _ (event.trans (Work.endSwitch_settling e _ settling)) ?_
      apply Door.due_of_motion <;> rw [Door.settling_motion] <;> show old.motion ≠ _ <;> rw [settling] <;> nofun
    · exact absurd ((decide_eq_false_iff_not.mp first) same) id
  · have settling : old.motion = .settling := not_not.mp settles
    intro changes x ms noted found
    have expires : (s.filter (.door d input)).first.isSome = true ∧ c = .firstIntervalExpiry (.door d input) ∧
        f = (s.filter (.door d input)).firstExpired := by
      rcases ends with ⟨_, -, -, other, -⟩ | h
      · exact absurd (other.symm.trans (of_decide_eq_true first)) nofun
      · exact h
    obtain ⟨starts, rfl, expired⟩ := expires
    have raw : f.filtered = (s.filter (.door d input)).raw := congrArg Filter.filtered expired
    have stays : x.motion = .settling := by
      simp only [x]
      split
      · rw [Door.settling_motion, settling]
      · exact settling
    have idle : x.due = false := by
      apply Door.due_of_motion <;> rw [stays] <;> nofun
    have second : ∃ t1, exec (.firstIntervalExpiry (.door d input)) s = .next (t1.doorEvent t1 d fun w => w.inputPrimed input) ∧
        LeavesUndriven d u t1 x ms := by
      have runs : exec (.firstIntervalExpiry (.door d input)) s = _ := congrArg Host.Outcome.next (State.firstIntervalExpiry_eq starts)
      rw [← expired, ← raw] at runs
      by_cases same : f.filtered = (s.filter (.door d input)).filtered
      · have quiet : changes = false := by simp [changes, same]
        refine ⟨u, runs.trans (by rw [if_pos same]; rfl), ?_⟩
        simp only [x, ms, quiet]
        exact .refl d u
      · have differs : changes = true := by simp [changes, same]
        refine ⟨u.doorEvent s d fun w => w.inputEvent input f.filtered, runs.trans (by rw [if_neg same]; rfl), ?_⟩
        refine u.doorEvent_leavesUndriven_idle s d _ x ms ?_ idle
        simp only [x, ms, differs, if_true]
        exact event.trans (Work.endSwitch_settling e _ settling)
    obtain ⟨t1, run, left⟩ := second
    obtain ⟨b, record⟩ := Door.eq_of_still left.record
    have closed : (t1.channel d).closedSwitch = ch.closedSwitch := Channel.filter_of_inputs left.drives.inputs .closedSwitch
    have opened : (t1.channel d).openSwitch = ch.openSwitch := Channel.filter_of_inputs left.drives.inputs .openSwitch
    have conflicts : (t1.channel d).conflict = both := by
      rw [Channel.conflict, closed, opened]
    have image : t1.image = i := congrArg (fun y : Store => y.active) left.store
    let noted1 : Door := { noted with changed := b }
    have notes : (t1.door d).notesPrimed e = noted1 := by
      rw [record]
      cases e <;> rfl
    have settles1 : (t1.work d).door.motion = .settling := by
      show (t1.door d).motion = _
      rw [record]
      exact stays
    have reaction := (primed (t1.work d)).trans (Work.endPrimed_settling e settles1)
    rw [show (t1.work d).door.notesPrimed e = noted1 from notes] at reaction
    refine ⟨_, run, fun waits => ?_, fun ended => ?_⟩
    · have reacts : (t1.work d).inputPrimed input = ⟨t1.image, d, noted1, t1.channel d, [], false⟩ :=
        reaction.trans (if_neg (by rw [Bool.not_eq_true]; exact waits))
      have idle1 : noted1.due = false := by
        apply Door.due_of_motion <;> show x.motion ≠ _ <;> rw [stays] <;> nofun
      have both := left.trans (t1.doorEvent_leavesUndriven_idle t1 d (fun w => w.inputPrimed input) noted1 [] reacts idle1)
      rw [List.append_nil] at both
      exact both.record_congr rfl
    · let found1 : List Instr := if found then [.faultReport d .switchConflict none false noted.asReported] else []
      have rests : noted1.atRest (t1.channel d) = { noted.atRest ch with changed := b } ∧
          restMessages d (t1.channel d) noted1 = restMessages d ch noted := by
        obtain ⟨resting, quiet⟩ := noted1.atRest_channel (d := d) closed opened
        exact ⟨resting.trans (Door.atRest_changed ch b noted), quiet⟩
      have reacts : (t1.work d).inputPrimed input =
          ⟨t1.image, d, { noted.atRest ch with changed := b }, t1.channel d, found1 ++ restMessages d ch noted, false⟩ := by
        refine reaction.trans ((if_pos ended).trans ?_)
        rw [← rests.1, ← rests.2]
        show Work.mk t1.image d (noted1.atRest (t1.channel d)) (t1.channel d)
          ([] ++ ((if (t1.channel d).conflict && !noted1.settle.conflict then _ else _) ++ _)) false = _
        rw [conflicts]
        rfl
      obtain ⟨proceeds, makes⟩ := Door.proceeds_channel i d { noted.atRest ch with changed := b } closed opened
      have after := t1.doorEvent_leavesUndriven t1 d (fun w => w.inputPrimed input) _ _ reacts
      rw [image, proceeds, makes, Door.proceeds_changed] at after
      have both := left.trans after
      refine Leaves.record_congr (r := { (noted.atRest ch).proceeds i ch with changed := b }) ?_ rfl
      rw [List.append_assoc, List.append_assoc]
      rw [List.append_assoc] at both
      exact both

end Sys2Proof.Machine

/-! What a handle's release makes of a door, and what the fault of a faulted door leaves of a ruling (R40, R43, R81, R84). -/

namespace Sys2Proof.Machine

open Sys2Proof

/-- A channel with one valve OFF, where its stroke is over. -/
def Channel.off (c : Channel) (over_ : Bool) (v : Dir) : Channel :=
  { c with openValve := c.openValve && !(over_ && v == .opn), closeValve := c.closeValve && !(over_ && v == .cls) }

theorem Channel.off_false (c : Channel) (v : Dir) : c.off false v = c := by
  simp [Channel.off]

theorem Channel.off_true (c : Channel) (v : Dir) : c.off true v = c.withValve v false := by
  cases v <;> simp [Channel.off, Channel.withValve]

/-! ### Handle releases -/

/-- The release of a handle, at the door table (R40). -/
def Work.release (w : Work) : Dir → Work
  | .opn => w.openRelease
  | .cls => w.closeRelease

section
variable (w : Work) (handle : Dir)

theorem Work.enterDwell_eq :
    w.enterDwell =
      { w with
        door := w.door.dwells w.image
        out := w.out ++ if w.door.motion = .queued then [.withdraw w.id] else [] } := by
  unfold Work.enterDwell
  by_cases queued : w.door.motion = .queued
  · rw [if_pos queued, if_pos queued]
    rfl
  · rw [if_neg queued, if_neg queued, List.append_nil]
    rfl

theorem Door.endsBy_queued {r : Door} (queued : r.motion = .queued) : r.endsBy handle = (r.held && r.dir == handle) := by
  unfold Door.endsBy
  rw [queued]
  cases handle <;> rfl

theorem Door.endsBy_moving {r : Door} (moving : r.motion = movingMotion handle) : r.endsBy handle = r.held := by
  unfold Door.endsBy
  rw [moving]
  simp

theorem Door.endsBy_other {r : Door} (queued : r.motion ≠ .queued) (moving : r.motion ≠ movingMotion handle) :
    r.endsBy handle = false := by
  simp [Door.endsBy, queued, moving]

/-- A movement that the release of its handle ends (R40). -/
theorem Work.release_ends (ends : w.door.endsBy handle = true) :
    w.release handle =
      if handle = .opn ∧ w.door.transit = true then (if isMoving w.door.motion then w.endStroke .other else w).enterDwell
      else (if isMoving w.door.motion then w.endStroke .other else w).rest := by
  obtain ⟨held, moves⟩ := Bool.and_eq_true_iff.mp ends
  rw [Bool.or_eq_true, Bool.and_eq_true, beq_iff_eq, beq_iff_eq, beq_iff_eq] at moves
  cases handle with
  | opn =>
    show w.openRelease = _
    unfold Work.openRelease
    rcases moves with opening | ⟨queued, own⟩
    · rw [show w.door.motion = .opening from opening]
      cases w.door.transit <;> simp [held, isMoving]
    · rw [queued]
      cases w.door.transit <;> simp [held, own, isMoving]
  | cls =>
    show w.closeRelease = _
    unfold Work.closeRelease
    rcases moves with closing | ⟨queued, own⟩
    · rw [show w.door.motion = .closing from closing]
      simp [held, isMoving]
    · rw [queued]
      simp [held, own, isMoving]

/-- The release of a handle that ends no movement (R40). -/
theorem Work.release_idle (idle : w.door.endsBy handle = false) :
    w.release handle =
      if handle = .opn ∧ (w.door.motion = .opened ∨ w.door.motion = .stopped) ∧ w.door.transit = true then w.enterDwell else w := by
  cases handle with
  | opn =>
    show w.openRelease = _
    unfold Work.openRelease
    cases motion : w.door.motion
    case queued =>
      rw [Door.endsBy_queued _ motion] at idle
      simp only [reduceCtorEq, or_self, false_and, and_false, if_false]
      exact if_neg fun h => by simp [h.1, h.2] at idle
    case opening =>
      rw [Door.endsBy_moving .opn motion] at idle
      simp [idle]
    all_goals simp
  | cls =>
    show w.closeRelease = _
    unfold Work.closeRelease
    cases motion : w.door.motion
    case queued =>
      rw [Door.endsBy_queued _ motion] at idle
      simp only [reduceCtorEq, false_and, if_false]
      exact if_neg fun h => by simp [h.1, h.2] at idle
    case closing =>
      rw [Door.endsBy_moving .cls motion] at idle
      simp [idle]
    all_goals simp

theorem Work.release_eq :
    w.release handle =
      { w with
        door := w.door.released handle w.image w.channel
        channel := w.channel.off (isMoving w.door.motion && w.door.endsBy handle) w.door.dir
        out := w.out ++ releaseMessages handle w.id w.channel w.door } := by
  unfold Door.released releaseMessages
  cases ends : w.door.endsBy handle with
  | false =>
    rw [Work.release_idle w handle ends]
    simp only [Bool.false_eq_true, if_false, Bool.and_false, Channel.off_false, List.append_nil]
    split
    · next rests =>
      have waits : w.door.motion ≠ .queued := by
        rcases rests.2.1 with h | h <;> rw [h] <;> nofun
      rw [Work.enterDwell_eq, if_neg waits, List.append_nil]
    · rfl
  | true =>
    rw [Work.release_ends w handle ends]
    simp only [if_true, Bool.and_true]
    cases moving : isMoving w.door.motion with
    | false =>
      have queued : w.door.motion = .queued := by
        obtain ⟨-, moves⟩ := Bool.and_eq_true_iff.mp ends
        rw [Bool.or_eq_true, Bool.and_eq_true, beq_iff_eq, beq_iff_eq] at moves
        refine (moves.resolve_left fun h => ?_).1
        rw [h, movingMotion_moves] at moving
        cases moving
      simp only [Bool.false_eq_true, if_false, Channel.off_false]
      split
      · rw [Work.enterDwell_eq, if_pos queued, List.append_nil]
      · rw [Work.rest_eq, if_pos queued, List.append_assoc]
    | true =>
      have waits : w.door.motion ≠ .queued := fun h => by
        rw [h] at moving
        cases moving
      simp only [if_true, Channel.off_true]
      split
      · have stillMoving : (w.endStroke .other).door.motion ≠ .queued := by
          rw [Work.endStroke_other]
          show (w.door.strokeOver w.image w.channel).motion ≠ _
          rw [Door.strokeOver, Door.valveAt_motion]
          exact waits
        rw [Work.enterDwell_eq, if_neg stillMoving, Work.endStroke_other]
        simp only [List.append_nil]
      · rw [Work.endStroke_rest w waits, List.append_assoc]

/-! ### Rulings of a faulted door -/

/-- Whether the fault of a door ends the stroke that a ruling has reversed (R84; entry 33). -/
def Door.turned (ruling : Ruling) (r was : Door) : Bool :=
  was.outruled ruling && (isMoving r.motion && !r.held && r.dir != was.dir)

theorem Door.heldByFault_transit (c : Channel) (r : Door) : (r.heldByFault c).transit = false := by
  unfold Door.heldByFault Door.atRest
  split
  · split <;> rfl
  · rfl

theorem Work.faultAfterRuling_eq (dir : Dir) :
    let r := w.door.heldByFault w.channel
    let turns := isMoving r.motion && !r.held && r.dir != dir
    w.faultAfterRuling dir =
      { w with
        door := if turns then (r.strokeOver w.image w.channel).atRest w.channel else r
        channel := w.channel.off turns r.dir
        out := w.out ++ (transitMessages w.id w.door ++ (if w.door.motion = .queued then [.withdraw w.id] else []) ++
          if turns then [.release w.id] else []) } := by
  intro r turns
  let x : Work := { w with door := r, out := w.out ++ (transitMessages w.id w.door ++ if w.door.motion = .queued then [.withdraw w.id] else []) }
  have faults : w.faultAfterRuling dir = if turns then (x.endStroke .other).rest else x := by
    unfold Work.faultAfterRuling
    rw [Work.heldByFault_eq]
  rw [faults]
  cases turning : turns with
  | false =>
    simp only [Bool.false_eq_true, if_false, Channel.off_false, List.append_nil]
    rfl
  | true =>
    have moving : isMoving r.motion = true := by
      obtain ⟨both, -⟩ := Bool.and_eq_true_iff.mp turning
      exact (Bool.and_eq_true_iff.mp both).1
    have waits : x.door.motion ≠ .queued := fun h => by
      rw [show r.motion = .queued from h] at moving
      cases moving
    have quiet : restMessages w.id w.channel r = [] := by
      unfold restMessages transitMessages
      rw [show r.transit = false from Door.heldByFault_transit ..]
      exact ite_self _
    rw [if_pos rfl, Work.endStroke_rest x waits, show restMessages x.id x.channel x.door = [] from quiet, List.append_nil,
      Channel.off_true]
    simp only [if_true]
    rw [← List.append_assoc w.out]

section
variable {i : Image} {c : Channel} {ruling : Ruling} {r was : Door} (d : DoorId)

theorem Door.afterRuling_fine (fine : was.outruled ruling = false) :
    r.afterRuling i c ruling was = r ∧ afterRulingMessages d ruling was r = [] ∧ r.turned ruling was = false :=
  ⟨if_pos fine, if_pos fine, by rw [Door.turned, fine, Bool.false_and]⟩

/-- What the fault of a faulted door leaves of a ruling, in the terms of R43. -/
theorem Door.afterRuling_outruled (out : was.outruled ruling = true) :
    let held := r.heldByFault c
    let turns := isMoving held.motion && !held.held && held.dir != was.dir
    (r.afterRuling i c ruling was = if turns then (held.strokeOver i c).atRest c else held) ∧
    (afterRulingMessages d ruling was r =
      transitMessages d r ++ (if r.motion = .queued then [.withdraw d] else []) ++ if turns then [.release d] else []) ∧
    r.turned ruling was = turns ∧ (turns = true → held.dir = r.dir) := by
  intro held turns
  have outruled : ¬was.outruled ruling = false := by rw [out]; nofun
  by_cases waits : r.motion = .warning ∨ r.motion = .dwell ∨ r.motion = .queued
  · have rests : held = r.outOfTransit.atRest c := if_pos waits
    have still : isMoving r.motion = false := by rcases waits with h | h | h <;> rw [h] <;> rfl
    have stays : turns = false := by
      simp only [turns, rests, Door.atRest_still, Bool.false_and]
    refine ⟨?_, ?_, ?_, ?_⟩
    · rw [stays, if_neg nofun, rests]
      refine (if_neg outruled).trans ((if_pos waits).trans ?_)
      unfold Door.atRest
      split <;> rfl
    · rw [stays, if_neg (show ¬false = true from nofun), List.append_nil]
      refine (if_neg outruled).trans (congrArg (transitMessages d r ++ ·) (if_congr Iff.rfl rfl (if_neg fun moves => ?_)))
      rw [still] at moves
      cases moves.1
    · rw [stays, Door.turned, still, Bool.false_and, Bool.false_and, Bool.and_false]
    · rw [stays]
      nofun
  · have stands : held = { r.outOfTransit with edgeWait := .none, edgeTimer := none } := if_neg waits
    have queued : r.motion ≠ .queued := fun h => waits (.inr (.inr h))
    have turning : turns = (isMoving r.motion && !r.held && r.dir != was.dir) := by
      simp only [turns, stands]
      rfl
    have iff : (isMoving r.motion = true ∧ r.held = false ∧ r.dir ≠ was.dir) ↔ turns = true := by
      rw [turning]
      simp [and_assoc]
    refine ⟨?_, ?_, ?_, fun _ => ?_⟩
    · refine (if_neg outruled).trans ((if_neg waits).trans ?_)
      rw [if_congr iff rfl rfl, stands]
    · rw [if_neg queued, List.append_nil]
      refine (if_neg outruled).trans (congrArg (transitMessages d r ++ ·) ((if_neg queued).trans ?_))
      rw [if_congr iff rfl rfl]
    · rw [turning, Door.turned, out, Bool.true_and]
    · rw [stands]
      rfl

end

/-- A handle ruling of a door that acts on it: what the door obeys, and what its fault leaves of that (R39, R81, R84). -/
theorem Work.rule_eq (ruling : Ruling)
    (served : w.door.motion ≠ .settling ∧ w.door.motion ≠ .isolated ∧ w.door.motion ≠ .absent) :
    let x := w.obey ruling
    w.rule ruling =
      { x with
        door := x.door.afterRuling x.image x.channel ruling w.door
        channel := x.channel.off (x.door.turned ruling w.door) x.door.dir
        out := x.out ++ afterRulingMessages x.id ruling w.door x.door } := by
  intro x
  have rules : w.rule ruling = if w.door.outruled ruling then x.faultAfterRuling w.door.dir else x := by
    obtain ⟨settling, isolated, absent⟩ := served
    have asks : (w.door.faulted && asksUnfaulted ruling) = w.door.outruled ruling := by
      cases ruling <;> rfl
    unfold Work.rule
    rw [← asks]
    cases motion : w.door.motion <;>
      first
        | rfl
        | exact absurd motion settling
        | exact absurd motion isolated
        | exact absurd motion absent
  rw [rules]
  cases out : w.door.outruled ruling with
  | false =>
    obtain ⟨same, quiet, turns⟩ := Door.afterRuling_fine (i := x.image) (c := x.channel) (r := x.door) x.id out
    rw [same, quiet, turns, Channel.off_false, List.append_nil]
    rfl
  | true =>
    obtain ⟨left, messages, turns, towards⟩ := Door.afterRuling_outruled (i := x.image) (c := x.channel) (r := x.door) x.id out
    have channels {b : Bool} (h : b = true → (x.door.heldByFault x.channel).dir = x.door.dir) :
        x.channel.off b (x.door.heldByFault x.channel).dir = x.channel.off b x.door.dir := by
      cases b with
      | false => rw [Channel.off_false, Channel.off_false]
      | true => rw [h rfl]
    rw [if_pos rfl, Work.faultAfterRuling_eq, left, messages, turns]
    rw [channels towards]

end

end Sys2Proof.Machine

/-! The movements that a handle ruling asks for: started from rest, kept up, or reversed (R29, R38, R39). -/

namespace Sys2Proof.Machine

open Sys2Proof

/-! ### A door reversed -/

theorem Door.valveAt_ordered (i : Image) (c : Channel) (v : Dir) (on : Bool) (a : MotionAuthority) (held : Bool) (r : Door) :
    Door.valveAt i c v on { r with authority := a, held := held } = { r.valveAt i c v on with authority := a, held := held } := by
  unfold Door.valveAt Door.withCheck Door.check
  cases v
  · dsimp only
    split
    · split
      · rfl
      · split <;> rfl
    · rfl
  · dsimp only
    split
    · split
      · rfl
      · split <;> rfl
    · rfl

section
variable {c c' : Channel} (same : c'.inputs = c.inputs) (i : Image) (d : DoorId) (r : Door)
include same

theorem Door.valveAt_inputs (v : Dir) (on : Bool) : r.valveAt i c' v on = r.valveAt i c v on := by
  have readback : c'.readback v = c.readback v := by
    cases v
    · exact Channel.filter_of_inputs same .openReadback
    · exact Channel.filter_of_inputs same .closeReadback
  unfold Door.valveAt
  rw [readback]

theorem Door.strokeOver_inputs : r.strokeOver i c' = r.strokeOver i c := by
  unfold Door.strokeOver
  rw [Door.valveAt_inputs same]

theorem Door.obstructed_inputs : r.obstructed i c' = r.obstructed i c := by
  unfold Door.obstructed
  rw [Door.strokeOver_inputs same]

theorem Door.arrived_inputs : r.arrived i d c' = r.arrived i d c := by
  unfold Door.arrived
  rw [Door.valveAt_inputs same]

theorem arrivalMessages_inputs : arrivalMessages i d c' r = arrivalMessages i d c r := by
  unfold arrivalMessages
  rw [Door.arrived_inputs same]

end

section
variable {w : Work} {target : Dir}

/-- A moving door that has turned round, before its new end and its edge are looked at (R38). -/
def Work.turnedRound (w : Work) (target : Dir) (a : MotionAuthority) (held : Bool) : Work :=
  { w with
    door := w.door.reversedTo w.image w.id w.channel target a held
    channel := { w.channel with openValve := target == .opn, closeValve := target == .cls }
    out := w.out ++ [.reversed w.id target] }

theorem Work.reverseMoving_eq (own : w.door.dir = target.flip) (a : MotionAuthority) (held : Bool) :
    w.reverseMoving a held =
      if w.channel.endActive target then (w.turnedRound target a held).meetTarget else (w.turnedRound target a held).edgeAtStart := by
  have towards : w.door.dir.flip = target := by rw [own]; cases target <;> rfl
  have turns : Work.send { (w.endStroke .reversal).beginStroke target false with
      door := { ((w.endStroke .reversal).beginStroke target false).door with authority := a, held := held } }
      (.reversed w.id target) = w.turnedRound target a held := by
    let stopped : Door := { w.door.valveAt w.image w.channel target.flip false with
      estimate := w.door.estimateNow, held := false, full := false }
    have ended : w.endStroke .reversal = { w with door := stopped, channel := w.channel.withValve target.flip false } := by
      rw [Work.endStroke, Work.switchValve_eq, own]
      rfl
    have learned : stopped.learned target = w.door.learned target := by
      obtain ⟨x, eq⟩ := w.door.valveAt_eq w.image w.channel target.flip false
      have kept : stopped.learned target = (w.door.valveAt w.image w.channel target.flip false).learned target := by
        cases target <;> rfl
      rw [kept, eq]
      cases target <;> rfl
    have begun : { stopped.strokes w.image w.id w.channel target false with authority := a, held := held } =
        w.door.reversedTo w.image w.id w.channel target a held := by
      unfold Door.strokes
      rw [← Door.valveAt_ordered, learned]
      rfl
    have valves : (w.channel.withValve target.flip false).withValve target true =
        { w.channel with openValve := target == .opn, closeValve := target == .cls } := by
      cases target <;> rfl
    rw [ended, Work.beginStroke_eq]
    dsimp only
    rw [Door.strokes, Door.valveAt_withValve, valves]
    exact congrArg (fun x => { w.turnedRound target a held with door := x }) begun
  unfold Work.reverseMoving
  rw [towards]
  dsimp only
  rw [turns]
  cases target <;> rfl

theorem Door.reversedTo_moves (i : Image) (d : DoorId) (c : Channel) (target : Dir) (a : MotionAuthority) (held : Bool) (r : Door) :
    let x := r.reversedTo i d c target a held
    x.motion = movingMotion target ∧ x.dir = target ∧ x.held = held := by
  let started : Door := { r.valveAt i c target.flip false with
    motion := movingMotion target, dir := target, p0 := r.estimateNow, estimate := r.estimateNow, elapsed := 0
    deadline := strokeDeadline target r.estimateNow (r.learned target) i.doors[d].margin
    full := false, authority := a, held := held }
  obtain ⟨_, eq⟩ := started.valveAt_eq i c target true
  have same : r.reversedTo i d c target a held = _ := eq
  rw [same]
  cases target <;> exact ⟨rfl, rfl, rfl⟩

section
variable (a : MotionAuthority) (held : Bool)

/-- A door that has turned round against no switch and no edge (R38). -/
theorem Work.turnedRound_goes (free : edgeMeets w.image w.id w.channel target = false) :
    (w.turnedRound target a held).edgeAtStart = w.turnedRound target a held := by
  obtain ⟨moves, towards, -⟩ := w.door.reversedTo_moves w.image w.id w.channel target a held
  rw [Work.edgeAtStart_eq _ (moves.trans (congrArg movingMotion towards.symm))]
  refine if_neg ?_
  rw [show (w.turnedRound target a held).door.dir = target from towards, Bool.not_eq_true]
  exact free

/-- A door whose stroke ends as soon as it has turned round: both valves are OFF. -/
def Work.halted (w : Work) (r : Door) (ms : List Instr) : Work :=
  { w with door := r, channel := { w.channel with openValve := false, closeValve := false }, out := w.out ++ ms }

theorem Work.turnedRound_off :
    (w.turnedRound target a held).channel.withValve target false = { w.channel with openValve := false, closeValve := false } := by
  cases target <;> rfl

theorem Work.turnedRound_obstructed (meets : edgeMeets w.image w.id w.channel target = true) :
    let turned := w.door.reversedTo w.image w.id w.channel target a held
    (w.turnedRound target a held).edgeAtStart =
      w.halted (turned.obstructed w.image w.channel) [.reversed w.id target, .release w.id, .obstructionNotice w.id] := by
  obtain ⟨moves, towards, -⟩ := w.door.reversedTo_moves w.image w.id w.channel target a held
  rw [Work.edgeAtStart_eq _ (moves.trans (congrArg movingMotion towards.symm))]
  refine (if_pos ?_).trans ?_
  · rw [show (w.turnedRound target a held).door.dir = target from towards]
    exact meets
  · rw [Work.obstruct_eq, show (w.turnedRound target a held).door.dir = target from towards,
      Work.turnedRound_off, Door.obstructed_inputs (c := w.channel) rfl]
    exact congrArg (fun ms => { w.halted (Door.obstructed w.image w.channel _) [] with out := ms }) (List.append_assoc ..)

theorem Work.turnedRound_arrives (rests : w.channel.restsAt target = true) :
    let turned := w.door.reversedTo w.image w.id w.channel target a held
    (w.turnedRound target a held).meetTarget =
      w.halted (turned.arrived w.image w.id w.channel) (.reversed w.id target :: arrivalMessages w.image w.id w.channel turned) := by
  intro turned
  obtain ⟨-, towards, -⟩ := w.door.reversedTo_moves w.image w.id w.channel target a held
  obtain ⟨on, off⟩ := Bool.and_eq_true_iff.mp rests
  have alone : w.channel.conflict = false := by
    rw [Bool.not_eq_true'] at off
    cases target
    · exact Bool.and_eq_false_iff.mpr (.inl off)
    · exact Bool.and_eq_false_iff.mpr (.inr off)
  rw [Work.meetTarget_arrive _ (show (w.turnedRound target a held).channel.conflict = false from alone), Work.arrive_eq,
    show (w.turnedRound target a held).door.dir = target from towards, Work.turnedRound_off, Door.arrived_inputs (c := w.channel) rfl,
    arrivalMessages_inputs (c := w.channel) rfl]
  exact congrArg (fun ms => { w.halted (turned.arrived w.image w.id w.channel) [] with out := ms }) (List.append_assoc ..)

theorem Work.turnedRound_conflict (conflict : w.channel.conflict = true) :
    let turned := w.door.reversedTo w.image w.id w.channel target a held
    (w.turnedRound target a held).meetTarget =
      w.halted ((turned.strokeOver w.image w.channel).atRest w.channel)
        [.reversed w.id target, .faultReport w.id .switchConflict none false turned.asReported, .release w.id] := by
  intro turned
  obtain ⟨moves, towards, -⟩ := w.door.reversedTo_moves w.image w.id w.channel target a held
  have meets : (w.turnedRound target a held).meetTarget =
      (((w.turnedRound target a held).report .switchConflict none false).endStroke .other).rest := if_pos conflict
  rw [meets, Work.report_ends _ _ _ (by rw [show (w.turnedRound target a held).door.motion = _ from moves]; exact movingMotion_moves target),
    show (w.turnedRound target a held).door.dir = target from towards, Work.turnedRound_off,
    restMessages_of_conflict (show (w.turnedRound target a held).channel.conflict = true from conflict), List.append_nil,
    Door.strokeOver_inputs (c := w.channel) rfl]
  exact congrArg (fun ms => { w.halted ((turned.strokeOver w.image w.channel).atRest w.channel) [] with out := ms }) (List.append_assoc ..)

end

/-! ### What a ruling asks for -/

/-- A movement in a direction that a ruling asks for (R39). -/
def Work.ruled (w : Work) (target : Dir) (a : MotionAuthority) (held : Bool) : Work :=
  match target with
  | .opn => w.ruleOpening held
  | .cls => w.ruleClosing a held

/-- The direction, motion authority and held flag that a ruling asks for (R39). -/
inductive Asks (standing : Standing) : Ruling → Dir → MotionAuthority → Bool → Prop where
  | latchOpen : Asks standing .latchOpen .opn .local_ false
  | holdOpen : Asks standing .holdOpen .opn .local_ true
  | transitOpen : Asks standing .transitOpen .opn .local_ true
  | latchClose : Asks standing .latchClose .cls .local_ false
  | closeNow : Asks standing .closeNow .cls standing.motion false
  | holdClose : Asks standing .holdClose .cls .local_ true

theorem Asks.opens {standing : Standing} {ruling : Ruling} {a : MotionAuthority} {held : Bool}
    (h : Asks standing ruling .opn a held) : a = .local_ := by
  cases h <;> rfl

section
variable {standing : Standing} {ruling : Ruling} {a : MotionAuthority} {held : Bool} (asks : Asks standing ruling target a held)
include asks

theorem Work.ruled_starts
    (h : w.door.motion = endMotion target.flip ∨ w.door.motion = .stopped ∨ w.door.motion = .warning ∨ w.door.motion = .dwell) :
    w.ruled target a held = w.startMove target a held := by
  cases target with
  | opn =>
    rw [asks.opens]
    show w.ruleOpening held = _
    unfold Work.ruleOpening
    rcases h with h | h | h | h <;> rw [h]
    rfl
  | cls =>
    show w.ruleClosing a held = _
    unfold Work.ruleClosing
    rcases h with h | h | h | h <;> rw [h]
    rfl

theorem Work.ruled_against (h : w.door.motion = .queued ∧ w.door.dir = target.flip ∨ w.door.motion = movingMotion target.flip) :
    w.ruled target a held = w.reverse a held := by
  cases target with
  | opn =>
    rw [asks.opens]
    show w.ruleOpening held = _
    unfold Work.ruleOpening
    rcases h with ⟨h, own⟩ | h
    · rw [h, own]
      rfl
    · rw [h]
      rfl
  | cls =>
    show w.ruleClosing a held = _
    unfold Work.ruleClosing
    rcases h with ⟨h, own⟩ | h
    · rw [h, own]
      rfl
    · rw [h]
      rfl

end

theorem Work.ruled_stands (a : MotionAuthority) (held : Bool) (h : w.door.motion = endMotion target) : w.ruled target a held = w := by
  cases target with
  | opn =>
    show w.ruleOpening held = _
    unfold Work.ruleOpening
    rw [h]
    rfl
  | cls =>
    show w.ruleClosing a held = _
    unfold Work.ruleClosing
    rw [h]
    rfl

theorem Work.ruled_along (a : MotionAuthority) (held : Bool)
    (h : w.door.motion = .queued ∧ w.door.dir = target ∨ w.door.motion = movingMotion target) :
    w.ruled target a held = { w with door := { w.door with held := w.door.held || held } } := by
  have marks : (if held then w.markHeld else w) = { w with door := { w.door with held := w.door.held || held } } := by
    cases held
    · simp
    · simp [Work.markHeld]
  rw [← marks]
  cases target with
  | opn =>
    show w.ruleOpening held = _
    unfold Work.ruleOpening
    rcases h with ⟨h, own⟩ | h
    · rw [h, own]
    · rw [h]
      rfl
  | cls =>
    show w.ruleClosing a held = _
    unfold Work.ruleClosing
    rcases h with ⟨h, own⟩ | h
    · rw [h, own]
    · rw [h]
      rfl

end

end Sys2Proof.Machine

/-! Handle rulings and handle releases at the door table (R38 to R40). -/

namespace Sys2Proof.Machine

open Sys2Proof

/-! ### What a door obeys -/

/-- The filtered value of a handle. -/
def Channel.handleHeld (c : Channel) : Dir → Bool
  | .opn => c.openHandle.filtered
  | .cls => c.closeHandle.filtered

theorem Channel.handleHeld_inputs {c c' : Channel} (same : c'.inputs = c.inputs) (handle : Dir) :
    c'.handleHeld handle = c.handleHeld handle := by
  cases handle
  · exact congrArg Filter.filtered (Channel.filter_of_inputs same .openHandle)
  · exact congrArg Filter.filtered (Channel.filter_of_inputs same .closeHandle)

section
variable (w : Work)

theorem Work.setTransit_eq : w.setTransit = { w with door := w.door.entersTransit w.image } := by
  unfold Work.setTransit Door.entersTransit
  split <;> rfl

/-- A held ruling whose handle has been released already (R39). -/
theorem Work.releasedMeanwhile_eq (handle : Dir) :
    w.releasedMeanwhile handle = if w.channel.handleHeld handle then w else w.release handle := by
  cases handle <;> rfl

theorem Work.ruled_inputs (target : Dir) (a : MotionAuthority) (held : Bool) : w.SameInputs (w.ruled target a held) := by
  cases target
  · exact w.ruleOpening_inputs held
  · exact w.ruleClosing_inputs a held

/-- The record that a ruling finds (R27, R39). -/
def Door.ruledFrom (i : Image) (ruling : Ruling) (r : Door) : Door := if ruling = .transitOpen then r.entersTransit i else r

/-- What a door obeys: the movement, and at once the release of a handle that is not held any longer (R39). -/
theorem Work.obey_eq {ruling : Ruling} {target : Dir} {a : MotionAuthority} {held : Bool}
    (asks : Asks w.door.standing ruling target a held) :
    let x := Work.ruled { w with door := w.door.ruledFrom w.image ruling } target a held
    w.obey ruling = if held && !w.channel.handleHeld target then x.release target else x := by
  have released (w' : Work) (same : w'.channel = w.channel) (handle : Dir) (a : MotionAuthority) (held : Bool) :
      (w'.ruled handle a held).releasedMeanwhile handle =
        if true && !w.channel.handleHeld handle then (w'.ruled handle a held).release handle else w'.ruled handle a held := by
    rw [Work.releasedMeanwhile_eq, Channel.handleHeld_inputs (w'.ruled_inputs handle a held), same]
    cases w.channel.handleHeld handle <;> rfl
  intro x
  cases asks with
  | latchOpen | latchClose | closeNow => rfl
  | holdOpen => exact released w rfl .opn .local_ true
  | holdClose => exact released w rfl .cls .local_ true
  | transitOpen =>
    have transits : x = w.setTransit.ruled .opn .local_ true := by
      rw [Work.setTransit_eq]
      rfl
    rw [transits]
    exact released w.setTransit (by rw [Work.setTransit_eq]) .opn .local_ true

theorem Door.ruledFrom_alike (i : Image) (ruling : Ruling) (r : Door) :
    ∃ transit timer, r.ruledFrom i ruling = { r with transit := transit, transitTimer := timer } := by
  unfold Door.ruledFrom Door.entersTransit
  split
  · split
    · exact ⟨_, _, rfl⟩
    · exact ⟨_, _, rfl⟩
  · exact ⟨_, _, rfl⟩

/-- A queued door reversed (R38). -/
theorem Work.reverse_queued {target : Dir} (queued : w.door.motion = .queued) (own : w.door.dir = target.flip)
    (a : MotionAuthority) (held : Bool) :
    w.reverse a held =
      if w.channel.restsAt target then
        { w with door := w.door.atRest w.channel, out := w.out ++ (.withdraw w.id :: restMessages w.id w.channel w.door) }
      else
        { w with
          door := { w.door with dir := target, authority := a, held := held }
          out := w.out ++ [.withdraw w.id, .join w.id target] } := by
  have towards : w.door.dir.flip = target := by rw [own]; cases target <;> rfl
  have waits : isMoving w.door.motion = false := by rw [queued]; rfl
  unfold Work.reverse Work.reverseQueued
  rw [waits, towards]
  refine (if_neg nofun).trans (if_congr Iff.rfl ?_ ?_)
  · rw [Work.rest_eq, if_pos queued, List.append_assoc]
    rfl
  · exact congrArg (fun ms => { w with door := { w.door with dir := target, authority := a, held := held }, out := ms })
      (List.append_assoc ..)

theorem Work.reverse_moving {target : Dir} (moving : w.door.motion = movingMotion target.flip) (a : MotionAuthority) (held : Bool) :
    w.reverse a held = w.reverseMoving a held := by
  unfold Work.reverse
  refine if_pos ?_
  rw [moving]
  exact movingMotion_moves _

end

/-! ### A ruling whose turn has come -/

theorem Door.afterRuling_moving {i : Image} {c : Channel} {ruling : Ruling} {r was : Door} (moving : isMoving r.motion = true) :
    isMoving (r.afterRuling i c ruling was).motion = !r.turned ruling was := by
  cases out : was.outruled ruling with
  | false =>
    obtain ⟨same, -, turns⟩ := Door.afterRuling_fine (i := i) (c := c) (r := r) default out
    rw [same, turns, moving]
    rfl
  | true =>
    obtain ⟨left, -, turns, -⟩ := Door.afterRuling_outruled (i := i) (c := c) (r := r) default out
    rw [left, turns]
    split
    · next turning => rw [Door.atRest_still, turning, Bool.not_true]
    · next goes =>
      have stands : r.heldByFault c = { r.outOfTransit with edgeWait := .none, edgeTimer := none } := by
        refine if_neg ?_
        rintro (h | h | h) <;> rw [h] at moving <;> cases moving
      rw [Bool.eq_false_of_not_eq_true goes, stands]
      exact moving

theorem Door.turned_still {ruling : Ruling} {r was : Door} (still : isMoving r.motion = false) : r.turned ruling was = false := by
  rw [Door.turned, still, Bool.false_and, Bool.false_and, Bool.and_false]

section
variable (s : State) (d : DoorId) (ruling : Ruling)

theorem State.ruling_leaves {x : Door} {p q : Bool} {ms : List Instr}
    (served : (s.door d).motion ≠ .settling ∧ (s.door d).motion ≠ .isolated ∧ (s.door d).motion ≠ .absent)
    (obeys : ((s.taking (.handleRuling d ruling)).work d).obey ruling =
      ⟨s.image, d, x, { s.channel d with openValve := p, closeValve := q }, ms, false⟩) :
    let m : Instr := .handleRuling d ruling
    let c := s.channel d
    let y := x.afterRuling s.image c ruling (s.door d)
    Leaves d (s.taking m) (s.deliver m) (y.proceeds s.image c)
      (p && !(x.turned ruling (s.door d) && x.dir == .opn)) (q && !(x.turned ruling (s.door d) && x.dir == .cls))
      (ms ++ afterRulingMessages d ruling (s.door d) x ++ proceedMessages s.image d c y) := by
  intro m c y
  refine (s.taking m).doorEvent_leaves _ d (·.rule ruling) y _ _ (ms ++ afterRulingMessages d ruling (s.door d) x) ?_
  have rules := ((s.taking m).work d).rule_eq ruling served
  rw [obeys] at rules
  exact rules

/-- A ruling that leaves its door's valves alone. -/
theorem State.ruling_leavesUndriven {x : Door} {ms : List Instr}
    (served : (s.door d).motion ≠ .settling ∧ (s.door d).motion ≠ .isolated ∧ (s.door d).motion ≠ .absent)
    (obeys : ((s.taking (.handleRuling d ruling)).work d).obey ruling = ⟨s.image, d, x, s.channel d, ms, false⟩)
    (goes : x.turned ruling (s.door d) = false) :
    let m : Instr := .handleRuling d ruling
    let c := s.channel d
    let y := x.afterRuling s.image c ruling (s.door d)
    LeavesUndriven d (s.taking m) (s.deliver m) (y.proceeds s.image c)
      (ms ++ afterRulingMessages d ruling (s.door d) x ++ proceedMessages s.image d c y) := by
  have leaves := s.ruling_leaves d ruling served obeys
  rw [goes, Bool.false_and, Bool.false_and, Bool.not_false, Bool.and_true, Bool.and_true] at leaves
  exact leaves

end

/-- A door that acts on no ruling (R39). -/
theorem Work.rule_unserved {w : Work} (ruling : Ruling)
    (h : w.door.motion = .settling ∨ w.door.motion = .isolated ∨ w.door.motion = .absent) : w.rule ruling = w := by
  unfold Work.rule
  rcases h with h | h | h <;> rw [h]

theorem Work.rule_ignore (w : Work) : w.rule .ignore = w := by
  have obeys : (if w.door.faulted && asksUnfaulted .ignore then (w.obey .ignore).faultAfterRuling w.door.dir else w.obey .ignore) = w :=
    if_neg (by rw [show asksUnfaulted .ignore = false from rfl, Bool.and_false]; nofun)
  unfold Work.rule
  cases w.door.motion <;> first | rfl | exact obeys

/-- Settles O32: a ruling by the movement it asks for, from the door's place. -/
theorem rulingStartsMovement : Obligations.RulingStartsMovement := by
  unfold Obligations.RulingStartsMovement
  intro s d ruling m r c i inTransit starts unmoved first
  let w : Work := (s.taking m).work d
  have acts {target : Dir} {a : MotionAuthority} {held : Bool} (asks : Asks r.standing ruling target a held)
      (stays : held = true → c.handleHeld target = true) :
      w.obey ruling = Work.ruled { w with door := r.ruledFrom i ruling } target a held := by
    refine (Work.obey_eq w asks).trans (if_neg fun h => ?_)
    obtain ⟨on, off⟩ := Bool.and_eq_true_iff.mp h
    rw [show w.channel.handleHeld target = true from stays on] at off
    cases off
  obtain ⟨_, _, found⟩ := r.ruledFrom_alike i ruling
  have motion : (r.ruledFrom i ruling).motion = r.motion := by rw [found]
  have started {target : Dir} {a : MotionAuthority} {held : Bool} (asks : Asks r.standing ruling target a held)
      (stays : held = true → c.handleHeld target = true)
      (h : r.motion = endMotion target.flip ∨ r.motion = .stopped ∨ r.motion = .warning ∨ r.motion = .dwell) :
      starts (s.deliver m) target a held (r.ruledFrom i ruling) := by
    have still : isMoving r.motion = false ∧ r.motion ≠ .queued ∧ r.motion ≠ .settling ∧ r.motion ≠ .isolated ∧ r.motion ≠ .absent := by
      rcases h with h | h | h | h <;> rw [h]
      · cases target <;> exact ⟨rfl, nofun, nofun, nofun, nofun⟩
      all_goals exact ⟨rfl, nofun, nofun, nofun, nofun⟩
    obtain ⟨still, queued, served⟩ := still
    refine s.ruling_leavesUndriven d ruling served ?_ (Door.turned_still (Door.startsMove_still c target a held _))
    rw [show ((s.taking (.handleRuling d ruling)).work d).obey ruling = _ from acts asks stays,
      Work.ruled_starts asks (by rw [← motion] at h; exact h), Work.startMove_eq _ _ _ _ (by rw [← motion] at queued; exact queued)]
    rfl
  have remains {x : Door} (obeys : w.obey ruling = { w with door := x }) (same : x.motion = r.motion)
      (h : isMoving r.motion = false ∧ r.motion ≠ .settling ∧ r.motion ≠ .isolated ∧ r.motion ≠ .absent) :
      unmoved (s.deliver m) x := by
    obtain ⟨still, served⟩ := h
    exact s.ruling_leavesUndriven d ruling served (ms := []) obeys (Door.turned_still (by rw [same]; exact still))
  have atEnd {target : Dir} (h : r.motion = endMotion target) :
      isMoving r.motion = false ∧ r.motion ≠ .settling ∧ r.motion ≠ .isolated ∧ r.motion ≠ .absent := by
    rw [h]
    cases target <;> exact ⟨rfl, nofun, nofun, nofun⟩
  have stands {target : Dir} {a : MotionAuthority} {held : Bool} (asks : Asks r.standing ruling target a held)
      (stays : held = true → c.handleHeld target = true) (h : r.motion = endMotion target) :
      unmoved (s.deliver m) (r.ruledFrom i ruling) :=
    remains ((acts asks stays).trans (Work.ruled_stands _ _ (motion.trans h))) motion (atEnd h)
  refine ⟨_, exec_first rfl first, fun unserved => ?_, fun rests => ⟨?_, ?_, ?_⟩, fun rests => ⟨?_, ?_, ?_⟩, fun opened => ⟨?_, ?_, ?_⟩,
    fun closed => ?_, fun ignore serves => ?_⟩
  · refine (s.taking m).doorEvent_leavesUndriven_idle _ d (·.rule ruling) r [] (Work.rule_unserved (w := w) ruling unserved) ?_
    rcases unserved with h | h | h <;> apply Door.due_of_motion <;> rw [h] <;> nofun
  · rintro rfl
    exact started .latchOpen nofun rests
  · rintro rfl held
    exact started .holdOpen (fun _ => held) rests
  · rintro rfl held
    exact started .transitOpen (fun _ => held) rests
  · rintro rfl
    exact started .latchClose nofun rests
  · rintro rfl
    exact started .closeNow nofun rests
  · rintro rfl held
    exact started .holdClose (fun _ => held) rests
  · rintro rfl
    exact stands .latchOpen nofun opened
  · rintro rfl held
    exact stands .holdOpen (fun _ => held) opened
  · rintro rfl held
    exact stands .transitOpen (fun _ => held) opened
  · rintro (rfl | rfl | rfl)
    · exact stands .latchClose nofun closed
    · exact stands .closeNow nofun closed
    · have stays : w.obey .holdClose = w := by
        have releases : w.release .cls = w := by
          show w.closeRelease = w
          unfold Work.closeRelease
          rw [show w.door.motion = .closed from closed]
        have obeys := Work.obey_eq w (Asks.holdClose (standing := w.door.standing))
        rw [Work.ruled_stands _ _ (show _ = endMotion .cls from motion.trans closed)] at obeys
        refine obeys.trans ?_
        rw [show ({ w with door := w.door.ruledFrom w.image .holdClose } : Work) = w from rfl, releases, ite_self]
      exact remains stays rfl (atEnd (target := .cls) closed)
  · subst ignore
    have fine : r.outruled .ignore = false := by simp [Door.outruled]
    obtain ⟨same, quiet, -⟩ := Door.afterRuling_fine (i := i) (c := c) (r := r) d fine
    show LeavesUndriven d (s.taking m) _ ((r.afterRuling i c .ignore r).proceeds i c)
      (afterRulingMessages d .ignore r r ++ proceedMessages i d c (r.afterRuling i c .ignore r))
    rw [same, quiet]
    exact (s.taking m).doorEvent_leavesUndriven _ d (·.rule .ignore) r [] w.rule_ignore

end Sys2Proof.Machine

/-! Handle rulings against and along a door's movement, and handle releases (R38 to R40). -/

namespace Sys2Proof.Machine

open Sys2Proof

/-! ### Movements that a ruling turns round or keeps up -/

section
variable {w : Work} {target : Dir} {ruling : Ruling} {a : MotionAuthority} {held : Bool} {standing : Standing}
  (asks : Asks standing ruling target a held)

include asks in
theorem Work.ruled_turns (moving : w.door.motion = movingMotion target.flip) (own : w.door.dir = target.flip) :
    w.ruled target a held =
      if w.channel.endActive target then (w.turnedRound target a held).meetTarget else (w.turnedRound target a held).edgeAtStart := by
  rw [Work.ruled_against asks (.inr moving), Work.reverse_moving _ moving, Work.reverseMoving_eq own]

end

/-- Settles O33: a reversal by what the door meets as it turns round, and what the fault of a faulted door leaves of it. -/
theorem rulingReversesMovement : Obligations.RulingReversesMovement := by
  unfold Obligations.RulingReversesMovement
  intro s d ruling target authority held m c i r turned left leaves stopped first asked
  let w : Work := (s.taking m).work d
  let w' : Work := { w with door := r }
  obtain ⟨_, _, found⟩ := (s.door d).ruledFrom_alike i ruling
  have same : r.motion = (s.door d).motion ∧ r.dir = (s.door d).dir ∧ r.standing = (s.door d).standing := by
    rw [show r = _ from found]
    exact ⟨rfl, rfl, rfl⟩
  obtain ⟨motion, towards, standing⟩ := same
  obtain ⟨asks, stays⟩ : Asks w.door.standing ruling target authority held ∧ (held = true → c.handleHeld target = true) := by
    rcases asked with ⟨rfl, rfl, rfl, rfl⟩ | ⟨rfl | rfl, rfl, rfl, rfl, on⟩ | ⟨rfl, rfl, rfl, rfl⟩ | ⟨rfl, rfl, rfl, rfl⟩ | ⟨rfl, rfl, rfl, rfl, on⟩
    · exact ⟨.latchOpen, nofun⟩
    · exact ⟨.holdOpen, fun _ => on⟩
    · exact ⟨.transitOpen, fun _ => on⟩
    · exact ⟨.latchClose, nofun⟩
    · exact ⟨.closeNow, nofun⟩
    · exact ⟨.holdClose, fun _ => on⟩
  have acts : w.obey ruling = w'.ruled target authority held := by
    refine (Work.obey_eq w asks).trans (if_neg fun h => ?_)
    obtain ⟨on, off⟩ := Bool.and_eq_true_iff.mp h
    rw [show w.channel.handleHeld target = true from stays on] at off
    cases off
  have leaving {x : Door} {p q : Bool} {ms : List Instr}
      (served : (s.door d).motion ≠ .settling ∧ (s.door d).motion ≠ .isolated ∧ (s.door d).motion ≠ .absent)
      (reacts : w'.ruled target authority held = ⟨i, d, x, { c with openValve := p, closeValve := q }, ms, false⟩) :
      leaves (s.deliver m) x (p && !(x.turned ruling (s.door d) && x.dir == .opn))
        (q && !(x.turned ruling (s.door d) && x.dir == .cls)) ms :=
    s.ruling_leaves d ruling served (acts.trans reacts)
  refine ⟨_, exec_first rfl first, fun moving own => ?_, fun queued own => ?_, fun along own => ?_⟩
  · have served : (s.door d).motion ≠ .settling ∧ (s.door d).motion ≠ .isolated ∧ (s.door d).motion ≠ .absent := by
      rw [← motion, moving]
      cases target <;> exact ⟨nofun, nofun, nofun⟩
    have turns := Work.ruled_turns (w := w') asks moving own
    have halts {x : Door} {ms : List Instr} (reacts : w'.ruled target authority held = w'.halted x (.reversed d target :: ms)) :
        stopped (s.deliver m) x ms := leaving (p := false) (q := false) served reacts
    refine ⟨fun clear free => ?_, fun clear meets => ?_, fun rests => ?_, fun on other => ?_⟩
    · obtain ⟨moves, ahead, -⟩ := r.reversedTo_moves i d c target authority held
      have goes : w'.ruled target authority held = w'.turnedRound target authority held :=
        turns.trans ((if_neg (by rw [Bool.not_eq_true]; exact clear)).trans (Work.turnedRound_goes _ _ free))
      have left' := leaving (x := turned) (ms := [.reversed d target]) (p := target == .opn) (q := target == .cls) served goes
      have drives : isMoving (left turned).motion = !turned.turned ruling (s.door d) :=
        Door.afterRuling_moving (by rw [show turned.motion = _ from moves]; exact movingMotion_moves target)
      rw [show turned.dir = target from ahead] at left'
      have valve (b k : Bool) : (b && !(k && b)) = (!k && b) := by cases b <;> cases k <;> rfl
      rw [valve, valve, ← drives] at left'
      exact left'
    · exact halts (turns.trans ((if_neg (by rw [Bool.not_eq_true]; exact clear)).trans (Work.turnedRound_obstructed _ _ meets)))
    · exact halts (turns.trans ((if_pos (Bool.and_eq_true_iff.mp rests).1).trans (Work.turnedRound_arrives _ _ rests)))
    · have conflict : c.conflict = true := by
        cases target
        · exact Bool.and_eq_true_iff.mpr ⟨other, on⟩
        · exact Bool.and_eq_true_iff.mpr ⟨on, other⟩
      exact halts (turns.trans ((if_pos on).trans (Work.turnedRound_conflict _ _ conflict)))
  · have waits : (s.door d).motion = .queued := by rw [← motion, queued]
    have served : (s.door d).motion ≠ .settling ∧ (s.door d).motion ≠ .isolated ∧ (s.door d).motion ≠ .absent := by
      rw [waits]
      exact ⟨nofun, nofun, nofun⟩
    have turns := (Work.ruled_against (w := w') asks (.inl ⟨queued, own⟩)).trans (w'.reverse_queued queued own _ _)
    have undriven {x : Door} {ms : List Instr} (reacts : w'.ruled target authority held = ⟨i, d, x, c, ms, false⟩)
        (still : isMoving x.motion = false) : leaves (s.deliver m) x c.openValve c.closeValve ms :=
      s.ruling_leavesUndriven d ruling served (acts.trans reacts) (Door.turned_still still)
    refine ⟨fun off => ?_, fun on => ?_⟩
    · exact undriven (turns.trans (if_neg (by rw [Bool.not_eq_true]; exact off))) (by show isMoving r.motion = false; rw [queued]; rfl)
    · exact undriven (turns.trans (if_pos on)) (Door.atRest_still c r)
  · have served : (s.door d).motion ≠ .settling ∧ (s.door d).motion ≠ .isolated ∧ (s.door d).motion ≠ .absent := by
      rw [← motion]
      rcases along with h | h <;> rw [h]
      · exact ⟨nofun, nofun, nofun⟩
      · cases target <;> exact ⟨nofun, nofun, nofun⟩
    have keeps := Work.ruled_along (w := w') authority held (along.imp_left fun h => ⟨h, own⟩)
    refine s.ruling_leavesUndriven d ruling served (acts.trans keeps) ?_
    have straight : (r.dir != (s.door d).dir) = false := by rw [towards, bne_self_eq_false]
    show (_ && (_ && r.dir != (s.door d).dir)) = false
    rw [straight, Bool.and_false, Bool.and_false]

/-! ### Handle releases -/

theorem Door.released_still {handle : Dir} {i : Image} {c : Channel} {r : Door} (still : isMoving r.motion = false) :
    isMoving (r.released handle i c).motion = false := by
  unfold Door.released
  dsimp only
  split
  · split
    · rfl
    · exact Door.atRest_still c _
  · split
    · rfl
    · exact still

/-- A movement that the release of its handle has ended stands (R40). -/
theorem Door.released_ended {handle : Dir} {i : Image} {c : Channel} {r : Door} (ends : r.endsBy handle = true) :
    isMoving (r.released handle i c).motion = false := by
  refine (congrArg (fun x : Door => isMoving x.motion) (if_pos ends)).trans ?_
  split
  · rfl
  · exact Door.atRest_still c _

/-- A handle's release at a present door (R40, R83). -/
theorem Work.handle_release {w : Work} (handle : Dir) (here : w.door.motion ≠ .absent) :
    w.handle handle false =
      { w with
        door := w.door.released handle w.image w.channel
        channel := w.channel.off (isMoving w.door.motion && w.door.endsBy handle) w.door.dir
        out := w.out ++ (releaseMessages handle w.id w.channel w.door ++
          if handle = .opn then [.openHandleReleaseNotice w.id] else []) } := by
  have releases := w.release_eq handle
  cases handle with
  | opn =>
    have sends : w.handle .opn false = (w.release .opn).send (.openHandleReleaseNotice w.id) := if_neg here
    rw [sends, releases]
    show Work.mk _ _ _ _ (w.out ++ releaseMessages .opn w.id w.channel w.door ++ [.openHandleReleaseNotice w.id]) _ = _
    rw [List.append_assoc]
    rfl
  | cls =>
    refine releases.trans ?_
    rw [if_neg (show Dir.cls ≠ .opn from nofun), List.append_nil]

theorem Work.handle_release_absent {w : Work} (handle : Dir) (absent : w.door.motion = .absent) : w.handle handle false = w := by
  cases handle with
  | opn => exact if_pos absent
  | cls =>
    show w.closeRelease = w
    unfold Work.closeRelease
    rw [absent]

/-- Settles O24: a release by the movement that it ends, and a held ruling whose handle is released already by both. -/
theorem handleReleases : Obligations.HandleReleases := by
  unfold Obligations.HandleReleases
  refine ⟨fun s d handle e f => ?_, fun s d ruling handle => ?_⟩
  · intro input u c i r stops delivers inactive
    obtain ⟨t, run, leaves⟩ := delivers.leaves
    have event : Work.inputEvent (u.work d) input f.filtered = (u.work d).handle handle false := by
      rw [inactive]
      cases handle <;> rfl
    have primed (w : Work) : w.inputPrimed input = w := by cases handle <;> rfl
    refine ⟨t, run, fun absent => ?_, fun here => ?_⟩
    · have idle : r.due = false := Door.due_of_motion (by rw [absent]; nofun) (by rw [absent]; nofun)
      have stays : Work.inputEvent (u.work d) input f.filtered = u.work d :=
        event.trans (Work.handle_release_absent handle absent)
      exact leaves _ _ _ _ (u.doorEvent_leavesUndriven_idle s d _ r [] stays idle) idle fun _ _ => primed _
    · exact leaves _ _ _ _ (u.doorEvent_leaves s d _ _ _ _ _ (event.trans (Work.handle_release handle here)))
        (Door.proceeds_due ..) fun _ _ => primed _
  · intro m c i r ends endsUndriven turned first asked
    let w : Work := (s.taking m).work d
    let w' : Work := { w with door := r }
    obtain ⟨_, _, found⟩ := (s.door d).ruledFrom_alike i ruling
    have same : r.motion = (s.door d).motion := by rw [show r = _ from found]
    obtain ⟨asks, gone⟩ : Asks w.door.standing ruling handle .local_ true ∧ c.handleHeld handle = false := by
      rcases asked with ⟨rfl | rfl, rfl, off⟩ | ⟨rfl, rfl, off⟩
      · exact ⟨.holdOpen, off⟩
      · exact ⟨.transitOpen, off⟩
      · exact ⟨.holdClose, off⟩
    have acts : w.obey ruling = (w'.ruled handle .local_ true).release handle :=
      (Work.obey_eq w asks).trans (if_pos (by rw [show w.channel.handleHeld handle = false from gone]; rfl))
    have ending {x : Door} {p q : Bool} {ms : List Instr}
        (served : r.motion ≠ .settling ∧ r.motion ≠ .isolated ∧ r.motion ≠ .absent)
        (reacts : w'.ruled handle .local_ true = ⟨i, d, x, { c with openValve := p, closeValve := q }, ms, false⟩) :
        let y := x.released handle i c
        let stops := isMoving x.motion && x.endsBy handle
        ends (s.deliver m) x
          (p && !(stops && x.dir == .opn) && !(y.turned ruling (s.door d) && y.dir == .opn))
          (q && !(stops && x.dir == .cls) && !(y.turned ruling (s.door d) && y.dir == .cls)) ms := by
      rw [same] at served
      exact s.ruling_leaves d ruling served (acts.trans ((congrArg (·.release handle) reacts).trans (Work.release_eq _ handle)))
    have undriven {x : Door} {ms : List Instr}
        (served : r.motion ≠ .settling ∧ r.motion ≠ .isolated ∧ r.motion ≠ .absent)
        (reacts : w'.ruled handle .local_ true = ⟨i, d, x, c, ms, false⟩) (still : isMoving x.motion = false) :
        endsUndriven (s.deliver m) x ms := by
      have leaves := ending (x := x) (p := c.openValve) (q := c.closeValve) served reacts
      dsimp only at leaves
      rw [still, Door.turned_still (Door.released_still still)] at leaves
      simp only [Bool.false_and, Bool.not_false, Bool.and_true] at leaves
      exact leaves
    have ended {x : Door} {p q : Bool} {ms : List Instr} (moving : x.motion = movingMotion handle) (own : x.dir = handle)
        (held : x.held = true) (served : r.motion ≠ .settling ∧ r.motion ≠ .isolated ∧ r.motion ≠ .absent)
        (reacts : w'.ruled handle .local_ true = ⟨i, d, x, { c with openValve := p, closeValve := q }, ms, false⟩) :
        ends (s.deliver m) x (p && handle != .opn) (q && handle != .cls) ms := by
      have stops : x.endsBy handle = true := (Door.endsBy_moving handle moving).trans held
      have leaves := ending (x := x) served reacts
      dsimp only at leaves
      rw [stops, moving, movingMotion_moves, own, Door.turned_still (Door.released_ended stops)] at leaves
      simp only [Bool.false_and, Bool.not_false, Bool.and_true, Bool.true_and] at leaves
      exact leaves
    refine ⟨_, exec_first rfl first, fun unserved => ?_, fun stands => ?_, fun rests => ?_, fun queued own => ?_, fun moving own => ?_,
      fun queued own => ⟨fun on => ?_, fun off => ?_⟩, fun moving own => ⟨fun clear free => ?_, fun clear meets => ?_, fun on => ?_,
        fun on other => ?_⟩⟩
    · rw [same] at unserved
      refine (s.taking m).doorEvent_leavesUndriven_idle _ d (·.rule ruling) _ [] (Work.rule_unserved (w := w) ruling unserved) ?_
      rcases unserved with h | h | h <;> apply Door.due_of_motion <;> rw [h] <;> nofun
    · refine undriven ?_ (Work.ruled_stands (w := w') _ _ stands) (by rw [stands]; cases handle <;> rfl)
      rw [stands]
      cases handle <;> exact ⟨nofun, nofun, nofun⟩
    · have still : isMoving r.motion = false ∧ r.motion ≠ .queued ∧ r.motion ≠ .settling ∧ r.motion ≠ .isolated ∧ r.motion ≠ .absent := by
        rcases rests with h | h | h | h <;> rw [h]
        · cases handle <;> exact ⟨rfl, nofun, nofun, nofun, nofun⟩
        all_goals exact ⟨rfl, nofun, nofun, nofun, nofun⟩
      exact undriven still.2.2 ((Work.ruled_starts (w := w') asks rests).trans (Work.startMove_eq _ _ _ _ still.2.1))
        (Door.startsMove_still ..)
    · have marks := Work.ruled_along (w := w') .local_ true (.inl ⟨queued, own⟩)
      rw [Bool.or_true] at marks
      exact undriven (x := { r with held := true }) (by rw [queued]; exact ⟨nofun, nofun, nofun⟩) marks
        (by show isMoving r.motion = false; rw [queued]; rfl)
    · have marks := Work.ruled_along (w := w') .local_ true (.inr moving)
      rw [Bool.or_true] at marks
      exact ended (x := { r with held := true }) moving own rfl (by rw [moving]; cases handle <;> exact ⟨nofun, nofun, nofun⟩) marks
    · have turns := (Work.ruled_against (w := w') asks (.inl ⟨queued, own⟩)).trans (w'.reverse_queued queued own _ _)
      exact undriven (by rw [queued]; exact ⟨nofun, nofun, nofun⟩) (turns.trans (if_pos on)) (Door.atRest_still c r)
    · have turns := (Work.ruled_against (w := w') asks (.inl ⟨queued, own⟩)).trans (w'.reverse_queued queued own _ _)
      exact undriven (by rw [queued]; exact ⟨nofun, nofun, nofun⟩) (turns.trans (if_neg (by rw [Bool.not_eq_true]; exact off)))
        (by show isMoving r.motion = false; rw [queued]; rfl)
    all_goals
      have served : r.motion ≠ .settling ∧ r.motion ≠ .isolated ∧ r.motion ≠ .absent := by
        rw [moving]
        cases handle <;> exact ⟨nofun, nofun, nofun⟩
      have turns := Work.ruled_turns (w := w') asks moving own
    · obtain ⟨moves, ahead, holds⟩ := r.reversedTo_moves i d c handle .local_ true
      have left := ended (x := turned) (p := handle == .opn) (q := handle == .cls) (ms := [.reversed d handle]) moves ahead holds served
        (turns.trans ((if_neg (by rw [Bool.not_eq_true]; exact clear)).trans (Work.turnedRound_goes _ _ free)))
      have off (b : Bool) : (b && !b) = false := Bool.and_not_self b
      rw [bne, bne, off, off] at left
      exact left
    · exact ending (p := false) (q := false) served
        (turns.trans ((if_neg (by rw [Bool.not_eq_true]; exact clear)).trans (Work.turnedRound_obstructed _ _ meets)))
    · exact ending (p := false) (q := false) served
        (turns.trans ((if_pos (Bool.and_eq_true_iff.mp on).1).trans (Work.turnedRound_arrives _ _ on)))
    · have conflict : c.conflict = true := by
        cases handle
        · exact Bool.and_eq_true_iff.mpr ⟨other, on⟩
        · exact Bool.and_eq_true_iff.mpr ⟨on, other⟩
      exact ending (p := false) (q := false) served (turns.trans ((if_pos on).trans (Work.turnedRound_conflict _ _ conflict)))

end Sys2Proof.Machine

/-! The state after reset (R48, R86, R160, R165), evaluated. -/

namespace Sys2Proof.Machine

open Sys2Proof

theorem presenceInv_reset : PresenceInv State.reset := by
  unfold PresenceInv
  decide +kernel

/-- After reset every door rests with both valves OFF and no drive test (R48), so that R18 holds of it. -/
theorem driveInv_reset : DriveInv State.reset := by
  have rests : ∀ d : DoorId, isMoving (State.reset.door d).motion = false ∧ (State.reset.door d).testResult = .none ∧
      (State.reset.door d).test = none ∧ (State.reset.channel d).openValve = false ∧ (State.reset.channel d).closeValve = false := by
    decide +kernel
  refine ⟨presenceInv_reset, fun d => ?_⟩
  obtain ⟨still, idle, none, opened, closed⟩ := rests d
  refine ⟨fun m => ?_, fun m => ?_, ?_, fun t => ?_, fun on => ?_, fun on => ?_, fun x t => ?_⟩
  · rw [m] at still
    cases still
  · rw [m] at still
    cases still
  · rw [idle, none]
    exact ⟨nofun, nofun⟩
  · rw [none] at t
    cases t
  · exact absurd (opened.symm.trans on) nofun
  · exact absurd (closed.symm.trans on) nofun
  · exact absurd (none.symm.trans t) nofun

/-- No request is taken and no reply sent after reset (R165). -/
theorem portInv_reset : PortInv State.reset := by
  unfold PortInv LineOk
  refine ⟨by decide +kernel, by decide +kernel, by decide +kernel, fun l awaited => ?_⟩
  have none : State.reset.port.restarting = none := by decide +kernel
  exact absurd (none.symm.trans awaited) nofun

/-- Settles O3: each value and each invariant of the state after reset, evaluated. -/
theorem resetValues : Obligations.ResetValues := by
  unfold Obligations.ResetValues
  refine ⟨rfl, by decide +kernel, by decide +kernel, by decide +kernel, rfl, by decide +kernel, by decide +kernel, by decide +kernel, rfl, rfl,
    by decide +kernel, by decide +kernel, driveInv_reset, ?_, ?_, ⟨presenceInv_reset, by decide +kernel⟩, ?_, ?_, ?_, ?_, ?_, ?_,
    portInv_reset, ?_, ⟨presenceInv_reset, by decide +kernel⟩, ⟨presenceInv_reset, by decide +kernel⟩⟩
  · unfold StrokeInv; decide +kernel
  · unfold LearnedInv nominalOk; decide +kernel
  · unfold StandingInv; decide +kernel
  · unfold FlowInv FlowOk; decide +kernel
  · unfold ServedInv; decide +kernel
  · unfold CapacityInv; decide +kernel
  · unfold AlarmInv; decide +kernel
  · unfold RecorderInv; decide +kernel
  · unfold WarningInv; decide +kernel

end Sys2Proof.Machine

/-! The layouts of the group record and the door records (R152 to R154). -/

namespace Sys2Proof.Machine

open Sys2Proof

/-! ### Numbers in bytes -/

theorem toNat_byteOf (n : Nat) : (byteOf n).toNat = n % 256 := BitVec.toNat_ofNat n 8

theorem nat2_bytes2 (n : Nat) : nat2 (byteOf (n / 256)) (byteOf n) = n % 65536 := by
  unfold nat2
  rw [toNat_byteOf, toNat_byteOf]
  omega

theorem nat4_bytes4 (t : GroupTime) :
    ((t.extractLsb' 24 8).toNat * 256 + (t.extractLsb' 16 8).toNat) * 65536 +
      ((t.extractLsb' 8 8).toNat * 256 + (t.extractLsb' 0 8).toNat) = t.toNat := by
  have small := t.isLt
  simp only [BitVec.extractLsb'_toNat, Nat.shiftRight_eq_div_pow]
  omega

theorem toNat_flagByte (b : Bool) : (flagByte b).toNat = if b then 1 else 0 := by
  cases b <;> rfl

theorem clamp_eq (lo hi n : Nat) (h : lo ≤ hi) : clamp lo hi n = max lo (min hi n) := by
  unfold clamp
  split
  · omega
  · split <;> omega

theorem clamp_of_mem {lo hi n : Nat} (low : lo ≤ n) (high : n ≤ hi) : clamp lo hi n = n := by
  unfold clamp
  rw [if_neg (by omega), if_neg (by omega)]

/-! ### Kind sets -/

/-- The bits of a kind set in its three bytes (R152). -/
theorem kindSetBytes_names (k : KindSet) :
    (byteAt (kindSetBytes k) 0).toNat < 16 ∧
    ∀ n : Fin 20, (byteAt (kindSetBytes k) (2 - n.val / 8)).getLsbD (n.val % 8) = k.getLsbD n.val := by
  refine ⟨?_, fun n => ?_⟩
  · have small := k.isLt
    show ((k.setWidth 24).extractLsb' 16 8).toNat < 16
    simp only [BitVec.extractLsb'_toNat, BitVec.toNat_setWidth, Nat.shiftRight_eq_div_pow]
    omega
  · fin_cases n <;> simp [byteAt, kindSetBytes]

theorem kindSetOf_names (x y z : Byte) (n : Fin 20) :
    (kindSetOf x y z).getLsbD n.val = (byteAt [x, y, z] (2 - n.val / 8)).getLsbD (n.val % 8) := by
  rw [kindSetOf, BitVec.getLsbD_setWidth, BitVec.getLsbD_append, BitVec.getLsbD_append]
  fin_cases n <;> rfl

theorem kindSetOf_bytes (k : KindSet) :
    kindSetOf (byteAt (kindSetBytes k) 0) (byteAt (kindSetBytes k) 1) (byteAt (kindSetBytes k) 2) = k := by
  apply BitVec.eq_of_getLsbD_eq
  intro n small
  rw [kindSetOf_names _ _ _ ⟨n, small⟩]
  exact (kindSetBytes_names k).2 ⟨n, small⟩

/-! ### The group record -/

theorem groupBytes_eq (g : GroupRecord) :
    groupBytes g =
      [match g.startMode with | .local_ => 0 | .closed => 1, byteOf g.warningTime, byteOf (g.dwellTime / 256), byteOf g.dwellTime,
       byteOf g.transitLimit, byteOf g.driveSettle, byteOf g.edgeClear, flagByte g.closeOnLoss, byteOf g.supervision,
       byteOf g.normalCapacity[0], byteOf g.emergencyCapacity[0], byteOf g.normalCapacity[1], byteOf g.emergencyCapacity[1],
       byteOf g.normalCapacity[2], byteOf g.emergencyCapacity[2], byteOf g.normalCapacity[3], byteOf g.emergencyCapacity[3],
       byteOf (g.wearThresholds.overtravel / 256), byteOf g.wearThresholds.overtravel,
       byteOf (g.wearThresholds.switch / 256), byteOf g.wearThresholds.switch,
       byteOf (g.wearThresholds.obstruction / 256), byteOf g.wearThresholds.obstruction,
       byteOf (g.wearThresholds.drift / 256), byteOf g.wearThresholds.drift,
       byteOf (g.wearThresholds.drive / 256), byteOf g.wearThresholds.drive,
       byteOf (g.checkErrorThreshold / 256), byteOf g.checkErrorThreshold,
       byteOf (g.framingErrorThreshold / 256), byteOf g.framingErrorThreshold,
       byteAt (kindSetBytes g.recordMask) 0, byteAt (kindSetBytes g.recordMask) 1, byteAt (kindSetBytes g.recordMask) 2,
       byteAt (kindSetBytes g.annunciateMask) 0, byteAt (kindSetBytes g.annunciateMask) 1, byteAt (kindSetBytes g.annunciateMask) 2,
       byteAt (kindSetBytes g.routedKinds) 0, byteAt (kindSetBytes g.routedKinds) 1, byteAt (kindSetBytes g.routedKinds) 2,
       byteOf g.endTimes.assert, byteOf g.endTimes.release, byteOf g.handleTimes.assert, byteOf g.handleTimes.release,
       byteOf g.edgeTimes.assert, byteOf g.edgeTimes.release, byteOf g.lineTimes.assert, byteOf g.lineTimes.release] := by
  rfl

/-- The bytes of a group record, field by field (R152). -/
theorem groupBytes_fields (g : GroupRecord) :
    let b := groupBytes g
    let one := fun k : Nat => (byteAt b k).toNat
    let two := fun k : Nat => one k * 256 + one (k + 1)
    let names := fun (at_ : Nat) (x : KindSet) =>
      one at_ < 16 ∧ ∀ n : Fin 20, (byteAt b (at_ + 2 - n.val / 8)).getLsbD (n.val % 8) = x.getLsbD n.val
    b.length = 48 ∧ one 0 = (match g.startMode with | .local_ => 0 | .closed => 1) ∧
    one 1 = g.warningTime % 256 ∧ two 2 = g.dwellTime % 65536 ∧ one 4 = g.transitLimit % 256 ∧
    one 5 = g.driveSettle % 256 ∧ one 6 = g.edgeClear % 256 ∧ one 7 = (if g.closeOnLoss then 1 else 0) ∧
    one 8 = g.supervision % 256 ∧
    (∀ h : HpuId, one (9 + 2 * h.val) = g.normalCapacity[h] % 256 ∧ one (10 + 2 * h.val) = g.emergencyCapacity[h] % 256) ∧
    two 17 = g.wearThresholds.overtravel % 65536 ∧ two 19 = g.wearThresholds.switch % 65536 ∧
    two 21 = g.wearThresholds.obstruction % 65536 ∧ two 23 = g.wearThresholds.drift % 65536 ∧
    two 25 = g.wearThresholds.drive % 65536 ∧ two 27 = g.checkErrorThreshold % 65536 ∧
    two 29 = g.framingErrorThreshold % 65536 ∧
    names 31 g.recordMask ∧ names 34 g.annunciateMask ∧ names 37 g.routedKinds ∧
    one 40 = g.endTimes.assert % 256 ∧ one 41 = g.endTimes.release % 256 ∧
    one 42 = g.handleTimes.assert % 256 ∧ one 43 = g.handleTimes.release % 256 ∧
    one 44 = g.edgeTimes.assert % 256 ∧ one 45 = g.edgeTimes.release % 256 ∧
    one 46 = g.lineTimes.assert % 256 ∧ one 47 = g.lineTimes.release % 256 := by
  rw [groupBytes_eq]
  intro b one two names
  have kinds (at_ : Nat) (x : KindSet) (same : ∀ k : Fin 3, byteAt b (at_ + k.val) = byteAt (kindSetBytes x) k.val) : names at_ x := by
    obtain ⟨small, bits⟩ := kindSetBytes_names x
    refine ⟨(congrArg BitVec.toNat (same 0)).trans_lt small, fun n => ?_⟩
    have place : at_ + 2 - n.val / 8 = at_ + (2 - n.val / 8) := by omega
    rw [place, same ⟨2 - n.val / 8, by omega⟩]
    exact bits n
  have single {k n : Nat} (same : byteAt b k = byteOf n) : one k = n % 256 := (congrArg BitVec.toNat same).trans (toNat_byteOf n)
  have double {k n : Nat} (high : byteAt b k = byteOf (n / 256)) (low : byteAt b (k + 1) = byteOf n) : two k = n % 65536 := by
    rw [← nat2_bytes2, ← high, ← low]
    rfl
  refine ⟨rfl, ?_, single rfl, double rfl rfl, single rfl, single rfl, single rfl, ?_, single rfl,
    fun h => ?_, double rfl rfl, double rfl rfl, double rfl rfl, double rfl rfl, double rfl rfl, double rfl rfl, double rfl rfl,
    kinds 31 _ fun k => ?_, kinds 34 _ fun k => ?_, kinds 37 _ fun k => ?_, single rfl, single rfl, single rfl,
    single rfl, single rfl, single rfl, single rfl, single rfl⟩
  · show (BitVec.toNat (match g.startMode with | .local_ => (0 : Byte) | .closed => 1)) = _
    cases g.startMode <;> rfl
  · exact toNat_flagByte g.closeOnLoss
  · fin_cases h <;> exact ⟨single rfl, single rfl⟩
  all_goals fin_cases k <;> rfl

theorem groupChecked_iff (b : List Byte) :
    groupChecked b = true ↔ (byteAt b 0).toNat ≤ 1 ∧ (byteAt b 7).toNat ≤ 1 ∧ (byteAt b 31).toNat < 16 ∧
      (byteAt b 34).toNat < 16 ∧ (byteAt b 37).toNat < 16 := by
  simp [groupChecked, and_assoc]

/-- A group record in its ranges is what its bytes spell (R152). -/
theorem groupOf_groupBytes {g : GroupRecord} (h : g.inRange) : groupOf (groupBytes g) = g := by
  obtain ⟨warning, dwell, dwell', transit, settle, settle', edge, edge', supervision, capacities, w1, w2, w3, w4, w5, checks, framing,
    ⟨e1, e2, e3, e4⟩, ⟨h1, h2, h3, h4⟩, ⟨f1, f2, f3, f4⟩, ⟨l1, l2, l3, l4⟩⟩ := h
  obtain ⟨-, mode, bw, bd, bt, bs, be, bc, bsup, bcap, bw1, bw2, bw3, bw4, bw5, bch, bfr, ⟨-, k1⟩, ⟨-, k2⟩, ⟨-, k3⟩,
    be1, be2, bh1, bh2, bf1, bf2, bl1, bl2⟩ := groupBytes_fields g
  generalize groupBytes g = b at *
  have times {t : FilterTimes} {j k : Nat} (ha : (byteAt b j).toNat = t.assert % 256) (hr : (byteAt b k).toNat = t.release % 256)
      (sa : t.assert ≤ 255) (sr : t.release ≤ 255) : (⟨(byteAt b j).toNat, (byteAt b k).toNat⟩ : FilterTimes) = t := by
    rw [ha, hr, Nat.mod_eq_of_lt (by omega), Nat.mod_eq_of_lt (by omega)]
  have kinds {j : Nat} {x : KindSet} (bits : ∀ n : Fin 20, (byteAt b (j + 2 - n.val / 8)).getLsbD (n.val % 8) = x.getLsbD n.val) :
      kindSetOf (byteAt b j) (byteAt b (j + 1)) (byteAt b (j + 2)) = x := by
    apply BitVec.eq_of_getLsbD_eq
    intro n small
    rw [kindSetOf_names _ _ _ ⟨n, small⟩, ← bits ⟨n, small⟩]
    have place : n / 8 = 0 ∨ n / 8 = 1 ∨ n / 8 = 2 := by omega
    dsimp only
    rcases place with e | e | e <;> rw [e] <;> rfl
  show groupOf b = ⟨g.startMode, g.warningTime, g.dwellTime, g.transitLimit, g.driveSettle, g.edgeClear, g.closeOnLoss, g.supervision,
    g.normalCapacity, g.emergencyCapacity, g.wearThresholds, g.checkErrorThreshold, g.framingErrorThreshold, g.recordMask,
    g.annunciateMask, g.routedKinds, g.endTimes, g.handleTimes, g.edgeTimes, g.lineTimes⟩
  refine (GroupRecord.mk.injEq ..).mpr ⟨?_, ?_, ?_, ?_, ?_, ?_, ?_, ?_, ?_, ?_, ?_, ?_, ?_, ?_, ?_, ?_, ?_, ?_, ?_, ?_⟩
  · have code : ∀ m : GroupMode, ∀ x : Byte, x.toNat = (match m with | .local_ => 0 | .closed => 1) →
        (if x = 0 then GroupMode.local_ else .closed) = m := by
      intro m x same
      cases m
      · exact if_pos (BitVec.eq_of_toNat_eq same)
      · exact if_neg fun zero => by
          rw [zero] at same
          cases same
    exact code g.startMode _ mode
  · exact bw.trans (Nat.mod_eq_of_lt (by omega))
  · exact bd.trans (Nat.mod_eq_of_lt (by omega))
  · exact bt.trans (Nat.mod_eq_of_lt (by omega))
  · exact bs.trans (Nat.mod_eq_of_lt (by omega))
  · exact be.trans (Nat.mod_eq_of_lt (by omega))
  · have code : ∀ f : Bool, ∀ x : Byte, x.toNat = (if f then 1 else 0) → (x != 0) = f := by
      intro f x same
      cases f
      · rw [BitVec.eq_of_toNat_eq (y := 0) same]
        rfl
      · refine bne_iff_ne.mpr fun zero => ?_
        rw [zero] at same
        cases same
    exact code g.closeOnLoss _ bc
  · exact bsup.trans (Nat.mod_eq_of_lt (by omega))
  · refine Vector.ext fun k hk => ?_
    have held := (bcap ⟨k, hk⟩).1.trans (Nat.mod_eq_of_lt (by have := (capacities ⟨k, hk⟩).1; omega))
    rw [show g.normalCapacity[k] = g.normalCapacity[(⟨k, hk⟩ : HpuId)] from rfl, ← held]
    interval_cases k <;> rfl
  · refine Vector.ext fun k hk => ?_
    have held := (bcap ⟨k, hk⟩).2.trans (Nat.mod_eq_of_lt (by have := (capacities ⟨k, hk⟩).2; omega))
    rw [show g.emergencyCapacity[k] = g.emergencyCapacity[(⟨k, hk⟩ : HpuId)] from rfl, ← held]
    interval_cases k <;> rfl
  · exact (Wear.mk.injEq ..).mpr ⟨bw1.trans (Nat.mod_eq_of_lt (by omega)), bw2.trans (Nat.mod_eq_of_lt (by omega)),
      bw3.trans (Nat.mod_eq_of_lt (by omega)), bw4.trans (Nat.mod_eq_of_lt (by omega)), bw5.trans (Nat.mod_eq_of_lt (by omega))⟩
  · exact bch.trans (Nat.mod_eq_of_lt (by omega))
  · exact bfr.trans (Nat.mod_eq_of_lt (by omega))
  · exact kinds k1
  · exact kinds k2
  · exact kinds k3
  · exact times be1 be2 e2 e4
  · exact times bh1 bh2 h2 h4
  · exact times bf1 bf2 f2 f4
  · exact times bl1 bl2 l2 l4

end Sys2Proof.Machine

/-! The door records' layout (R153), and the copy that a store write leaves: it loads back as its image (R160). -/

namespace Sys2Proof.Machine

open Sys2Proof

/-- The flag bits of a door record (R153). -/
def doorFlags (r : DoorRecord) : Byte :=
  (if r.edgeEnable then 1 else 0) ||| (if r.floodInhibit then 2 else 0) ||| (if r.driveCheck then 4 else 0)

theorem doorFlags_bits (r : DoorRecord) :
    (doorFlags r).getLsbD 0 = r.edgeEnable ∧ (doorFlags r).getLsbD 1 = r.floodInhibit ∧
    (doorFlags r).getLsbD 2 = r.driveCheck ∧ (doorFlags r).toNat < 8 := by
  have bits (a b c : Bool) :
      let x : Byte := (if a then 1 else 0) ||| (if b then 2 else 0) ||| (if c then 4 else 0)
      x.getLsbD 0 = a ∧ x.getLsbD 1 = b ∧ x.getLsbD 2 = c ∧ x.toNat < 8 := by
    revert a b c
    decide
  exact bits r.edgeEnable r.floodInhibit r.driveCheck

theorem doorBytes_eq (d : DoorId) (r : DoorRecord) :
    doorBytes d r =
      byteOf d.val :: flagByte r.present :: byteOf r.zone.val :: byteOf r.hpu.val :: byteOf r.demand ::
      byteOf (r.nominalClose / 256) :: byteOf r.nominalClose :: byteOf (r.nominalOpen / 256) :: byteOf r.nominalOpen ::
      byteOf r.margin :: doorFlags r :: byteOf r.label.length ::
      (r.label ++ List.replicate (16 - r.label.length) 0x20) := by
  rfl

theorem doorBytes_length (d : DoorId) {r : DoorRecord} (short : r.label.length ≤ 16) : (doorBytes d r).length = 28 := by
  rw [doorBytes_eq]
  simp only [List.length_cons, List.length_append, List.length_replicate]
  omega

/-- The bytes of a door record, field by field (R153). -/
theorem doorBytes_fields (d : DoorId) (r : DoorRecord) (short : r.label.length ≤ 16) :
    let b := doorBytes d r
    let one := fun k : Nat => (byteAt b k).toNat
    let two := fun k : Nat => one k * 256 + one (k + 1)
    b.length = 28 ∧ one 0 = d.val ∧ one 1 = (if r.present then 1 else 0) ∧ one 2 = r.zone.val ∧ one 3 = r.hpu.val ∧
    one 4 = r.demand % 256 ∧ two 5 = r.nominalClose % 65536 ∧ two 7 = r.nominalOpen % 65536 ∧
    one 9 = r.margin % 256 ∧ (byteAt b 10).getLsbD 0 = r.edgeEnable ∧ (byteAt b 10).getLsbD 1 = r.floodInhibit ∧
    (byteAt b 10).getLsbD 2 = r.driveCheck ∧ one 10 < 8 ∧ one 11 = r.label.length ∧
    ∀ k : Fin 16, byteAt b (12 + k.val) = r.label.getD k.val 0x20 := by
  intro b one two
  have layout : b = _ := doorBytes_eq d r
  have length : b.length = 28 := doorBytes_length d short
  have single {k n : Nat} (same : byteAt b k = byteOf n) : one k = n % 256 := (congrArg BitVec.toNat same).trans (toNat_byteOf n)
  have double {k n : Nat} (high : byteAt b k = byteOf (n / 256)) (low : byteAt b (k + 1) = byteOf n) : two k = n % 65536 := by
    rw [← nat2_bytes2, ← high, ← low]
    rfl
  have index {k n : Nat} (same : byteAt b k = byteOf n) (small : n < 256) : one k = n := (single same).trans (Nat.mod_eq_of_lt small)
  obtain ⟨flag0, flag1, flag2, flags⟩ := doorFlags_bits r
  have door := d.isLt
  have zone := r.zone.isLt
  have hpu := r.hpu.isLt
  refine ⟨length, index rfl (by omega), toNat_flagByte r.present, index rfl (by omega), index rfl (by omega), single rfl,
    double rfl rfl, double rfl rfl, single rfl, flag0, flag1, flag2, flags, index rfl (by omega), fun k => ?_⟩
  have kept : byteAt b (12 + k.val) = (r.label ++ List.replicate (16 - r.label.length) 0x20).getD k.val 0 := by
    rw [layout, Nat.add_comm]
    rfl
  rw [kept]
  have bound := k.isLt
  by_cases inside : k.val < r.label.length
  · rw [List.getD_append _ _ _ _ inside, List.getD_eq_getElem _ _ inside, List.getD_eq_getElem _ _ inside]
  · have padding : k.val - r.label.length < (List.replicate (16 - r.label.length) (0x20 : Byte)).length := by
      rw [List.length_replicate]
      omega
    rw [List.getD_append_right _ _ _ _ (by omega), List.getD_eq_getElem _ _ padding, List.getElem_replicate,
      List.getD_eq_default _ _ (by omega)]

theorem doorBytes_label (d : DoorId) {r : DoorRecord} (short : r.label.length ≤ 16) :
    ((doorBytes d r).drop 12).take (byteAt (doorBytes d r) 11).toNat = r.label := by
  obtain ⟨-, -, -, -, -, -, -, -, -, -, -, -, -, length, -⟩ := doorBytes_fields d r short
  rw [show (byteAt (doorBytes d r) 11).toNat = r.label.length from length, doorBytes_eq]
  exact List.take_left' rfl

/-- A door record in its ranges is what its bytes spell (R153). -/
theorem doorOf_doorBytes (d : DoorId) {r : DoorRecord} (h : r.inRange) : doorOf (doorBytes d r) = r := by
  obtain ⟨demand, demand', close, close', opening, opening', margin, short, -⟩ := h
  have label := doorBytes_label d short
  obtain ⟨-, -, present, zone, hpu, bd, bc, bo, bm, f0, f1, f2, -, -, -⟩ := doorBytes_fields d r short
  refine (DoorRecord.mk.injEq ..).mpr ⟨?_, ?_, ?_, bd.trans (Nat.mod_eq_of_lt (by omega)), bc.trans (Nat.mod_eq_of_lt (by omega)),
    bo.trans (Nat.mod_eq_of_lt (by omega)), bm.trans (Nat.mod_eq_of_lt (by omega)), f0, f1, f2, label⟩
  · show (flagByte r.present != 0) = r.present
    cases r.present <;> rfl
  · exact Fin.ext ((congrArg (· % 8) zone).trans (Nat.mod_eq_of_lt r.zone.isLt))
  · exact Fin.ext ((congrArg (· % 4) hpu).trans (Nat.mod_eq_of_lt r.hpu.isLt))

theorem printable_iff (c : Byte) : printable c = true ↔ 0x20 ≤ c.toNat ∧ c.toNat ≤ 0x7E := by
  simp [printable]

theorem doorChecked_doorBytes (d : DoorId) {r : DoorRecord} (h : r.inRange) : doorChecked (doorBytes d r) = true := by
  obtain ⟨-, -, -, -, -, -, -, short, printed⟩ := h
  have label := doorBytes_label d short
  obtain ⟨-, index, present, zone, hpu, -, -, -, -, -, -, -, -, length, -⟩ := doorBytes_fields d r short
  have door := d.isLt
  have zoneSmall := r.zone.isLt
  have hpuSmall := r.hpu.isLt
  have flag : (if r.present then 1 else 0) ≤ 1 := by cases r.present <;> decide
  simp only [doorChecked, Bool.and_eq_true, decide_eq_true_eq, List.all_eq_true]
  refine ⟨⟨⟨⟨⟨index.trans_lt door, present.trans_le flag⟩, zone.trans_lt zoneSmall⟩, hpu.trans_lt hpuSmall⟩, length.trans_le short⟩,
    fun c member => (printable_iff c).mpr (printed c ?_)⟩
  rwa [label] at member

theorem doorIndexOf_doorBytes (d : DoorId) {r : DoorRecord} (short : r.label.length ≤ 16) : doorIndexOf (doorBytes d r) = d := by
  obtain ⟨-, index, -⟩ := doorBytes_fields d r short
  exact Fin.ext ((congrArg (· % 24) index).trans (Nat.mod_eq_of_lt d.isLt))

/-! ### Clamping -/

theorem clamp_fixed_iff {lo hi n : Nat} (order : lo ≤ hi) : clamp lo hi n = n ↔ lo ≤ n ∧ n ≤ hi := by
  rw [clamp_eq lo hi n order]
  omega

theorem FilterTimes.clamped_eq_iff (t : FilterTimes) :
    t.clamped = t ↔ 1 ≤ t.assert ∧ t.assert ≤ 255 ∧ 1 ≤ t.release ∧ t.release ≤ 255 := by
  have spelled : t.clamped = t ↔ clamp 1 255 t.assert = t.assert ∧ clamp 1 255 t.release = t.release := by
    cases t
    exact (FilterTimes.mk.injEq ..).to_iff
  rw [spelled, clamp_fixed_iff (by decide), clamp_fixed_iff (by decide), and_assoc]

theorem DoorRecord.clamped_eq_iff (r : DoorRecord) :
    r.clamped = r ↔ (1 ≤ r.demand ∧ r.demand ≤ 8) ∧ (30 ≤ r.nominalClose ∧ r.nominalClose ≤ 600) ∧
      (30 ≤ r.nominalOpen ∧ r.nominalOpen ≤ 600) ∧ r.margin ≤ 100 := by
  have spelled : r.clamped = r ↔ clamp 1 8 r.demand = r.demand ∧ clamp 30 600 r.nominalClose = r.nominalClose ∧
      clamp 30 600 r.nominalOpen = r.nominalOpen ∧ clamp 0 100 r.margin = r.margin := by
    cases r
    simp [DoorRecord.clamped]
  rw [spelled, clamp_fixed_iff (by decide), clamp_fixed_iff (by decide), clamp_fixed_iff (by decide), clamp_fixed_iff (by decide)]
  simp

theorem GroupRecord.clamped_eq_iff (g : GroupRecord) :
    g.clamped = g ↔ g.warningTime ≤ 100 ∧ (10 ≤ g.dwellTime ∧ g.dwellTime ≤ 300) ∧ (2 ≤ g.driveSettle ∧ g.driveSettle ≤ 50) ∧
      (5 ≤ g.edgeClear ∧ g.edgeClear ≤ 100) ∧ (∀ h : HpuId, g.normalCapacity[h] ≤ 31) ∧ (∀ h : HpuId, g.emergencyCapacity[h] ≤ 31) ∧
      g.endTimes.clamped = g.endTimes ∧ g.handleTimes.clamped = g.handleTimes ∧ g.edgeTimes.clamped = g.edgeTimes ∧
      g.lineTimes.clamped = g.lineTimes := by
  have vectors (v : Vector Nat 4) : (Vector.ofFn fun h : HpuId => clamp 0 31 v[h]) = v ↔ ∀ h : HpuId, v[h] ≤ 31 := by
    constructor
    · intro same h
      have held : (Vector.ofFn fun h : HpuId => clamp 0 31 v[h])[h] = v[h] := by rw [same]
      rw [Fin.getElem_fin, Vector.getElem_ofFn] at held
      exact ((clamp_fixed_iff (by decide)).mp held).2
    · intro small
      refine Vector.ext fun k hk => ?_
      rw [Vector.getElem_ofFn]
      exact (clamp_fixed_iff (by decide)).mpr ⟨Nat.zero_le _, small ⟨k, hk⟩⟩
  have spelled : g.clamped = g ↔ clamp 0 100 g.warningTime = g.warningTime ∧ clamp 10 300 g.dwellTime = g.dwellTime ∧
      clamp 2 50 g.driveSettle = g.driveSettle ∧ clamp 5 100 g.edgeClear = g.edgeClear ∧
      (Vector.ofFn fun h : HpuId => clamp 0 31 g.normalCapacity[h]) = g.normalCapacity ∧
      (Vector.ofFn fun h : HpuId => clamp 0 31 g.emergencyCapacity[h]) = g.emergencyCapacity ∧
      g.endTimes.clamped = g.endTimes ∧ g.handleTimes.clamped = g.handleTimes ∧ g.edgeTimes.clamped = g.edgeTimes ∧
      g.lineTimes.clamped = g.lineTimes := by
    cases g
    simp [GroupRecord.clamped]
  rw [spelled, clamp_fixed_iff (by decide), clamp_fixed_iff (by decide), clamp_fixed_iff (by decide), clamp_fixed_iff (by decide),
    vectors, vectors]
  simp

end Sys2Proof.Machine

/-! The stored copy: what passes the power-on checks, and that the copy of a valid image does (R157, R160). -/

namespace Sys2Proof.Machine

open Sys2Proof

/-! ### The copy's parts -/

theorem drop_flatMap_of_length {α β : Type} (f : α → List β) (n : Nat) (same : ∀ x, (f x).length = n) (l : List α) (k : Nat) :
    (l.flatMap f).drop (n * k) = (l.drop k).flatMap f := by
  induction k generalizing l with
  | zero => rfl
  | succ k ih =>
    cases l with
    | nil => simp
    | cons x xs =>
      rw [List.flatMap_cons, Nat.mul_succ, Nat.add_comm, ← List.drop_drop, List.drop_left' (same x)]
      exact ih xs

theorem length_flatMap_of_length {α β : Type} (f : α → List β) (n : Nat) (same : ∀ x, (f x).length = n) (l : List α) :
    (l.flatMap f).length = n * l.length := by
  induction l with
  | nil => rfl
  | cons x xs ih =>
    rw [List.flatMap_cons, List.length_append, same, ih, List.length_cons, Nat.mul_succ]
    omega

theorem groupBytes_length (g : GroupRecord) : (groupBytes g).length = 48 := (groupBytes_fields g).1

section Copy

variable {i : Image} (labels : ∀ d : DoorId, i.doors[d].label.length ≤ 16)

include labels

theorem imageBytes_length : (imageBytes i).length = 720 := by
  unfold imageBytes
  rw [List.length_append, groupBytes_length, length_flatMap_of_length _ 28 fun d => doorBytes_length d (labels d), List.length_finRange]

theorem storedDoor_imageBytes (d : DoorId) : storedDoor (imageBytes i) d = doorBytes d i.doors[d] := by
  unfold storedDoor imageBytes
  rw [← List.drop_drop, List.drop_left' (groupBytes_length i.group),
    drop_flatMap_of_length _ 28 fun d => doorBytes_length d (labels d)]
  have door : d.val < (List.finRange 24).length := by
    rw [List.length_finRange]
    exact d.isLt
  rw [List.drop_eq_getElem_cons door, List.flatMap_cons, List.getElem_finRange]
  exact List.take_left' (doorBytes_length _ (labels _))

end Copy

theorem take_imageBytes (i : Image) : (imageBytes i).take 48 = groupBytes i.group :=
  List.take_left' (groupBytes_length i.group)

/-! ### Validity -/

theorem commitFailure_eq_none_iff (i : Image) :
    commitFailure i = none ↔
      (∀ d : DoorId, i.doors[d].present = true → i.doors[d].demand ≤ i.group.normalCapacity[i.doors[d].hpu]) ∧
      ∀ h : HpuId, i.group.emergencyCapacity[h] ≤ i.group.normalCapacity[h] := by
  have doors : (List.finRange 24).find? (fun d => i.doors[d].present && i.group.normalCapacity[i.doors[d].hpu] < i.doors[d].demand) = none ↔
      ∀ d : DoorId, i.doors[d].present = true → i.doors[d].demand ≤ i.group.normalCapacity[i.doors[d].hpu] := by
    simp [List.find?_eq_none]
  have hpus : (List.finRange 4).find? (fun h => i.group.normalCapacity[h] < i.group.emergencyCapacity[h]) = none ↔
      ∀ h : HpuId, i.group.emergencyCapacity[h] ≤ i.group.normalCapacity[h] := by
    simp [List.find?_eq_none]
  rw [← doors, ← hpus]
  unfold commitFailure
  split
  case h_1 d exceeds => exact ⟨nofun, fun ⟨within, _⟩ => absurd (exceeds.symm.trans within) nofun⟩
  case h_2 within =>
    split
    case h_1 h exceeds => exact ⟨nofun, fun ⟨_, within⟩ => absurd (exceeds.symm.trans within) nofun⟩
    case h_2 within' => exact ⟨fun _ => ⟨within, within'⟩, fun _ => rfl⟩

theorem Image.valid_iff (i : Image) :
    i.valid ↔ i.group.inRange ∧ (∀ d : DoorId, i.doors[d].inRange) ∧ commitFailure i = none := by
  rw [commitFailure_eq_none_iff]
  rfl

theorem toNat_le (b : Byte) : b.toNat ≤ 255 := Nat.le_of_lt_succ b.isLt

theorem nat2_le (x y : Byte) : nat2 x y ≤ 65535 := by
  have hx := toNat_le x
  have hy := toNat_le y
  unfold nat2
  omega

theorem groupOf_inRange {b : List Byte} (kept : (groupOf b).clamped = groupOf b) : (groupOf b).inRange := by
  obtain ⟨warning, ⟨dwell, dwell'⟩, ⟨settle, settle'⟩, ⟨edge, edge'⟩, normal, emergency, ends, handles, edges, lines⟩ :=
    (GroupRecord.clamped_eq_iff _).mp kept
  exact ⟨warning, dwell, dwell', toNat_le _, settle, settle', edge, edge', toNat_le _, fun h => ⟨normal h, emergency h⟩,
    nat2_le _ _, nat2_le _ _, nat2_le _ _, nat2_le _ _, nat2_le _ _, nat2_le _ _, nat2_le _ _,
    (FilterTimes.clamped_eq_iff _).mp ends, (FilterTimes.clamped_eq_iff _).mp handles, (FilterTimes.clamped_eq_iff _).mp edges,
    (FilterTimes.clamped_eq_iff _).mp lines⟩

theorem GroupRecord.clamped_of_inRange {g : GroupRecord} (h : g.inRange) : g.clamped = g := by
  obtain ⟨warning, dwell, dwell', -, settle, settle', edge, edge', -, capacities, -, -, -, -, -, -, -, ends, handles, edges, lines⟩ := h
  exact (GroupRecord.clamped_eq_iff g).mpr ⟨warning, ⟨dwell, dwell'⟩, ⟨settle, settle'⟩, ⟨edge, edge'⟩, fun h => (capacities h).1,
    fun h => (capacities h).2, (FilterTimes.clamped_eq_iff _).mpr ends, (FilterTimes.clamped_eq_iff _).mpr handles,
    (FilterTimes.clamped_eq_iff _).mpr edges, (FilterTimes.clamped_eq_iff _).mpr lines⟩

theorem DoorRecord.clamped_of_inRange {r : DoorRecord} (h : r.inRange) : r.clamped = r := by
  obtain ⟨demand, demand', close, close', opening, opening', margin, -, -⟩ := h
  exact (DoorRecord.clamped_eq_iff r).mpr ⟨⟨demand, demand'⟩, ⟨close, close'⟩, ⟨opening, opening'⟩, margin⟩

theorem doorOf_inRange {b : List Byte} (allowed : doorChecked b = true) (kept : (doorOf b).clamped = doorOf b) :
    (doorOf b).inRange := by
  simp only [doorChecked, Bool.and_eq_true, decide_eq_true_eq, List.all_eq_true] at allowed
  obtain ⟨⟨-, short⟩, printed⟩ := allowed
  obtain ⟨⟨demand, demand'⟩, ⟨close, close'⟩, ⟨opening, opening'⟩, margin⟩ := (DoorRecord.clamped_eq_iff _).mp kept
  exact ⟨demand, demand', close, close', opening, opening', margin, (List.length_take_le _ _).trans short,
    fun c member => (printable_iff c).mp (printed c member)⟩

/-! ### The power-on checks -/

theorem storedPasses_iff (bs : List Byte) (check : BitVec 16) :
    storedPasses bs check = true ↔
      bs.length = 720 ∧ crc bs = check ∧ groupChecked (bs.take 48) = true ∧
      (groupOf (bs.take 48)).clamped = groupOf (bs.take 48) ∧
      (∀ d : DoorId, doorChecked (storedDoor bs d) = true ∧ doorIndexOf (storedDoor bs d) = d ∧
        (doorOf (storedDoor bs d)).clamped = doorOf (storedDoor bs d)) ∧
      commitFailure (storedImage bs) = none := by
  simp only [storedPasses, Bool.and_eq_true, beq_iff_eq, decide_eq_true_eq, List.all_eq_true, List.mem_finRange, forall_const,
    Option.isNone_iff_eq_none, and_assoc]

theorem storedImage_door (bs : List Byte) (d : DoorId) : (storedImage bs).doors[d] = doorOf (storedDoor bs d) := by
  show (Vector.ofFn fun d : DoorId => doorOf (storedDoor bs d))[d.val] = _
  rw [Vector.getElem_ofFn]

/-- A copy that passes spells a valid image (R160). -/
theorem storedImage_valid {bs : List Byte} {check : BitVec 16} (passes : storedPasses bs check = true) : (storedImage bs).valid := by
  obtain ⟨-, -, -, group, doors, fits⟩ := (storedPasses_iff bs check).mp passes
  have within (d : DoorId) : (storedImage bs).doors[d].inRange := by
    rw [storedImage_door]
    obtain ⟨allowed, -, kept⟩ := doors d
    exact doorOf_inRange allowed kept
  have group' : (storedImage bs).group.inRange := groupOf_inRange group
  exact (Image.valid_iff _).mpr ⟨group', within, fits⟩

theorem Image.label_le {i : Image} (h : i.valid) (d : DoorId) : i.doors[d].label.length ≤ 16 := by
  obtain ⟨-, doors, -⟩ := h
  obtain ⟨-, -, -, -, -, -, -, short, -⟩ := doors d
  exact short

/-- The copy of a valid image spells that image. -/
theorem storedImage_imageBytes {i : Image} (h : i.valid) : storedImage (imageBytes i) = i := by
  have labels := Image.label_le h
  obtain ⟨group, doors, -, -⟩ := h
  refine (Image.mk.injEq ..).mpr ⟨?_, Vector.ext fun k hk => ?_⟩
  · rw [take_imageBytes]
    exact groupOf_groupBytes group
  · rw [Vector.getElem_ofFn, storedDoor_imageBytes labels ⟨k, hk⟩]
    exact doorOf_doorBytes ⟨k, hk⟩ (doors ⟨k, hk⟩)

/-- The copy of a valid image passes the power-on checks (R160). -/
theorem storedPasses_imageBytes {i : Image} (h : i.valid) : storedPasses (imageBytes i) (crc (imageBytes i)) = true := by
  have labels := Image.label_le h
  have same := storedImage_imageBytes h
  obtain ⟨group, doors, demands, capacities⟩ := h
  refine (storedPasses_iff _ _).mpr ⟨imageBytes_length labels, rfl, ?_, ?_, fun d => ?_, ?_⟩
  · rw [take_imageBytes]
    obtain ⟨-, mode, -, -, -, -, -, onLoss, -, -, -, -, -, -, -, -, -, ⟨small1, -⟩, ⟨small2, -⟩, ⟨small3, -⟩, -⟩ := groupBytes_fields i.group
    refine (groupChecked_iff _).mpr ⟨mode.trans_le ?_, onLoss.trans_le ?_, small1, small2, small3⟩
    · cases i.group.startMode <;> decide
    · cases i.group.closeOnLoss <;> decide
  · rw [take_imageBytes, groupOf_groupBytes group]
    exact GroupRecord.clamped_of_inRange group
  · rw [storedDoor_imageBytes labels, doorOf_doorBytes d (doors d)]
    exact ⟨doorChecked_doorBytes d (doors d), doorIndexOf_doorBytes d (labels d), DoorRecord.clamped_of_inRange (doors d)⟩
  · rw [same]
    exact (commitFailure_eq_none_iff i).mpr ⟨demands, capacities⟩

/-- The copy that an interrupted write leaves does not pass (R159). -/
theorem leftByLoss_fails (n : Nat) : storedPasses (leftByLoss n).bytes (leftByLoss n).check = false := by
  refine Bool.eq_false_iff.mpr fun passes => ?_
  obtain ⟨-, agrees, -⟩ := (storedPasses_iff _ _).mp passes
  have different (x y : BitVec 16) : (if x = y then x + 1 else x) ≠ y := by
    split
    case isTrue same => rw [same]; exact fun h => by bv_omega
    case isFalse other => exact other
  exact different _ _ agrees.symm

/-! ### Power-on -/

theorem strapsGood_iff (s : Straps) :
    strapsGood s = true ↔
      ((List.finRange 5).countP fun k => s.address.getLsbD k.val) % 2 ≠ (if s.parity then 1 else 0) ∧
      s.address ≠ 0 ∧ s.address ≠ 31 := by
  have odd : parityOdd s = true ↔
      ((List.finRange 5).countP fun k => s.address.getLsbD k.val) % 2 ≠ (if s.parity then 1 else 0) := by
    have same : (List.finRange 5).countP (fun k => s.address.getLsbD k.val) = (List.range 5).countP fun i => s.address.getLsbD i := by
      rw [← List.map_coe_finRange_eq_range, List.countP_map]
      rfl
    rw [same, parityOdd, beq_iff_eq]
    split <;> omega
  simp only [strapsGood, Bool.and_eq_true, bne_iff_ne, odd, and_assoc]

theorem State.poweredUp_filter (channels : Vector Channel 24) (lines : GroupLines) (straps : Straps) (stored : Stored)
    (pending : List Instr) (n : Nat) (s : State) (wires : s.channels = channels) (group : s.lines = lines) (i : InputId) :
    (State.poweredUp channels lines straps stored pending n).filter i =
      .atPowerOn (inputTimes (Store.atPowerOn stored).active.group i) (s.filter i).millivolts := by
  subst wires group
  cases i with
  | door d k =>
    have channel : (State.poweredUp s.channels s.lines straps stored pending n).channel d =
        s.channels[d].atPowerOn (Store.atPowerOn stored).active.group := Vector.getElem_ofFn _
    show Channel.filter _ k = _
    rw [channel]
    cases k <;> rfl
  | emergency => rfl
  | mainSupply => rfl
  | pressure h => exact Vector.getElem_ofFn _
  | resetPin => rfl

end Sys2Proof.Machine

/-! Power-on (R48, R86, R106, R120, R140, R160, R165, R178, R179). -/

namespace Sys2Proof.Machine

open Sys2Proof

/-- The copy that non-volatile memory holds when supply is applied again (R159, R160). -/
def State.copyAtPowerOn (s : State) : Stored := if s.store.writing then leftByLoss s.freeDraws else s.store.stored

theorem State.powerOn_eq (s : State) :
    ∃ n, s.powerOn = .poweredUp s.channels s.lines s.straps s.copyAtPowerOn s.pending n := by
  unfold State.powerOn State.copyAtPowerOn
  cases s.store.writing
  · exact ⟨_, rfl⟩
  · exact ⟨_, rfl⟩

theorem Stored.parts {c : Stored} {bytes : List Byte} {check : BitVec 16} (same : c = ⟨bytes, check⟩) :
    c.bytes = bytes ∧ c.check = check := by
  rw [same]
  exact ⟨rfl, rfl⟩

theorem Store.atPowerOn_passing {c : Stored} (passes : storedPasses c.bytes c.check = true) :
    (Store.atPowerOn c).defaultLoaded = false ∧ (Store.atPowerOn c).active = storedImage c.bytes := by
  unfold Store.atPowerOn
  rw [passes]
  exact ⟨rfl, rfl⟩

theorem Store.atPowerOn_failing {c : Stored} (fails : storedPasses c.bytes c.check = false) :
    (Store.atPowerOn c).defaultLoaded = true ∧ (Store.atPowerOn c).active = Image.standard := by
  unfold Store.atPowerOn
  rw [fails]
  exact ⟨rfl, rfl⟩

theorem standingAtPowerOn_eq (i : Image) (d : DoorId) :
    standingAtPowerOn i d = if i.doors[d].present && i.group.startMode == .closed then .central else .none := by
  unfold standingAtPowerOn
  cases i.doors[d].present <;> cases i.group.startMode <;> rfl

section PoweredUp

variable (channels : Vector Channel 24) (lines : GroupLines) (straps : Straps) (stored : Stored) (pending : List Instr) (n : Nat)

theorem State.poweredUp_pending : (State.poweredUp channels lines straps stored pending n).pending = pending := rfl

theorem State.poweredUp_straps : (State.poweredUp channels lines straps stored pending n).straps = straps := rfl

theorem State.poweredUp_stored : (State.poweredUp channels lines straps stored pending n).store.stored = stored := rfl

theorem State.poweredUp_image :
    (State.poweredUp channels lines straps stored pending n).image = (Store.atPowerOn stored).active := rfl

theorem State.poweredUp_door (d : DoorId) {t : State} (is : t = .poweredUp channels lines straps stored pending n) :
    t.door d = .atPowerOn t.image.doors[d]
      (if t.image.doors[d].present && t.image.group.startMode == .closed then .central else .none) := by
  rw [← standingAtPowerOn_eq, is]
  exact Vector.getElem_ofFn _

theorem State.poweredUp_channel (d : DoorId) :
    (State.poweredUp channels lines straps stored pending n).channel d =
      channels[d].atPowerOn (Store.atPowerOn stored).active.group :=
  Vector.getElem_ofFn _

theorem State.poweredUp_order (d : DoorId) {t : State} (is : t = .poweredUp channels lines straps stored pending n) :
    t.resolver.doors[d] = ⟨false, false, false,
      if t.image.doors[d].present && t.image.group.startMode == .closed then .central else .none⟩ := by
  rw [← standingAtPowerOn_eq, is]
  exact Vector.getElem_ofFn _

end PoweredUp

/-- Settles O45: the copy in non-volatile memory passes or fails its checks, and every other value is the one power-on gives its
block. -/
theorem powerOnLoads : Obligations.PowerOnLoads := by
  unfold Obligations.PowerOnLoads
  intro s
  obtain ⟨n, same⟩ := s.powerOn_eq
  have kept (idle : s.store.writing = false) : s.copyAtPowerOn = s.store.stored := if_neg (by rw [idle]; nofun)
  have lost (busy : s.store.writing = true) : s.copyAtPowerOn = leftByLoss s.freeDraws := if_pos busy
  have start : exec .powerOn s = .next (.poweredUp s.channels s.lines s.straps s.copyAtPowerOn s.pending n) := by
    rw [← same]
    rfl
  refine ⟨_, start, State.poweredUp_pending .., State.poweredUp_straps .., rfl, ?_⟩
  clear start same
  generalize s.copyAtPowerOn = c at kept lost ⊢
  refine ⟨fun idle => ?_, fun busy => ?_, fun loaded => ?_, rfl, rfl, rfl, fun i => ?_, fun d => ?_, rfl, rfl, rfl, fun h => ?_,
    rfl, rfl, rfl, rfl, rfl, rfl, rfl, ?_, rfl, rfl, rfl, rfl, rfl, rfl, ⟨rfl, rfl⟩, rfl⟩
  · obtain rfl := kept idle
    refine ⟨State.poweredUp_stored .., rfl, fun loaded => ?_, fun i valid copy => ?_⟩
    · have passes : storedPasses s.store.stored.bytes s.store.stored.check = true := by
        have passed : (!storedPasses s.store.stored.bytes s.store.stored.check) = false := loaded
        rwa [Bool.not_eq_false'] at passed
      have image : (Store.atPowerOn s.store.stored).active = storedImage s.store.stored.bytes := (Store.atPowerOn_passing passes).2
      obtain ⟨-, agrees, -⟩ := (storedPasses_iff _ _).mp passes
      refine ⟨image, agrees.symm, ?_⟩
      show Image.valid (Store.atPowerOn s.store.stored).active
      rw [image]
      exact storedImage_valid passes
    · obtain ⟨bytes, check⟩ := Stored.parts copy
      have passes : storedPasses s.store.stored.bytes s.store.stored.check = true := by
        rw [bytes, check]
        exact storedPasses_imageBytes valid
      obtain ⟨loaded, image⟩ := Store.atPowerOn_passing passes
      refine ⟨loaded, image.trans ?_⟩
      rw [bytes]
      exact storedImage_imageBytes valid
  · obtain rfl := lost busy
    exact (Store.atPowerOn_failing (leftByLoss_fails s.freeDraws)).1
  · refine (Store.atPowerOn_failing (c := c) ?_).2
    have failed : (!storedPasses c.bytes c.check) = true := loaded
    rwa [Bool.not_eq_true'] at failed
  · intro raw
    rw [State.poweredUp_image]
    exact State.poweredUp_filter s.channels s.lines s.straps c s.pending n s rfl rfl i
  · have channel := State.poweredUp_channel s.channels s.lines s.straps c s.pending n d
    refine ⟨State.poweredUp_door _ _ _ _ _ _ d rfl, (congrArg Channel.openValve channel :), (congrArg Channel.closeValve channel :),
      (congrArg Channel.warning channel :), State.poweredUp_order _ _ _ _ _ _ d rfl, Vector.getElem_replicate _,
      Vector.getElem_replicate _, Vector.getElem_replicate _⟩
  · exact Vector.getElem_replicate _
  · have good := strapsGood_iff s.straps
    refine ⟨fun usable => ?_, fun unusable => ?_⟩
    · have is := good.mpr usable
      exact ⟨if_pos is, congrArg (!·) is⟩
    · have isNot : strapsGood s.straps = false := Bool.eq_false_iff.mpr fun is => unusable (good.mp is)
      exact ⟨if_neg (Bool.eq_false_iff.mp isNot), congrArg (!·) isNot⟩

end Sys2Proof.Machine

/-! Parts of the reply layouts: the check, the head, bit fields, and runs of equal blocks (R136, R147, R164, R168, R174). -/

namespace Sys2Proof.Machine

open Sys2Proof

/-! ### Fields of one, two and four bytes -/

theorem one_of {b : List Byte} {k n : Nat} (same : byteAt b k = byteOf n) : (byteAt b k).toNat = n % 256 :=
  (congrArg BitVec.toNat same).trans (toNat_byteOf n)

theorem one_of_lt {b : List Byte} {k n : Nat} (same : byteAt b k = byteOf n) (small : n < 256) : (byteAt b k).toNat = n :=
  (one_of same).trans (Nat.mod_eq_of_lt small)

theorem two_of {b : List Byte} {k n : Nat} (high : byteAt b k = byteOf (n / 256)) (low : byteAt b (k + 1) = byteOf n) :
    (byteAt b k).toNat * 256 + (byteAt b (k + 1)).toNat = n % 65536 := by
  rw [← nat2_bytes2, ← high, ← low]
  rfl

theorem two_crcBytes (c : BitVec 16) : (c.extractLsb' 8 8).toNat * 256 + (c.extractLsb' 0 8).toNat = c.toNat := by
  have small := c.isLt
  simp only [BitVec.extractLsb'_toNat, Nat.shiftRight_eq_div_pow]
  omega

theorem toNat_address (a : BitVec 5) : (a.setWidth 8).toNat = a.toNat := by
  have small := a.isLt
  rw [BitVec.toNat_setWidth]
  omega

theorem byteAt_append_left {b c : List Byte} {k : Nat} (inside : k < b.length) : byteAt (b ++ c) k = byteAt b k :=
  List.getD_append _ _ _ _ inside

theorem byteAt_append_right (b c : List Byte) (k : Nat) : byteAt (b ++ c) (b.length + k) = byteAt c k := by
  unfold byteAt
  rw [List.getD_append_right _ _ _ _ (Nat.le_add_right _ _), Nat.add_sub_cancel_left]

theorem byteAt_drop (b : List Byte) (j k : Nat) : byteAt (b.drop j) k = byteAt b (j + k) := by
  unfold byteAt
  rw [List.getD_eq_getElem?_getD, List.getD_eq_getElem?_getD, List.getElem?_drop]

/-- Block `k` of a run of blocks of one length. -/
theorem block_flatMap {α : Type} (f : α → List Byte) (n : Nat) (same : ∀ x, (f x).length = n) (l : List α) {k : Nat} {x : α}
    (block : l[k]? = some x) : ((l.flatMap f).drop (n * k)).take n = f x := by
  obtain ⟨bound, rfl⟩ := List.getElem?_eq_some_iff.mp block
  rw [drop_flatMap_of_length f n same, List.drop_eq_getElem_cons bound, List.flatMap_cons]
  exact List.take_left' (same _)

/-- The bytes of block `k` in a run of blocks of one length. -/
theorem byteAt_flatMap {α : Type} (f : α → List Byte) (n : Nat) (same : ∀ x, (f x).length = n) (l : List α) {k j : Nat} {x : α}
    (block : l[k]? = some x) (inside : j < n) : byteAt (l.flatMap f) (n * k + j) = byteAt (f x) j := by
  obtain ⟨bound, rfl⟩ := List.getElem?_eq_some_iff.mp block
  rw [← byteAt_drop, drop_flatMap_of_length f n same, List.drop_eq_getElem_cons bound, List.flatMap_cons]
  exact byteAt_append_left (by rwa [same])

/-! ### The check (R164) -/

theorem crcBit_eq (r : BitVec 16) (b : Bool) : crcBit r b = (r <<< 1) ^^^ (if r.msb = b then 0 else 0x1021) := by
  unfold crcBit
  by_cases same : r.msb = b
  · rw [if_neg (by rw [same, bne_self_eq_false]; nofun), if_pos same]
    exact BitVec.xor_zero.symm
  · rw [if_pos (bne_iff_ne.mpr same), if_neg same]

theorem crcByte_eq (r : BitVec 16) (c : Byte) :
    crcByte r c = (List.finRange 8).foldl
      (fun (x : BitVec 16) k => (x <<< 1) ^^^ (if x.msb = c.getLsbD (7 - k.val) then 0 else 0x1021)) r := by
  have places : [7, 6, 5, 4, 3, 2, 1, 0] = (List.finRange 8).map fun k => 7 - k.val := by decide
  unfold crcByte
  rw [places, List.foldl_map]
  simp only [crcBit_eq]

theorem crc_append (bs : List Byte) (c : Byte) : crc (bs ++ [c]) = crcByte (crc bs) c := by
  unfold crc
  rw [List.foldl_append]
  rfl

/-! ### Bit fields -/

theorem flagBit_bit (on : Bool) (bit i : Fin 8) : (flagBit on bit.val).getLsbD i.val = (on && decide (i = bit)) := by
  revert on bit i
  decide

/-- A byte of eight flags, read bit by bit. -/
theorem flagBits_bit (f : Fin 8 → Bool) (i : Fin 8) :
    (flagBit (f 0) 0 ||| flagBit (f 1) 1 ||| flagBit (f 2) 2 ||| flagBit (f 3) 3 ||| flagBit (f 4) 4 ||| flagBit (f 5) 5 |||
      flagBit (f 6) 6 ||| flagBit (f 7) 7).getLsbD i.val = f i := by
  have b0 : (flagBit (f 0) 0).getLsbD i.val = (f 0 && decide (i = 0)) := flagBit_bit (f 0) 0 i
  have b1 : (flagBit (f 1) 1).getLsbD i.val = (f 1 && decide (i = 1)) := flagBit_bit (f 1) 1 i
  have b2 : (flagBit (f 2) 2).getLsbD i.val = (f 2 && decide (i = 2)) := flagBit_bit (f 2) 2 i
  have b3 : (flagBit (f 3) 3).getLsbD i.val = (f 3 && decide (i = 3)) := flagBit_bit (f 3) 3 i
  have b4 : (flagBit (f 4) 4).getLsbD i.val = (f 4 && decide (i = 4)) := flagBit_bit (f 4) 4 i
  have b5 : (flagBit (f 5) 5).getLsbD i.val = (f 5 && decide (i = 5)) := flagBit_bit (f 5) 5 i
  have b6 : (flagBit (f 6) 6).getLsbD i.val = (f 6 && decide (i = 6)) := flagBit_bit (f 6) 6 i
  have b7 : (flagBit (f 7) 7).getLsbD i.val = (f 7 && decide (i = 7)) := flagBit_bit (f 7) 7 i
  simp only [BitVec.getLsbD_or, b0, b1, b2, b3, b4, b5, b6, b7]
  fin_cases i <;> simp

theorem attention_bits (s : State) :
    s.attention.getLsbD 0 = s.doorsChanged ∧ s.attention.getLsbD 1 = s.alarms.changed ∧
    s.attention.getLsbD 2 = s.port.restarted ∧ s.attention.getLsbD 3 = s.resolver.latch ∧
    s.attention.getLsbD 4 = s.port.remoteWasLost ∧ s.attention.getLsbD 5 = false ∧ s.attention.getLsbD 6 = false ∧
    s.attention.getLsbD 7 = false := by
  have bits (a b c d e : Bool) :
      let x : Byte := (if a then 1 else 0) ||| (if b then 2 else 0) ||| (if c then 4 else 0) ||| (if d then 8 else 0) |||
        (if e then 16 else 0)
      x.getLsbD 0 = a ∧ x.getLsbD 1 = b ∧ x.getLsbD 2 = c ∧ x.getLsbD 3 = d ∧ x.getLsbD 4 = e ∧ x.getLsbD 5 = false ∧
        x.getLsbD 6 = false ∧ x.getLsbD 7 = false := by
    revert a b c d e
    decide
  exact bits s.doorsChanged s.alarms.changed s.port.restarted s.resolver.latch s.port.remoteWasLost

theorem doorsChanged_eq (s : State) : s.doorsChanged = decide (∃ d : DoorId, (s.door d).changed = true) := by
  rw [State.doorsChanged, Bool.eq_iff_iff, List.any_eq_true, decide_eq_true_iff]
  exact ⟨fun ⟨d, _, changed⟩ => ⟨d, changed⟩, fun ⟨d, changed⟩ => ⟨d, mem_allDoors d, changed⟩⟩

/-! ### The zones (R149) -/

theorem State.zoneCode_eq (s : State) (z : ZoneId) :
    (zoneCode (s.zoneStatus z)).toNat =
      if ∀ d, ((s.door d).present && s.image.doors[d].zone == z) = false then 0
      else if ∀ d, ((s.door d).present && s.image.doors[d].zone == z) = true → (s.door d).motion = .isolated ∨
        indicated (s.door d) (s.channel d) = .closed ∧ (s.door d).faulted = false then 1
      else 2 := by
  have none : (s.zoneDoors z).isEmpty = true ↔ ∀ d, ((s.door d).present && s.image.doors[d].zone == z) = false := by
    rw [List.isEmpty_iff, State.zoneDoors, List.filter_eq_nil_iff]
    exact ⟨fun h d => Bool.eq_false_iff.mpr (h d (mem_allDoors d)), fun h d _ => Bool.eq_false_iff.mp (h d)⟩
  have all : (s.zoneDoors z).all (fun d => (s.door d).motion == .isolated ||
      (indicated (s.door d) (s.channel d) == .closed && !(s.door d).faulted)) = true ↔
      ∀ d, ((s.door d).present && s.image.doors[d].zone == z) = true → (s.door d).motion = .isolated ∨
        indicated (s.door d) (s.channel d) = .closed ∧ (s.door d).faulted = false := by
    rw [List.all_eq_true]
    simp only [State.zoneDoors, List.mem_filter, mem_allDoors, true_and, Bool.or_eq_true, Bool.and_eq_true, beq_iff_eq,
      Bool.not_eq_true']
  unfold State.zoneStatus
  by_cases empty : (s.zoneDoors z).isEmpty = true
  · rw [if_pos empty, if_pos (none.mp empty)]
    rfl
  · rw [if_neg empty, if_neg fun h => empty (none.mpr h)]
    by_cases secure : (s.zoneDoors z).all (fun d => (s.door d).motion == .isolated ||
        (indicated (s.door d) (s.channel d) == .closed && !(s.door d).faulted)) = true
    · rw [if_pos secure, if_pos (all.mp secure)]
      rfl
    · rw [if_neg secure, if_neg fun h => secure (all.mpr h)]
      rfl

theorem countP_allDoors_lt (p : DoorId → Bool) : allDoors.countP p < 256 := by
  have bound : allDoors.countP p ≤ allDoors.length := List.countP_le_length
  have length : allDoors.length = 24 := by decide
  omega

end Sys2Proof.Machine

/-! The reply layouts (R136, R147, R150, R152, R153, R164, R168 to R170, R174, R176). -/

namespace Sys2Proof.Machine

open Sys2Proof

/-- The head, the data and the check of a reply (R162, R164, R168). -/
theorem replyFrame_fields (address : BitVec 5) (kind : Byte) (reason : Option Reason) (attention : Byte) (data : List Byte) :
    let b := replyFrame address kind reason attention data
    let n := data.length
    let one := fun k : Nat => (byteAt b k).toNat
    b.length = n + 9 ∧ one 0 = 0xD5 ∧ one 1 = address.toNat ∧ one 2 = (kind.toNat + 128) % 256 ∧
    one 3 = (n + 3) % 256 ∧ one 4 = (if reason.isSome then 1 else 0) ∧
    one 5 = (match reason with
      | none => 0 | some .unknownKind => 1 | some .badLength => 2 | some .badValue => 3 | some .wrongState => 4
      | some .busy => 5 | some .notIsolated => 6 | some .lineActive => 7 | some .invalidConfig => 8) ∧
    byteAt b 6 = attention ∧ (b.drop 7).take n = data ∧
    one (n + 7) * 256 + one (n + 7 + 1) = (crc ((b.drop 1).take (n + 6))).toNat := by
  intro b n one
  have status : ∃ x y, statusBytes reason = [x, y] ∧ x.toNat = (if reason.isSome then 1 else 0) ∧ y.toNat = (match reason with
      | none => 0 | some .unknownKind => 1 | some .badLength => 2 | some .badValue => 3 | some .wrongState => 4
      | some .busy => 5 | some .notIsolated => 6 | some .lineActive => 7 | some .invalidConfig => 8) := by
    cases reason with
    | none => exact ⟨_, _, rfl, rfl, rfl⟩
    | some r => cases r <;> exact ⟨_, _, rfl, rfl, rfl⟩
  obtain ⟨x, y, head, code, reasons⟩ := status
  have length : (statusBytes reason ++ [attention] ++ data).length = n + 3 := by
    rw [head, List.length_append, Nat.add_comm]
    rfl
  obtain ⟨body, frame, layout⟩ : ∃ body, body = address.setWidth 8 :: (kind + 128) :: byteOf (n + 3) :: x :: y :: attention :: data ∧
      b = startByte :: (body ++ crcBytes (crc body)) := by
    refine ⟨_, rfl, ?_⟩
    show startByte :: _ = _
    rw [length, head]
    rfl
  have size : body.length = n + 6 := by
    rw [frame]
    rfl
  have checked : (b.drop 1).take (n + 6) = body := by
    rw [layout]
    exact List.take_left' size
  have front (k : Nat) (inside : k < n + 6) : byteAt b (k + 1) = byteAt body k := by
    rw [layout]
    exact byteAt_append_left (by rwa [size])
  have back (k : Nat) : byteAt b (n + 7 + k) = byteAt (crcBytes (crc body)) k := by
    have right := byteAt_append_right body (crcBytes (crc body)) k
    rw [size] at right
    rw [layout, ← right, show n + 7 + k = (n + 6 + k) + 1 by omega]
    rfl
  have field (k : Nat) (inside : k < n + 6) :
      one (k + 1) = (byteAt (address.setWidth 8 :: (kind + 128) :: byteOf (n + 3) :: x :: y :: attention :: data) k).toNat := by
    rw [← frame]
    exact congrArg BitVec.toNat (front k inside)
  refine ⟨?_, ?_, (field 0 (by omega)).trans (toNat_address address), (field 1 (by omega)).trans (BitVec.toNat_add kind 128),
    (field 2 (by omega)).trans (toNat_byteOf (n + 3)), (field 3 (by omega)).trans code, (field 4 (by omega)).trans reasons, ?_, ?_, ?_⟩
  · rw [layout, List.length_cons, List.length_append, size]
    rfl
  · show (byteAt b 0).toNat = _
    rw [layout]
    rfl
  · rw [front 5 (by omega), frame]
    rfl
  · rw [layout, frame]
    exact List.take_left' rfl
  · rw [checked]
    show (byteAt b (n + 7 + 0)).toNat * 256 + (byteAt b (n + 7 + 1)).toNat = _
    rw [back 0, back 1]
    exact two_crcBytes (crc body)

/-- The first 28 bytes of the group summary: the group, the HPUs and the counts of the motion states (R150, R174). -/
def State.summaryHead (s : State) : List Byte :=
  [modeCode s.resolver.mode, flagByte s.resolver.latch, flagByte s.lines.emergency.filtered, supplyCode s.lines.mainSupply] ++
  allHpus.flatMap (fun h =>
    let x := s.alloc.hpus[h]
    [byteOf x.capacity, byteOf x.inUse, byteOf (x.closeQueue.length + x.openQueue.length)]) ++
  [s.resolver.flood] ++ allMotions.map (fun m => byteOf (s.countIn m))

theorem State.groupSummary_eq (s : State) : s.groupSummary = s.summaryHead ++ (List.finRange 8).flatMap s.zoneBytes := rfl

theorem entryBytes_length (e : Entry) : (entryBytes e).length = 15 := by
  obtain ⟨x, y, subject, -⟩ := subject?_bytes e.subject
  unfold entryBytes
  rw [subject]
  rfl

theorem doorChecked_iff {b : List Byte} (size : b.length = 28) :
    doorChecked b = true ↔ (byteAt b 0).toNat < 24 ∧ (byteAt b 1).toNat ≤ 1 ∧ (byteAt b 2).toNat < 8 ∧ (byteAt b 3).toNat < 4 ∧
      (byteAt b 11).toNat ≤ 16 ∧ ∀ k : Fin 16, k.val < (byteAt b 11).toNat →
        0x20 ≤ (byteAt b (12 + k.val)).toNat ∧ (byteAt b (12 + k.val)).toNat ≤ 0x7E := by
  have label (n : Nat) (short : n ≤ 16) : (∀ c ∈ (b.drop 12).take n, printable c = true) ↔
      ∀ k : Fin 16, k.val < n → 0x20 ≤ (byteAt b (12 + k.val)).toNat ∧ (byteAt b (12 + k.val)).toNat ≤ 0x7E := by
    have place (k : Nat) (inside : k < 16) : b[12 + k]? = some (byteAt b (12 + k)) := by
      unfold byteAt
      rw [List.getD_eq_getElem _ _ (by omega), List.getElem?_eq_getElem (by omega)]
    constructor
    · intro printed k inside
      refine (printable_iff _).mp (printed _ (List.mem_of_getElem? (i := k.val) ?_))
      rw [List.getElem?_take_of_lt inside, List.getElem?_drop]
      exact place k.val k.isLt
    · intro printed c member
      obtain ⟨k, bound, rfl⟩ := List.mem_iff_getElem.mp member
      have inside : k < n := by
        rw [List.length_take] at bound
        omega
      have held := printed ⟨k, by omega⟩ inside
      rw [printable_iff]
      have same : ((b.drop 12).take n)[k] = byteAt b (12 + k) := by
        have found := place k (by omega)
        rw [← List.getElem?_drop, ← List.getElem?_take_of_lt inside, List.getElem?_eq_getElem bound] at found
        exact Option.some.inj found
      rw [same]
      exact held
  simp only [doorChecked, Bool.and_eq_true, decide_eq_true_eq, List.all_eq_true, and_assoc]
  refine and_congr_right' (and_congr_right' (and_congr_right' (and_congr_right' ?_)))
  exact and_congr_right fun short => label _ short

/-- Settles O47: byte by byte, each from the block of bytes it stands in. -/
theorem replyLayouts : Obligations.ReplyLayouts := by
  unfold Obligations.ReplyLayouts
  intro one two four flag motion authority kind
  have flags (x : Bool) : (flagByte x).toNat = flag x := toNat_flagByte x
  have motions (m : Motion) : (motionCode m).toNat = motion m := by cases m <;> rfl
  have authorities (a : MotionAuthority) : (authorityCode a).toNat = authority a := by cases a <;> rfl
  have directions (x : Dir) : (dirCode x).toNat = flag (x == .opn) := by cases x <;> rfl
  have doors (d : DoorId) : (byteOf d.val).toNat = d.val := byteOf_toNat (by have := d.isLt; omega)
  refine ⟨?_, ?_, ?_, ?_, ?_, ?_, ?_, ?_, ?_, ?_, ?_, ?_, ?_, ?_, ?_, ?_⟩
  · intro address kind reason attention data b n
    obtain ⟨length, start, station, code, size, status, why, flags, body, check⟩ := replyFrame_fields address kind reason attention data
    exact ⟨length, start, station, code, size, status, why, flags, body, check⟩
  · exact ⟨rfl, fun bs c => (crc_append bs c).trans (crcByte_eq _ c)⟩
  · intro s b
    obtain ⟨changed, rest⟩ := attention_bits s
    exact ⟨changed.trans (doorsChanged_eq s), rest⟩
  · intro d r c b here
    have bits := flagBits_bit ![here && r.faulted, here && r.transit, here && r.tight, r.changed, r.dir == .opn, here && r.held,
      here && r.drifted, here && c.warning]
    have nibbles (here : Bool) (x : Standing) (a : MotionAuthority) :
        let y := (if here then standingCode x <<< 4 else 0) ||| authorityCode a
        y.toNat / 16 = (if here then (match x with | .none => 0 | .remote => 1 | .central => 2 | .emergency => 3) else 0) ∧
        y.toNat % 16 = authority a := by
      cases here <;> cases x <;> cases a <;> exact ⟨rfl, rfl⟩
    refine ⟨rfl, doors d, ?_, motions r.motion, (nibbles here r.standing r.authority).1, (nibbles here r.standing r.authority).2,
      bits 0, bits 1, bits 2, bits 3, bits 4, bits 5, bits 6, bits 7, two_of rfl rfl, two_of rfl rfl⟩
    show (indicatedCode (indicated r c)).toNat = _
    cases indicated r c <;> rfl
  · intro e b
    obtain ⟨x, y, subject, -⟩ := subject?_bytes e.subject
    have layout : b = byteOf (alarmCode e.kind) :: x :: y ::
        ([entryStateCode e.state, flagByte e.kind.latched, flagByte e.annunciated, byteOf e.count] ++ bytes4 e.first ++ bytes4 e.last) := by
      show byteOf _ :: (subjectBytes e.subject ++ _) ++ _ ++ _ = _
      rw [subject]
      rfl
    clear_value b
    subst layout
    have latched : flag e.kind.latched = flag (1 ≤ kind e.kind ∧ kind e.kind ≤ 4 ∨ 19 ≤ kind e.kind : Bool) := by
      cases e.kind <;> rfl
    refine ⟨rfl, ?_, ?_, ?_, (flags e.kind.latched).trans latched, flags e.annunciated, toNat_byteOf e.count,
      nat4_bytes4 e.first, nat4_bytes4 e.last⟩
    · show (byteOf (alarmCode e.kind)).toNat = kind e.kind
      cases e.kind <;> rfl
    · show (x.toNat, y.toNat) = _
      cases held : e.subject with
      | group => rw [held] at subject; cases subject; rfl
      | door d => rw [held] at subject; cases subject; exact congrArg (Prod.mk 1) (doors d)
      | hpu h =>
        rw [held] at subject
        cases subject
        exact congrArg (Prod.mk 2) (byteOf_toNat (by have := h.isLt; omega))
      | line l => rw [held] at subject; cases l <;> cases subject <;> rfl
    · show (entryStateCode e.state).toNat = _
      cases e.state <;> rfl
  · intro s b
    have zones (z : ZoneId) (k : Nat) (inside : k < 4) : byteAt b (28 + 4 * z.val + k) = byteAt (s.zoneBytes z) k := by
      rw [show b = _ from State.groupSummary_eq s, Nat.add_assoc]
      have block : (List.finRange 8)[z.val]? = some z := by
        rw [List.getElem?_eq_getElem (by rw [List.length_finRange]; exact z.isLt), List.getElem_finRange]
        rfl
      refine (byteAt_append_right (s.summaryHead) _ _).trans (byteAt_flatMap s.zoneBytes 4 (fun _ => rfl) _ block inside)
    refine ⟨?_, ?_, flags s.resolver.latch, flags s.lines.emergency.filtered, ?_, fun h => ?_, rfl, fun m => ?_, fun z => ?_⟩
    · rw [show b = _ from State.groupSummary_eq s, List.length_append, length_flatMap_of_length s.zoneBytes 4 fun _ => rfl,
        List.length_finRange]
      rfl
    · show (modeCode s.resolver.mode).toNat = _
      cases s.resolver.mode <;> rfl
    · show (supplyCode s.lines.mainSupply).toNat = _
      unfold supplyCode
      split
      · rfl
      · split <;> rfl
    · fin_cases h <;> exact ⟨one_of rfl, one_of rfl, one_of rfl⟩
    · have count : one b (17 + motion m) = s.countIn m % 256 := by
        cases m <;> exact one_of rfl
      rw [count]
      exact Nat.mod_eq_of_lt (countP_allDoors_lt _)
    · have small (p : DoorId → Bool) : allDoors.countP p < 256 := countP_allDoors_lt p
      have inZone (p : DoorId → Bool) : ((s.zoneDoors z).countP p) =
          allDoors.countP fun d => ((s.door d).present && s.image.doors[d].zone == z) && p d := by
        rw [State.zoneDoors, List.countP_filter]
        exact List.countP_congr fun d _ => by rw [Bool.and_comm]
      refine ⟨(congrArg BitVec.toNat (zones z 0 (by decide))).trans (s.zoneCode_eq z), ?_, ?_, ?_⟩
      · refine (one_of_lt (n := (s.zoneDoors z).length) ?_ ?_).trans ?_
        · rw [show 29 + 4 * z.val = 28 + 4 * z.val + 1 by omega, zones z 1 (by decide)]
          rfl
        · rw [State.zoneDoors, ← List.countP_eq_length_filter]
          exact small _
        · rw [State.zoneDoors, ← List.countP_eq_length_filter]
      · refine (one_of_lt (n := (s.zoneDoors z).countP fun d => (s.door d).motion == .isolated) ?_ ?_).trans (inZone _)
        · rw [show 30 + 4 * z.val = 28 + 4 * z.val + 2 by omega, zones z 2 (by decide)]
          rfl
        · rw [inZone]
          exact small _
      · refine (one_of_lt (n := (s.zoneDoors z).countP fun d => (s.door d).faulted) ?_ ?_).trans (inZone _)
        · rw [show 31 + 4 * z.val = 28 + 4 * z.val + 3 by omega, zones z 3 (by decide)]
          rfl
        · rw [inZone]
          exact small _
  · intro p b
    refine ⟨rfl, rfl, rfl, rfl, toNat_address p.address, flags p.fallback, flags p.fastRate, ?_, flags p.restarted⟩
    show (causeCode p.cause).toNat = _
    cases p.cause <;> rfl
  · intro d
    refine ⟨rfl, fun c => ?_⟩
    intro b
    refine ⟨rfl, doors d, rfl, ?_, motions c.data.motion, directions c.data.dir, two_of rfl rfl, two_of rfl rfl,
      authorities c.data.authority, nat4_bytes4 c.time, ?_⟩
    · show (BitVec.toNat (match c.kind with | .driveFault => (1 : Byte) | .switchConflict => 2 | .overtravel => 3 | .switchSequence => 4)) = _
      cases c.kind <;> rfl
    · have small := c.alsoSeen.isLt
      show (c.alsoSeen.setWidth 8).toNat = _
      rw [BitVec.toNat_setWidth]
      omega
  · refine ⟨rfl, fun c => ?_⟩
    intro b
    refine ⟨rfl, rfl, doors c.door, ?_, flags c.expected, nat4_bytes4 c.time⟩
    show (BitVec.toNat (match c.valve with | .opn => (0 : Byte) | .cls => 1)) = _
    cases c.valve <;> rfl
  · intro d r x w b held stroke
    have layout : b = byteOf d.val :: (wearBytes (if r.present then w else .zero) ++
        (bytes2 r.learnedClose ++ bytes2 r.learnedOpen ++ bytes2 x.nominalClose ++ bytes2 x.nominalOpen ++
          (lastStrokeBytes stroke ++ [testCode r.testResult]))) := by
      simp [b, stroke, maintBytes]
    have counted (f : Wear → Nat) (zero : f .zero = 0) : f (if r.present then w else .zero) % 65536 = held (f w) := by
      show _ = if r.present then f w % 65536 else 0
      cases r.present
      · rw [if_neg nofun, if_neg nofun, zero]
      · rw [if_pos rfl, if_pos rfl]
    have five : ∃ a b' c e f, lastStrokeBytes stroke = [a, b', c, e, f] ∧
        (stroke = none → a.toNat = 0 ∧ b'.toNat * 256 + c.toNat = 0 ∧ e.toNat = 0 ∧ f.toNat = 0) ∧
        (∀ y, stroke = some y → a.toNat = 1 ∧ b'.toNat * 256 + c.toNat = y.ticks % 65536 ∧ e.toNat = flag (y.dir == .opn) ∧
          f.toNat = flag (!y.accepted)) := by
      cases stroke with
      | none => exact ⟨_, _, _, _, _, rfl, fun _ => ⟨rfl, rfl, rfl, rfl⟩, nofun⟩
      | some y =>
        refine ⟨_, _, _, _, _, rfl, nofun, fun y' same => ?_⟩
        obtain rfl := Option.some.inj same
        exact ⟨rfl, nat2_bytes2 y.ticks, directions y.dir, flags (!y.accepted)⟩
    obtain ⟨a, b', c, e, f, spelled, absent, last⟩ := five
    rw [spelled] at layout
    generalize (if r.present then w else .zero : Wear) = counters at *
    clear_value b stroke
    subst layout
    refine ⟨rfl, doors d, (two_of rfl rfl).trans (counted (·.overtravel) rfl), (two_of rfl rfl).trans (counted (·.switch) rfl),
      (two_of rfl rfl).trans (counted (·.obstruction) rfl), (two_of rfl rfl).trans (counted (·.drift) rfl),
      (two_of rfl rfl).trans (counted (·.drive) rfl), two_of rfl rfl, two_of rfl rfl, two_of rfl rfl, two_of rfl rfl, absent, last, ?_⟩
    show (testCode r.testResult).toNat = _
    cases r.testResult <;> rfl
  · intro p b
    exact ⟨rfl, two_of rfl rfl, two_of rfl rfl, flags p.lineA.silent, two_of rfl rfl, two_of rfl rfl, flags p.lineB.silent,
      toNat_byteOf p.interval, toNat_address p.address, flags p.fallback, flags p.fastRate⟩
  · intro a start many low b n
    have page : (a.page start).length = n := by
      rw [AlarmList.page, List.length_take, List.length_drop]
    have layout : b = byteOf a.all.length :: byteOf start :: byteOf (a.page start).length :: (a.page start).flatMap entryBytes := rfl
    refine ⟨?_, byteOf_toNat (n := a.all.length) (by omega), byteOf_toNat (by omega), ?_, fun k inside e entry => ?_⟩
    · rw [layout, List.length_cons, List.length_cons, List.length_cons, length_flatMap_of_length entryBytes 15 entryBytes_length, page]
      omega
    · show (byteOf (a.page start).length).toNat = n
      rw [page]
      exact byteOf_toNat (by omega)
    · have block : (a.page start)[k.val]? = some e := by
        rw [AlarmList.page, List.getElem?_take_of_lt k.isLt, List.getElem?_drop]
        exact entry
      rw [layout, Nat.add_comm]
      exact block_flatMap entryBytes 15 entryBytes_length _ block
  · exact groupBytes_fields
  · intro b size g x within names times
    have moved (lo hi n : Nat) (order : lo ≤ hi) : clamp lo hi n = within lo hi n := clamp_eq lo hi n order
    have zero (k : Nat) : byteAt b k = 0 ↔ one b k = 0 := ⟨fun h => congrArg BitVec.toNat h, fun h => BitVec.eq_of_toNat_eq h⟩
    have filters (k : Nat) : times k ⟨one b k, one b (k + 1)⟩ (FilterTimes.clamped ⟨one b k, one b (k + 1)⟩) :=
      ⟨rfl, (FilterTimes.mk.injEq ..).mpr ⟨moved 1 255 _ (by decide), moved 1 255 _ (by decide)⟩⟩
    have kinds (k : Nat) : names k (kindSetOf (byteAt b k) (byteAt b (k + 1)) (byteAt b (k + 2))) := by
      intro n
      rw [kindSetOf_names]
      have place : n.val / 8 = 0 ∨ n.val / 8 = 1 ∨ n.val / 8 = 2 := by omega
      rcases place with e | e | e <;> rw [e] <;> rfl
    have capacity (v : Vector Nat 4) (h : HpuId) : (Vector.ofFn fun h : HpuId => clamp 0 31 v[h])[h] = within 0 31 v[h] := by
      rw [Fin.getElem_fin, Vector.getElem_ofFn]
      exact moved 0 31 _ (by decide)
    have normal (h : HpuId) : g.normalCapacity[h] = one b (9 + 2 * h.val) := by fin_cases h <;> rfl
    have emergency (h : HpuId) : g.emergencyCapacity[h] = one b (10 + 2 * h.val) := by fin_cases h <;> rfl
    refine ⟨groupChecked_iff b, ?_, rfl, rfl, moved 0 100 _ (by decide), rfl, moved 10 300 _ (by decide), rfl, rfl,
      rfl, moved 2 50 _ (by decide), rfl, moved 5 100 _ (by decide), ?_, rfl, rfl, rfl,
      fun h => ⟨normal h, (capacity _ h).trans (congrArg _ (normal h)), emergency h, (capacity _ h).trans (congrArg _ (emergency h))⟩,
      rfl, rfl, rfl, rfl, rfl, rfl, kinds 31, kinds 34, kinds 37, rfl, rfl, rfl, filters 40, filters 42, filters 44, filters 46⟩
    · show (if byteAt b 0 = 0 then _ else _) = _
      simp only [zero 0]
    · show (byteAt b 7 != 0) = _
      rw [Bool.eq_iff_iff, bne_iff_ne, bne_iff_ne]
      exact not_congr (zero 7)
  · intro d r short
    exact doorBytes_fields d r short
  · intro b size r x within
    have moved (lo hi n : Nat) (order : lo ≤ hi) : clamp lo hi n = within lo hi n := clamp_eq lo hi n order
    refine ⟨doorChecked_iff size, fun allowed => ?_⟩
    obtain ⟨-, present, zone, hpu, -⟩ := (doorChecked_iff size).mp allowed
    refine ⟨?_, Nat.mod_eq_of_lt zone, Nat.mod_eq_of_lt hpu, rfl, moved 1 8 _ (by decide), rfl, moved 30 600 _ (by decide),
      rfl, moved 30 600 _ (by decide), rfl, moved 0 100 _ (by decide), rfl, rfl, rfl, rfl, rfl⟩
    have flag (y : Byte) (small : y.toNat ≤ 1) : (y != 0) = (y.toNat == 1) := by
      have two : y = 0 ∨ y = 1 := by
        rcases Nat.le_one_iff_eq_zero_or_eq_one.mp small with zero | one
        · exact .inl (BitVec.eq_of_toNat_eq zero)
        · exact .inr (BitVec.eq_of_toNat_eq one)
      rcases two with rfl | rfl <;> rfl
    exact flag _ present

end Sys2Proof.Machine

/-! How a completion goes: the messages that complete taken in the order in which they were made, the doors' reactions, and what
those make taken after them. -/

namespace Sys2Proof.Machine

open Sys2Proof

/-! ### Messages taken in a row -/

/-- Some messages taken, in the order of the list. -/
def State.takeAll (s : State) (ms : List Instr) : State := ms.foldl (fun s m => s.deliver m) s

theorem State.takeAll_nil (s : State) : s.takeAll [] = s := rfl

theorem State.takeAll_cons (s : State) (m : Instr) (ms : List Instr) : s.takeAll (m :: ms) = (s.deliver m).takeAll ms := rfl

theorem State.takeAll_append (s : State) (ms ns : List Instr) : s.takeAll (ms ++ ns) = (s.takeAll ms).takeAll ns :=
  List.foldl_append

theorem route?_isSome_of_completes {m : Instr} (h : completes m = true) : (route? m).isSome = true := by
  cases m <;> first | rfl | cases h

section
variable {s : State} {old : List Instr}

/-- Where nothing that completes has been made, a completion is over. -/
theorem State.completeFrom_quiet {mark : Nat} (quiet : ∀ m ∈ s.inFlight.drop mark, completes m = false) (fuel : Nat) :
    s.completeFrom fuel mark = s := by
  have none : s.owed mark = none := by
    unfold State.owed
    rw [List.find?_eq_none.mpr fun m hm => by rw [quiet m hm]; nofun]
  cases fuel with
  | zero => rfl
  | succ n => rw [State.completeFrom, none]

/-- The ways of some messages are free of others. -/
def WaysFree (others ms : List Instr) : Prop := ∀ m ∈ ms, completes m = true → ∀ x ∈ others, route? x ≠ route? m

/-- The messages that complete, taken in their order, where their ways hold no older message. -/
theorem State.completeFrom_batch (ms : List Instr) : ∀ (s : State) (pre later : List Instr) (fuel : Nat),
    WaysFree old ms → WaysFree pre ms → (∀ x ∈ pre, completes x = false) → (∀ x ∈ ms, completes x = false → WaysFree [x] ms) →
      s.inFlight = old ++ pre ++ ms ++ later →
      s.completeFrom ((ms.filter completes).length + fuel) old.length =
          (s.takeAll (ms.filter completes)).completeFrom fuel old.length ∧
        ∃ made, (s.takeAll (ms.filter completes)).inFlight = old ++ pre ++ ms.filter (!completes ·) ++ later ++ made := by
  induction ms with
  | nil =>
    intro s pre later fuel _ _ _ _ flight
    refine ⟨by rw [List.filter_nil, List.length_nil, Nat.zero_add]; rfl, [], ?_⟩
    rw [List.append_nil]
    exact flight
  | cons m ms ih =>
    intro s pre later fuel freeOld freePre others apart flight
    have tail {xs : List Instr} (free : WaysFree xs (m :: ms)) : WaysFree xs ms := fun x hx => free x (List.mem_cons_of_mem _ hx)
    have apart' (x : Instr) (hx : x ∈ ms) (quiet : completes x = false) : WaysFree [x] ms :=
      tail (apart x (List.mem_cons_of_mem _ hx) quiet)
    cases completing : completes m with
    | false =>
      rw [List.filter_cons_of_neg (by rw [completing]; nofun), List.filter_cons_of_pos (by rw [completing]; rfl)]
      have own := tail (apart m List.mem_cons_self completing)
      have free' : WaysFree (pre ++ [m]) ms := fun x hx c y hy => (List.mem_append.mp hy).elim (tail freePre x hx c y) (own x hx c y)
      have others' : ∀ x ∈ pre ++ [m], completes x = false := fun x hx => (List.mem_append.mp hx).elim (others x) fun one => by
        rw [List.mem_singleton.mp one, completing]
      have flight' : s.inFlight = old ++ (pre ++ [m]) ++ ms ++ later := by simp [flight]
      obtain ⟨run, made, eq⟩ := ih s (pre ++ [m]) later fuel (tail freeOld) free' others' apart' flight'
      exact ⟨run, made, by simp [eq]⟩
    | true =>
      rw [List.filter_cons_of_pos completing, List.filter_cons_of_neg (by rw [completing]; nofun), List.length_cons, State.takeAll_cons]
      have off : ∀ x ∈ old ++ pre, route? x ≠ route? m := fun x hx =>
        (List.mem_append.mp hx).elim (freeOld m List.mem_cons_self completing x) (freePre m List.mem_cons_self completing x)
      have absent : m ∉ old ++ pre := fun h => off m h rfl
      obtain ⟨made, eq, -⟩ := s.deliver_made m (route?_isSome_of_completes completing)
      have left : (s.deliver m).inFlight = old ++ pre ++ ms ++ (later ++ made) := by
        rw [eq, flight, List.append_assoc, List.erase_append_right _ absent, List.cons_append, List.erase_cons_head]
        simp
      obtain ⟨run, more, eq'⟩ := ih (s.deliver m) pre (later ++ made) fuel (tail freeOld) (tail freePre) others apart' left
      refine ⟨?_, made ++ more, by rw [eq']; simp⟩
      have next : s.inFlight = old ++ pre ++ m :: (ms ++ later) := by rw [flight]; simp
      rw [show (ms.filter completes).length + 1 + fuel = (ms.filter completes).length + fuel + 1 by omega,
        State.completeFrom_next _ next completing (fun x hx => off x (List.mem_append_left _ hx))
          fun x hx => ⟨others x hx, off x (List.mem_append_right _ hx)⟩]
      exact run

end

/-! ### Reports to the alarm list -/

theorem ToAlarms.alarmOf {m : Instr} : (alarmOf? m).isSome = true ↔ ToAlarms m := by
  cases m <;> simp [alarmOf?, ToAlarms]

/-! ### Reactions of different doors in a row -/

/-- What the door table does with a message that completes. -/
def reaction? : Instr → Option (DoorId × (Work → Work))
  | .standingAuthorityReport d a => some (d, fun w => w.order a)
  | .captureOccupiedNotice d => some (d, Work.occupied)
  | .captureEmptiedNotice d => some (d, Work.emptied)
  | _ => none

/-- Some doors have reacted, each once and from the state given; the alarm list and the messages on their way are said elsewhere. -/
structure Reacted (s t : State) (ds : List DoorId) (f : DoorId → Work → Work) : Prop where
  frame : DoorTableOnly s { t with alarms := s.alarms }
  hit : ∀ d ∈ ds, t.door d = (s.worked d (f d)).door ∧ t.channel d = (s.worked d (f d)).channel
  miss : ∀ d, d ∉ ds → t.door d = s.door d ∧ t.channel d = s.channel d

theorem State.worked_congr {s t : State} {d : DoorId} (image : t.image = s.image) (door : t.door d = s.door d)
    (channel : t.channel d = s.channel d) (f : Work → Work) : t.worked d f = s.worked d f := by
  unfold State.worked State.work
  rw [image, door, channel]

theorem State.deliver_reaction {s : State} {m : Instr} {d : DoorId} {f : Work → Work} (h : reaction? m = some (d, f)) :
    s.deliver m = (s.taking m).doorEvent (s.taking m) d f := by
  cases m <;> cases h <;> rfl

theorem State.deliver_reaction_inFlight {s : State} {m : Instr} {d : DoorId} {f : Work → Work} (h : reaction? m = some (d, f)) :
    (s.deliver m).inFlight = s.inFlight.erase m ++ (s.worked d f).out := by
  rw [State.deliver_reaction h]
  rfl

theorem completes_of_reaction {m : Instr} {d : DoorId} {f : Work → Work} (h : reaction? m = some (d, f)) : completes m = true := by
  cases m <;> first | rfl | cases h

theorem reaction_of_toAlarms {m : Instr} (h : ToAlarms m) : reaction? m = none := by
  cases m <;> first | rfl | cases h

theorem not_toAlarms_of_reaction {m : Instr} {x : DoorId × (Work → Work)} (h : reaction? m = some x) : ¬ToAlarms m := fun own => by
  rw [reaction_of_toAlarms own] at h
  cases h

/-- The doors that some messages reach. -/
def reached (ms : List Instr) : List DoorId := ms.filterMap fun m => (reaction? m).map Prod.fst

/-- Those of some messages that go to the alarm list. -/
def alarmsOf (ms : List Instr) : List Instr := ms.filter fun m => (alarmOf? m).isSome

theorem alarmsOf_append (ms ns : List Instr) : alarmsOf (ms ++ ns) = alarmsOf ms ++ alarmsOf ns := List.filter_append ..

theorem alarmsOf_cons_alarm {m : Instr} (own : ToAlarms m) (ms : List Instr) : alarmsOf (m :: ms) = m :: alarmsOf ms :=
  List.filter_cons_of_pos (ToAlarms.alarmOf.mpr own)

theorem alarmsOf_cons_other {m : Instr} (other : ¬ToAlarms m) (ms : List Instr) : alarmsOf (m :: ms) = alarmsOf ms :=
  List.filter_cons_of_neg fun h => other (ToAlarms.alarmOf.mp h)

theorem alarmsOf_self {ms : List Instr} (all : ∀ m ∈ ms, ToAlarms m) : alarmsOf ms = ms :=
  List.filter_eq_self.mpr fun m hm => ToAlarms.alarmOf.mpr (all m hm)

theorem alarmsOf_flatMap {α : Type} (f : α → List Instr) (xs : List α) : alarmsOf (xs.flatMap f) = xs.flatMap fun x => alarmsOf (f x) :=
  List.filter_flatMap ..

theorem reached_cons_alarm {m : Instr} (own : ToAlarms m) (ms : List Instr) : reached (m :: ms) = reached ms :=
  List.filterMap_cons_none (by rw [reaction_of_toAlarms own]; rfl)

theorem reached_cons_reaction {m : Instr} {d : DoorId} {f : Work → Work} (own : reaction? m = some (d, f)) (ms : List Instr) :
    reached (m :: ms) = d :: reached ms :=
  List.filterMap_cons_some (by rw [own]; rfl)

theorem reached_filter (ms : List Instr) : reached (ms.filter completes) = reached ms := by
  induction ms with
  | nil => rfl
  | cons m ms ih =>
    cases reacts : reaction? m with
    | none =>
      have none : reached (m :: ms) = reached ms := List.filterMap_cons_none (by rw [reacts]; rfl)
      rw [none, ← ih, List.filter_cons]
      split
      · exact List.filterMap_cons_none (by rw [reacts]; rfl)
      · rfl
    | some x => rw [List.filter_cons_of_pos (completes_of_reaction reacts), reached_cons_reaction reacts, reached_cons_reaction reacts, ih]

theorem State.deliver_worked {s : State} {m : Instr} {e : DoorId}
    (kind : ToAlarms m ∨ ∃ d g, reaction? m = some (d, g) ∧ e ≠ d) (g : Work → Work) : (s.deliver m).worked e g = s.worked e g := by
  rcases kind with own | ⟨d, f, own, other⟩
  · rw [State.deliver_alarm own]
    rfl
  · rw [State.deliver_reaction own]
    exact State.worked_doorEvent other f g _

/-- Reports to the alarm list and messages to different doors, taken in a row: each door reacts from the state as it was, and the
alarm list takes its reports in their order. -/
theorem State.takeAll_reactions (f : DoorId → Work → Work) (ms : List Instr) : ∀ s : State,
    (∀ m ∈ ms, ToAlarms m ∨ ∃ d, reaction? m = some (d, f d)) → (reached ms).Nodup →
      Reacted s (s.takeAll ms) (reached ms) f ∧ (s.takeAll ms).alarms = s.alarms.takeAll s.image s.time (alarmsOf ms) := by
  induction ms with
  | nil =>
    intro s _ _
    exact ⟨⟨⟨rfl, rfl, rfl, rfl, rfl, rfl, rfl, rfl, rfl, rfl, rfl⟩, nofun, fun _ _ => ⟨rfl, rfl⟩⟩, rfl⟩
  | cons m ms ih =>
    intro s kinds once
    have kinds' (x : Instr) (hx : x ∈ ms) := kinds x (List.mem_cons_of_mem _ hx)
    rw [State.takeAll_cons]
    rcases kinds m List.mem_cons_self with own | ⟨d, own⟩
    · rw [reached_cons_alarm own] at once ⊢
      obtain ⟨⟨frame, hit, miss⟩, alarms⟩ := ih (s.deliver m) kinds' once
      have worked (e : DoorId) := State.deliver_worked (s := s) (e := e) (.inl own)
      have step := State.deliver_alarm (s := s) own
      refine ⟨⟨?_, fun e he => ?_, fun e he => ?_⟩, ?_⟩
      · rw [step] at frame ⊢
        exact ⟨frame.lines, frame.straps, frame.resolver, frame.alloc, frame.recorder, rfl, frame.store, frame.port, frame.time,
          frame.pending, frame.freeDraws⟩
      · rw [← worked]
        exact hit e he
      · have kept := miss e he
        rw [step] at kept ⊢
        exact kept
      · rw [alarms, alarmsOf_cons_alarm own, AlarmList.takeAll_cons, step]
        rfl
    · rw [reached_cons_reaction own] at once ⊢
      obtain ⟨fresh, once⟩ := List.nodup_cons.mp once
      obtain ⟨⟨frame, hit, miss⟩, alarms⟩ := ih (s.deliver m) kinds' once
      have step := State.deliver_reaction (s := s) own
      have event := (s.taking m).doorEvent_onlyDoor (s.taking m) d (f d)
      rw [← step] at event
      have door : (s.deliver m).door d = (s.worked d (f d)).door := by
        rw [step]
        exact State.doorEvent_door _ _ _ _
      have channel : (s.deliver m).channel d = (s.worked d (f d)).channel := by
        rw [step]
        exact State.doorEvent_channel _ _ _ _
      refine ⟨⟨?_, fun e he => ?_, fun e he => ?_⟩, ?_⟩
      · exact ⟨frame.lines.trans event.lines, frame.straps.trans event.straps, frame.resolver.trans event.resolver,
          frame.alloc.trans event.alloc, frame.recorder.trans event.recorder, rfl, frame.store.trans event.store,
          frame.port.trans event.port, frame.time.trans event.time, frame.pending.trans event.pending,
          frame.freeDraws.trans event.freeDraws⟩
      · by_cases is : e = d
        · subst is
          obtain ⟨keptDoor, keptChannel⟩ := miss e fresh
          exact ⟨keptDoor.trans door, keptChannel.trans channel⟩
        · rw [← State.deliver_worked (s := s) (.inr ⟨d, _, own, is⟩)]
          exact hit e ((List.mem_cons.mp he).resolve_left is)
      · obtain ⟨other, out⟩ := not_or.mp fun h => he (List.mem_cons.mpr h)
        obtain ⟨keptDoor, keptChannel⟩ := miss e out
        exact ⟨keptDoor.trans (event.doors e other), keptChannel.trans (event.channels e other)⟩
      · rw [alarms, alarmsOf_cons_other (not_toAlarms_of_reaction own), event.toDoorTableOnly.image, event.alarms, event.time]
        rfl

/-- What is on its way when those of some messages that complete have been taken: the others, and behind all else what the doors have
made. -/
theorem State.takeAll_inFlight (f : DoorId → Work → Work) (ms : List Instr) : ∀ (s : State) (pre later : List Instr),
    (∀ m ∈ ms, completes m = true → m ∉ pre ∧ (ToAlarms m ∨ ∃ d, reaction? m = some (d, f d))) → (reached ms).Nodup →
      s.inFlight = pre ++ ms ++ later →
      (s.takeAll (ms.filter completes)).inFlight =
        pre ++ ms.filter (!completes ·) ++ later ++ (reached ms).flatMap fun d => (s.worked d (f d)).out := by
  induction ms with
  | nil =>
    intro s pre later _ _ flight
    rw [List.filter_nil, State.takeAll_nil, flight]
    exact (List.append_nil _).symm
  | cons m ms ih =>
    intro s pre later kinds once flight
    have kinds' (x : Instr) (hx : x ∈ ms) := kinds x (List.mem_cons_of_mem _ hx)
    cases completing : completes m with
    | false =>
      have unreached : reached (m :: ms) = reached ms := List.filterMap_cons_none (by
        cases reacts : reaction? m with
        | none => rfl
        | some x => rw [completes_of_reaction reacts] at completing; cases completing)
      rw [unreached] at once ⊢
      rw [List.filter_cons_of_neg (by rw [completing]; nofun), List.filter_cons_of_pos (by rw [completing]; rfl)]
      rw [ih s (pre ++ [m]) later (fun x hx c => ⟨fun h => ?_, (kinds' x hx c).2⟩) once (by simp [flight])]
      · simp
      · rcases List.mem_append.mp h with h | h
        · exact (kinds' x hx c).1 h
        · rw [List.mem_singleton.mp h, completing] at c
          cases c
    | true =>
      rw [List.filter_cons_of_pos completing, List.filter_cons_of_neg (by rw [completing]; nofun), State.takeAll_cons]
      obtain ⟨off, kind⟩ := kinds m List.mem_cons_self completing
      have erased : s.inFlight.erase m = pre ++ ms ++ later := by
        rw [flight, List.append_assoc, List.erase_append_right _ off, List.cons_append, List.erase_cons_head, List.append_assoc]
      rcases kind with own | ⟨d, own⟩
      · rw [reached_cons_alarm own] at once ⊢
        rw [ih (s.deliver m) pre later kinds' once (by rw [State.deliver_alarm own]; exact erased)]
        simp only [State.deliver_worked (s := s) (.inl own)]
      · rw [reached_cons_reaction own] at once ⊢
        obtain ⟨fresh, once⟩ := List.nodup_cons.mp once
        have others : (reached ms).flatMap (fun e => ((s.deliver m).worked e (f e)).out) =
            (reached ms).flatMap fun e => (s.worked e (f e)).out :=
          List.flatMap_congr fun e he => by rw [State.deliver_worked (.inr ⟨d, _, own, fun h => fresh (h ▸ he)⟩)]
        rw [ih (s.deliver m) pre (later ++ (s.worked d (f d)).out) kinds' once
            (by rw [State.deliver_reaction_inFlight own, erased, List.append_assoc]), others, List.flatMap_cons]
        simp only [List.append_assoc]

/-! ### A completion in two turns -/

theorem filter_completes_of_alarms {ms : List Instr} (alarms : ∀ m ∈ ms, completes m = true → ToAlarms m) :
    ms.filter completes = alarmsOf ms :=
  List.filter_congr fun m hm => Bool.eq_iff_iff.mpr
    ⟨fun h => ToAlarms.alarmOf.mpr (alarms m hm h), fun h => (ToAlarms.alarmOf.mp h).completes⟩

theorem reached_of_alarms {ms : List Instr} (alarms : ∀ m ∈ ms, ToAlarms m) : reached ms = [] :=
  List.filterMap_eq_nil_iff.mpr fun m hm => by rw [reaction_of_toAlarms (alarms m hm)]; rfl

theorem takeAll_alarms_toAlarms {ms : List Instr} {m : Instr} (h : m ∈ alarmsOf ms) : ToAlarms m :=
  ToAlarms.alarmOf.mp (List.mem_filter.mp h).2

theorem waysFree_of_alarms {others ms : List Instr} (quiet : ∀ x ∈ others, completes x = false)
    (alarms : ∀ m ∈ ms, completes m = true → ToAlarms m) : WaysFree others ms := fun m hm completing x hx => by
  obtain ⟨k, y, way⟩ := (alarms m hm completing).route
  rw [way]
  exact route_ne_alarm (quiet x hx) k y

theorem length_alarmsOf_le (ms : List Instr) : (alarmsOf ms).length ≤ load ms := by
  induction ms with
  | nil => exact Nat.le_refl 0
  | cons m ms ih =>
    have heavy : load (m :: ms) = weight m + load ms := rfl
    by_cases own : ToAlarms m
    · have pos := weight_pos own.completes
      rw [alarmsOf_cons_alarm own, List.length_cons]
      omega
    · rw [alarmsOf_cons_other own]
      omega

theorem load_flatMap_le {α : Type} (f : α → List Instr) (n : Nat) (xs : List α) (light : ∀ x ∈ xs, load (f x) ≤ n) :
    load (xs.flatMap f) ≤ n * xs.length := by
  induction xs with
  | nil => exact Nat.le_refl 0
  | cons x xs ih =>
    have first := light x List.mem_cons_self
    have rest := ih fun y hy => light y (List.mem_cons_of_mem _ hy)
    rw [List.flatMap_cons, load_append, List.length_cons, Nat.mul_succ]
    omega

theorem alarmsOf_filter (ms : List Instr) : alarmsOf (ms.filter completes) = alarmsOf ms := by
  rw [alarmsOf, List.filter_filter]
  refine List.filter_congr fun m _ => ?_
  cases own : (alarmOf? m).isSome with
  | false => rfl
  | true => rw [(ToAlarms.alarmOf.mp own).completes]; rfl

/-- What is left when a completion has taken reports to the alarm list and messages to different doors, and then the reports to the
alarm list that those doors make. -/
structure TakenInTwo (s t : State) (old ms : List Instr) (f : DoorId → Work → Work) : Prop where
  reacted : Reacted s t (reached ms) f
  alarms : t.alarms = s.alarms.takeAll s.image s.time
    (alarmsOf ms ++ (reached ms).flatMap fun d => alarmsOf (s.worked d (f d)).out)
  flight : t.inFlight = old ++ ms.filter (!completes ·) ++
    (reached ms).flatMap fun d => (s.worked d (f d)).out.filter (!completes ·)

/-- A completion in two turns. -/
theorem State.completeFrom_two (f : DoorId → Work → Work) {s : State} {old ms : List Instr} {fuel : Nat}
    (free : WaysFree old ms) (apart : ∀ x ∈ ms, completes x = false → WaysFree [x] ms)
    (kinds : ∀ m ∈ ms, completes m = true → ToAlarms m ∨ ∃ d, reaction? m = some (d, f d)) (once : (reached ms).Nodup)
    (second : ∀ d ∈ reached ms, ∀ m ∈ (s.worked d (f d)).out, completes m = true → ToAlarms m)
    (secondFree : ∀ d ∈ reached ms, WaysFree old (s.worked d (f d)).out) (flight : s.inFlight = old ++ ms)
    (enough : ms.length + load ((reached ms).flatMap fun d => (s.worked d (f d)).out) ≤ fuel) :
    TakenInTwo s (s.completeFrom fuel old.length) old ms f := by
  have absent {xs ys : List Instr} (free : WaysFree xs ys) {m : Instr} (hm : m ∈ ys) (c : completes m = true) : m ∉ xs :=
    fun h => free m hm c m h rfl
  generalize made : (reached ms).flatMap (fun d => (s.worked d (f d)).out) = out at enough
  have fewer := List.length_filter_le completes ms
  have light := length_alarmsOf_le out
  obtain ⟨n, rfl⟩ : ∃ n, fuel = (ms.filter completes).length + ((alarmsOf out).length + n) :=
    ⟨fuel - (ms.filter completes).length - (alarmsOf out).length, by omega⟩
  have ownAlarms : ∀ m ∈ out, completes m = true → ToAlarms m := fun m hm c => by
    rw [← made] at hm
    obtain ⟨d, hd, hm⟩ := List.mem_flatMap.mp hm
    exact second d hd m hm c
  have outFree : WaysFree old out := fun m hm c => by
    rw [← made] at hm
    obtain ⟨d, hd, hm⟩ := List.mem_flatMap.mp hm
    exact secondFree d hd m hm c
  obtain ⟨first, -⟩ := State.completeFrom_batch (old := old) ms s [] [] ((alarmsOf out).length + n) free (fun _ _ _ _ hx => nomatch hx)
    (fun _ hx => nomatch hx) apart (by simpa using flight)
  have kinds' : ∀ m ∈ ms.filter completes, ToAlarms m ∨ ∃ d, reaction? m = some (d, f d) := fun m hm =>
    kinds m (List.mem_filter.mp hm).1 (List.mem_filter.mp hm).2
  obtain ⟨⟨frame, hit, miss⟩, alarms⟩ := State.takeAll_reactions f (ms.filter completes) s kinds' (by rwa [reached_filter])
  have left := State.takeAll_inFlight f ms s old [] (fun m hm c => ⟨absent free hm c, kinds m hm c⟩) once (by simpa using flight)
  rw [reached_filter] at hit miss
  rw [alarmsOf_filter] at alarms
  rw [made, List.append_nil] at left
  generalize s.takeAll (ms.filter completes) = u at first frame hit miss alarms left
  have quiet : ∀ x ∈ ms.filter (!completes ·), completes x = false := fun x hx => by
    have other := (List.mem_filter.mp hx).2
    simpa using other
  have still (x : Instr) (c : completes x = false) : WaysFree [x] out :=
    waysFree_of_alarms (fun y hy => by rw [List.mem_singleton.mp hy, c]) ownAlarms
  obtain ⟨then_, -⟩ := State.completeFrom_batch (old := old) out u (ms.filter (!completes ·)) [] n outFree
    (waysFree_of_alarms quiet ownAlarms) quiet (fun x _ c => still x c) (by rw [left, List.append_nil])
  rw [filter_completes_of_alarms ownAlarms] at then_
  have only : ∀ m ∈ alarmsOf out, ToAlarms m := fun m hm => takeAll_alarms_toAlarms hm
  have unreached : reached out = [] := List.filterMap_eq_nil_iff.mpr fun m hm => by
    cases reacts : reaction? m with
    | none => rfl
    | some x => exact absurd (ownAlarms m hm (completes_of_reaction reacts)) (not_toAlarms_of_reaction reacts)
  obtain ⟨⟨frame', -, miss'⟩, alarms'⟩ := State.takeAll_reactions f (alarmsOf out) u (fun m hm => .inl (only m hm))
    (by rw [reached_of_alarms only]; exact List.nodup_nil)
  have left' := State.takeAll_inFlight f out u (old ++ ms.filter (!completes ·)) []
    (fun m hm c =>
    ⟨fun h => (List.mem_append.mp h).elim (absent outFree hm c) (absent (waysFree_of_alarms quiet ownAlarms) hm c), .inl (ownAlarms m hm c)⟩) (by rw [unreached]; exact List.nodup_nil) (by rw [left, List.append_nil])
  rw [filter_completes_of_alarms ownAlarms, unreached, List.append_nil, List.flatMap_nil, List.append_nil] at left'
  rw [reached_of_alarms only] at miss'
  have ended : (u.takeAll (alarmsOf out)).completeFrom n old.length = u.takeAll (alarmsOf out) := by
    refine State.completeFrom_quiet (fun m hm => ?_) n
    rw [left', List.append_assoc, List.drop_left] at hm
    rcases List.mem_append.mp hm with h | h
    · exact quiet m h
    · have other := (List.mem_filter.mp h).2
      simpa using other
  have result : s.completeFrom ((ms.filter completes).length + ((alarmsOf out).length + n)) old.length = u.takeAll (alarmsOf out) := by
    rw [first, then_, ended]
  rw [result]
  generalize u.takeAll (alarmsOf out) = t at frame' miss' alarms' left'
  have same (d : DoorId) := miss' d List.not_mem_nil
  refine ⟨⟨?_, fun d hd => ⟨(same d).1.trans (hit d hd).1, (same d).2.trans (hit d hd).2⟩,
    fun d hd => ⟨(same d).1.trans (miss d hd).1, (same d).2.trans (miss d hd).2⟩⟩, ?_, ?_⟩
  · exact ⟨frame'.lines.trans frame.lines, frame'.straps.trans frame.straps, frame'.resolver.trans frame.resolver,
      frame'.alloc.trans frame.alloc, frame'.recorder.trans frame.recorder, rfl, frame'.store.trans frame.store,
      frame'.port.trans frame.port, frame'.time.trans frame.time, frame'.pending.trans frame.pending,
      frame'.freeDraws.trans frame.freeDraws⟩
  · have image : u.image = s.image := congrArg Store.active frame.store
    have time : u.time = s.time := frame.time
    rw [alarms', alarms, image, time, alarmsOf_self only, AlarmList.takeAll_append, ← alarmsOf_flatMap, made]
  · rw [left', ← made, List.filter_flatMap]

end Sys2Proof.Machine

/-! MODE_SET and EMERGENCY_RELEASE (R69, R72). -/

namespace Sys2Proof.Machine

open Sys2Proof

/-! ### The alarms that a report of a standing authority makes -/

theorem restMessages_of_outOfTransit {r : Door} (outOfTransit : r.transit = false) (d : DoorId) (c : Channel) :
    restMessages d c r = [] := by
  have none : transitMessages d r = [] := if_neg (by rw [outOfTransit]; nofun)
  unfold restMessages
  rw [none, ite_self]

/-- A door that proceeds asks for flow at most: it is out of transit. -/
theorem proceedMessages_quiet (i : Image) (d : DoorId) (c : Channel) (r : Door) : ∀ m ∈ proceedMessages i d c r, completes m = false := by
  intro m hm
  unfold proceedMessages closeMessages moveMessages at hm
  split at hm
  · next due =>
    have outOfTransit : r.transit = false := by
      cases transit : r.transit with
      | false => rfl
      | true => simp [Door.due, transit] at due
    rw [restMessages_of_outOfTransit outOfTransit] at hm
    split at hm
    · split at hm
      · cases hm
      · rw [List.mem_singleton.mp hm]
        rfl
    · cases hm
  · cases hm

theorem alarmsOf_of_quiet {ms : List Instr} (quiet : ∀ m ∈ ms, completes m = false) : alarmsOf ms = [] :=
  List.filter_eq_nil_iff.mpr fun m hm own => by
    have completing := (ToAlarms.alarmOf.mp own).completes
    rw [quiet m hm] at completing
    cases completing

theorem alarmsOf_proceedMessages (i : Image) (d : DoorId) (c : Channel) (r : Door) : alarmsOf (proceedMessages i d c r) = [] :=
  alarmsOf_of_quiet (proceedMessages_quiet i d c r)

theorem alarmsOf_transitMessages (d : DoorId) (r : Door) : alarmsOf (transitMessages d r) = transitMessages d r := by
  unfold transitMessages
  split <;> rfl

/-- What completes among these is the clear of the door's TRANSIT_LONG. -/
def ClearsTransit (d : DoorId) (m : Instr) : Prop := completes m = true → m = .alarmClear .transitLong (.door d)

theorem clearsTransit_transitMessages {d : DoorId} {r : Door} : ∀ m ∈ transitMessages d r, ClearsTransit d m := by
  intro m hm _
  unfold transitMessages at hm
  split at hm
  · exact List.mem_singleton.mp hm
  · cases hm

theorem clearsTransit_restMessages {d : DoorId} {c : Channel} {r : Door} : ∀ m ∈ restMessages d c r, ClearsTransit d m := by
  intro m hm
  unfold restMessages at hm
  split at hm
  · exact clearsTransit_transitMessages m hm
  · cases hm

section
variable (w : Work)

theorem Work.rest_clears : Adds (ClearsTransit w.id) w.out w.rest.out := by
  rw [w.rest_eq]
  refine ((Adds.refl _).add fun m hm => ?_).add clearsTransit_restMessages
  split at hm
  · rw [List.mem_singleton.mp hm]
    exact nofun
  · cases hm

theorem Work.stopAndRest_clears : Adds (ClearsTransit w.id) w.out w.stopAndRest.out := by
  unfold Work.stopAndRest
  split
  · rw [w.endStroke_other]
    exact ((Adds.refl _).one (m := .release w.id) nofun).trans (Work.rest_clears _)
  · exact w.rest_clears

theorem Work.startIfDue_alarms : alarmsOf w.startIfDue.out = alarmsOf w.out := by
  cases barred : w.dueBarred with
  | true => rw [Work.startIfDue_barred _ barred]
  | false =>
    rw [Work.startIfDue_eq _ barred]
    exact (alarmsOf_append _ _).trans (by rw [alarmsOf_proceedMessages, List.append_nil])

theorem alarmsOf_adds {out out' : List Instr} (h : Adds (fun m => ¬ToAlarms m) out out') : alarmsOf out' = alarmsOf out := by
  obtain ⟨ms, eq, others⟩ := h
  have none : alarmsOf ms = [] := List.filter_eq_nil_iff.mpr fun m hm own => others m hm (ToAlarms.alarmOf.mp own)
  rw [eq, alarmsOf_append, none, List.append_nil]

theorem Work.rest_quiet (outOfTransit : w.door.transit = false) : Adds (fun m => ¬ToAlarms m) w.out w.rest.out := by
  rw [w.rest_eq, restMessages_of_outOfTransit outOfTransit, List.append_nil]
  refine (Adds.refl _).add fun m hm => ?_
  split at hm
  · rw [List.mem_singleton.mp hm]
    exact nofun
  · cases hm

theorem Work.orderEnds_quiet (transit : Bool) (outOfTransit : w.door.transit = false) :
    Adds (fun m => ¬ToAlarms m) w.out (w.orderEnds transit).out := by
  unfold Work.orderEnds
  split <;> first | exact w.rest_quiet outOfTransit | exact .refl _ | (split <;> first | exact .refl _ | exact w.rest_quiet outOfTransit)

/-- An order that ends clears TRANSIT_LONG of a door in transit, and nothing else of the alarm list. -/
theorem Work.order_alarms_ends (served : w.door.motion ≠ .isolated ∧ w.door.motion ≠ .absent) (some : w.door.standing ≠ .none) :
    alarmsOf (w.order .none).out = alarmsOf w.out ++ transitMessages w.id w.door := by
  rw [Work.order_served served, if_neg (Ne.symm some), if_neg some, if_pos rfl,
    alarmsOf_adds (Work.orderEnds_quiet ((w.withStanding .none).clearTransit) w.door.transit (by rw [Work.clearTransit_eq]; rfl)),
    Work.clearTransit_eq]
  exact (alarmsOf_append _ _).trans (by rw [alarmsOf_transitMessages]; rfl)

/-- An order that stands, and one that finds its door out of service, clear nothing. -/
theorem Work.order_alarms_stands {a : Standing} (h : (w.door.motion ≠ .isolated ∧ w.door.motion ≠ .absent) →
    w.door.standing ≠ .none ∧ a ≠ .none) : alarmsOf (w.order a).out = alarmsOf w.out := by
  by_cases served : w.door.motion ≠ .isolated ∧ w.door.motion ≠ .absent
  · obtain ⟨some, other⟩ := h served
    rw [Work.order_served served, if_neg some, if_neg other]
    split
    · rfl
    · unfold Work.orderChanges
      split <;> first | rfl | (split <;> rfl)
  · rw [Work.order_unserved served]
    rfl

theorem Work.order_clears (a : Standing) : Adds (ClearsTransit w.id) w.out (w.order a).out := by
  have rises (w : Work) : Adds (ClearsTransit w.id) w.out (w.orderRises a).out := by
    unfold Work.orderRises
    split <;> first | exact w.stopAndRest_clears | (split <;> exact .refl _) | exact .refl _
  have changes (w : Work) : Adds (ClearsTransit w.id) w.out (w.orderChanges a).out := by
    unfold Work.orderChanges
    split <;> first | exact .refl _ | (split <;> exact .refl _)
  have ends (w : Work) (transit : Bool) : Adds (ClearsTransit w.id) w.out (w.orderEnds transit).out := by
    unfold Work.orderEnds
    split <;> first | exact w.rest_clears | exact .refl _ | (split <;> first | exact .refl _ | exact w.rest_clears)
  by_cases served : w.door.motion ≠ .isolated ∧ w.door.motion ≠ .absent
  · rw [Work.order_served served]
    split
    · exact .refl _
    · split
      · exact rises (w.withStanding a)
      · split
        · rw [Work.clearTransit_eq]
          exact ((Adds.refl _).add clearsTransit_transitMessages).trans (ends _ _)
        · exact changes (w.withStanding a)
  · rw [Work.order_unserved served]
    exact .refl _

end

section
variable {s : State} {d : DoorId} {a : Standing}

theorem Work.startIfDue_clears (w : Work) : Adds (ClearsTransit w.id) w.out w.startIfDue.out := by
  cases barred : w.dueBarred with
  | true =>
    rw [Work.startIfDue_barred _ barred]
    exact .refl _
  | false =>
    rw [Work.startIfDue_eq _ barred]
    exact (Adds.refl _).add fun m hm completing => by
      rw [proceedMessages_quiet _ _ _ _ m hm] at completing
      cases completing

theorem Work.order_id (w : Work) (a : Standing) : (w.order a).id = w.id :=
  (w.order_moves (strict := False) a).toKeeps.index

/-- What a report makes that completes: the clear of the door's TRANSIT_LONG. -/
theorem State.worked_order_clears : ∀ m ∈ (s.worked d fun w => w.order a).out, ClearsTransit d m := by
  obtain ⟨ms, eq, clears⟩ := ((s.work d).order_clears a).trans
    ((Work.startIfDue_clears ((s.work d).order a)).mono fun m h => by rwa [Work.order_id] at h)
  intro m hm
  rw [State.worked, Work.event_out, eq] at hm
  exact clears m hm

/-- The alarms that a report makes in each standing of its door. -/
theorem State.worked_order_alarms :
    alarmsOf (s.worked d fun w => w.order a).out = alarmsOf ((s.work d).order a).out := by
  rw [State.worked, Work.event_out, Work.startIfDue_alarms]

theorem State.worked_order_load : load (s.worked d fun w => w.order a).out ≤ 3 := by
  rw [State.worked, Work.event_out]
  exact (Work.startIfDue_load _).trans (Nat.add_le_add_right (Work.order_load _ a) 1)

end

/-! ### Reports of the standing authorities, taken -/

theorem reached_append (ms ns : List Instr) : reached (ms ++ ns) = reached ms ++ reached ns := List.filterMap_append

theorem reached_flatMap {α : Type} (g : α → List Instr) (xs : List α) : reached (xs.flatMap g) = xs.flatMap fun x => reached (g x) := by
  induction xs with
  | nil => rfl
  | cons x xs ih => rw [List.flatMap_cons, reached_append, ih, List.flatMap_cons]

/-- A door is reported to when its standing authority is computed afresh (R67). -/
def Orders.reportsTo (o : Orders) (d : DoorId) : Bool := !decide (o.due d = (o.door d).reported ∨ o.isPresent d = false)

theorem Orders.reports_of (o : Orders) (d : DoorId) :
    o.reports d = if o.reportsTo d then [.standingAuthorityReport d (o.due d)] else [] := by
  unfold Orders.reports Orders.reportsTo
  by_cases h : o.due d = (o.door d).reported ∨ o.isPresent d = false
  · rw [if_pos h, decide_eq_true h]
    rfl
  · rw [if_neg h, decide_eq_false h]
    rfl

theorem Orders.reached_reports (o : Orders) : reached (allDoors.flatMap o.reports) = allDoors.filter o.reportsTo := by
  rw [reached_flatMap, ← List.map_id (allDoors.filter o.reportsTo), ← flatMap_ite_singleton]
  refine List.flatMap_congr fun d _ => ?_
  rw [o.reports_of]
  split <;> rfl

theorem Orders.reports_kinds (o : Orders) : ∀ m ∈ allDoors.flatMap o.reports, ∃ d, m = .standingAuthorityReport d (o.due d) := by
  intro m hm
  obtain ⟨d, -, hm⟩ := List.mem_flatMap.mp hm
  rw [o.reports_of] at hm
  split at hm
  · exact ⟨d, List.mem_singleton.mp hm⟩
  · cases hm

theorem Orders.alarmsOf_reports (o : Orders) : alarmsOf (allDoors.flatMap o.reports) = [] :=
  List.filter_eq_nil_iff.mpr fun m hm => by
    obtain ⟨d, rfl⟩ := o.reports_kinds m hm
    nofun

/-- Reports of standing authorities behind reports to the alarm list, where nothing is on its way: what their completion leaves at the
alarm list. -/
theorem State.complete_standings {s : State} (o : Orders) {as : List Instr} (alarms : ∀ m ∈ as, ToAlarms m)
    (flight : s.inFlight = as ++ allDoors.flatMap o.reports) :
    (s.complete 0).alarms = s.alarms.takeAll s.image s.time
      (as ++ (allDoors.filter o.reportsTo).flatMap fun d => alarmsOf (s.worked d fun w => w.order (o.due d)).out) := by
  have reaches : reached (as ++ allDoors.flatMap o.reports) = allDoors.filter o.reportsTo := by
    rw [reached_append, reached_of_alarms alarms, o.reached_reports, List.nil_append]
  have two := State.completeFrom_two (s := s) (old := []) (ms := as ++ allDoors.flatMap o.reports)
    (fuel := 8 * s.inFlight.length + 8) (fun d w => w.order (o.due d)) (fun _ _ _ _ h => nomatch h)
    (fun x hx quiet => absurd quiet ?_) (fun m hm _ => ?_) ?_ (fun d _ m hm c => ?_) (fun _ _ _ _ _ _ h => nomatch h) flight ?_
  · have result := two.alarms
    rw [reaches, alarmsOf_append, alarmsOf_self alarms, o.alarmsOf_reports, List.append_nil] at result
    exact result
  · rcases List.mem_append.mp hx with hx | hx
    · rw [(alarms x hx).completes]
      nofun
    · obtain ⟨d, rfl⟩ := o.reports_kinds x hx
      nofun
  · rcases List.mem_append.mp hm with hm | hm
    · exact .inl (alarms m hm)
    · obtain ⟨d, rfl⟩ := o.reports_kinds m hm
      exact .inr ⟨d, rfl⟩
  · rw [reaches]
    exact nodup_allDoors.filter _
  · rw [State.worked_order_clears m hm c]
    trivial
  · have light := load_flatMap_le (fun d => (s.worked d fun w => w.order (o.due d)).out) 3
      (reached (as ++ allDoors.flatMap o.reports)) fun d _ => State.worked_order_load
    have fewer : (reached (as ++ allDoors.flatMap o.reports)).length ≤ (as ++ allDoors.flatMap o.reports).length :=
      List.length_filterMap_le ..
    rw [flight]
    omega

/-! ### The two requests -/

/-- A resolver whose reports agree with its sources computes nothing anew. -/
theorem Orders.recomputeAll_of_agrees {o : Orders} (agrees : ∀ d, (o.door d).reported = o.due d) : o.recomputeAll = o := by
  have group := o.recomputeAll_group
  have out := o.recomputeAll_out
  have doors := o.recomputeAll_door
  have none : allDoors.flatMap o.reports = [] := List.flatMap_eq_nil_iff.mpr fun d _ => if_pos (.inl (agrees d).symm)
  rw [none, List.append_nil] at out
  generalize o.recomputeAll = o' at group out doors
  obtain ⟨image, resolver, out'⟩ := o'
  obtain ⟨mode, latch, flood, records⟩ := resolver
  have same : records = o.resolver.doors := Vector.ext fun k hk => by
    have door := doors ⟨k, hk⟩
    rw [← agrees ⟨k, hk⟩] at door
    exact door
  obtain ⟨image', latch', mode', flood'⟩ := group
  dsimp only at image' latch' mode' flood' out
  rw [image', latch', mode', flood', out, same]

section
variable {s : State} {r : Req} {kind : Byte} {lens : List Nat} {owner : List Byte → State → Answer} {f : Orders → Orders}

/-- A request to the resolver, addressed to the part or to broadcast. -/
theorem State.answer_orders (length : r.body.length ∈ lens)
    (part : owner r.body (s.begun r) = .accepted ((s.begun r).ordersEvent f) []) :
    let t := (s.begun r).answer kind r lens owner
    CompletionFrame s t ∧ t.resolver = (f s.orders).resolver ∧ (r.broadcast = false → Answered s.port r kind none [] t) ∧
      (r.broadcast = true → t.port = s.port.withLine r.line (s.port.line r.line).freed) ∧
      (f s.orders = s.orders → t = { s with port := t.port }) ∧
      t.alarms = (((s.begun r).ordersEvent f).complete s.inFlight.length).alarms := by
  intro t
  have served : t = _ := State.answer_accepted (kind := kind) length part
  have completes := ((s.begun r).ordersEvent f).complete_completes s.inFlight.length
  refine ⟨?_, ?_, fun addressed => ?_, fun broadcast => ?_, fun same => ?_, ?_⟩
  · rw [served]
    exact CompletionFrame.reply ⟨completes.lines, completes.straps, completes.alloc, completes.store, completes.time,
      completes.pending, completes.freeDraws⟩
  · rw [served, State.reply_eq]
    exact completes.resolver
  · rw [served]
    have answered := State.reply_answered (kind := kind) (reason := none) (data := [])
      (((s.begun r).ordersEvent f).complete s.inFlight.length) addressed
    rw [completes.port] at answered
    exact answered_begun.mp answered
  · rw [served, State.reply_broadcast broadcast]
    show (((s.begun r).ordersEvent f).complete s.inFlight.length).port.withLine r.line
      ((((s.begun r).ordersEvent f).complete s.inFlight.length).port.line r.line).freed = _
    rw [completes.port]
    show (s.port.withLine r.line _).withLine r.line ((s.port.withLine r.line _).line r.line).freed = _
    rw [Port.withLine_withLine, Port.withLine_line]
    rfl
  · have event : (s.begun r).ordersEvent f = s.begun r := by
      rw [State.ordersEvent, show (s.begun r).orders = s.orders from rfl, same]
      show { s.begun r with resolver := s.resolver, inFlight := s.inFlight ++ [] } = _
      rw [List.append_nil]
      rfl
    rw [event] at served
    rw [served, State.complete_of_quiet (s := s.begun r) rfl, State.reply_eq]
    rfl
  · rw [served, State.reply_eq]
    rfl

end

theorem Orders.recomputeAll_resolver_door (o : Orders) (d : DoorId) :
    o.recomputeAll.resolver.doors[d] = { o.resolver.doors[d] with reported := strongestSource o.image o.resolver d } :=
  (o.recomputeAll_door d).trans (by rw [Orders.due_eq_strongestSource]; rfl)

theorem groupMode?_of_le {b : Byte} (h : b.toNat ≤ 1) : groupMode? b = some (if b = 0 then .local_ else .closed) := by
  have known : b = 0 ∨ b = 1 := by bv_omega
  rcases known with rfl | rfl <;> rfl

theorem groupMode?_of_gt {b : Byte} (h : 1 < b.toNat) : groupMode? b = none := by
  unfold groupMode?
  rw [if_neg (by bv_omega), if_neg (by bv_omega)]

/-- MODE_SET (R69). -/
theorem State.modeSet_eq {s : State} {r : Req} (waiting : (s.port.line r.line).waiting = some (.modeSet r))
    (noReply : (s.port.line r.line).reply = none) (noRestart : s.port.restarting = none) :
    exec (.modeSet r) s = .next ((s.begun r).answer 0x06 r [1] State.modeSet) := by
  cases broadcast : r.broadcast with
  | true => exact congrArg Host.Outcome.next (State.serve_broadcast waiting noReply noRestart rfl)
  | false => exact congrArg Host.Outcome.next (State.serve_waits ⟨waiting, noReply, noRestart, broadcast⟩ _ _)

theorem flatMap_filter_eq {α β : Type} (p : α → Bool) (g : α → List β) (xs : List α) :
    (xs.filter p).flatMap g = xs.flatMap fun x => if p x then g x else [] := by
  induction xs with
  | nil => rfl
  | cons x xs ih =>
    rw [List.filter_cons, List.flatMap_cons, ← ih]
    split <;> rfl

/-- The release of the latch clears TRANSIT_LONG of a door in transit that falls to NONE, where its record holds its last report. -/
theorem State.released_alarms {s u : State} {o : Orders} (standing : StandingInv s)
    (told : ∀ d : DoorId, (s.door d).standing = s.resolver.doors[d].reported) (latched : s.resolver.latch = true)
    (is : o = ⟨s.image, { s.resolver with latch := false }, [.alarmClear .emergencyClose .group]⟩) (d : DoorId)
    (door : u.door d = s.door d) :
    (if o.reportsTo d then alarmsOf (u.worked d fun w => w.order (o.due d)).out else []) =
      if (s.door d).motion ≠ .isolated ∧ (s.door d).motion ≠ .absent ∧ (s.door d).standing ≠ .none ∧
        strongestSource s.image { s.resolver with latch := false } d = .none then transitMessages d (s.door d) else [] := by
  have due : o.due d = strongestSource s.image { s.resolver with latch := false } d := by
    rw [o.due_eq_strongestSource, is]
  have serves : (o.isPresent d && !(o.door d).isolated) = (s.orders.isPresent d && !(s.orders.door d).isolated) := by rw [is]; rfl
  have now : (s.door d).standing = if s.orders.isPresent d && !(s.orders.door d).isolated then .emergency else .none :=
    ((told d).trans (standing d)).trans ((s.orders.due_eq_strongestSource d).symm.trans (Orders.due_latched (o := s.orders) latched d))
  have reported : (o.door d).reported = (s.door d).standing := by
    rw [told d, is]
    rfl
  rw [← due]
  cases reports : o.reportsTo d with
  | false =>
    rw [if_neg nofun]
    refine (if_neg fun ⟨_, _, ordered, falls⟩ => ?_).symm
    rw [Orders.reportsTo, Bool.not_eq_false'] at reports
    rcases of_decide_eq_true reports with same | absent
    · exact ordered ((same.trans reported).symm.trans falls)
    · have unserved : (s.orders.isPresent d && !(s.orders.door d).isolated) = false := by
        rw [← serves, absent, Bool.false_and]
      rw [unserved] at now
      exact ordered now
  | true =>
    rw [if_pos rfl, State.worked_order_alarms]
    have differs : o.due d ≠ (s.door d).standing := by
      rw [← reported]
      intro same
      have no : o.reportsTo d = false := by
        unfold Orders.reportsTo
        rw [decide_eq_true (.inl same)]
        rfl
      rw [no] at reports
      cases reports
    have served : (o.isPresent d && !(o.door d).isolated) = true := by
      by_contra unserved
      have unserved := Bool.eq_false_of_not_eq_true unserved
      rw [← serves, unserved] at now
      exact differs ((Orders.due_unserved unserved).trans now.symm)
    have some : (s.door d).standing ≠ .none := by
      rw [now, ← serves, served]
      exact fun h => by cases h
    have begun : (u.work d).door = s.door d := door
    by_cases ends : ((s.door d).motion ≠ .isolated ∧ (s.door d).motion ≠ .absent) ∧ o.due d = .none
    · obtain ⟨⟨isolated, absent⟩, none⟩ := ends
      rw [if_pos ⟨isolated, absent, some, none⟩, none, Work.order_alarms_ends (u.work d) (begun ▸ ⟨isolated, absent⟩) (begun ▸ some),
        begun]
      rfl
    · rw [if_neg fun ⟨isolated, absent, _, falls⟩ => ends ⟨⟨isolated, absent⟩, falls⟩,
        Work.order_alarms_stands (u.work d) fun inService => ⟨begun ▸ some, fun falls => ends ⟨begun ▸ inService, falls⟩⟩]
      rfl

/-- Settles O50: the resolver's part of each request; the release's reports by the standing of each door. -/
theorem modeAndReleaseRequests : Obligations.ModeAndReleaseRequests := by
  unfold Obligations.ModeAndReleaseRequests
  refine ⟨fun s r b waiting noReply noRestart body => ?_, fun s r h body => ?_⟩
  · intro mode freed
    have length : r.body.length ∈ [1] := by simp [body]
    have operand : byteAt r.body 0 = b := by rw [body]; rfl
    have run := State.modeSet_eq waiting noReply noRestart
    by_cases above : 1 < b.toNat
    · have part : State.modeSet r.body (s.begun r) = .refused .badValue [] := by
        rw [State.modeSet, operand, groupMode?_of_gt above]
      have answer : (s.begun r).answer 0x06 r [1] State.modeSet = (s.begun r).reply 0x06 r (some .badValue) [] :=
        State.answer_refused length part
      have same : (s.begun r).reply 0x06 r (some .badValue) [] =
          { s with port := ((s.begun r).reply 0x06 r (some .badValue) []).port } := State.reply_eq _
      refine ⟨_, run, ?_, fun _ => ⟨?_, fun addressed => ?_, fun broadcast => ?_⟩, fun low => absurd low (by omega)⟩
      · rw [answer, same]
        exact ⟨rfl, rfl, rfl, rfl, rfl, rfl, rfl⟩
      · rw [answer]
        exact same
      · rw [answer]
        exact answered_begun.mp (State.reply_answered _ addressed)
      · rw [answer, State.reply_broadcast broadcast]
        show (s.port.withLine r.line _).withLine r.line ((s.port.withLine r.line _).line r.line).freed = _
        rw [Port.withLine_withLine, Port.withLine_line]
        rfl
    · have part : State.modeSet r.body (s.begun r) = .accepted ((s.begun r).ordersEvent fun o => o.setMode mode) [] := by
        rw [State.modeSet, operand, groupMode?_of_le (by omega)]
      obtain ⟨frame, resolver, addressed, broadcast, stays, -⟩ := State.answer_orders (kind := 0x06) length part
      obtain ⟨o, is⟩ : ∃ o : Orders, o = { s.orders with resolver := { s.resolver with mode := mode } } := ⟨_, rfl⟩
      have sets : s.orders.setMode mode = o.recomputeAll := by
        rw [is]
        rfl
      have resolver := resolver.trans (congrArg Orders.resolver sets)
      have group := o.recomputeAll_group
      refine ⟨_, run, frame, fun high => absurd high above, fun _ => ⟨addressed, broadcast, ?_, ?_, ?_, fun d => ?_,
        fun standing same => stays ?_⟩⟩
      · exact (congrArg Resolver.mode resolver).trans (group.mode.trans (by rw [is]))
      · exact (congrArg Resolver.latch resolver).trans (group.latch.trans (by rw [is]))
      · exact (congrArg Resolver.flood resolver).trans (group.flood.trans (by rw [is]))
      · refine (congrArg (fun x : Resolver => x.doors[d]) resolver).trans ((o.recomputeAll_resolver_door d).trans ?_)
        rw [is]
        rfl
      · have unchanged : ({ s.orders with resolver := { s.orders.resolver with mode := mode } } : Orders) = s.orders := by
          rw [← same]
          rfl
        rw [Orders.setMode, unchanged]
        exact Orders.recomputeAll_of_agrees fun d => (standing d).trans (Orders.due_eq_strongestSource s.orders d).symm
  · have length : r.body.length ∈ [0] := by simp [body]
    have run : exec (.emergencyRelease r) s = .next ((s.begun r).answer 0x0F r [0] State.emergencyRelease) :=
      congrArg Host.Outcome.next (State.serve_waits h _ _)
    cases active : s.lines.emergency.filtered with
    | true =>
      have refused := State.serve_refused (kind := 0x0F) (data := []) (reason := .lineActive) (owner := State.emergencyRelease) h length
        (if_pos active)
      refine ⟨_, rfl, ?_, fun _ => ⟨refused.answered, refused.eq⟩, nofun, nofun⟩
      rw [refused.eq]
      exact ⟨rfl, rfl, rfl, rfl, rfl, rfl, rfl⟩
    | false =>
      have part : State.emergencyRelease r.body (s.begun r) = .accepted ((s.begun r).ordersEvent Orders.releaseLatch) [] :=
        if_neg (by rw [show (s.begun r).lines = s.lines from rfl, active]; nofun)
      obtain ⟨frame, resolver, addressed, -, stays, alarms⟩ := State.answer_orders (kind := 0x0F) length part
      refine ⟨_, run, frame, nofun, fun _ clear => ⟨addressed h.addressed, stays (if_neg ?_)⟩, fun _ latched => ?_⟩
      · rw [show s.orders.resolver.latch = false from clear]
        nofun
      · obtain ⟨o, is⟩ : ∃ o : Orders, o = ⟨s.image, { s.resolver with latch := false }, [.alarmClear .emergencyClose .group]⟩ :=
          ⟨_, rfl⟩
        have released : Orders.releaseLatch s.orders = o.recomputeAll := by
          rw [is]
          exact if_pos latched
        have group := o.recomputeAll_group
        rw [released] at resolver
        refine ⟨addressed h.addressed, ?_, ?_, ?_, fun d => ?_, fun nothing =>
          ⟨(allDoors.filter o.reportsTo).flatMap fun d =>
            alarmsOf (((s.begun r).ordersEvent Orders.releaseLatch).worked d fun w => w.order (o.due d)).out,
            alarms.trans ?_, ?_, fun standing told => ?_⟩⟩
        · exact (congrArg Resolver.latch resolver).trans (group.latch.trans (by rw [is]))
        · exact (congrArg Resolver.mode resolver).trans (group.mode.trans (by rw [is]))
        · exact (congrArg Resolver.flood resolver).trans (group.flood.trans (by rw [is]))
        · refine (congrArg (fun x : Resolver => x.doors[d]) resolver).trans ((o.recomputeAll_resolver_door d).trans ?_)
          rw [is]
        · have flight : ((s.begun r).ordersEvent Orders.releaseLatch).inFlight =
              [.alarmClear .emergencyClose .group] ++ allDoors.flatMap o.reports := by
            show s.inFlight ++ (Orders.releaseLatch s.orders).out = _
            rw [nothing, released, o.recomputeAll_out, is]
            rfl
          rw [nothing]
          exact State.complete_standings o (fun m hm => by rw [List.mem_singleton.mp hm]; trivial) flight
        · intro m hm
          obtain ⟨d, -, hm⟩ := List.mem_flatMap.mp hm
          obtain ⟨hm, own⟩ := List.mem_filter.mp hm
          exact ⟨d, State.worked_order_clears m hm (ToAlarms.alarmOf.mp own).completes⟩
        · intro ends
          rw [flatMap_filter_eq]
          refine List.flatMap_congr fun d _ => ?_
          exact State.released_alarms standing told latched is d rfl

end Sys2Proof.Machine

/-! ISOLATE (R45, R79). -/

namespace Sys2Proof.Machine

open Sys2Proof

/-! ### A completion that the alarm list alone takes part in, whatever is on its way -/

/-- Those of some messages that go elsewhere than to the alarm list. -/
def othersOf (ms : List Instr) : List Instr := ms.filter fun m => (alarmOf? m).isNone

theorem othersOf_erase {m : Instr} (own : ToAlarms m) (ms : List Instr) : othersOf (ms.erase m) = othersOf ms := by
  induction ms with
  | nil => rfl
  | cons x xs ih =>
    by_cases same : x = m
    · subst same
      have alarm := ToAlarms.alarmOf.mpr own
      rw [List.erase_cons_head]
      exact (List.filter_cons_of_neg (by rw [Option.isNone_iff_eq_none]; exact Option.isSome_iff_ne_none.mp alarm)).symm
    · unfold othersOf at ih ⊢
      rw [List.erase_cons_tail (by simpa using same), List.filter_cons, List.filter_cons, ih]

/-- Where what has been made and completes goes to the alarm list, a completion with fuel for it takes all of that, older reports of
its ways before it, and nothing else. -/
theorem State.completeFrom_alarmsOnly (fuel : Nat) : ∀ (s : State) (mark : Nat),
    (∀ m ∈ s.inFlight.drop mark, completes m = true → ToAlarms m) →
      let u := s.completeFrom fuel mark
      u = { s with inFlight := u.inFlight, alarms := u.alarms } ∧ othersOf u.inFlight = othersOf s.inFlight ∧
        (s.inFlight.length ≤ fuel → ∀ m ∈ u.inFlight, ToAlarms m → m ∈ s.inFlight.take mark) := by
  induction fuel with
  | zero =>
    refine fun s mark _ => ⟨rfl, rfl, fun none m hm _ => ?_⟩
    have hm : m ∈ s.inFlight := hm
    rw [List.length_eq_zero_iff.mp (Nat.le_zero.mp none)] at hm
    cases hm
  | succ n ih =>
    intro s mark made
    have step {m : Instr} {mark' : Nat} (own : ToAlarms m) (here : m ∈ s.inFlight)
        (younger : ∀ x ∈ (s.inFlight.erase m).drop mark', x ∈ s.inFlight.drop mark)
        (older : ∀ x ∈ (s.inFlight.erase m).take mark', x ∈ s.inFlight.take mark) :
        let u := (s.deliver m).completeFrom n mark'
        u = { s with inFlight := u.inFlight, alarms := u.alarms } ∧ othersOf u.inFlight = othersOf s.inFlight ∧
          (s.inFlight.length ≤ n + 1 → ∀ x ∈ u.inFlight, ToAlarms x → x ∈ s.inFlight.take mark) := by
      have flight : (s.deliver m).inFlight = s.inFlight.erase m := by
        rw [State.deliver_alarm own]
        rfl
      obtain ⟨only, others, taken⟩ := ih (s.deliver m) mark' fun x hx => made x (younger x (flight ▸ hx))
      refine ⟨?_, ?_, fun enough x hx alarm => ?_⟩
      · rw [only, State.deliver_alarm own]
        rfl
      · rw [others, flight, othersOf_erase own]
      · have fewer := List.length_erase_of_mem here
        have left := taken (by rw [flight]; omega) x hx alarm
        rw [flight] at left
        exact older x left
    have split : s.inFlight.take mark ++ s.inFlight.drop mark = s.inFlight := List.take_append_drop ..
    rw [State.completeFrom]
    unfold State.owed
    split
    next found =>
      split at found
      · next none =>
        refine ⟨rfl, rfl, fun _ m hm own => ?_⟩
        rw [← split] at hm
        exact (List.mem_append.mp hm).resolve_right fun young => by
          have quiet := List.find?_eq_none.mp none m young
          exact quiet own.completes
      next m first =>
        split at found
        · cases found
        · split at found
          · cases found
          · next none =>
            exact absurd (List.find?_eq_none.mp none m (List.mem_of_find?_eq_some first)) (by simp)
    next found =>
      split at found
      · cases found
      next m first =>
        have completing := List.find?_some first
        obtain ⟨k, y, way⟩ := (made m (List.mem_of_find?_eq_some first) completing).route
        split at found
        · next o older =>
          cases found
          have ofWay := List.find?_some older
          have early := List.mem_of_find?_eq_some older
          have length := List.length_erase_of_mem early
          have pos := List.length_pos_of_mem early
          have bound := List.length_take_le mark s.inFlight
          refine step (toAlarms_of_route ((beq_iff_eq.mp ofWay).trans way)) (List.mem_of_mem_take early) (fun x hx => ?_) fun x hx => ?_
          · rw [← split, List.erase_append_left _ early, if_pos rfl, List.drop_append, List.drop_eq_nil_of_le (by omega),
              List.nil_append] at hx
            exact List.mem_of_mem_drop hx
          · rw [← split, List.erase_append_left _ early, if_pos rfl, List.take_append] at hx
            rcases List.mem_append.mp hx with hx | hx
            · exact List.mem_of_mem_erase (List.mem_of_mem_take hx)
            · have inside := List.length_pos_of_mem (List.mem_of_mem_take hx)
              rw [List.length_drop] at inside
              rw [List.length_take] at length
              rw [show mark - 1 - ((s.inFlight.take mark).erase _).length = 0 by omega] at hx
              cases hx
        · next none =>
          split at found
          · next o same =>
            cases found
            have ofWay := List.find?_some same
            have off : ∀ y ∈ s.inFlight.take mark, y ≠ _ := fun y hy h => absurd (h ▸ ofWay) (List.find?_eq_none.mp none y hy)
            have apart := fun h => off _ h rfl
            refine step (toAlarms_of_route ((beq_iff_eq.mp ofWay).trans way))
              (List.mem_of_mem_drop (List.mem_of_find?_eq_some same)) (fun x hx => ?_) fun x hx => ?_
            · rw [← split, List.erase_append_right _ apart, if_neg Bool.false_ne_true, List.drop_append,
                List.drop_eq_nil_of_le (List.length_take_le ..), List.nil_append] at hx
              exact List.mem_of_mem_erase (List.mem_of_mem_drop hx)
            · rw [← split, List.erase_append_right _ apart, if_neg Bool.false_ne_true, List.take_append] at hx
              rcases List.mem_append.mp hx with hx | hx
              · exact List.mem_of_mem_take hx
              · have inside := List.length_pos_of_mem (List.mem_of_find?_eq_some same)
                rw [List.length_drop] at inside
                rw [List.length_take, show mark - min mark s.inFlight.length = 0 by omega] at hx
                cases hx
          · cases found

/-! ### A door taken out of service -/

/-- A door after the end of its stroke, where it moves (R32). -/
def Door.atStop (i : Image) (c : Channel) (r : Door) : Door := if isMoving r.motion then r.strokeOver i c else r

/-- A door taken out of service (R45). -/
def Door.takenOut (i : Image) (c : Channel) (r : Door) : Door :=
  { (r.atStop i c).outOfTransit with
    motion := .isolated, standing := .none, drifted := false, warningTimer := none, dwellTimer := none
    edgeWait := .none, edgeTimer := none, estimate := isolatedEstimate c (r.atStop i c).estimate }

/-- What a door that is taken out of service gives back (R45). -/
def leaveMessages (d : DoorId) (r : Door) : List Instr :=
  if isMoving r.motion then [.release d] else if r.motion = .queued then [.withdraw d] else []

theorem isolatedEstimate_withValve (c : Channel) (v : Dir) (on : Bool) (n : Nat) :
    isolatedEstimate (c.withValve v on) n = isolatedEstimate c n := by
  cases v <;> rfl

theorem Door.strokeOver_transit (i : Image) (c : Channel) (r : Door) : (r.strokeOver i c).transit = r.transit := by
  obtain ⟨x, eq⟩ := r.valveAt_eq i c r.dir false
  show (r.valveAt i c r.dir false).transit = _
  rw [eq]
  cases r.dir <;> rfl

theorem Work.isolate_eq {w : Work} (connected : w.door.motion ≠ .isolated) :
    w.isolate =
      { w with
        door := w.door.takenOut w.image w.channel
        channel := if isMoving w.door.motion then w.channel.withValve w.door.dir false else w.channel
        out := w.out ++ leaveMessages w.id w.door ++ transitMessages w.id w.door ++ [.alarmClear .driftOpen (.door w.id)] } := by
  unfold Work.isolate Door.takenOut Door.atStop leaveMessages
  rw [if_neg connected]
  cases moving : isMoving w.door.motion with
  | true =>
    have transit : transitMessages w.id (w.door.strokeOver w.image w.channel) = transitMessages w.id w.door := by
      unfold transitMessages
      rw [Door.strokeOver_transit]
    simp only [if_true, Work.endStroke_other, Work.clearTransit_eq, Work.stopTimers, Work.endEdgeWait, Work.send]
    rw [isolatedEstimate_withValve]
    exact congrArg (fun ms => (⟨_, _, _, _, w.out ++ [.release w.id] ++ ms ++ _, _⟩ : Work)) transit
  | false =>
    by_cases queued : w.door.motion = .queued
    · simp only [if_pos queued, Bool.false_eq_true, if_false, Work.clearTransit_eq, Work.stopTimers, Work.endEdgeWait, Work.send]
      rfl
    · simp only [if_neg queued, Bool.false_eq_true, if_false, Work.clearTransit_eq, Work.stopTimers, Work.endEdgeWait, Work.send,
        List.append_nil]
      rfl

/-- Reports to the alarm list among messages that do not complete, where nothing on its way does. -/
theorem State.complete_reports {s : State} {old ms : List Instr} (quiet : ∀ x ∈ old, completes x = false)
    (alarms : ∀ m ∈ ms, completes m = true → ToAlarms m) (flight : s.inFlight = old ++ ms) :
    (s.complete old.length).alarms = s.alarms.takeAll s.image s.time (alarmsOf ms) ∧
      (s.complete old.length).inFlight = old ++ ms.filter (!completes ·) := by
  have unreached : reached ms = [] := List.filterMap_eq_nil_iff.mpr fun m hm => by
    cases reacts : reaction? m with
    | none => rfl
    | some x => exact absurd (alarms m hm (completes_of_reaction reacts)) (not_toAlarms_of_reaction reacts)
  have two := State.completeFrom_two (s := s) (old := old) (ms := ms) (fuel := 8 * s.inFlight.length + 8) (fun _ w => w)
    (waysFree_of_alarms quiet alarms)
    (fun x _ still => waysFree_of_alarms (fun y hy => by rw [List.mem_singleton.mp hy, still]) alarms)
    (fun m hm c => .inl (alarms m hm c)) (by rw [unreached]; exact List.nodup_nil) (by rw [unreached]; nofun)
    (by rw [unreached]; nofun) flight (by
      rw [unreached, flight, List.length_append]
      show ms.length + 0 ≤ _
      omega)
  have result := two.alarms
  have left := two.flight
  rw [unreached, List.flatMap_nil, List.append_nil] at result left
  exact ⟨result, left⟩

theorem leaveMessages_quiet (d : DoorId) (r : Door) : ∀ m ∈ leaveMessages d r, completes m = false := by
  intro m hm
  unfold leaveMessages at hm
  split at hm
  · rw [List.mem_singleton.mp hm]
    rfl
  · split at hm
    · rw [List.mem_singleton.mp hm]
      rfl
    · cases hm

/-- What an isolation makes that completes goes to the alarm list. -/
theorem leavingMessages_complete (d : DoorId) (r : Door) : ∀ m ∈ [.alarmClear .openInhibited (.door d)] ++
    (leaveMessages d r ++ transitMessages d r ++ [.alarmClear .driftOpen (.door d)]), completes m = true → ToAlarms m := by
  intro m hm completing
  simp only [List.mem_append, List.mem_singleton] at hm
  rcases hm with rfl | (hm | hm) | rfl
  · trivial
  · rw [leaveMessages_quiet d r m hm] at completing
    cases completing
  · rw [clearsTransit_transitMessages m hm completing]
    trivial
  · trivial

theorem othersOf_leaving (d : DoorId) (r : Door) : othersOf ([.alarmClear .openInhibited (.door d)] ++
    (leaveMessages d r ++ transitMessages d r ++ [.alarmClear .driftOpen (.door d)])) = leaveMessages d r := by
  unfold othersOf leaveMessages transitMessages
  split
  · split <;> rfl
  · split <;> split <;> rfl

theorem alarmsOf_leaving (d : DoorId) (r : Door) : alarmsOf ([.alarmClear .openInhibited (.door d)] ++
    (leaveMessages d r ++ transitMessages d r ++ [.alarmClear .driftOpen (.door d)])) =
      .alarmClear .openInhibited (.door d) :: transitMessages d r ++ [.alarmClear .driftOpen (.door d)] := by
  unfold alarmsOf leaveMessages transitMessages
  split
  · split <;> rfl
  · split <;> split <;> rfl

/-- ISOLATE of a door in service, before its messages are taken. -/
theorem State.isolateDoor_leaves {s : State} {d : DoorId} (connected : (s.door d).motion ≠ .isolated) :
    let c := s.channel d
    let off := fun v : Dir => isMoving (s.door d).motion && (s.door d).dir == v
    Leaves d { s with resolver := { s.resolver with doors := s.resolver.doors.set d ⟨false, true, false, .none⟩ } } (s.isolateDoor d)
      ((s.door d).takenOut s.image c) (c.openValve && !off .opn) (c.closeValve && !off .cls)
      ([.alarmClear .openInhibited (.door d)] ++ (leaveMessages d (s.door d) ++ transitMessages d (s.door d) ++
        [.alarmClear .driftOpen (.door d)])) := by
  intro c off
  let s1 := s.ordersEvent fun o => o.isolate d
  have channel : (if isMoving (s.door d).motion then c.withValve (s.door d).dir false else c) =
      { c with openValve := c.openValve && !off .opn, closeValve := c.closeValve && !off .cls } := by
    cases moving : isMoving (s.door d).motion <;> cases dir : (s.door d).dir <;>
      simp [off, moving, dir, Channel.withValve]
  have leaves : Leaves d s1 (s.isolateDoor d) ((s.door d).takenOut s.image c) (c.openValve && !off .opn) (c.closeValve && !off .cls)
      (leaveMessages d (s.door d) ++ transitMessages d (s.door d) ++ [.alarmClear .driftOpen (.door d)]) := by
    refine s1.doorEvent_leaves_idle s d _ _ _ _ _ ?_ (Door.due_of_motion (by nofun) (by nofun))
    rw [Work.isolate_eq (w := s1.work d) connected]
    exact congrArg (fun ch => (⟨s.image, d, (s.door d).takenOut s.image c, ch, _, false⟩ : Work)) channel
  obtain ⟨⟨⟨lines, straps, resolver, alloc, recorder, alarms, store, port, time, pending, draws⟩, doors, channels⟩, record, drives,
    messages⟩ := leaves
  refine ⟨⟨⟨lines, straps, resolver, alloc, recorder, alarms, store, port, time, pending, draws⟩, doors, channels⟩, record, drives, ?_⟩
  rw [messages, ← List.append_assoc (bs := [_])]
  rfl

/-- Settles O52: a refusal or a door isolated already changes nothing, and any other door is taken out of service. -/
theorem isolateTakesOutOfService : Obligations.IsolateTakesOutOfService := by
  unfold Obligations.IsolateTakesOutOfService
  intro s r b h body
  have length : r.body.length ∈ [1] := by simp [body]
  have operand : byteAt r.body 0 = b := by rw [body]; rfl
  have quiet {t : State} (same : t = { s with port := t.port }) : CompletionFrame s t ∧ t.recorder = s.recorder := by
    rw [same]
    exact ⟨⟨rfl, rfl, rfl, rfl, rfl, rfl, rfl⟩, rfl⟩
  have index {d e : DoorId} (hd : d.val = b.toNat) (he : e.val = b.toNat) : d = e := Fin.ext (hd.trans he.symm)
  by_cases out : 24 ≤ b.toNat
  · have refused := State.serve_refused (kind := 0x0A) (data := []) (reason := .badValue) (owner := State.isolate) h length
      (by rw [State.isolate, operand, doorIndex?_of_le out])
    obtain ⟨frame, recorder⟩ := quiet refused.eq
    exact ⟨_, rfl, frame, recorder, fun _ => ⟨refused.answered, refused.eq⟩, fun d hd => absurd d.isLt (by omega)⟩
  · obtain ⟨d, hd⟩ : ∃ d : DoorId, d.val = b.toNat := ⟨⟨b.toNat, by omega⟩, rfl⟩
    have at_ : State.isolate r.body (s.begun r) =
        if (s.door d).motion = .absent then .refused .wrongState []
        else if (s.door d).motion = .isolated then .accepted (s.begun r) []
        else .accepted ((s.begun r).isolateDoor d) [] := by
      rw [State.isolate, operand, doorIndex?_of_val hd]
      rfl
    by_cases absent : (s.door d).motion = .absent
    · have refused := State.serve_refused (kind := 0x0A) (data := []) (reason := .wrongState) (owner := State.isolate) h length
        (by rw [at_, if_pos absent])
      obtain ⟨frame, recorder⟩ := quiet refused.eq
      refine ⟨_, rfl, frame, recorder, fun high => absurd high out, fun e he => ?_⟩
      obtain rfl := index hd he
      exact ⟨fun _ => ⟨refused.answered, refused.eq⟩, fun isolated => absurd (absent.symm.trans isolated) nofun,
        fun here => absurd absent here⟩
    · by_cases isolated : (s.door d).motion = .isolated
      · have read := State.serve_read (kind := 0x0A) (data := []) (owner := State.isolate) h length
          (by rw [at_, if_neg absent, if_pos isolated])
        obtain ⟨frame, recorder⟩ := quiet read.eq
        refine ⟨_, rfl, frame, recorder, fun high => absurd high out, fun e he => ?_⟩
        obtain rfl := index hd he
        exact ⟨fun gone => absurd gone absent, fun _ => ⟨read.answered, read.eq⟩, fun _ connected => absurd isolated connected⟩
      · have leaves := State.isolateDoor_leaves (s := s.begun r) (d := d) isolated
        have served := State.serve_accepted (kind := 0x0A) (owner := State.isolate) (t := (s.begun r).isolateDoor d) (data := []) h length
          (by rw [at_, if_neg absent, if_neg isolated])
        generalize (s.begun r).isolateDoor d = u at leaves served
        let made : List Instr := [.alarmClear .openInhibited (.door d)] ++ (leaveMessages d (s.door d) ++ transitMessages d (s.door d) ++
          [.alarmClear .driftOpen (.door d)])
        have flight : u.inFlight = s.inFlight ++ made := leaves.messages
        have alarmsMade : ∀ m ∈ made, completes m = true → ToAlarms m := leavingMessages_complete d (s.door d)
        obtain ⟨only, others, taken⟩ := State.completeFrom_alarmsOnly (8 * u.inFlight.length + 8) u s.inFlight.length (by
          rw [flight, List.drop_left]
          exact alarmsMade)
        have exactly (nothing : ∀ m ∈ s.inFlight, completes m = false) :=
          (State.complete_reports nothing alarmsMade flight).1
        change u.complete s.inFlight.length = _ at only
        change othersOf (u.complete s.inFlight.length).inFlight = _ at others
        change _ → ∀ m ∈ (u.complete s.inFlight.length).inFlight, _ at taken
        have same := served.trans (State.reply_eq _)
        generalize u.complete s.inFlight.length = v at served same only others taken exactly
        have answered : Answered s.port r 0x0A none [] (s.serve (.isolate r) 0x0A r [1] State.isolate) := by
          rw [served]
          refine answered_begun.mp ?_
          have port : v.port = (s.begun r).port := by
            rw [only]
            exact leaves.port
          rw [← port]
          exact State.reply_answered _ h.addressed
        refine ⟨_, rfl, ?_⟩
        generalize s.serve (.isolate r) 0x0A r [1] State.isolate = t at same answered
        have parts : CompletionFrame s t ∧ t.recorder = s.recorder ∧ t.resolver = u.resolver ∧ (∀ e, t.door e = u.door e) ∧
            (∀ e, t.channel e = u.channel e) ∧ t.inFlight = v.inFlight ∧ t.alarms = v.alarms := by
          rw [same, only]
          exact ⟨⟨leaves.lines, leaves.straps, leaves.alloc, leaves.store, leaves.time, leaves.pending, leaves.freeDraws⟩,
            leaves.recorder, rfl, fun _ => rfl, fun _ => rfl, rfl, rfl⟩
        obtain ⟨frame, recorder, resolver, doors, channels, left, alarms⟩ := parts
        refine ⟨frame, recorder, fun high => absurd high out, fun e he => ?_⟩
        obtain rfl := index hd he
        refine ⟨fun gone => absurd gone absent, fun gone => absurd gone isolated, fun _ _ => ?_⟩
        intro moving c rest
        refine ⟨answered, resolver.trans leaves.resolver, fun e other => ⟨(doors e).trans (leaves.doors e other),
          (channels e).trans (leaves.channels e other)⟩, ?_, ?_, ?_, ?_, fun nothing => ?_⟩
        · rw [doors, leaves.record, ← isolatedEstimate_eq]
          rfl
        · rw [channels]
          exact leaves.drives
        · rw [left]
          refine others.trans ?_
          rw [flight]
          exact (List.filter_append ..).trans (congrArg (othersOf s.inFlight ++ ·) (othersOf_leaving d (s.door d)))
        · intro m hm alarm
          rw [left] at hm
          have old := taken (by omega) m hm (ToAlarms.alarmOf.mp alarm)
          rwa [flight, List.take_left] at old
        · rw [alarms, exactly nothing, leaves.alarms, alarmsOf_leaving]
          exact congrArg₂ (fun i x => AlarmList.takeAll i x _ s.alarms) (congrArg Store.active leaves.store) leaves.time

end Sys2Proof.Machine

/-! RESTORE (R46, R80). -/

namespace Sys2Proof.Machine

open Sys2Proof

/-! ### What an isolated door does with what the resolver had on its way to it -/

theorem foldl_erase_filter (p : Instr → Bool) (l : List Instr) : ∀ pre : List Instr, (∀ x ∈ pre, p x = false) →
    (l.filter p).foldl List.erase (pre ++ l) = pre ++ l.filter (!p ·) := by
  induction l with
  | nil => exact fun _ _ => rfl
  | cons x xs ih =>
    intro pre others
    cases own : p x with
    | true =>
      have apart : x ∉ pre := fun h => by
        have other := others x h
        rw [own] at other
        cases other
      rw [List.filter_cons_of_pos own, List.filter_cons_of_neg (by rw [own]; nofun), List.foldl_cons,
        List.erase_append_right _ apart, List.erase_cons_head]
      exact ih pre others
    | false =>
      rw [List.filter_cons_of_neg (by rw [own]; nofun), List.filter_cons_of_pos (by rw [own]; rfl)]
      have further := ih (pre ++ [x]) fun y hy => (List.mem_append.mp hy).elim (others y) fun one => by
        rw [List.mem_singleton.mp one, own]
      simpa using further

/-- A door is as it was, but that it may have lost its standing authority. -/
structure Idled (d : DoorId) (s t : State) : Prop where
  frame : DoorTableOnly s t
  doors : ∀ e, e ≠ d → t.door e = s.door e ∧ t.channel e = s.channel e
  record : ∃ a : Standing, (a = (s.door d).standing ∨ a = .none) ∧ (t.door d).still = Door.still { s.door d with standing := a }
  drives : Drives (s.channel d) (t.channel d) (s.channel d).openValve (s.channel d).closeValve

theorem Idled.refl (d : DoorId) (s : State) : Idled d s s :=
  ⟨.refl s, fun _ _ => ⟨rfl, rfl⟩, ⟨_, .inl rfl, rfl⟩, ⟨rfl, rfl, rfl⟩⟩

theorem Door.standing_of_still {r r' : Door} (h : r.still = r'.still) : r.standing = r'.standing :=
  (congrArg Door.standing h :)

theorem Idled.trans {d : DoorId} {s t u : State} (h : Idled d s t) (k : Idled d t u) : Idled d s u := by
  obtain ⟨a, from_, record⟩ := h.record
  obtain ⟨b, from', record'⟩ := k.record
  refine ⟨h.frame.trans k.frame, fun e other => ⟨(k.doors e other).1.trans (h.doors e other).1,
    (k.doors e other).2.trans (h.doors e other).2⟩, ⟨b, ?_, ?_⟩, ⟨k.drives.inputs.trans h.drives.inputs,
    k.drives.openValve.trans h.drives.openValve, k.drives.closeValve.trans h.drives.closeValve⟩⟩
  · rcases from' with rfl | rfl
    · rw [show (t.door d).standing = a from Door.standing_of_still record]
      exact from_
    · exact .inr rfl
  · rw [record']
    exact (congrArg (fun r : Door => ({ r with standing := b } : Door)) record :)

theorem Idled.motion {d : DoorId} {s t : State} (h : Idled d s t) : (t.door d).motion = (s.door d).motion := by
  obtain ⟨a, -, record⟩ := h.record
  exact (congrArg Door.motion record :)

theorem Idled.of_leaves {d : DoorId} {s t : State} {m : Instr} {a : Standing} (from_ : a = (s.door d).standing ∨ a = .none)
    (h : LeavesUndriven d (s.taking m) t { s.door d with standing := a } []) : Idled d s t ∧ t.inFlight = s.inFlight.erase m :=
  ⟨⟨⟨h.lines, h.straps, h.resolver, h.alloc, h.recorder, h.alarms, h.store, h.port, h.time, h.pending, h.freeDraws⟩,
    fun e other => ⟨h.doors e other, h.channels e other⟩, ⟨a, from_, h.record⟩, h.drives⟩, h.messages.trans (List.append_nil _)⟩

/-- A message from the resolver, taken by an isolated door. -/
theorem State.deliver_isolated {s : State} {d : DoorId} {m : Instr} (isolated : (s.door d).motion = .isolated)
    (way : route? m = some (.toDoorTable d)) : Idled d s (s.deliver m) ∧ (s.deliver m).inFlight = s.inFlight.erase m := by
  cases m <;> cases way
  case standingAuthorityReport a =>
    refine Idled.of_leaves (a := .none) (.inr rfl) ((s.taking _).doorEvent_leavesUndriven_idle _ d (·.order a) _ _ ?_
      (Door.due_of_standing rfl))
    exact Work.order_unserved (w := (s.taking (.standingAuthorityReport d a)).work d) fun served => served.1 isolated
  case handleRuling r =>
    refine Idled.of_leaves (a := (s.door d).standing) (.inl rfl) ((s.taking _).doorEvent_leavesUndriven_idle _ d (·.rule r) _ _ ?_
      (Door.due_of_motion ?_ ?_))
    · show Work.rule ((s.taking (.handleRuling d r)).work d) r = _
      rw [Work.rule, show ((s.taking (.handleRuling d r)).work d).door.motion = .isolated from isolated]
      rfl
    · rw [show (s.door d).motion = .isolated from isolated]
      nofun
    · rw [show (s.door d).motion = .isolated from isolated]
      nofun

theorem State.settleDoor_idles {s : State} {d : DoorId} (isolated : (s.door d).motion = .isolated) :
    Idled d s (s.settleDoor d) ∧ (s.settleDoor d).inFlight = s.inFlight.filter fun m => route? m != some (.toDoorTable d) := by
  have all : ∀ (ms : List Instr) (t : State), (t.door d).motion = .isolated → (∀ m ∈ ms, route? m = some (.toDoorTable d)) →
      Idled d t (ms.foldl (fun s x => s.deliver x) t) ∧
        (ms.foldl (fun s x => s.deliver x) t).inFlight = ms.foldl List.erase t.inFlight := by
    intro ms
    induction ms with
    | nil => exact fun t _ _ => ⟨.refl d t, rfl⟩
    | cons m ms ih =>
      intro t still ways
      obtain ⟨idled, erased⟩ := State.deliver_isolated still (ways m List.mem_cons_self)
      obtain ⟨rest, left⟩ := ih (t.deliver m) (idled.motion.trans still) fun x hx => ways x (List.mem_cons_of_mem _ hx)
      exact ⟨idled.trans rest, by rw [List.foldl_cons, left, erased]; rfl⟩
  have split := foldl_erase_filter (fun x => route? x == some (.toDoorTable d)) s.inFlight [] fun _ h => absurd h List.not_mem_nil
  rw [List.nil_append, List.nil_append] at split
  unfold State.settleDoor
  obtain ⟨idled, left⟩ := all (s.inFlight.filter fun x => route? x == some (.toDoorTable d)) s isolated fun m hm => by
    simpa using (List.mem_filter.mp hm).2
  exact ⟨idled, left.trans split⟩

theorem State.settleDoors_one (s : State) (d : DoorId) :
    s.settleDoors [d] = (s.settleDoor d, (s.inFlight.filter fun m => route? m != some (.toDoorTable d)).length) := by
  unfold State.settleDoors
  rw [← List.countP_eq_length_filter]
  refine congrArg (Prod.mk _) (List.countP_congr fun m _ => ?_)
  rw [List.all_cons, List.all_nil, Bool.and_true]

/-! ### The door as it settles -/

/-- A door that enters SETTLING (R22, R46). -/
def Door.settlesAgain (r : Door) : Door :=
  { r with
    motion := .settling, settle := .fresh, tight := false, edgeWait := .none, edgeTimer := none, warningTimer := none
    dwellTimer := none }

theorem Work.order_settling {w : Work} {a : Standing} (settling : w.door.motion = .settling) (some : a ≠ .none) :
    w.order a = w.withStanding a := by
  have served : w.door.motion ≠ .isolated ∧ w.door.motion ≠ .absent := by rw [settling]; exact ⟨nofun, nofun⟩
  have other {m : Motion} (h : m ≠ .settling) : w.door.motion ≠ m := fun is => h (is.symm.trans settling)
  rw [Work.order_served served]
  split
  · next same => rw [same]; rfl
  · split
    · refine Work.orderRises_other (fun h => ?_) fun h => ?_
      · exact h.1.elim (other (by decide)) fun h => other (by decide) h.1
      · exact h.1.elim (other (by decide)) fun h => other (by decide) h.1
    · refine Work.orderChanges_other (other (by decide)) fun h => ?_
      exact h.1.elim (other (by decide)) fun h => other (by decide) h.1

/-- What is left of a door and of the rest when it has been restored, before its report is taken. -/
structure Restored (d : DoorId) (s t : State) (o : Orders) : Prop where
  frame : DoorTableOnly s { t with resolver := s.resolver }
  doors : ∀ e, e ≠ d → t.door e = s.door e ∧ t.channel e = s.channel e
  record : (t.door d).still = (s.door d).settlesAgain.still
  inputs : (t.channel d).inputs = ((s.channel d).reprimed s.image.group).inputs
  resolver : t.resolver = { s.resolver with doors := s.resolver.doors.set d { o.door d with reported := o.due d } }
  messages : t.inFlight = s.inFlight ++ o.reports d

/-- The resolver with the door no longer isolated. -/
def State.connected (s : State) (d : DoorId) : Orders := s.orders.withDoor d { s.orders.door d with isolated := false }

theorem Orders.withDoor_twice (o : Orders) (d : DoorId) (x y : DoorOrder) :
    ((o.withDoor d x).withDoor d y).resolver = { o.resolver with doors := o.resolver.doors.set d y } := by
  unfold Orders.withDoor
  simp only [Vector.set_set]

theorem State.restoreDoor_restored (s : State) (d : DoorId) : Restored d s (s.restoreDoor d) (s.connected d) := by
  have event := s.doorEvent_onlyDoor s d Work.enterSettling
  have idle : (s.work d).enterSettling.startIfDue = (s.work d).enterSettling := by
    unfold Work.startIfDue
    rw [show (s.work d).enterSettling.door.due = false from Door.due_of_motion (by nofun) (by nofun)]
    rfl
  have quiet : (s.doorEvent s d Work.enterSettling).inFlight = s.inFlight := by
    show s.inFlight ++ ((s.work d).event _ _ _).out = _
    rw [Work.event_out, idle]
    exact List.append_nil _
  have door : ((s.doorEvent s d Work.enterSettling).door d).still = (s.door d).settlesAgain.still := by
    rw [State.doorEvent_door, Work.event_still, idle]
    rfl
  have channel : ((s.doorEvent s d Work.enterSettling).channel d).inputs = ((s.channel d).reprimed s.image.group).inputs := by
    rw [State.doorEvent_channel, Work.event_channel, idle]
    rfl
  have orders : (s.doorEvent s d Work.enterSettling).orders = s.orders := event.toDoorTableOnly.orders
  have computed : (s.orders.restore d) = { (s.connected d).withDoor d { (s.connected d).door d with reported := (s.connected d).due d } with
      out := (s.connected d).out ++ (s.connected d).reports d } := Orders.recompute_eq _ d
  unfold State.restoreDoor
  refine ⟨⟨event.lines, event.straps, rfl, event.alloc, event.recorder, event.alarms, event.store, event.port, event.time, event.pending,
    event.freeDraws⟩, fun e other => ⟨event.doors e other, event.channels e other⟩, door, channel, ?_, ?_⟩
  · rw [State.ordersEvent_resolver, orders, computed]
    exact Orders.withDoor_twice s.orders d _ _
  · rw [State.ordersEvent_inFlight, orders, computed, quiet]
    rfl

/-- What is left of a door that has been restored, its report taken (R46, R80). -/
structure Rejoined (d : DoorId) (s t : State) : Prop where
  frame : DoorTableOnly s { t with resolver := s.resolver }
  doors : ∀ e, e ≠ d → t.door e = s.door e ∧ t.channel e = s.channel e
  record : (t.door d).still = (s.door d).settlesAgain.still ∧ (s.connected d).reportsTo d = false ∨
    (t.door d).still = Door.still { (s.door d).settlesAgain with standing := (s.connected d).due d }
  inputs : (t.channel d).inputs = ((s.channel d).reprimed s.image.group).inputs
  resolver : t.resolver = { s.resolver with
    doors := s.resolver.doors.set d { (s.connected d).door d with reported := (s.connected d).due d } }
  flight : t.inFlight = s.inFlight

theorem Orders.due_unisolated {o : Orders} {d : DoorId} (agrees : (o.door d).reported = o.due d)
    (reports : (o.withDoor d { o.door d with isolated := false }).reportsTo d = true) :
    (o.withDoor d { o.door d with isolated := false }).due d ≠ .none := by
  intro none
  have held := o.withDoor_door d { o.door d with isolated := false }
  have differs : ¬((o.withDoor d { o.door d with isolated := false }).due d = (o.door d).reported) := fun same => by
    unfold Orders.reportsTo at reports
    rw [held, decide_eq_true (.inl same)] at reports
    cases reports
  rw [none, agrees] at differs
  cases isolated : (o.door d).isolated with
  | true => exact differs (Orders.due_unserved (by rw [isolated, Bool.not_true, Bool.and_false])).symm
  | false =>
    refine differs (none.symm.trans (Orders.due_congr rfl rfl rfl ?_ ?_))
    · rw [held]
    · rw [held, isolated]

theorem State.restore_rejoins {s : State} {d : DoorId} (standing : (s.orders.door d).reported = s.orders.due d)
    (free : ∀ m ∈ s.inFlight, route? m ≠ some (.toDoorTable d)) : Rejoined d s ((s.restoreDoor d).complete s.inFlight.length) := by
  have restored := s.restoreDoor_restored d
  unfold State.complete
  generalize s.restoreDoor d = u at restored
  obtain ⟨frame, doors, record, inputs, resolver, messages⟩ := restored
  rw [Orders.reports_of] at messages
  cases reports : (s.connected d).reportsTo d with
  | false =>
    rw [reports, if_neg nofun, List.append_nil] at messages
    have done := State.completeFrom_quiet (s := u) (mark := s.inFlight.length) (by
      rw [messages, List.drop_length]
      exact fun _ h => absurd h List.not_mem_nil) (8 * u.inFlight.length + 8)
    rw [done]
    exact ⟨frame, doors, .inl ⟨record, reports⟩, inputs, resolver, messages⟩
  | true =>
    have some : (s.connected d).due d ≠ .none := Orders.due_unisolated standing reports
    rw [reports, if_pos rfl] at messages
    generalize due : (s.connected d).due d = a at messages some
    have settling : (u.door d).motion = .settling := (congrArg Door.motion record :)
    have told : LeavesUndriven d (u.taking (.standingAuthorityReport d a)) (u.deliver (.standingAuthorityReport d a))
        { u.door d with standing := a } [] := by
      refine (u.taking _).doorEvent_leavesUndriven_idle _ d (·.order a) _ _ ?_ (Door.due_of_motion ?_ ?_)
      · exact Work.order_settling (w := (u.taking (.standingAuthorityReport d a)).work d) settling some
      · rw [show (u.door d).motion = .settling from settling]
        nofun
      · rw [show (u.door d).motion = .settling from settling]
        nofun
    have next := State.completeFrom_next (s := u) (old := s.inFlight) (pre := []) (post := []) (m := .standingAuthorityReport d a)
      (8 * u.inFlight.length + 7) (by rw [messages, List.append_nil]) rfl free (fun _ h => absurd h List.not_mem_nil)
    have apart : Instr.standingAuthorityReport d a ∉ s.inFlight := fun h => free _ h rfl
    have left : (u.deliver (.standingAuthorityReport d a)).inFlight = s.inFlight := by
      rw [told.messages, List.append_nil]
      show u.inFlight.erase _ = _
      rw [messages, List.erase_append_right _ apart, List.erase_cons_head, List.append_nil]
    have done := State.completeFrom_quiet (s := u.deliver (.standingAuthorityReport d a)) (mark := s.inFlight.length) (by
      rw [left, List.drop_length]
      exact fun _ h => absurd h List.not_mem_nil) (8 * u.inFlight.length + 7)
    rw [next, done]
    generalize u.deliver (.standingAuthorityReport d a) = t at told left
    refine ⟨⟨told.lines.trans frame.lines, told.straps.trans frame.straps, rfl, told.alloc.trans frame.alloc,
      told.recorder.trans frame.recorder, told.alarms.trans frame.alarms, told.store.trans frame.store, told.port.trans frame.port,
      told.time.trans frame.time, told.pending.trans frame.pending, told.freeDraws.trans frame.freeDraws⟩,
      fun e other => ⟨(told.doors e other).trans (doors e other).1, (told.channels e other).trans (doors e other).2⟩,
      .inr ?_, told.drives.inputs.trans inputs, told.resolver.trans resolver, left⟩
    rw [told.record, due]
    exact (congrArg (fun r : Door => ({ r with standing := a } : Door)) record :)

/-- Settles O53: a refusal or a door that is not isolated changes nothing, and an isolated one settles under its standing authority. -/
theorem restoreReturnsToService : Obligations.RestoreReturnsToService := by
  unfold Obligations.RestoreReturnsToService
  intro s r b h body standing
  have length : r.body.length ∈ [1] := by simp [body]
  have operand : byteAt r.body 0 = b := by rw [body]; rfl
  have quiet {t : State} (same : t = { s with port := t.port }) : DoorTableOnly s { t with port := s.port, resolver := s.resolver } := by
    rw [same]
    exact ⟨rfl, rfl, rfl, rfl, rfl, rfl, rfl, rfl, rfl, rfl, rfl⟩
  have index {d e : DoorId} (hd : d.val = b.toNat) (he : e.val = b.toNat) : d = e := Fin.ext (hd.trans he.symm)
  by_cases out : 24 ≤ b.toNat
  · have refused := State.serve_refused (kind := 0x0B) (data := []) (reason := .badValue) (owner := State.restore) h length
      (by rw [State.restore, operand, doorIndex?_of_le out])
    exact ⟨_, rfl, quiet refused.eq, fun _ => ⟨refused.answered, refused.eq⟩, fun d hd => absurd d.isLt (by omega)⟩
  · obtain ⟨d, hd⟩ : ∃ d : DoorId, d.val = b.toNat := ⟨⟨b.toNat, by omega⟩, rfl⟩
    have at_ : State.restore r.body (s.begun r) =
        if (s.door d).motion = .absent then .refused .wrongState []
        else if (s.door d).motion ≠ .isolated then .accepted (s.begun r) []
        else if (s.door d).testResult = .running then .refused .wrongState []
        else .completed ((((s.begun r).settleDoors [d]).1.restoreDoor d).complete ((s.begun r).settleDoors [d]).2) [] := by
      rw [State.restore, operand, doorIndex?_of_val hd]
      rfl
    by_cases absent : (s.door d).motion = .absent
    · have refused := State.serve_refused (kind := 0x0B) (data := []) (reason := .wrongState) (owner := State.restore) h length
        (by rw [at_, if_pos absent])
      refine ⟨_, rfl, quiet refused.eq, fun high => absurd high out, fun e he => ?_⟩
      obtain rfl := index hd he
      exact ⟨fun _ => ⟨refused.answered, refused.eq⟩, fun here => absurd absent here,
        fun isolated => absurd (absent.symm.trans isolated) nofun, fun isolated => absurd (absent.symm.trans isolated) nofun⟩
    by_cases isolated : (s.door d).motion = .isolated
    swap
    · have read := State.serve_read (kind := 0x0B) (data := []) (owner := State.restore) h length
        (by rw [at_, if_neg absent, if_pos isolated])
      refine ⟨_, rfl, quiet read.eq, fun high => absurd high out, fun e he => ?_⟩
      obtain rfl := index hd he
      exact ⟨fun gone => absurd gone absent, fun _ _ => ⟨read.answered, read.eq⟩, fun gone => absurd gone isolated,
        fun gone => absurd gone isolated⟩
    by_cases tests : (s.door d).testResult = .running
    · have refused := State.serve_refused (kind := 0x0B) (data := []) (reason := .wrongState) (owner := State.restore) h length
        (by rw [at_, if_neg absent, if_neg (not_not.mpr isolated), if_pos tests])
      refine ⟨_, rfl, quiet refused.eq, fun high => absurd high out, fun e he => ?_⟩
      obtain rfl := index hd he
      exact ⟨fun gone => absurd gone absent, fun _ connected => absurd isolated connected,
        fun _ _ => ⟨refused.answered, refused.eq⟩, fun _ idle => absurd tests idle⟩
    have served := State.serve_completed (kind := 0x0B) (owner := State.restore) h length
      (by rw [at_, if_neg absent, if_neg (not_not.mpr isolated), if_neg tests])
    rw [State.settleDoors_one] at served
    obtain ⟨idled, settled⟩ := State.settleDoor_idles (s := s.begun r) (d := d) isolated
    dsimp only at served
    rw [← settled] at served
    generalize (s.begun r).settleDoor d = u at idled settled served
    have orders : u.orders = s.orders := idled.frame.orders
    have connected : u.connected d = s.connected d := by
      unfold State.connected
      rw [orders]
    have rejoined := State.restore_rejoins (s := u) (d := d)
      (by rw [orders]; exact (standing d).trans (s.orders.due_eq_strongestSource d).symm)
      (fun m hm => by
        rw [settled] at hm
        simpa using (List.mem_filter.mp hm).2)
    generalize (u.restoreDoor d).complete u.inFlight.length = v at rejoined served
    have same := served.trans (State.reply_eq _)
    have answered : Answered s.port r 0x0B none [] (s.serve (.restore r) 0x0B r [1] State.restore) := by
      rw [served]
      refine answered_begun.mp ?_
      have port : v.port = (s.begun r).port := rejoined.frame.port.trans idled.frame.port
      rw [← port]
      exact State.reply_answered _ h.addressed
    refine ⟨_, rfl, ?_⟩
    generalize s.serve (.restore r) 0x0B r [1] State.restore = t at same answered
    have frame := idled.frame
    refine ⟨?_, fun high => absurd high out, fun e he => ?_⟩
    · rw [same]
      exact ⟨rejoined.frame.lines.trans frame.lines, rejoined.frame.straps.trans frame.straps, rfl,
        rejoined.frame.alloc.trans frame.alloc, rejoined.frame.recorder.trans frame.recorder,
        rejoined.frame.alarms.trans frame.alarms, rejoined.frame.store.trans frame.store, rfl, rejoined.frame.time.trans frame.time,
        rejoined.frame.pending.trans frame.pending, rejoined.frame.freeDraws.trans frame.freeDraws⟩
    · obtain rfl := index hd he
      refine ⟨fun gone => absurd gone absent, fun _ gone => absurd isolated gone, fun _ running => absurd running tests,
        fun _ _ present was none outOfTransit => ?_⟩
      intro a times again
      have due : (s.connected d).due d = a := (s.connected d).due_eq_strongestSource d
      have door : (u.door d).still = (s.door d).still := by
        obtain ⟨x, from_, record⟩ := idled.record
        have same : x = (s.door d).standing := from_.elim id fun h => h.trans none.symm
        rw [record, same]
        rfl
      have settles : (u.door d).settlesAgain.still = (s.door d).settlesAgain.still :=
        (congrArg (fun r : Door => r.settlesAgain) door :)
      have held : (s.connected d).door d = { s.resolver.doors[d] with isolated := false } := s.orders.withDoor_door d _
      have resolver : t.resolver = v.resolver := by rw [same]
      have inputs : (v.channel d).inputs = ((s.channel d).reprimed s.image.group).inputs := by
        have image : u.image = s.image := frame.image
        rw [rejoined.inputs, image]
        exact (congrArg (fun c : Channel => c.reprimed s.image.group) idled.drives.inputs :)
      refine ⟨answered, ?_, ?_, fun e other => ?_, ?_, ?_⟩
      · rw [same]
        exact rejoined.flight.trans settled
      · rw [resolver, rejoined.resolver, connected, held, due, frame.resolver]
        rfl
      · rw [same]
        exact ⟨(rejoined.doors e other).1.trans (idled.doors e other).1, (rejoined.doors e other).2.trans (idled.doors e other).2⟩
      · have record : (t.door d).still = (v.door d).still := by rw [same]; rfl
        rw [record]
        rcases rejoined.record with ⟨still, silent⟩ | told
        · have free : a = .none := by
            rw [connected, Orders.reportsTo, Bool.not_eq_false'] at silent
            rcases of_decide_eq_true silent with agrees | gone
            · rw [← due, agrees, held]
              show s.resolver.doors[d].reported = .none
              rw [standing d, strongestSource, if_neg fun serves => ?_]
              exact absurd serves.2 (by rw [was]; nofun)
            · exact absurd present (by rw [show s.image.doors[d].present = false from gone]; nofun)
          rw [still, settles, free]
          exact (congrArg (fun x : Standing => Door.still { (s.door d).settlesAgain with standing := x }) none :)
        · rw [told, connected, due]
          exact (congrArg (fun r : Door => ({ r with standing := a } : Door)) settles :)
      · have channel : (t.channel d).inputs = (v.channel d).inputs := by rw [same]; rfl
        rw [channel, inputs]
        rfl

end Sys2Proof.Machine

/-! The recorder over several doors, and COUNTERS_CLEAR (R115 to R117). -/

namespace Sys2Proof.Machine

open Sys2Proof

/-! ### One step of the recorder per door -/

/-- A step of the recorder concerns one door: what it makes of its records and which reports it makes. -/
def Log.PerDoor (i : Image) (f : Log → DoorId → Log) (g : DoorId → DoorFaults → DoorFaults) (m : DoorId → DoorFaults → List Instr) : Prop :=
  ∀ (l : Log) (d : DoorId), l.image = i → f l d = { l.withDoor d (g d (l.door d)) with out := l.out ++ m d (l.door d) }

/-- Such steps for several doors, each once. -/
theorem Log.foldl_perDoor {i : Image} {f : Log → DoorId → Log} {g : DoorId → DoorFaults → DoorFaults}
    {m : DoorId → DoorFaults → List Instr} (step : Log.PerDoor i f g m) (ds : List DoorId) : ∀ l : Log, l.image = i → ds.Nodup →
      ∃ records, ds.foldl f l = ⟨i, l.time, ⟨records, l.recorder.drive⟩, l.out ++ ds.flatMap fun d => m d (l.door d)⟩ ∧
        ∀ d : DoorId, records[d] = if d ∈ ds then g d (l.door d) else l.door d := by
  induction ds with
  | nil =>
    intro l image _
    refine ⟨l.recorder.doors, ?_, fun d => (if_neg List.not_mem_nil).symm⟩
    rw [List.flatMap_nil, List.append_nil, ← image]
    rfl
  | cons e ds ih =>
    intro l image once
    obtain ⟨fresh, once⟩ := List.nodup_cons.mp once
    have first := step l e image
    have other (d : DoorId) (h : d ≠ e) : (f l e).door d = l.door d := by
      rw [first]
      exact l.withDoor_door_ne _ h
    have own : (f l e).door e = g e (l.door e) := by
      rw [first]
      exact l.withDoor_door e _
    obtain ⟨records, rest, doors⟩ := ih (f l e) (by rw [first]; exact image) once
    refine ⟨records, ?_, fun d => ?_⟩
    · have made : ds.flatMap (fun d => m d ((f l e).door d)) = ds.flatMap fun d => m d (l.door d) :=
        List.flatMap_congr fun d hd => by rw [other d fun same => fresh (same ▸ hd)]
      rw [List.foldl_cons, rest, made, first, List.flatMap_cons, ← List.append_assoc]
      rfl
    · rw [doors]
      by_cases same : d = e
      · subst same
        rw [if_neg fresh, if_pos List.mem_cons_self, own]
      · rw [other d same]
        exact if_congr (by simp [same]) rfl rfl

/-! ### COUNTERS_CLEAR -/

/-- The records of a door whose counters are cleared (R117). -/
def DoorFaults.uncounted (x : DoorFaults) : DoorFaults := ⟨x.capture, ⟨0, 0, 0, 0, 0⟩, false⟩

theorem Log.clearCounters_perDoor (i : Image) :
    Log.PerDoor i Log.clearCounters (fun d x => if i.doors[d].present then x.uncounted else x)
      (fun d x => if i.doors[d].present && x.wear then [.alarmClear .wear (.door d)] else []) := by
  rintro l d rfl
  unfold Log.clearCounters
  dsimp only
  cases present : l.image.doors[d].present with
  | false =>
    rw [if_neg nofun, if_neg nofun, if_neg nofun, Log.withDoor_self, List.append_nil]
  | true =>
    rw [if_pos rfl, if_pos rfl, Log.evalWear_eq, Log.withDoor_door, Log.withDoor_withDoor]
    cases wears : (l.door d).wear <;>
      simp [changeMessages, DoorFaults.worn, DoorFaults.uncounted, Wear.zero, Wear.exceeds, Log.withDoor]

theorem inDoors_doorSetOf {body : List Byte} {b2 b1 b0 : Byte} (h : body = [b2, b1, b0]) (d : DoorId) :
    inDoors (doorSetOf body) d = (b2 ++ b1 ++ b0).getLsbD d.val := by
  rw [h]
  rfl

/-- A request to the recorder, by what it makes of the log. -/
theorem State.logEvent_eq (s : State) (f : Log → Log) {records : Vector DoorFaults 24} {out : List Instr}
    (h : f s.log = ⟨s.image, s.time, ⟨records, s.recorder.drive⟩, out⟩) :
    s.logEvent f = { s with recorder := ⟨records, s.recorder.drive⟩, inFlight := s.inFlight ++ out } := by
  unfold State.logEvent
  rw [h]
  rfl

/-- COUNTERS_CLEAR: the counters of the doors it names, and the reports of WEAR that it ends. -/
theorem State.countersClear_clears {s : State} {r : Req} {b2 b1 b0 : Byte} (body : r.body = [b2, b1, b0])
    (h : Waits s (.countersClear r) r) :
    let named := fun d : DoorId => (b2 ++ b1 ++ b0).getLsbD d.val && s.image.doors[d].present
    ∃ t, exec (.countersClear r) s = .next t ∧ CompletionFrame s t ∧ Answered s.port r 0x14 none [] t ∧
      t.resolver = s.resolver ∧ t.doors = s.doors ∧ t.channels = s.channels ∧ t.recorder.drive = s.recorder.drive ∧
      (∀ d : DoorId, t.recorder.doors[d] =
        if named d then ⟨s.recorder.doors[d].capture, ⟨0, 0, 0, 0, 0⟩, false⟩ else s.recorder.doors[d]) ∧
      (s.inFlight = [] → t.inFlight = [] ∧ t.alarms = AlarmList.takeAll s.image s.time
        ((allDoors.filter fun d => named d && s.recorder.doors[d].wear).map fun d => Instr.alarmClear .wear (.door d))
        s.alarms) := by
  intro named
  have length : r.body.length ∈ [3] := by simp [body]
  let ds := allDoors.filter (inDoors (doorSetOf r.body))
  have inNamed (d : DoorId) : d ∈ ds ↔ (b2 ++ b1 ++ b0).getLsbD d.val = true := by
    rw [List.mem_filter, inDoors_doorSetOf body]
    exact and_iff_right (mem_allDoors d)
  obtain ⟨records, folded, doors⟩ := Log.foldl_perDoor (Log.clearCounters_perDoor s.image) ds (s.begun r).log rfl
    (nodup_allDoors.filter _)
  generalize out : ds.flatMap (fun d => if s.image.doors[d].present && ((s.begun r).log.door d).wear then
    [Instr.alarmClear .wear (.door d)] else []) = ms at folded
  have clears : ms = (allDoors.filter fun d => named d && s.recorder.doors[d].wear).map fun d => Instr.alarmClear .wear (.door d) := by
    rw [← out, flatMap_ite_singleton, List.filter_filter]
    refine congrArg (List.map _) (List.filter_congr fun d _ => ?_)
    rw [inDoors_doorSetOf body, Bool.and_comm, ← Bool.and_assoc]
    rfl
  have alarms : ∀ m ∈ ms, ToAlarms m := fun m hm => by
    rw [clears] at hm
    obtain ⟨d, -, rfl⟩ := List.mem_map.mp hm
    trivial
  have part : State.countersClear r.body (s.begun r) =
      .accepted { s.begun r with recorder := ⟨records, s.recorder.drive⟩, inFlight := s.inFlight ++ ms } [] :=
    congrArg (Answer.accepted · []) (State.logEvent_eq (s.begun r) _ folded)
  have served := State.serve_accepted (kind := 0x14) (owner := State.countersClear) (data := []) h length part
  obtain ⟨u, event⟩ : ∃ u : State, u = { s.begun r with recorder := ⟨records, s.recorder.drive⟩, inFlight := s.inFlight ++ ms } :=
    ⟨_, rfl⟩
  rw [← event] at served
  have flight : u.inFlight = s.inFlight ++ ms := by rw [event]
  obtain ⟨only, -, -⟩ := State.completeFrom_alarmsOnly (8 * u.inFlight.length + 8) u s.inFlight.length (by
    rw [flight, List.drop_left]
    exact fun m hm _ => alarms m hm)
  have exactly (nothing : s.inFlight = []) : (u.complete s.inFlight.length).alarms = u.alarms.takeAll u.image u.time (alarmsOf ms) ∧
      (u.complete s.inFlight.length).inFlight = ms.filter (!completes ·) := by
    rw [nothing]
    exact State.complete_reports (old := []) (fun _ h => absurd h List.not_mem_nil) (fun m hm _ => alarms m hm) (by rw [flight, nothing])
  change u.complete s.inFlight.length = _ at only
  have whole := served.trans (State.reply_eq _)
  have answered := State.reply_answered (kind := 0x14) (reason := none) (data := []) (u.complete s.inFlight.length) h.addressed
  rw [← served] at answered
  generalize u.complete s.inFlight.length = v at only whole answered exactly
  refine ⟨_, rfl, ?_⟩
  generalize s.serve (.countersClear r) 0x14 r [3] State.countersClear = t at whole answered
  rw [only, event] at answered
  refine ⟨?_, answered_begun.mp answered, ?_⟩
  · rw [whole, only, event]
    exact ⟨rfl, rfl, rfl, rfl, rfl, rfl, rfl⟩
  · rw [whole]
    refine ⟨?_, ?_, ?_, ?_, fun d => ?_, fun nothing => ?_⟩
    · rw [only, event]
      rfl
    · rw [only, event]
      rfl
    · rw [only, event]
      rfl
    · rw [only, event]
    · have record : v.recorder.doors[d] = records[d] := by rw [only, event]
      refine record.trans ((doors d).trans ?_)
      by_cases isNamed : d ∈ ds
      · rw [if_pos isNamed]
        simp only [named, (inNamed d).mp isNamed]
        cases s.image.doors[d].present <;> rfl
      · rw [if_neg isNamed]
        simp only [named, Bool.eq_false_of_not_eq_true fun bit => isNamed ((inNamed d).mpr bit)]
        rfl
    · obtain ⟨taken, left⟩ := exactly nothing
      refine ⟨left.trans ?_, taken.trans ?_⟩
      · exact List.filter_eq_nil_iff.mpr fun m hm => by rw [(alarms m hm).completes]; nofun
      · rw [alarmsOf_self alarms, clears, event]
        rfl

end Sys2Proof.Machine

/-! FAULT_CLEAR (R44, R113). -/

namespace Sys2Proof.Machine

open Sys2Proof

/-! ### Captures emptied -/

/-- What the emptying of a door's capture makes (R113). -/
def emptiedMessages (d : DoorId) (capture : Option Capture) : List Instr :=
  match capture with
  | none => []
  | some c => [.alarmResetCondition (faultAlarm c.kind) (.door d), .captureEmptiedNotice d]

theorem Log.clearFault_perDoor (i : Image) :
    Log.PerDoor i Log.clearFault (fun d x => if i.doors[d].present then { x with capture := none } else x)
      (fun d x => if i.doors[d].present then emptiedMessages d x.capture else []) := by
  rintro l d rfl
  unfold Log.clearFault
  dsimp only
  cases present : l.image.doors[d].present with
  | false =>
    rw [if_neg nofun, if_neg nofun, Log.withDoor_self, List.append_nil]
  | true =>
    rw [if_pos rfl, if_pos rfl]
    cases held : (l.door d).capture with
    | none =>
      have same : { l.door d with capture := none } = l.door d := by rw [← held]
      rw [same, Log.withDoor_self]
      exact congrArg (Log.mk _ _ _) (List.append_nil _).symm
    | some c => exact congrArg (Log.mk _ _ _) (List.append_assoc l.out [_] [_])

/-! ### A door looked at again when its capture has been emptied -/

/-- A mismatch stands that the door's drive-check flag reports (R44). -/
def State.mismatched (s : State) (d : DoorId) : Bool :=
  s.image.doors[d].driveCheck && ((s.door d).openCheck.reported || (s.door d).closeCheck.reported)

/-- A conflict of the door's end switches stands (R44). -/
def State.conflicted (s : State) (d : DoorId) : Bool :=
  (s.channel d).closedSwitch.filtered && (s.channel d).openSwitch.filtered && (s.door d).motion != .isolated

/-- The kind that a persisting condition reports first, and the one it reports beside it (R108, R109). -/
def State.persistingKind (s : State) (d : DoorId) : FaultKind := if s.mismatched d then .driveFault else .switchConflict
def State.persistingSecond (s : State) (d : DoorId) : Option FaultKind :=
  if s.mismatched d && s.conflicted d then some .switchConflict else none

/-- The report of the conditions that persist (entry 14). -/
def State.persistingReport (s : State) (d : DoorId) : Instr :=
  .faultReport d (s.persistingKind d) (s.persistingSecond d) true (s.door d).asReported

/-- A door of which a condition persists, its capture emptied (R44). -/
def State.lookedAt (s : State) (d : DoorId) : Door :=
  { s.door d with
    faulted := false
    settle := { (s.door d).settle with conflict := (s.door d).settle.conflict || ((s.door d).motion == .settling && s.conflicted d) } }

theorem Door.still_eq_iff {r q : Door} : r.still = q.still ↔ r = { q with changed := r.changed } := by
  constructor
  · intro h
    exact congrArg (fun x : Door => { x with changed := r.changed }) h
  · intro h
    rw [h]
    rfl

section
variable {s : State} {d : DoorId} (here : (s.door d).motion ≠ .absent) (present : s.image.doors[d].present = true)
include here present

theorem State.worked_emptied_persists (persists : (s.mismatched d || s.conflicted d) = true) :
    (s.worked d Work.emptied).door.still = (s.lookedAt d).still ∧
      (∃ on, (s.worked d Work.emptied).channel = { s.channel d with warning := on }) ∧
      (s.worked d Work.emptied).out = [s.persistingReport d] := by
  have examined : Work.emptied (s.work d) = ⟨s.image, d, s.lookedAt d, s.channel d, [s.persistingReport d], true⟩ := by
    rw [(s.work d).emptied_examined here present (mismatches := s.mismatched d) (conflicts := s.conflicted d) rfl rfl,
      if_pos (Bool.or_eq_true_iff.mp persists)]
    cases conflict : s.conflicted d with
    | true =>
      dsimp only
      rw [if_pos rfl, Work.noteConflict_eq]
      unfold State.lookedAt State.persistingReport State.persistingKind State.persistingSecond
      rw [conflict, Bool.and_true, Bool.and_true]
      rfl
    | false =>
      unfold State.lookedAt State.persistingReport State.persistingKind State.persistingSecond
      rw [conflict, Bool.and_false, Bool.and_false, Bool.or_false]
      rfl
  have idle := Work.startIfDue_barred ⟨s.image, d, s.lookedAt d, s.channel d, [s.persistingReport d], true⟩ rfl
  rw [← examined] at idle
  refine ⟨?_, ⟨warningOn (Work.emptied (s.work d)).startIfDue.door, ?_⟩, ?_⟩
  · rw [State.worked, Work.event_still, idle, examined]
  · rw [State.worked, Work.event_channel, idle, examined]
  · rw [State.worked, Work.event_out, idle, examined]

theorem State.worked_emptied_ends (ends : (s.mismatched d || s.conflicted d) = false) :
    let freed : Door := { s.door d with faulted := false }
    (s.worked d Work.emptied).door.still = (freed.proceeds s.image (s.channel d)).still ∧
      (∃ on, (s.worked d Work.emptied).channel = { s.channel d with warning := on }) ∧
      (s.worked d Work.emptied).out = proceedMessages s.image d (s.channel d) freed := by
  intro freed
  have examined : Work.emptied (s.work d) = ⟨s.image, d, freed, s.channel d, [], false⟩ := by
    rw [(s.work d).emptied_examined here present (mismatches := s.mismatched d) (conflicts := s.conflicted d) rfl rfl,
      if_neg (by rw [← Bool.or_eq_true_iff, ends]; nofun)]
    rfl
  have starts := Work.startIfDue_eq ⟨s.image, d, freed, s.channel d, [], false⟩ rfl
  rw [← examined] at starts
  refine ⟨?_, ⟨warningOn (Work.emptied (s.work d)).startIfDue.door, ?_⟩, ?_⟩
  · rw [State.worked, Work.event_still, starts, examined]
  · rw [State.worked, Work.event_channel, starts, examined]
  · rw [State.worked, Work.event_out, starts, examined]
    rfl

end

/-! ### A door whose capture is occupied again -/

/-- The notice of an occupied capture that finds a door out of transit. -/
theorem State.worked_occupied {s : State} {d : DoorId} {r : Door} {c : Channel} {on : Bool} (door : (s.door d).still = r.still)
    (channel : s.channel d = { c with warning := on }) (here : r.motion ≠ .absent) (outOfTransit : r.transit = false) :
    let held : Door := { r with faulted := true }
    (s.worked d Work.occupied).door.still = (held.heldByFault c).still ∧
      (∃ on, (s.worked d Work.occupied).channel = { c with warning := on }) ∧
      (s.worked d Work.occupied).out = if r.motion = .queued then [.withdraw d] else [] := by
  intro held
  have is := Door.still_eq_iff.mp door
  have quiet : transitMessages d { s.door d with faulted := true } = [] := by
    rw [is]
    exact if_neg (by show ¬r.transit = true; rw [outOfTransit]; nofun)
  have occupies : Work.occupied (s.work d) =
      ⟨s.image, d, { s.door d with faulted := true }.heldByFault (s.channel d), s.channel d,
        if r.motion = .queued then [.withdraw d] else [], false⟩ := by
    have motion : (s.work d).door.motion = r.motion := by
      show (s.door d).motion = _
      rw [is]
    rw [Work.occupied_present _ (motion ▸ here), Work.heldByFault_eq]
    show (⟨_, _, _, _, [] ++ (transitMessages d { s.door d with faulted := true } ++ if (s.work d).door.motion = .queued then _ else _), _⟩ : Work) = _
    rw [quiet, motion]
    rfl
  have idle := Work.startIfDue_eq (Work.occupied (s.work d)) (by rw [occupies])
  have due : (({ s.door d with faulted := true } : Door).heldByFault (s.channel d)).due = false :=
    Door.due_of_faulted (Door.heldByFault_faulted _ _)
  rw [occupies, Door.proceeds_of_not_due _ _ due, proceedMessages_of_not_due _ _ _ due, List.append_nil] at idle
  have alike : (({ s.door d with faulted := true } : Door).heldByFault (s.channel d)).still = (held.heldByFault c).still := by
    rw [is, channel]
    unfold Door.heldByFault Door.atRest
    dsimp only [Door.outOfTransit]
    split
    · split <;> rfl
    · rfl
  refine ⟨?_, ⟨warningOn (Work.occupied (s.work d)).startIfDue.door, ?_⟩, ?_⟩
  · rw [State.worked, Work.event_still, occupies, idle]
    exact alike
  · rw [State.worked, Work.event_channel, occupies, idle, channel]
  · rw [State.worked, Work.event_out, occupies, idle]

end Sys2Proof.Machine

/-! FAULT_CLEAR, taken to its end (R44, R113). -/

namespace Sys2Proof.Machine

open Sys2Proof

/-! ### Reports of persisting conditions, taken in a row -/

/-- The capture that the report of the conditions that persist fills (R109, R110). -/
def State.persistingCapture (s : State) (d : DoorId) : Capture :=
  ⟨s.persistingKind d, (s.door d).asReported, s.time,
    if s.mismatched d && s.conflicted d then faultBit .switchConflict else 0⟩

/-- What that makes. -/
def State.captureMessages (s : State) (d : DoorId) : List Instr :=
  [.alarmRaise (faultAlarm (s.persistingKind d)) (.door d), .captureOccupiedNotice d]

theorem State.byPriority_persisting (s : State) (d : DoorId) :
    byPriority (s.persistingKind d) (s.persistingSecond d) = (s.persistingKind d, s.persistingSecond d) := by
  unfold State.persistingKind State.persistingSecond
  cases s.mismatched d <;> cases s.conflicted d <;> rfl

theorem State.seenOf_persisting (s : State) (d : DoorId) :
    seenOf (s.persistingSecond d) = if s.mismatched d && s.conflicted d then faultBit .switchConflict else 0 := by
  unfold State.persistingSecond
  split <;> rfl

/-- The report of persisting conditions that finds its capture empty. -/
theorem State.deliver_persisting (o : State) {s : State} {d : DoorId} (time : s.time = o.time)
    (present : s.image.doors[d].present = true) (empty : s.recorder.doors[d].capture = none) :
    s.deliver (o.persistingReport d) =
      { s with
        recorder := ⟨s.recorder.doors.set d { s.recorder.doors[d] with capture := some (o.persistingCapture d) }, s.recorder.drive⟩
        inFlight := s.inFlight.erase (o.persistingReport d) ++ o.captureMessages d } := by
  let l := (s.taking (o.persistingReport d)).log
  have event : s.deliver (o.persistingReport d) =
      (s.taking (o.persistingReport d)).finishLog
        (l.report d (o.persistingKind d) (o.persistingSecond d) true (o.door d).asReported) := rfl
  have none : (l.door d).capture = none := empty
  have filled := l.report_present (d := d) present (o.persistingKind d) (o.persistingSecond d) true (o.door d).asReported
  rw [none, if_pos rfl, List.foldl_nil] at filled
  rw [event, filled]
  unfold Log.fill
  rw [o.byPriority_persisting]
  dsimp only
  rw [o.seenOf_persisting]
  unfold State.persistingCapture
  rw [← time]
  show { s with recorder := _, inFlight := _ ++ (([] ++ [_]) ++ [_]) } = _
  rfl

/-- The door that a fault report is about. -/
def reporter? : Instr → Option DoorId
  | .faultReport d .. => some d
  | _ => none

/-- The doors that some messages report faults of. -/
def reporters (ms : List Instr) : List DoorId := ms.filterMap reporter?

theorem reporters_flatMap {α : Type} (g : α → List Instr) (xs : List α) :
    reporters (xs.flatMap g) = xs.flatMap fun x => reporters (g x) := by
  unfold reporters
  induction xs with
  | nil => rfl
  | cons x xs ih => rw [List.flatMap_cons, List.filterMap_append, ih, List.flatMap_cons]

theorem completes_of_reporter {m : Instr} {d : DoorId} (h : reporter? m = some d) : completes m = true := by
  cases m <;> first | rfl | cases h

/-- What the reports of persisting conditions of different doors leave, each taken with its capture empty. -/
theorem State.takeAll_persisting (o : State) (ms : List Instr) : ∀ (s : State) (pre later : List Instr),
    s.image = o.image → s.time = o.time →
    (∀ m ∈ ms, completes m = true → m ∉ pre ∧
      ∃ d, m = o.persistingReport d ∧ o.image.doors[d].present = true ∧ s.recorder.doors[d].capture = none) →
    (reporters ms).Nodup → s.inFlight = pre ++ ms ++ later →
    ∃ records, s.takeAll (ms.filter completes) =
        { s with
          recorder := ⟨records, s.recorder.drive⟩
          inFlight := pre ++ ms.filter (!completes ·) ++ later ++ (reporters ms).flatMap o.captureMessages } ∧
      ∀ d : DoorId, records[d] =
        if d ∈ reporters ms then { s.recorder.doors[d] with capture := some (o.persistingCapture d) } else s.recorder.doors[d] := by
  induction ms with
  | nil =>
    intro s pre later _ _ _ _ flight
    refine ⟨s.recorder.doors, ?_, fun d => (if_neg List.not_mem_nil).symm⟩
    have left : pre ++ [] ++ later ++ [] = s.inFlight := by rw [flight, List.append_nil]
    show s = { s with recorder := s.recorder, inFlight := pre ++ [] ++ later ++ [] }
    rw [left]
  | cons m ms ih =>
    intro s pre later image time kinds once flight
    have kinds' (x : Instr) (hx : x ∈ ms) := kinds x (List.mem_cons_of_mem _ hx)
    cases completing : completes m with
    | false =>
      have unreported : reporters (m :: ms) = reporters ms := List.filterMap_cons_none (by
        cases reports : reporter? m with
        | none => rfl
        | some d => rw [completes_of_reporter reports] at completing; cases completing)
      rw [unreported] at once ⊢
      rw [List.filter_cons_of_neg (by rw [completing]; nofun), List.filter_cons_of_pos (by rw [completing]; rfl)]
      have kinds'' : ∀ x ∈ ms, completes x = true → x ∉ pre ++ [m] ∧
          ∃ d, x = o.persistingReport d ∧ o.image.doors[d].present = true ∧ s.recorder.doors[d].capture = none := fun x hx c => by
        refine ⟨fun h => (List.mem_append.mp h).elim (kinds' x hx c).1 fun h => ?_, (kinds' x hx c).2⟩
        rw [List.mem_singleton.mp h, completing] at c
        cases c
      obtain ⟨records, run, doors⟩ := ih s (pre ++ [m]) later image time kinds'' once (by simp [flight])
      refine ⟨records, run.trans ?_, doors⟩
      rw [List.append_assoc pre]
      rfl
    | true =>
      obtain ⟨off, d, rfl, present, empty⟩ := kinds _ List.mem_cons_self completing
      have reports : reporters (o.persistingReport d :: ms) = d :: reporters ms := List.filterMap_cons_some rfl
      rw [reports] at once ⊢
      obtain ⟨fresh, once⟩ := List.nodup_cons.mp once
      rw [List.filter_cons_of_pos completing, List.filter_cons_of_neg (by rw [completing]; nofun), State.takeAll_cons]
      have erased : s.inFlight.erase (o.persistingReport d) = pre ++ ms ++ later := by
        rw [flight, List.append_assoc, List.erase_append_right _ off, List.cons_append, List.erase_cons_head, List.append_assoc]
      have step := State.deliver_persisting o time (image ▸ present) empty
      rw [erased] at step
      have own (e : DoorId) : (s.deliver (o.persistingReport d)).recorder.doors[e] =
          if e = d then { s.recorder.doors[d] with capture := some (o.persistingCapture d) } else s.recorder.doors[e] := by
        rw [step]
        by_cases same : e = d
        · subst same
          rw [if_pos rfl]
          exact s.log.withDoor_door e _
        · rw [if_neg same]
          exact s.log.withDoor_door_ne _ same
      have kinds'' : ∀ x ∈ ms, completes x = true → x ∉ pre ∧ ∃ e, x = o.persistingReport e ∧ o.image.doors[e].present = true ∧
          (s.deliver (o.persistingReport d)).recorder.doors[e].capture = none := fun x hx c => by
        obtain ⟨out, e, is, here, none⟩ := kinds' x hx c
        have other : e ≠ d := fun same => fresh (List.mem_filterMap.mpr ⟨x, hx, by rw [is, same]; rfl⟩)
        refine ⟨out, e, is, here, ?_⟩
        rw [own, if_neg other]
        exact none
      obtain ⟨records, run, doors⟩ := ih (s.deliver (o.persistingReport d)) pre (later ++ o.captureMessages d)
        (by rw [step]; exact image) (by rw [step]; exact time) kinds'' once (by rw [step]; simp)
      refine ⟨records, ?_, fun e => (doors e).trans ?_⟩
      · rw [run, step, List.flatMap_cons]
        simp only [List.append_assoc]
      · rw [own]
        by_cases same : e = d
        · subst same
          rw [if_neg fresh, if_pos rfl, if_pos List.mem_cons_self]
        · rw [if_neg same]
          exact if_congr (by rw [List.mem_cons, or_iff_right same]) rfl rfl

/-! ### What a door that proceeds asks for -/

theorem proceedMessages_eq (i : Image) (d : DoorId) (c : Channel) (r : Door) :
    proceedMessages i d c r = [] ∨ proceedMessages i d c r = [.join d .cls] := by
  unfold proceedMessages closeMessages moveMessages
  split
  · next due =>
    have outOfTransit : r.transit = false := by
      cases transit : r.transit with
      | false => rfl
      | true => simp [Door.due, transit] at due
    rw [restMessages_of_outOfTransit outOfTransit]
    split
    · split
      · exact .inl rfl
      · exact .inr rfl
    · exact .inl rfl
  · exact .inl rfl

end Sys2Proof.Machine

/-! FAULT_CLEAR and COUNTERS_CLEAR (R44, R113, R117). -/

namespace Sys2Proof.Machine

open Sys2Proof

section
variable {s : State} {named : DoorId → Bool}

/-- A named door's capture is emptied, and a condition of it persists. -/
def State.clears (s : State) (named : DoorId → Bool) (d : DoorId) : Bool := named d && s.recorder.doors[d].capture.isSome
def State.persists (s : State) (named : DoorId → Bool) (d : DoorId) : Bool := s.clears named d && (s.mismatched d || s.conflicted d)

/-- The part of the recorder: the named captures emptied. -/
structure Emptied (s u : State) (named : DoorId → Bool) (ms : List Instr) : Prop where
  eq : u = { s with recorder := u.recorder, inFlight := ms, port := u.port }
  drive : u.recorder.drive = s.recorder.drive
  doors : ∀ d : DoorId, u.recorder.doors[d] =
    if s.clears named d then { s.recorder.doors[d] with capture := none } else s.recorder.doors[d]
  made : ms = (allDoors.filter (s.clears named)).flatMap fun d => emptiedMessages d s.recorder.doors[d].capture

theorem emptiedMessages_of_isSome {d : DoorId} {c : Option Capture} (h : c.isSome = true) :
    ∃ x, c = some x ∧ emptiedMessages d c = [.alarmResetCondition (faultAlarm x.kind) (.door d), .captureEmptiedNotice d] := by
  obtain ⟨x, rfl⟩ := Option.isSome_iff_exists.mp h
  exact ⟨x, rfl, rfl⟩

theorem State.clears_emptied {d : DoorId} (h : d ∈ allDoors.filter (s.clears named)) :
    ∃ x, s.recorder.doors[d].capture = some x ∧ emptiedMessages d s.recorder.doors[d].capture =
      [.alarmResetCondition (faultAlarm x.kind) (.door d), .captureEmptiedNotice d] :=
  emptiedMessages_of_isSome (Bool.and_eq_true_iff.mp (List.mem_filter.mp h).2).2

section
variable {u : State} {ms : List Instr} (emptied : Emptied s u named ms)
include emptied

theorem Emptied.reached : reached ms = allDoors.filter (s.clears named) := by
  rw [emptied.made, reached_flatMap, ← List.flatMap_singleton' (allDoors.filter (s.clears named)), List.flatMap_assoc]
  refine List.flatMap_congr fun d hd => ?_
  obtain ⟨x, -, messages⟩ := State.clears_emptied hd
  show Machine.reached (emptiedMessages d _) ++ [] = [d]
  rw [messages]
  rfl

theorem Emptied.kinds : ∀ m ∈ ms, ToAlarms m ∨ ∃ d, reaction? m = some (d, Work.emptied) := by
  intro m hm
  rw [emptied.made] at hm
  obtain ⟨d, hd, hm⟩ := List.mem_flatMap.mp hm
  obtain ⟨x, -, messages⟩ := State.clears_emptied hd
  rw [messages] at hm
  rcases List.mem_pair.mp hm with rfl | rfl
  · exact .inl trivial
  · exact .inr ⟨d, rfl⟩

theorem Emptied.completes : ∀ m ∈ ms, completes m = true := fun m hm =>
  (emptied.kinds m hm).elim ToAlarms.completes fun ⟨_, h⟩ => completes_of_reaction h

theorem Emptied.length : ms.length = 2 * (allDoors.filter (s.clears named)).length := by
  rw [emptied.made, List.length_flatMap, List.map_congr_left (g := fun _ => 2) fun d hd => ?_, List.map_const', List.sum_replicate,
    smul_eq_mul, Nat.mul_comm]
  obtain ⟨x, -, messages⟩ := State.clears_emptied hd
  rw [messages]
  rfl

theorem Emptied.alarms : alarmsOf ms = (allDoors.filter (s.clears named)).flatMap fun d =>
    (s.recorder.doors[d].capture.map fun c => Instr.alarmResetCondition (faultAlarm c.kind) (.door d)).toList := by
  rw [emptied.made, alarmsOf_flatMap]
  refine List.flatMap_congr fun d hd => ?_
  obtain ⟨x, held, messages⟩ := State.clears_emptied hd
  rw [messages, held]
  rfl

theorem Emptied.worked (d : DoorId) (f : Work → Work) : u.worked d f = s.worked d f := by
  rw [emptied.eq]
  rfl

end

/-- What a door whose capture has been emptied makes: the report of the conditions that persist, or what it asks for as it proceeds. -/
def State.emptiedOut (s : State) (d : DoorId) : List Instr :=
  if s.mismatched d || s.conflicted d then [s.persistingReport d]
  else proceedMessages s.image d (s.channel d) { s.door d with faulted := false }

theorem State.emptiedOut_kinds {d : DoorId} {m : Instr} (hm : m ∈ s.emptiedOut d) :
    (m = s.persistingReport d ∧ (s.mismatched d || s.conflicted d) = true) ∨ m = .join d .cls := by
  unfold State.emptiedOut at hm
  split at hm
  · next persists => exact .inl ⟨List.mem_singleton.mp hm, persists⟩
  · rcases proceedMessages_eq s.image d (s.channel d) { s.door d with faulted := false } with none | join
    · rw [none] at hm
      cases hm
    · rw [join] at hm
      exact .inr (List.mem_singleton.mp hm)

theorem State.emptiedOut_length (d : DoorId) : (s.emptiedOut d).length ≤ 1 := by
  unfold State.emptiedOut
  split
  · exact Nat.le_refl 1
  · rcases proceedMessages_eq s.image d (s.channel d) { s.door d with faulted := false } with none | join
    · rw [none]
      exact Nat.zero_le 1
    · rw [join]
      exact Nat.le_refl 1

theorem State.emptiedOut_quiet (d : DoorId) : (s.emptiedOut d).filter (!completes ·) =
    if s.mismatched d || s.conflicted d then [] else proceedMessages s.image d (s.channel d) { s.door d with faulted := false } := by
  unfold State.emptiedOut
  split
  · rfl
  · exact List.filter_eq_self.mpr fun m hm => by rw [proceedMessages_quiet _ _ _ _ m hm]; rfl

theorem State.emptiedOut_reporters (d : DoorId) :
    reporters (s.emptiedOut d) = if s.mismatched d || s.conflicted d then [d] else [] := by
  unfold State.emptiedOut
  split
  · rfl
  · rcases proceedMessages_eq s.image d (s.channel d) { s.door d with faulted := false } with none | join
    · rw [none]
      rfl
    · rw [join]
      rfl

/-- The reports of the conditions that persist, and what the other doors ask for. -/
def State.emptiedAll (s : State) (named : DoorId → Bool) : List Instr := (allDoors.filter (s.clears named)).flatMap s.emptiedOut

theorem State.emptiedAll_reporters : reporters (s.emptiedAll named) = allDoors.filter (s.persists named) := by
  unfold State.emptiedAll State.persists
  rw [reporters_flatMap, funext (State.emptiedOut_reporters (s := s))]
  refine (flatMap_ite_singleton (fun d => s.mismatched d || s.conflicted d) id _).trans ?_
  rw [List.map_id, List.filter_filter]
  exact List.filter_congr fun d _ => Bool.and_comm ..

theorem State.emptiedAll_quiet : (s.emptiedAll named).filter (!completes ·) =
    (allDoors.filter fun d => s.clears named d && !s.persists named d).flatMap fun d =>
      proceedMessages s.image d (s.channel d) { s.door d with faulted := false } := by
  unfold State.emptiedAll State.persists
  rw [List.filter_flatMap, flatMap_filter_eq, flatMap_filter_eq]
  refine List.flatMap_congr fun d _ => ?_
  rw [State.emptiedOut_quiet]
  cases s.clears named d <;> cases s.mismatched d || s.conflicted d <;> rfl

theorem State.emptiedAll_length : (s.emptiedAll named).length ≤ (allDoors.filter (s.clears named)).length := by
  unfold State.emptiedAll
  rw [List.length_flatMap]
  refine (List.sum_le_card_nsmul _ 1 fun n hn => ?_).trans (by rw [List.length_map, smul_eq_mul, Nat.mul_one])
  obtain ⟨d, -, rfl⟩ := List.mem_map.mp hn
  exact State.emptiedOut_length d

theorem State.mem_emptiedAll {m : Instr} (hm : m ∈ s.emptiedAll named) :
    (∃ d, s.persists named d = true ∧ m = s.persistingReport d) ∨ ∃ d, m = .join d .cls := by
  obtain ⟨d, hd, hm⟩ := List.mem_flatMap.mp hm
  rcases State.emptiedOut_kinds hm with ⟨is, persists⟩ | is
  · exact .inl ⟨d, Bool.and_eq_true_iff.mpr ⟨(List.mem_filter.mp hd).2, persists⟩, is⟩
  · exact .inr ⟨d, is⟩

/-- The named captures, emptied and filled again. -/
def State.captureMessagesAll (s : State) (named : DoorId → Bool) : List Instr :=
  (allDoors.filter (s.persists named)).flatMap s.captureMessages

theorem reached_captureMessages (ds : List DoorId) : reached (ds.flatMap s.captureMessages) = ds := by
  rw [reached_flatMap]
  exact List.flatMap_singleton' ds

theorem alarmsOf_captureMessages (ds : List DoorId) :
    alarmsOf (ds.flatMap s.captureMessages) = ds.map fun d => .alarmRaise (faultAlarm (s.persistingKind d)) (.door d) := by
  rw [alarmsOf_flatMap, List.map_eq_flatMap]
  rfl

end

end Sys2Proof.Machine

/-! O55. -/

namespace Sys2Proof.Machine

open Sys2Proof

section
variable {s u : State} {named : DoorId → Bool} {ms : List Instr}

/-- A door whose capture is occupied: in service or isolated, faulted, and out of transit, dwell and warning (R84, R112). -/
structure Captured (s : State) (d : DoorId) : Prop where
  here : (s.door d).motion ≠ .absent
  present : s.image.doors[d].present = true
  faulted : (s.door d).faulted = true
  outOfTransit : (s.door d).transit = false
  unwarned : (s.door d).motion ≠ .warning
  undwelt : (s.door d).motion ≠ .dwell

theorem captured_of_inv (inv : FaultedInv s) (nothing : s.inFlight = []) {d : DoorId} (h : s.recorder.doors[d].capture.isSome = true) :
    Captured s d := by
  obtain ⟨presence, doors⟩ := inv
  obtain ⟨present, agrees, -, -, calm⟩ := doors d
  obtain ⟨same, absent⟩ := presence d
  have none : captureNotices s d = [] := by rw [captureNotices, nothing]; rfl
  have faulted := (agrees none).mpr h
  have here := present h
  obtain ⟨outOfTransit, unwarned, undwelt⟩ := calm faulted
  refine ⟨fun gone => ?_, same.symm.trans here, faulted, outOfTransit, unwarned, undwelt⟩
  have gone := absent.mp gone
  rw [here] at gone
  cases gone

/-- A door whose capture is filled again in the same request (entry 14). -/
def State.refilled (s : State) (d : DoorId) : Door :=
  ({ s.lookedAt d with faulted := true } : Door).heldByFault (s.channel d)

/-- What FAULT_CLEAR leaves of a door. -/
structure Cleared (s t : State) (named : DoorId → Bool) : Prop where
  alarms : t.alarms = s.alarms.takeAll s.image s.time
    ((allDoors.filter (s.clears named)).flatMap (fun d =>
        (s.recorder.doors[d].capture.map fun c => Instr.alarmResetCondition (faultAlarm c.kind) (.door d)).toList) ++
      (allDoors.filter (s.persists named)).map fun d => .alarmRaise (faultAlarm (s.persistingKind d)) (.door d))
  flight : t.inFlight =
    ((allDoors.filter fun d => s.clears named d && !s.persists named d).flatMap fun d =>
      proceedMessages s.image d (s.channel d) { s.door d with faulted := false }) ++
    (allDoors.filter fun d => s.persists named d && (s.door d).motion == .queued).map Instr.withdraw
  drive : t.recorder.drive = s.recorder.drive
  channel : ∀ d, ∃ on, t.channel d = { s.channel d with warning := on }
  unnamed : ∀ d : DoorId, s.clears named d = false → t.recorder.doors[d] = s.recorder.doors[d] ∧ t.door d = s.door d
  ended : ∀ d : DoorId, s.clears named d = true → s.persists named d = false →
    t.recorder.doors[d] = { s.recorder.doors[d] with capture := none } ∧
      (t.door d).still = (({ s.door d with faulted := false } : Door).proceeds s.image (s.channel d)).still
  again : ∀ d : DoorId, s.persists named d = true →
    t.recorder.doors[d] = { s.recorder.doors[d] with capture := some (s.persistingCapture d) } ∧
      (t.door d).still = (s.refilled d).still

theorem State.worked_emptied_out {d : DoorId} (captured : Captured s d) : (s.worked d Work.emptied).out = s.emptiedOut d := by
  unfold State.emptiedOut
  cases persists : s.mismatched d || s.conflicted d with
  | true => exact (State.worked_emptied_persists captured.here captured.present persists).2.2
  | false => exact (State.worked_emptied_ends captured.here captured.present persists).2.2

/-- The notices of the emptied captures, taken. -/
theorem Emptied.noticed (emptied : Emptied s u named ms) (captured : ∀ d, s.clears named d = true → Captured s d) :
    (∀ n, u.completeFrom (ms.length + n) 0 = (u.takeAll ms).completeFrom n 0) ∧
      Reacted u (u.takeAll ms) (allDoors.filter (s.clears named)) (fun _ => Work.emptied) ∧
      (u.takeAll ms).alarms = s.alarms.takeAll s.image s.time (alarmsOf ms) ∧ (u.takeAll ms).inFlight = s.emptiedAll named := by
  have flight : u.inFlight = [] ++ [] ++ ms ++ [] := by
    rw [emptied.eq, List.append_nil]
    rfl
  have all : ms.filter Machine.completes = ms := List.filter_eq_self.mpr emptied.completes
  have once : (Machine.reached ms).Nodup := by
    rw [emptied.reached]
    exact nodup_allDoors.filter _
  have none {m : Instr} {p : Prop} (h : m ∈ ([] : List Instr)) : p := absurd h List.not_mem_nil
  obtain ⟨reacted, alarms⟩ := State.takeAll_reactions (fun _ => Work.emptied) ms u emptied.kinds once
  have left := State.takeAll_inFlight (fun _ => Work.emptied) ms u [] []
    (fun m hm _ => ⟨List.not_mem_nil, emptied.kinds m hm⟩) once flight
  rw [all, emptied.reached] at left
  rw [emptied.reached] at reacted
  refine ⟨fun n => ?_, reacted, alarms.trans ?_, left.trans ?_⟩
  · have run := (State.completeFrom_batch (old := []) ms u [] [] n (fun _ _ _ _ hx => none hx) (fun _ _ _ _ hx => none hx)
      (fun _ hx => none hx) (fun x hx quiet => by rw [emptied.completes x hx] at quiet; cases quiet) flight).1
    rw [all] at run
    exact run
  · rw [emptied.eq]
    rfl
  · have silent : ms.filter (!Machine.completes ·) = [] :=
      List.filter_eq_nil_iff.mpr fun m hm => by rw [emptied.completes m hm]; nofun
    rw [silent]
    refine List.flatMap_congr fun d hd => ?_
    rw [emptied.worked, State.worked_emptied_out (captured d (List.mem_filter.mp hd).2)]

/-- The reports of what persists, taken. -/
theorem State.completeFrom_persisting {v : State} (captured : ∀ d, s.clears named d = true → Captured s d)
    (image : v.image = s.image) (time : v.time = s.time)
    (empty : ∀ d : DoorId, s.clears named d = true → v.recorder.doors[d].capture = none) (flight : v.inFlight = s.emptiedAll named) :
    ∃ records, (∀ n, v.completeFrom (((s.emptiedAll named).filter completes).length + n) 0 =
        ({ v with
          recorder := ⟨records, v.recorder.drive⟩
          inFlight := (s.emptiedAll named).filter (!completes ·) ++ s.captureMessagesAll named } : State).completeFrom n 0) ∧
      ∀ d : DoorId, records[d] =
        if s.persists named d then { v.recorder.doors[d] with capture := some (s.persistingCapture d) } else v.recorder.doors[d] := by
  have flight' : v.inFlight = [] ++ [] ++ s.emptiedAll named ++ [] := by
    rw [flight, List.append_nil]
    rfl
  have none {m : Instr} {p : Prop} (h : m ∈ ([] : List Instr)) : p := absurd h List.not_mem_nil
  have reports {m : Instr} (hm : m ∈ s.emptiedAll named) (c : completes m = true) :
      ∃ d, s.persists named d = true ∧ m = s.persistingReport d := by
    rcases State.mem_emptiedAll hm with is | ⟨d, rfl⟩
    · exact is
    · cases c
  have joins {x : Instr} (hx : x ∈ s.emptiedAll named) (quiet : completes x = false) : ∃ d, x = .join d .cls := by
    rcases State.mem_emptiedAll hx with ⟨d, -, rfl⟩ | is
    · cases quiet
    · exact is
  obtain ⟨records, run, doors⟩ := State.takeAll_persisting s (s.emptiedAll named) v [] [] image time
    (fun m hm c => ⟨List.not_mem_nil, by
      obtain ⟨d, persists, is⟩ := reports hm c
      have clears := (Bool.and_eq_true_iff.mp persists).1
      exact ⟨d, is, (captured d clears).present, empty d clears⟩⟩)
    (by rw [State.emptiedAll_reporters]; exact nodup_allDoors.filter _) flight'
  rw [State.emptiedAll_reporters] at run doors
  refine ⟨records, fun n => ?_, fun d => (doors d).trans (if_congr ?_ rfl rfl)⟩
  · have batch := (State.completeFrom_batch (old := []) (s.emptiedAll named) v [] [] n (fun _ _ _ _ hx => none hx)
      (fun _ _ _ _ hx => none hx) (fun _ hx => none hx) (fun x hx quiet m hm c y hy => ?_) flight').1
    · rw [run] at batch
      refine batch.trans ?_
      rw [List.append_nil]
      rfl
    · obtain ⟨d, -, rfl⟩ := reports hm c
      rw [List.mem_singleton.mp hy]
      obtain ⟨e, rfl⟩ := joins hx quiet
      nofun
  · rw [List.mem_filter]
    exact and_iff_right (mem_allDoors d)

/-- What the doors whose captures are filled again make of the notices. -/
theorem State.completeFrom_refilled {w : State} {n : Nat} (captured : ∀ d, s.clears named d = true → Captured s d)
    (door : ∀ d, s.persists named d = true → (w.door d).still = (s.lookedAt d).still)
    (channel : ∀ d, s.persists named d = true → ∃ on, w.channel d = { s.channel d with warning := on })
    (flight : w.inFlight = (s.emptiedAll named).filter (!completes ·) ++ s.captureMessagesAll named)
    (enough : 3 * (allDoors.filter (s.clears named)).length ≤ n) :
    let t := w.completeFrom n 0
    Reacted w t (allDoors.filter (s.persists named)) (fun _ => Work.occupied) ∧
      t.alarms = w.alarms.takeAll w.image w.time
        ((allDoors.filter (s.persists named)).map fun d => .alarmRaise (faultAlarm (s.persistingKind d)) (.door d)) ∧
      t.inFlight = (s.emptiedAll named).filter (!completes ·) ++
        (allDoors.filter fun d => s.persists named d && (s.door d).motion == .queued).map Instr.withdraw := by
  intro t
  have quiet {x : Instr} (hx : x ∈ (s.emptiedAll named).filter (!completes ·)) : ∃ d, x = .join d .cls := by
    obtain ⟨hx, silent⟩ := List.mem_filter.mp hx
    rcases State.mem_emptiedAll hx with ⟨d, -, rfl⟩ | is
    · cases silent
    · exact is
  have made {m : Instr} (hm : m ∈ s.captureMessagesAll named) :
      ∃ d, m = .alarmRaise (faultAlarm (s.persistingKind d)) (.door d) ∨ m = .captureOccupiedNotice d := by
    obtain ⟨d, -, hm⟩ := List.mem_flatMap.mp hm
    exact ⟨d, List.mem_pair.mp hm⟩
  have kinds {m : Instr} (hm : m ∈ (s.emptiedAll named).filter (!completes ·) ++ s.captureMessagesAll named)
      (c : completes m = true) : ∃ d, m = .alarmRaise (faultAlarm (s.persistingKind d)) (.door d) ∨ m = .captureOccupiedNotice d := by
    rcases List.mem_append.mp hm with hm | hm
    · obtain ⟨d, rfl⟩ := quiet hm
      cases c
    · exact made hm
  have silent {x : Instr} (hx : x ∈ (s.emptiedAll named).filter (!completes ·) ++ s.captureMessagesAll named)
      (c : completes x = false) : ∃ d, x = .join d .cls := by
    rcases List.mem_append.mp hx with hx | hx
    · exact quiet hx
    · obtain ⟨d, rfl | rfl⟩ := made hx <;> cases c
  have noReports : reached ((s.emptiedAll named).filter (!completes ·)) = [] := List.filterMap_eq_nil_iff.mpr fun x hx => by
    obtain ⟨d, rfl⟩ := quiet hx
    rfl
  have noAlarms : alarmsOf ((s.emptiedAll named).filter (!completes ·)) = [] := alarmsOf_of_quiet fun x hx => by
    obtain ⟨d, rfl⟩ := quiet hx
    rfl
  have reaches : reached ((s.emptiedAll named).filter (!completes ·) ++ s.captureMessagesAll named) =
      allDoors.filter (s.persists named) := by
    rw [reached_append, noReports, List.nil_append]
    exact reached_captureMessages _
  have out {d : DoorId} (hd : d ∈ allDoors.filter (s.persists named)) : (w.worked d Work.occupied).out =
      if (s.door d).motion = .queued then [.withdraw d] else [] := by
    have persists := (List.mem_filter.mp hd).2
    obtain ⟨here, -, -, outOfTransit, -, -⟩ := captured d (Bool.and_eq_true_iff.mp persists).1
    obtain ⟨on, is⟩ := channel d persists
    exact (State.worked_occupied (door d persists) is here outOfTransit).2.2
  have noneCompletes {d : DoorId} (hd : d ∈ allDoors.filter (s.persists named)) {m : Instr}
      (hm : m ∈ (w.worked d Work.occupied).out) : completes m = false := by
    rw [out hd] at hm
    split at hm
    · rw [List.mem_singleton.mp hm]
      rfl
    · cases hm
  have weightless : load ((allDoors.filter (s.persists named)).flatMap fun d => (w.worked d Work.occupied).out) ≤ 0 := by
    have light := load_flatMap_le (fun d => (w.worked d Work.occupied).out) 0 (allDoors.filter (s.persists named)) fun d hd => by
      rw [out hd]
      split <;> exact Nat.le_refl 0
    rwa [Nat.zero_mul] at light
  have two := State.completeFrom_two (s := w) (old := []) (fuel := n)
    (ms := (s.emptiedAll named).filter (!completes ·) ++ s.captureMessagesAll named) (fun _ => Work.occupied)
    (fun _ _ _ x hx => absurd hx List.not_mem_nil)
    (fun x hx c m hm c' y hy => by
      obtain ⟨d, rfl⟩ := silent hx c
      rw [List.mem_singleton.mp hy]
      obtain ⟨e, rfl | rfl⟩ := kinds hm c' <;> nofun)
    (fun m hm c => by
      obtain ⟨d, rfl | rfl⟩ := kinds hm c
      · exact .inl trivial
      · exact .inr ⟨d, rfl⟩)
    (by rw [reaches]; exact nodup_allDoors.filter _)
    (fun d hd m hm c => by rw [reaches] at hd; rw [noneCompletes hd hm] at c; cases c)
    (fun _ _ _ _ _ x hx => absurd hx List.not_mem_nil) flight (by
      rw [reaches, List.length_append]
      have first := List.length_filter_le (!completes ·) (s.emptiedAll named)
      have second := s.emptiedAll_length (named := named)
      have third : (s.captureMessagesAll named).length = 2 * (allDoors.filter (s.persists named)).length := by
        rw [State.captureMessagesAll, List.length_flatMap]
        show ((allDoors.filter (s.persists named)).map fun _ => 2).sum = _
        rw [List.map_const', List.sum_replicate, smul_eq_mul, Nat.mul_comm]
      have fewer : (allDoors.filter (s.persists named)).length ≤ (allDoors.filter (s.clears named)).length := by
        rw [← List.countP_eq_length_filter, ← List.countP_eq_length_filter]
        exact List.countP_mono_left fun d _ h => (Bool.and_eq_true_iff.mp h).1
      omega)
  have alarms := two.alarms
  have left := two.flight
  have reacted := two.reacted
  rw [reaches] at alarms left reacted
  rw [alarmsOf_append, noAlarms, List.nil_append, State.captureMessagesAll, alarmsOf_captureMessages] at alarms
  refine ⟨reacted, alarms.trans ?_, left.trans ?_⟩
  · have nothing : (allDoors.filter (s.persists named)).flatMap (fun d => alarmsOf (w.worked d Work.occupied).out) = [] :=
      List.flatMap_eq_nil_iff.mpr fun d hd => alarmsOf_of_quiet fun m hm => noneCompletes hd hm
    rw [nothing, List.append_nil]
  · have again : ((s.emptiedAll named).filter (!completes ·) ++ s.captureMessagesAll named).filter (!completes ·) =
        (s.emptiedAll named).filter (!completes ·) := by
      rw [List.filter_append, List.filter_filter]
      have nothing : (s.captureMessagesAll named).filter (!completes ·) = [] := List.filter_eq_nil_iff.mpr fun m hm => by
        obtain ⟨d, rfl | rfl⟩ := made hm <;> nofun
      rw [nothing, List.append_nil]
      exact List.filter_congr fun m _ => Bool.and_self _
    rw [again, List.nil_append]
    refine congrArg (List.append ((s.emptiedAll named).filter (!completes ·))) ?_
    rw [← flatMap_ite_singleton, flatMap_filter_eq]
    refine List.flatMap_congr fun d hd => ?_
    cases persists : s.persists named d with
    | false => rw [Bool.false_and, if_neg nofun, if_neg nofun]
    | true =>
      rw [if_pos rfl, out (List.mem_filter.mpr ⟨hd, persists⟩), Bool.true_and]
      by_cases queued : (s.door d).motion = .queued
      · rw [queued]
        rfl
      · rw [if_neg queued, beq_false_of_ne queued]
        rfl

/-- FAULT_CLEAR, completed. -/
theorem Emptied.cleared (emptied : Emptied s u named ms) (captured : ∀ d, s.clears named d = true → Captured s d) :
    Cleared s (u.complete 0) named := by
  have image : u.image = s.image := by rw [emptied.eq]; rfl
  have time : u.time = s.time := by rw [emptied.eq]
  have doorOf (d : DoorId) : u.door d = s.door d := by rw [emptied.eq]; rfl
  have channelOf (d : DoorId) : u.channel d = s.channel d := by rw [emptied.eq]; rfl
  obtain ⟨first, ⟨frame, hit, miss⟩, resets, flight⟩ := emptied.noticed captured
  have resets := resets.trans (congrArg (s.alarms.takeAll s.image s.time) emptied.alarms)
  obtain ⟨n, fuel, enough⟩ : ∃ n, 8 * u.inFlight.length + 8 = ms.length + (((s.emptiedAll named).filter Machine.completes).length + n) ∧
      3 * (allDoors.filter (s.clears named)).length ≤ n := by
    have all : u.inFlight.length = ms.length := by rw [emptied.eq]
    have exactly := emptied.length
    have second := s.emptiedAll_length (named := named)
    have fewer := List.length_filter_le Machine.completes (s.emptiedAll named)
    exact ⟨8 * u.inFlight.length + 8 - ms.length - ((s.emptiedAll named).filter Machine.completes).length, by omega, by omega⟩
  have run : u.complete 0 = _ := (congrArg (u.completeFrom · 0) fuel).trans (first _)
  generalize u.takeAll ms = v at first frame hit miss resets flight run
  have vRecorder : v.recorder = u.recorder := frame.recorder
  have vImage : v.image = s.image := (congrArg Store.active frame.store).trans image
  have vTime : v.time = s.time := frame.time.trans time
  have empty (d : DoorId) (h : s.clears named d = true) : v.recorder.doors[d] = { s.recorder.doors[d] with capture := none } := by
    rw [vRecorder, emptied.doors, if_pos h]
  obtain ⟨records, second, filled⟩ := State.completeFrom_persisting captured vImage vTime (fun d h => by rw [empty d h]) flight
  have run := run.trans (second n)
  obtain ⟨w, wIs⟩ : ∃ w : State, w = { v with
      recorder := ⟨records, v.recorder.drive⟩
      inFlight := (s.emptiedAll named).filter (!Machine.completes ·) ++ s.captureMessagesAll named } := ⟨_, rfl⟩
  rw [← wIs] at run
  have wDoor (d : DoorId) : w.door d = v.door d := by rw [wIs]; rfl
  have wChannel (d : DoorId) : w.channel d = v.channel d := by rw [wIs]; rfl
  have vHit (d : DoorId) (h : s.clears named d = true) : v.door d = (s.worked d Work.emptied).door ∧
      v.channel d = (s.worked d Work.emptied).channel := by
    have own := hit d (List.mem_filter.mpr ⟨mem_allDoors d, h⟩)
    rwa [emptied.worked] at own
  have vMiss (d : DoorId) (h : s.clears named d = false) : v.door d = s.door d ∧ v.channel d = s.channel d := by
    have own := miss d fun hd => by rw [(List.mem_filter.mp hd).2] at h; cases h
    rwa [doorOf, channelOf] at own
  have looked (d : DoorId) (h : s.persists named d = true) := by
    obtain ⟨clears, conditions⟩ := Bool.and_eq_true_iff.mp h
    exact State.worked_emptied_persists (captured d clears).here (captured d clears).present conditions
  have freed (d : DoorId) (clears : s.clears named d = true) (h : s.persists named d = false) := by
    refine State.worked_emptied_ends (captured d clears).here (captured d clears).present ?_
    rwa [State.persists, clears, Bool.true_and] at h
  have cleared {d : DoorId} (h : s.persists named d = true) := (Bool.and_eq_true_iff.mp h).1
  obtain ⟨⟨frame', hit', miss'⟩, raises, left⟩ := State.completeFrom_refilled (w := w) captured
    (fun d h => by rw [wDoor, (vHit d (cleared h)).1]; exact (looked d h).1)
    (fun d h => by
      obtain ⟨on, is⟩ := (looked d h).2.1
      exact ⟨on, by rw [wChannel, (vHit d (cleared h)).2, is]⟩)
    (by rw [wIs]) enough
  rw [← run] at frame' hit' miss' raises left
  generalize u.complete 0 = t at frame' hit' miss' raises left
  have wAlarms : w.alarms = v.alarms := by rw [wIs]
  have wImage : w.image = s.image := by rw [wIs]; exact vImage
  have wTime : w.time = s.time := by rw [wIs]; exact vTime
  have tRecorder : t.recorder = ⟨records, v.recorder.drive⟩ := frame'.recorder.trans (by rw [wIs])
  have tRecord (d : DoorId) : t.recorder.doors[d] = records[d] := by rw [tRecorder]
  have tMiss (d : DoorId) (h : s.persists named d = false) : t.door d = v.door d ∧ t.channel d = v.channel d := by
    have own := miss' d fun hd => by rw [(List.mem_filter.mp hd).2] at h; cases h
    rwa [wDoor, wChannel] at own
  have filledDoor (d : DoorId) (h : s.persists named d = true) : (t.door d).still = (s.refilled d).still ∧
      ∃ on, t.channel d = { s.channel d with warning := on } := by
    obtain ⟨here, -, -, outOfTransit, -, -⟩ := captured d (cleared h)
    obtain ⟨still, ⟨on, channel⟩, -⟩ := looked d h
    obtain ⟨result, ⟨on', channel'⟩, -⟩ := State.worked_occupied (s := w) (d := d) (r := s.lookedAt d) (c := s.channel d) (on := on)
      (by rw [wDoor, (vHit d (cleared h)).1]; exact still) (by rw [wChannel, (vHit d (cleared h)).2, channel]) here outOfTransit
    obtain ⟨door, chan⟩ := hit' d (List.mem_filter.mpr ⟨mem_allDoors d, h⟩)
    exact ⟨(congrArg Door.still door).trans result, on', chan.trans channel'⟩
  have unpersisting {d : DoorId} (h : s.clears named d = false) : s.persists named d = false := by
    rw [State.persists, h, Bool.false_and]
  refine ⟨?_, ?_, ?_, fun d => ?_, fun d h => ⟨?_, ?_⟩, fun d clears h => ⟨?_, ?_⟩, fun d h => ⟨?_, (filledDoor d h).1⟩⟩
  · rw [raises, wAlarms, wImage, wTime, resets, AlarmList.takeAll_append]
  · rw [left, State.emptiedAll_quiet]
  · rw [tRecorder, vRecorder, emptied.drive]
  · cases persists : s.persists named d with
    | true => exact (filledDoor d persists).2
    | false =>
      rw [(tMiss d persists).2]
      cases clears : s.clears named d with
      | true =>
        obtain ⟨on, is⟩ := (freed d clears persists).2.1
        exact ⟨on, (vHit d clears).2.trans is⟩
      | false => exact ⟨(s.channel d).warning, (vMiss d clears).2⟩
  · rw [tRecord, filled, if_neg (by rw [unpersisting h]; nofun), vRecorder, emptied.doors, if_neg (by rw [h]; nofun)]
  · rw [(tMiss d (unpersisting h)).1, (vMiss d h).1]
  · rw [tRecord, filled, if_neg (by rw [h]; nofun), empty d clears]
  · rw [(tMiss d h).1, (vHit d clears).1]
    exact (freed d clears h).1
  · rw [tRecord, filled, if_pos h, empty d (cleared h)]

end

theorem DoorFaults.emptied_eq (bit present : Bool) (x : DoorFaults) :
    (if bit then if present then { x with capture := none } else x else x) =
      if bit && present && x.capture.isSome then { x with capture := none } else x := by
  obtain ⟨c, counters, wear⟩ := x
  cases bit <;> cases present <;> cases c <;> rfl

theorem emptiedMessages_eq (bit present : Bool) (d : DoorId) (c : Option Capture) :
    (if bit then if present then emptiedMessages d c else [] else []) = if bit && present && c.isSome then emptiedMessages d c else [] := by
  cases bit <;> cases present <;> cases c <;> rfl

/-- A captured door is filled again as R43 and entry 14 say. -/
theorem State.refilled_eq {d : DoorId} (captured : Captured s d) :
    let x := s.door d
    let y : Door := { x.outOfTransit with
      edgeWait := .none, edgeTimer := none
      settle := { x.settle with conflict := x.settle.conflict || (x.motion == .settling && s.conflicted d) } }
    s.refilled d = if x.motion = .queued then y.atRest (s.channel d) else y := by
  intro x y
  unfold State.refilled Door.heldByFault
  rw [← captured.faulted]
  by_cases queued : x.motion = .queued
  · rw [if_pos queued]
    exact (if_pos (.inr (.inr queued))).trans (by unfold Door.atRest; split <;> rfl)
  · rw [if_neg queued]
    exact if_neg fun h => h.elim captured.unwarned fun h => h.elim captured.undwelt queued

/-- Settles O55: FAULT_CLEAR by its three turns of messages, COUNTERS_CLEAR by the reports of WEAR alone. -/
theorem clearRequests : Obligations.ClearRequests := by
  unfold Obligations.ClearRequests
  intro s r b2 b1 b0 body named
  refine ⟨fun h nothing inv => ?_, fun h => State.countersClear_clears body h⟩
  intro i cleared mismatch conflict found persists freed refilled resets raises
  have length : r.body.length ∈ [3] := by simp [body]
  let ds := allDoors.filter (inDoors (doorSetOf r.body))
  obtain ⟨records, folded, doors⟩ := Log.foldl_perDoor (Log.clearFault_perDoor s.image) ds (s.begun r).log rfl (nodup_allDoors.filter _)
  generalize out : ds.flatMap (fun d => if s.image.doors[d].present then emptiedMessages d ((s.begun r).log.door d).capture else []) = ms
    at folded
  have inNamed (d : DoorId) : d ∈ ds ↔ (b2 ++ b1 ++ b0).getLsbD d.val = true := by
    rw [List.mem_filter, inDoors_doorSetOf body]
    exact and_iff_right (mem_allDoors d)
  have part : State.faultClear r.body (s.begun r) =
      .accepted { s.begun r with recorder := ⟨records, s.recorder.drive⟩, inFlight := s.inFlight ++ ms } [] :=
    congrArg (Answer.accepted · []) (State.logEvent_eq (s.begun r) _ folded)
  have served := State.serve_accepted (kind := 0x0C) (owner := State.faultClear) (data := []) h length part
  obtain ⟨u, event⟩ : ∃ u : State, u = { s.begun r with recorder := ⟨records, s.recorder.drive⟩, inFlight := s.inFlight ++ ms } :=
    ⟨_, rfl⟩
  rw [← event, nothing] at served
  change _ = (u.complete 0).reply 0x0C r none [] at served
  have emptied : Emptied s u named ms := by
    refine ⟨?_, ?_, fun d => ?_, ?_⟩
    · rw [event, nothing]
      rfl
    · rw [event]
    · have record : u.recorder.doors[d] = records[d] := by rw [event]
      refine record.trans ((doors d).trans ?_)
      show (if d ∈ ds then if s.image.doors[d].present then { s.recorder.doors[d] with capture := none } else s.recorder.doors[d]
        else s.recorder.doors[d]) = _
      exact (if_congr (inNamed d) rfl rfl).trans (DoorFaults.emptied_eq _ _ _)
    · rw [← out, flatMap_filter_eq, flatMap_filter_eq]
      refine List.flatMap_congr fun d _ => ?_
      rw [inDoors_doorSetOf body]
      show (if _ then if s.image.doors[d].present then emptiedMessages d s.recorder.doors[d].capture else [] else []) = _
      exact emptiedMessages_eq _ _ d _
  have result := emptied.cleared fun d clears => captured_of_inv inv nothing (Bool.and_eq_true_iff.mp clears).2
  have completes := u.complete_completes 0
  have whole := served.trans (State.reply_eq _)
  have answered := State.reply_answered (kind := 0x0C) (reason := none) (data := []) (u.complete 0) h.addressed
  have port : u.port = (s.begun r).port := by rw [event]
  rw [← served, completes.port, port] at answered
  generalize u.complete 0 = v at result completes whole
  have frame : CompletionFrame s v := by
    refine ⟨completes.lines.trans ?_, completes.straps.trans ?_, completes.alloc.trans ?_, completes.store.trans ?_,
      completes.time.trans ?_, completes.pending.trans ?_, completes.freeDraws.trans ?_⟩ <;> rw [event] <;> rfl
  have resolver : v.resolver = s.resolver := completes.resolver.trans (by rw [event]; rfl)
  refine ⟨_, rfl, ?_⟩
  generalize s.serve (.faultClear r) 0x0C r [3] State.faultClear = t at whole answered
  rw [whole] at answered ⊢
  refine ⟨⟨frame.lines, frame.straps, frame.alloc, frame.store, frame.time, frame.pending, frame.freeDraws⟩,
    answered_begun.mp answered, resolver, result.drive, result.alarms, result.flight, fun d => ⟨?_, result.unnamed d, result.ended d,
      fun h => ⟨(result.again d h).1, (result.again d h).2.trans ?_⟩⟩⟩
  · obtain ⟨on, is⟩ := result.channel d
    exact ⟨(congrArg Channel.inputs is : _), (congrArg Channel.openValve is : _), (congrArg Channel.closeValve is : _)⟩
  · exact congrArg Door.still (State.refilled_eq (captured_of_inv inv nothing
      (Bool.and_eq_true_iff.mp (Bool.and_eq_true_iff.mp h).1).2))

end Sys2Proof.Machine

/-! The flow allocator's procedures as accounts: its records and the messages made (R92, R93, R97 to R102). -/

namespace Sys2Proof.Machine

open Sys2Proof

namespace Flow

/-- The records and the messages made. -/
def account (f : Flow) : Account := (f.alloc, f.out)

/-- The records and the messages as given. -/
def become (f : Flow) (x : Account) : Flow := ⟨f.image, x.1, x.2⟩

@[simp] theorem become_account (f : Flow) (x : Account) : (f.become x).account = x := rfl
@[simp] theorem become_become (f : Flow) (x y : Account) : (f.become x).become y = f.become y := rfl
@[simp] theorem become_image (f : Flow) (x : Account) : (f.become x).image = f.image := rfl
theorem become_self (f : Flow) : f.become f.account = f := rfl

section
variable {f : Flow} {d e : DoorId} {h k : HpuId} {c : Dir} {p : Bool} {n : Nat} {a : AllocStanding}

/-! ### FLOW_SHORT (R102) -/

theorem short_eq (f : Flow) (d : DoorId) : f.short d = f.alloc.short d := rfl

theorem evalShort_become (f : Flow) (d : DoorId) : f.evalShort d = f.become (Account.short d f.account) := by
  unfold Flow.evalShort Account.short Flow.become Flow.account
  rw [short_eq]
  cases f.alloc.short d <;> cases before : f.alloc.flowShort[d] <;> simp [Flow.send]

theorem foldl_become {α : Type} {step : Flow → α → Flow} {act : α → Account → Account}
    (each : ∀ f x, step f x = f.become (act x f.account)) (xs : List α) : ∀ f : Flow,
      xs.foldl step f = f.become (xs.foldl (fun y x => act x y) f.account) := by
  induction xs with
  | nil => exact fun f => f.become_self.symm
  | cons x xs ih =>
    intro f
    rw [List.foldl_cons, List.foldl_cons, each, ih]
    rfl

theorem evalShortAll_become (f : Flow) :
    f.evalShortAll = f.become (allDoors.foldl (fun x d => Account.short d x) f.account) :=
  foldl_become evalShort_become allDoors f

/-! ### The places of a door (R92, R93) -/

theorem enqueueTail_become (f : Flow) (d : DoorId) (h : HpuId) (c : Dir) (n : Nat) :
    f.enqueueTail d h c n = f.become (f.alloc.atTail d h c n, f.out) := rfl

theorem drop_takeWhile_length {α : Type} (q : α → Bool) (xs : List α) : xs.drop (xs.takeWhile q).length = xs.dropWhile q := by
  conv_lhs => rw [← List.takeWhile_append_dropWhile (p := q) (l := xs)]
  exact List.drop_left' (by rw [List.takeWhile_append_dropWhile])

theorem enqueuePaused_become (f : Flow) (d : DoorId) (h : HpuId) (c : Dir) (n : Nat) :
    f.enqueuePaused d h c n = f.become (f.alloc.inPausedRun d h c n, f.out) := by
  unfold Flow.enqueuePaused Flow.insertPaused
  dsimp only
  rw [drop_takeWhile_length]
  rfl

/-- A door that stands in no other list of any HPU. -/
theorem map_without (f : Flow) (d : DoorId) {x : Hpu}
    (others : ∀ j, j ≠ h → d ∉ (f.hpu j).granted ∧ ∀ c, d ∉ (f.hpu j).queue c)
    (here : x = { f.hpu h with
      granted := (f.hpu h).granted.erase d, closeQueue := (f.hpu h).closeQueue.erase d, openQueue := (f.hpu h).openQueue.erase d
      inUse := if d ∈ (f.hpu h).granted then (f.hpu h).inUse - (f.standing d).demand else (f.hpu h).inUse }) :
    f.moved h x d .out = f.become (f.alloc.without d, f.out) := by
  have lists : f.alloc.hpus.set h x = (f.alloc.without d).hpus := Vector.ext fun k hk => by
    rw [Alloc.without, Vector.getElem_map]
    by_cases same : h.val = k
    · subst same
      rw [Vector.getElem_set_self, here]
      rfl
    · rw [Vector.getElem_set_ne _ _ same]
      obtain ⟨notGranted, notQueued⟩ := others ⟨k, hk⟩ fun is => same (congrArg Fin.val is).symm
      have granted : d ∉ f.alloc.hpus[k].granted := notGranted
      have close : d ∉ f.alloc.hpus[k].closeQueue := notQueued .cls
      have opening : d ∉ f.alloc.hpus[k].openQueue := notQueued .opn
      rw [List.erase_of_not_mem granted, List.erase_of_not_mem close, List.erase_of_not_mem opening, if_neg granted]
  unfold Flow.moved Flow.withHpu Flow.withStanding
  rw [lists]
  rfl

theorem away_notMem (l : f.Lists) (away : (f.standing d).Away k) : d ∉ (f.hpu k).granted ∧ ∀ c, d ∉ (f.hpu k).queue c := by
  rw [(l k).granted, away.1]
  refine ⟨nofun, fun c => ?_⟩
  rw [(l k).queued, away.2]
  nofun

theorem leaveQueue_become (l : f.Lists) (was : f.standing d = .waiting h c p n) :
    f.leaveQueue d = f.become (f.alloc.without d, f.out) := by
  rw [leaveQueue_eq was]
  refine map_without f d (fun j ne => away_notMem l (was ▸ AllocStanding.away_waiting ne _ _ _)) ?_
  have notGranted : d ∉ (f.hpu h).granted := by
    rw [(l h).granted, was]
    nofun
  rw [List.erase_of_not_mem notGranted, if_neg notGranted]
  rfl

theorem leaveGranted_become (l : f.Lists) (was : (f.standing d).grantedBy h = true) :
    f.leaveGranted d = f.become (f.alloc.without d, f.out) := by
  rw [leaveGranted_eq was]
  refine map_without f d (fun j ne => away_notMem l (grantedBy_away was j ne)) ?_
  have notQueued (c : Dir) : d ∉ (f.hpu h).queue c := by
    rw [(l h).queued, AllocStanding.waitsIn_of_grantedBy was]
    nofun
  have close : d ∉ (f.hpu h).closeQueue := notQueued .cls
  have opening : d ∉ (f.hpu h).openQueue := notQueued .opn
  rw [if_pos (((l h).granted d).mpr was), List.erase_of_not_mem close, List.erase_of_not_mem opening]

end

end Flow

end Sys2Proof.Machine

/-! The service of an HPU's queue as an account (R97 to R99). -/

namespace Sys2Proof.Machine

open Sys2Proof

/-! ### Doors granted by an HPU -/

/-- Some doors granted by an HPU, each in its class. -/
def Account.grantAll (h : HpuId) (gs : List (DoorId × Dir)) (x : Account) : Account :=
  let a := x.1
  let y := a.hpus[h]
  let ds := gs.map (·.1)
  ({ a with
     hpus := a.hpus.set h
       { y with
         granted := y.granted ++ ds, inUse := y.inUse + (ds.map fun d => a.doors[d].demand).sum
         closeQueue := y.closeQueue.filter (!ds.contains ·), openQueue := y.openQueue.filter (!ds.contains ·)
         order := ds.foldl (fun o d => o.erase d ++ [d]) y.order }
     doors := Vector.ofFn fun d : DoorId =>
       match gs.lookup d with
       | some c => .offered h c a.doors[d].demand .none
       | none => a.doors[d]
     flowShort := Vector.ofFn fun d : DoorId => a.flowShort[d] && !ds.contains d },
   x.2 ++ gs.flatMap fun g =>
     .grant g.1 g.2 :: (if a.flowShort[g.1] then [.alarmClear .flowShort (.door g.1)] else []))

theorem Account.serve_eq (h : HpuId) (x : Account) : Account.serve h x = x.grantAll h (x.1.grants h) := rfl

section
variable {x : Account} {h : HpuId} {gs gs' : List (DoorId × Dir)} {d : DoorId}

theorem Account.grantAll_hpu : (x.grantAll h gs).1.hpus[h] =
    { x.1.hpus[h] with
      granted := x.1.hpus[h].granted ++ gs.map (·.1)
      inUse := x.1.hpus[h].inUse + ((gs.map (·.1)).map fun d => x.1.doors[d].demand).sum
      closeQueue := x.1.hpus[h].closeQueue.filter (!(gs.map (·.1)).contains ·)
      openQueue := x.1.hpus[h].openQueue.filter (!(gs.map (·.1)).contains ·)
      order := (gs.map (·.1)).foldl (fun o d => o.erase d ++ [d]) x.1.hpus[h].order } :=
  Vector.getElem_set_self ..

theorem Account.grantAll_hpu_ne {k : HpuId} (ne : k ≠ h) : (x.grantAll h gs).1.hpus[k] = x.1.hpus[k] := by
  have differ : h.val ≠ k.val := fun same => ne (Fin.ext same.symm)
  simp [Account.grantAll, differ]

theorem Account.grantAll_door : (x.grantAll h gs).1.doors[d] =
    match gs.lookup d with
    | some c => .offered h c x.1.doors[d].demand .none
    | none => x.1.doors[d] := Vector.getElem_ofFn ..

theorem Account.grantAll_short : (x.grantAll h gs).1.flowShort[d] = (x.1.flowShort[d] && !(gs.map (·.1)).contains d) :=
  Vector.getElem_ofFn ..

/-- What the grant of a door makes (R99, R102). -/
def grantMessages (a : Alloc) (g : DoorId × Dir) : List Instr :=
  .grant g.1 g.2 :: (if a.flowShort[g.1] then [.alarmClear .flowShort (.door g.1)] else [])

theorem Account.grantAll_out : (x.grantAll h gs).2 = x.2 ++ gs.flatMap (grantMessages x.1) := rfl

theorem contains_append_not {α : Type} [BEq α] (xs ys : List α) (a : α) :
    (!(xs ++ ys).contains a) = (!xs.contains a && !ys.contains a) := by
  rw [List.contains_append, Bool.not_or]

theorem Account.grantAll_demand : (x.grantAll h gs).1.doors[d].demand = x.1.doors[d].demand := by
  rw [Account.grantAll_door]
  split <;> rfl

theorem lookup_of_notMem {α β : Type} [BEq α] [LawfulBEq α] {k : α} {gs : List (α × β)} (h : k ∉ gs.map (·.1)) : gs.lookup k = none :=
  List.lookup_eq_none_iff.mpr fun _ hp => bne_iff_ne.mpr fun same => h (same ▸ List.mem_map_of_mem hp)

theorem Account.ext_parts {x y : Account} (hpus : ∀ k : HpuId, x.1.hpus[k] = y.1.hpus[k])
    (doors : ∀ d : DoorId, x.1.doors[d] = y.1.doors[d]) (shorts : ∀ d : DoorId, x.1.flowShort[d] = y.1.flowShort[d])
    (supply : x.1.onEmergency = y.1.onEmergency) (out : x.2 = y.2) : x = y := by
  obtain ⟨⟨hs, ds, fs, e⟩, ms⟩ := x
  obtain ⟨⟨hs', ds', fs', e'⟩, ms'⟩ := y
  obtain rfl : hs = hs' := Vector.ext fun k hk => hpus ⟨k, hk⟩
  obtain rfl : ds = ds' := Vector.ext fun k hk => doors ⟨k, hk⟩
  obtain rfl : fs = fs' := Vector.ext fun k hk => shorts ⟨k, hk⟩
  obtain rfl : e = e' := supply
  obtain rfl : ms = ms' := out
  rfl

theorem Account.grantAll_nil : x.grantAll h [] = x := by
  refine Account.ext_parts (fun k => ?_) (fun d => Account.grantAll_door) (fun d => ?_) rfl (List.append_nil _)
  · by_cases same : k = h
    · rw [same, Account.grantAll_hpu]
      simp
    · exact Account.grantAll_hpu_ne same
  · rw [Account.grantAll_short]
    simp

/-- Doors granted one lot after the other. -/
theorem Account.grantAll_append (apart : ∀ d, d ∈ gs.map (·.1) → d ∉ gs'.map (·.1)) :
    x.grantAll h (gs ++ gs') = (x.grantAll h gs).grantAll h gs' := by
  refine Account.ext_parts (fun k => ?_) (fun d => ?_) (fun d => ?_) rfl ?_
  · by_cases same : k = h
    · rw [same, Account.grantAll_hpu, Account.grantAll_hpu, Account.grantAll_hpu]
      simp only [Account.grantAll_demand, List.map_append, List.sum_append, List.foldl_append, List.filter_filter, Nat.add_assoc,
        List.append_assoc, contains_append_not, Bool.and_comm]
    · rw [Account.grantAll_hpu_ne same, Account.grantAll_hpu_ne same, Account.grantAll_hpu_ne same]
  · rw [Account.grantAll_door, Account.grantAll_door, Account.grantAll_demand, Account.grantAll_door, List.lookup_append]
    by_cases first : d ∈ gs.map (·.1)
    · rw [lookup_of_notMem (apart d first), Option.or_none]
    · rw [lookup_of_notMem first, Option.none_or]
  · rw [Account.grantAll_short, Account.grantAll_short, Account.grantAll_short, Bool.and_assoc, List.map_append,
      contains_append_not]
  · have later (g : DoorId × Dir) (hg : g ∈ gs') : (x.grantAll h gs).1.flowShort[g.1] = x.1.flowShort[g.1] := by
      have fresh : g.1 ∉ gs.map (·.1) := fun mem => apart _ mem (List.mem_map_of_mem hg)
      rw [Account.grantAll_short]
      simp [fresh]
    rw [Account.grantAll_out, Account.grantAll_out, Account.grantAll_out, List.flatMap_append, List.append_assoc]
    have same : gs'.flatMap (grantMessages (x.grantAll h gs).1) = gs'.flatMap (grantMessages x.1) :=
      List.flatMap_congr fun g hg => by rw [grantMessages, later g hg, grantMessages]
    rw [same]

end

namespace Flow

section
variable {f : Flow} {d e : DoorId} {h k : HpuId} {c : Dir} {p : Bool} {n : Nat}

/-! ### The scan of a class (R98, R99) -/

theorem erase_eq_ungranted {q : List DoorId} (once : q.Nodup) (d : DoorId) : q.erase d = q.filter (!List.contains [d] ·) := by
  rw [once.erase_eq_filter]
  exact List.filter_congr fun e _ => by by_cases same : e = d <;> simp [same]

/-- The grant of a waiting door. -/
theorem grantDoor_become (l : f.Lists) (was : f.standing d = .waiting h c p n) :
    f.grantDoor d = f.become (f.account.grantAll h [(d, c)]) := by
  have demand : f.alloc.doors[d].demand = n := congrArg AllocStanding.demand was
  unfold Flow.grantDoor
  rw [was]
  dsimp only
  rw [evalShort_become]
  generalize is : ((f.withHpu h { (f.hpu h).unqueue d with
      granted := ((f.hpu h).unqueue d).granted ++ [d]
      inUse := ((f.hpu h).unqueue d).inUse + n
      order := ((f.hpu h).unqueue d).order.erase d ++ [d] }).withStanding d (.offered h c n .none)).send (.grant d c) = g
  have standing : g.standing = Function.update f.standing d (.offered h c n .none) := by
    rw [← is]
    exact withStanding_standing _ d _
  have short : g.alloc.short d = false := by
    have own : g.alloc.doors[d] = .offered h c n .none := (congrFun standing d).trans (Function.update_self ..)
    rw [Alloc.short, own]
  have before : g.alloc.flowShort = f.alloc.flowShort := by
    rw [← is]
    rfl
  have image : g.image = f.image := by
    rw [← is]
    rfl
  refine congrArg₂ (fun i (x : Account) => (⟨i, x.1, x.2⟩ : Flow)) image (Account.ext_parts (fun k => ?_) (fun e => ?_) (fun e => ?_) ?_ ?_)
  · show g.hpu k = _
    by_cases same : k = h
    · rw [same, Account.grantAll_hpu, ← is]
      refine (withHpu_hpu f h _).trans ?_
      have closeOnce : (f.hpu h).closeQueue.Nodup := (l h).queuedOnce .cls
      have openOnce : (f.hpu h).openQueue.Nodup := (l h).queuedOnce .opn
      rw [Hpu.unqueue, erase_eq_ungranted closeOnce, erase_eq_ungranted openOnce, ← demand]
      rfl
    · rw [Account.grantAll_hpu_ne same, ← is]
      exact withHpu_hpu_ne f _ same
  · show g.standing e = _
    rw [standing, Account.grantAll_door]
    by_cases same : e = d
    · rw [same, Function.update_self]
      show _ = match ([(d, c)] : List (DoorId × Dir)).lookup d with
        | some c => AllocStanding.offered h c f.alloc.doors[d].demand .none
        | none => f.alloc.doors[d]
      rw [List.lookup_cons_self, demand]
    · rw [Function.update_of_ne same, lookup_of_notMem (by simpa using same)]
      rfl
  · rw [Account.grantAll_short]
    show (g.alloc.flowShort.set d (g.alloc.short d))[e] = (f.alloc.flowShort[e] && !List.contains [d] e)
    rw [short, before]
    by_cases same : e = d
    · subst same
      simp
    · have differ : d.val ≠ e.val := fun k => same (Fin.ext k.symm)
      simp [same, differ]
  · rw [← is]
    rfl
  · show g.out ++ (if g.alloc.short d = g.alloc.flowShort[d] then [] else if g.alloc.short d then _ else _) = _
    rw [short, before, Account.grantAll_out, ← is]
    show f.out ++ [.grant d c] ++ _ = f.out ++ (grantMessages f.alloc (d, c) ++ [])
    rw [grantMessages]
    cases f.alloc.flowShort[d] <;> simp

/-- Every door of a list waits in one class of an HPU. -/
def Waiting (f : Flow) (h : HpuId) (c : Dir) (ds : List DoorId) : Prop := ∀ d ∈ ds, (f.standing d).waitsIn h c = true

theorem waiting_of_waitsIn (waits : (f.standing d).waitsIn h c = true) : ∃ p n, f.standing d = .waiting h c p n := by
  cases standing : f.standing d <;> rw [standing] at waits <;> first | cases waits | skip
  obtain ⟨rfl, rfl⟩ : _ = h ∧ _ = c := by simpa [AllocStanding.waitsIn] using waits
  exact ⟨_, _, rfl⟩

theorem grantsOf_congr {a a' : Alloc} (same : ∀ d : DoorId, a'.doors[d].demand = a.doors[d].demand) (cap : Nat) (ds : List DoorId) :
    ∀ u, grantsOf a' cap u ds = grantsOf a cap u ds := by
  induction ds with
  | nil => exact fun _ => rfl
  | cons d ds ih =>
    intro u
    unfold grantsOf
    dsimp only
    rw [same, ih, ih]

theorem grantsOf_sublist (a : Alloc) (cap : Nat) (ds : List DoorId) : ∀ u, (grantsOf a cap u ds).Sublist ds := by
  induction ds with
  | nil => exact fun _ => .slnil
  | cons d ds ih =>
    intro u
    unfold grantsOf
    dsimp only
    split
    · exact (ih u).cons d
    · split
      · exact (ih _).cons_cons d
      · exact List.nil_sublist _

theorem map_fst_pair (ds : List DoorId) (c : Dir) : (ds.map (·, c)).map (·.1) = ds := by
  rw [List.map_map]
  exact List.map_id ds

/-- The scan of a class from its head grants what `grantsOf` gives. -/
theorem scan_become (rest : List DoorId) : ∀ {f : Flow}, f.Within → rest.Nodup → f.Waiting h c rest →
    f.scan h rest = f.become (f.account.grantAll h
      ((grantsOf f.alloc (f.hpu h).capacity (f.hpu h).inUse rest).map (·, c))) := by
  induction rest with
  | nil =>
    intro f _ _ _
    rw [Flow.scan, grantsOf, List.map_nil, Account.grantAll_nil, become_self]
  | cons d rest ih =>
    intro f w once waits
    obtain ⟨fresh, once⟩ := List.nodup_cons.mp once
    have waits' : f.Waiting h c rest := fun e he => waits e (List.mem_cons_of_mem _ he)
    obtain ⟨p, n, was⟩ := waiting_of_waitsIn (waits d List.mem_cons_self)
    have demand : n = f.alloc.doors[d].demand := (congrArg AllocStanding.demand was).symm
    unfold Flow.scan grantsOf
    dsimp only
    rw [show (f.standing d).demand = f.alloc.doors[d].demand from rfl]
    split
    · exact ih w once waits'
    · have bound : (f.hpu h).inUse ≤ (f.hpu h).capacity := w.2 h
      split
      · next fits =>
        have room : (f.hpu h).inUse + f.alloc.doors[d].demand ≤ (f.hpu h).capacity := by omega
        rw [if_pos room]
        have grant := grantDoor_become w.1 was
        obtain ⟨-, capacity, others⟩ := grantDoor_queue was
        have kept : (f.grantDoor d).Within := (Kept.grantDoor (ks := allHpus)
          ⟨w.1, w.2, fun k away => absurd (List.mem_finRange k) away⟩ was (by rw [demand]; exact room)).within
        have inUse : ((f.grantDoor d).hpu h).inUse = (f.hpu h).inUse + f.alloc.doors[d].demand := by
          rw [grant]
          exact (congrArg Hpu.inUse Account.grantAll_hpu :)
        have stays : (f.grantDoor d).Waiting h c rest := fun e he => by
          rw [others e fun same => fresh (same ▸ he)]
          exact waits' e he
        have demands (e : DoorId) : (f.grantDoor d).alloc.doors[e].demand = f.alloc.doors[e].demand := by
          rw [grant]
          exact Account.grantAll_demand
        rw [ih kept once stays, capacity, inUse, grantsOf_congr demands, grant, become_become, become_account, List.map_cons]
        refine congrArg f.become (Eq.symm ?_)
        refine Account.grantAll_append (gs := [(d, c)]) fun e he => ?_
        rw [List.mem_singleton.mp he, map_fst_pair]
        exact fun mem => fresh ((grantsOf_sublist _ _ _ _).subset mem)
      · next full =>
        rw [if_neg (by omega), List.map_nil, Account.grantAll_nil, become_self]

end

end Flow

end Sys2Proof.Machine

/-! The flow allocator's procedures as accounts: service, pauses and capacities (R91, R97 to R100). -/

namespace Sys2Proof.Machine

open Sys2Proof

namespace Flow

section
variable {f : Flow} {d e : DoorId} {h k : HpuId} {c : Dir} {n : Nat}

/-! ### Service (R98) -/

theorem Lists.waiting (l : f.Lists) (h : HpuId) (c : Dir) : f.Waiting h c ((f.hpu h).queue c) := fun d hd => ((l h).queued c d).mp hd

theorem Within.keptAll (w : f.Within) : f.Kept allHpus := ⟨w.1, w.2, fun k away => absurd (List.mem_finRange k) away⟩

theorem Within.scan (w : f.Within) (h : HpuId) (c : Dir) : (f.scan h ((f.hpu h).queue c)).Within :=
  (Kept.scan (ks := allHpus) ((f.hpu h).queue c) [] (w.keptAll.mono fun _ => List.mem_cons_of_mem h) rfl
    (fun _ mem => absurd mem List.not_mem_nil)).1.within

theorem Within.serve (w : f.Within) (h : HpuId) : (f.serve h).Within :=
  (Kept.serve (ks := allHpus) (w.keptAll.mono fun _ => List.mem_cons_of_mem h)).within

theorem serve_become (w : f.Within) (h : HpuId) : f.serve h = f.become (Account.serve h f.account) := by
  have once (c : Dir) : ((f.hpu h).queue c).Nodup := (w.1 h).queuedOnce c
  have first := scan_become ((f.hpu h).queue .cls) w (once .cls) (w.1.waiting h .cls)
  have kept := w.scan h .cls
  unfold Flow.serve
  dsimp only
  change f.scan h (f.hpu h).closeQueue = _ at first
  change (f.scan h (f.hpu h).closeQueue).Within at kept
  rw [Account.serve_eq, Alloc.grants]
  generalize closes : grantsOf f.alloc (f.hpu h).capacity (f.hpu h).inUse ((f.hpu h).queue .cls) = closing at first
  change grantsOf f.account.1 f.account.1.hpus[h].capacity f.account.1.hpus[h].inUse f.account.1.hpus[h].closeQueue = closing at closes
  rw [closes]
  generalize f.scan h (f.hpu h).closeQueue = g at first kept
  have hpu := Account.grantAll_hpu (x := f.account) (h := h) (gs := closing.map (·, Dir.cls))
  rw [map_fst_pair] at hpu
  have gHpu : g.hpu h = _ := (congrArg (fun g : Flow => g.hpu h) first).trans hpu
  have demands (e : DoorId) : g.alloc.doors[e].demand = f.alloc.doors[e].demand := by
    rw [first]
    exact Account.grantAll_demand
  have servable : g.servable h .cls =
      f.account.1.hpus[h].closeQueue.any fun d => !closing.contains d && decide (f.account.1.doors[d].demand ≤ f.account.1.hpus[h].capacity) := by
    have queue : (g.hpu h).queue .cls = f.account.1.hpus[h].closeQueue.filter (!closing.contains ·) := congrArg Hpu.closeQueue gHpu
    have capacity : (g.hpu h).capacity = f.account.1.hpus[h].capacity := (congrArg Hpu.capacity gHpu :)
    unfold Flow.servable
    rw [queue, capacity, List.any_filter]
    refine congrArg (List.any _) (funext fun d => ?_)
    rw [show (g.standing d).demand = f.account.1.doors[d].demand from demands d]
  rw [servable]
  cases blocked : f.account.1.hpus[h].closeQueue.any fun d =>
      !closing.contains d && decide (f.account.1.doors[d].demand ≤ f.account.1.hpus[h].capacity) with
  | true => rw [if_pos rfl, if_pos rfl, List.append_nil, first]
  | false =>
    rw [if_neg nofun, if_neg nofun]
    have apart {d : DoorId} (hd : d ∈ (f.hpu h).openQueue) : d ∉ closing := fun mem => by
      rw [← closes] at mem
      have close := w.1.waiting h .cls d ((grantsOf_sublist _ _ _ _).subset mem)
      have opens := w.1.waiting h .opn d hd
      cases standing : f.standing d <;> rw [standing] at close opens <;> simp [AllocStanding.waitsIn] at close opens
      exact absurd (close.2.symm.trans opens.2) nofun
    have queue : (g.hpu h).openQueue = (f.hpu h).openQueue := (congrArg Hpu.openQueue gHpu).trans (List.filter_eq_self.mpr fun d hd => by
      simpa using apart hd)
    have second := scan_become ((g.hpu h).queue .opn) kept ((kept.1 h).queuedOnce .opn) (kept.1.waiting h .opn)
    have capacity : (g.hpu h).capacity = (f.hpu h).capacity := (congrArg Hpu.capacity gHpu :)
    have inUse : (g.hpu h).inUse = (f.hpu h).inUse + (closing.map fun d => f.alloc.doors[d].demand).sum := congrArg Hpu.inUse gHpu
    change g.scan h (g.hpu h).openQueue = g.become (g.account.grantAll h
      ((grantsOf g.alloc (g.hpu h).capacity (g.hpu h).inUse (g.hpu h).openQueue).map (·, Dir.opn))) at second
    rw [second, capacity, inUse, queue, grantsOf_congr demands, first, become_become, become_account]
    refine congrArg f.become (Account.grantAll_append fun d hd => ?_).symm
    rw [map_fst_pair] at hd ⊢
    exact fun mem => apart ((grantsOf_sublist _ _ _ _).subset mem) hd

theorem serveAll_become (w : f.Within) : f.serveAll = f.become (allHpus.foldl (fun x h => Account.serve h x) f.account) := by
  unfold Flow.serveAll
  induction allHpus generalizing f with
  | nil => exact f.become_self.symm
  | cons h hs ih =>
    rw [List.foldl_cons, List.foldl_cons, ih (w.serve h), serve_become w h]
    rfl

end

end Flow

end Sys2Proof.Machine

/-! The flow allocator's procedures as accounts: pauses, capacities and the flow alarms (R90, R91, R100, R103). -/

namespace Sys2Proof.Machine

open Sys2Proof

theorem ratedCapacity_eq (g : GroupRecord) (l : GroupLines) (h : HpuId) : ratedCapacity g l h = capacityOf g l h := by
  unfold ratedCapacity capacityOf
  cases l.pressure[h].filtered <;> cases l.mainSupply.filtered <;> rfl

/-- Doors are taken back by their demands alone. -/
theorem takenBack_congr {a a' : Alloc} {ds : List DoorId} (same : ∀ d ∈ ds, a'.doors[d].demand = a.doors[d].demand) (cap : Nat) :
    ∀ u, takenBack a' cap u ds = takenBack a cap u ds := by
  induction ds with
  | nil => exact fun _ => rfl
  | cons d ds ih =>
    intro u
    unfold takenBack
    rw [same d List.mem_cons_self, ih fun e he => same e (List.mem_cons_of_mem _ he)]

namespace Flow

section
variable {f : Flow} {d e : DoorId} {h k : HpuId} {n : Nat}

/-! ### Pauses (R100) -/

theorem takeBack_become (l : f.Lists) (d : DoorId) : f.takeBack d = f.become (Account.takeBack f.account d) := by
  have leaves {h : HpuId} (granted : (f.standing d).grantedBy h = true) := leaveGranted_become l granted
  unfold Flow.takeBack Account.takeBack
  rw [show f.account.1.doors[d] = f.standing d from rfl]
  cases standing : f.standing d with
  | out => exact f.become_self.symm
  | waiting h c p n => exact f.become_self.symm
  | held h dir n =>
    dsimp only
    rw [leaves (h := h) (by rw [standing]; exact beq_self_eq_true h), enqueuePaused_become]
    rfl
  | offered h dir n p =>
    have left := leaves (h := h) (by rw [standing]; exact beq_self_eq_true h)
    cases p with
    | none =>
      dsimp only
      rw [left, enqueuePaused_become]
      rfl
    | withdrawn => exact left
    | joined c h' n' =>
      dsimp only
      rw [left, enqueueTail_become]
      rfl

/-- What a door that is taken back leaves of its HPU and of the others' standings. -/
theorem takeBack_leaves (granted : (f.standing d).grantedBy h = true) :
    ((f.takeBack d).hpu h).inUse = (f.hpu h).inUse - (f.standing d).demand ∧
      ((f.takeBack d).hpu h).capacity = (f.hpu h).capacity ∧ ∀ e, e ≠ d → (f.takeBack d).standing e = f.standing e := by
  have left := leaveGranted_eq granted
  have inUse : ((f.leaveGranted d).hpu h).inUse = (f.hpu h).inUse - (f.standing d).demand := by rw [left, moved_hpu]
  have capacity : ((f.leaveGranted d).hpu h).capacity = (f.hpu h).capacity := by rw [left, moved_hpu]
  have others (e : DoorId) (ne : e ≠ d) : (f.leaveGranted d).standing e = f.standing e := by
    rw [left, moved_standing, Function.update_of_ne ne]
  have places (j : HpuId) (c : Dir) (q : List DoorId) (a : AllocStanding) :
      let g := (f.leaveGranted d).moved j (((f.leaveGranted d).hpu j).withQueue c q) d a
      (g.hpu h).inUse = (f.hpu h).inUse - (f.standing d).demand ∧ (g.hpu h).capacity = (f.hpu h).capacity ∧
        ∀ e, e ≠ d → g.standing e = f.standing e := by
    intro g
    refine ⟨((placed_hpu _ j c q d a h).1).trans inUse, ?_, fun e ne => ?_⟩
    · by_cases same : h = j
      · subst same
        rw [moved_hpu, (Hpu.withQueue_same _ c q).2.2, capacity]
      · rw [moved_hpu_ne same, capacity]
    · rw [moved_standing, Function.update_of_ne ne, others e ne]
  unfold Flow.takeBack
  split
  · exact places ..
  · exact places ..
  · exact places ..
  · exact ⟨inUse, capacity, others⟩
  · next was => simp [was, AllocStanding.grantedBy] at granted
  · next was => simp [was, AllocStanding.grantedBy] at granted

theorem pauseUntilFits_become (ds : List DoorId) : ∀ {f : Flow}, f.Lists → (∀ d ∈ ds, (f.standing d).grantedBy h = true) → ds.Nodup →
    f.pauseUntilFits h ds =
      f.become ((takenBack f.alloc (f.hpu h).capacity (f.hpu h).inUse ds).foldl Account.takeBack f.account) := by
  induction ds with
  | nil => exact fun _ _ _ => rfl
  | cons d ds ih =>
    intro f l granted once
    obtain ⟨fresh, once⟩ := List.nodup_cons.mp once
    unfold Flow.pauseUntilFits takenBack
    split
    · rfl
    · have own := granted d List.mem_cons_self
      obtain ⟨inUse, capacity, others⟩ := takeBack_leaves own
      have stay (e : DoorId) (he : e ∈ ds) : (f.takeBack d).standing e = f.standing e := others e fun same => fresh (same ▸ he)
      rw [ih (takeBack_lists l d) (fun e he => by rw [stay e he]; exact granted e (List.mem_cons_of_mem _ he)) once, capacity, inUse,
        takenBack_congr (a := f.alloc) fun e he => congrArg AllocStanding.demand (stay e he), List.foldl_cons,
        takeBack_become l]
      rfl

/-! ### Capacities (R91) -/

theorem compute_become (l : f.Lists) (g : GroupLines) (h : HpuId) :
    f.compute g h = f.become (Account.compute f.image.group g h f.account) := by
  unfold Flow.compute Account.compute
  dsimp only
  rw [ratedCapacity_eq]
  change (if capacityOf f.image.group g h = (f.hpu h).capacity then _ else _) =
    f.become (if capacityOf f.image.group g h = (f.hpu h).capacity then _ else _)
  split
  · rfl
  · obtain ⟨f1, is⟩ : ∃ f1, f1 = f.withHpu h { f.hpu h with capacity := capacityOf f.image.group g h } := ⟨_, rfl⟩
    have lists : f1.Lists := fun k => by
      rw [is]
      by_cases hk : k = h
      · rw [hk, withHpu_hpu]
        exact (l h).congr rfl (fun c => by cases c <;> rfl) rfl
      · rw [withHpu_hpu_ne _ _ hk]
        exact l k
    have own : f1.hpu h = { f.hpu h with capacity := capacityOf f.image.group g h } := by rw [is, withHpu_hpu]
    rw [← is, pauseUntilFits_become _ lists (fun d hd => ((lists h).granted d).mp (List.mem_reverse.mp hd))
      (List.nodup_reverse.mpr (lists h).grantedOnce), takenBack_congr (a := f.alloc) fun d _ => by rw [is]; rfl, own, is]
    rfl

theorem computeEach_become (w : f.Within) (g : GroupLines) (hs : List HpuId) :
    f.computeEach g hs = f.become (hs.foldl (fun x h => Account.compute f.image.group g h x) f.account) := by
  unfold Flow.computeEach
  induction hs generalizing f with
  | nil => exact f.become_self.symm
  | cons h hs ih =>
    rw [List.foldl_cons, List.foldl_cons, ih (w.compute g h), compute_become w.1]
    rfl

theorem served_become (w : f.Within) : f.serveAll.evalShortAll = f.become (Account.served f.account) := by
  rw [evalShortAll_become, serveAll_become w]
  rfl

theorem capacityEvent_become (w : f.Within) (g : GroupLines) (hs : List HpuId) :
    f.capacityEvent g hs = f.become (Account.capacities f.image.group g hs f.account) := by
  have unchanged : (hs.all fun h => capacityOf f.image.group g h == (f.hpu h).capacity) = true ↔
      ∀ h ∈ hs, ratedCapacity f.image.group g h = f.account.1.hpus[h].capacity := by
    rw [List.all_eq_true]
    refine forall₂_congr fun h _ => ?_
    rw [beq_iff_eq, ratedCapacity_eq]
    rfl
  unfold Flow.capacityEvent Account.capacities
  by_cases same : ∀ h ∈ hs, ratedCapacity f.image.group g h = f.account.1.hpus[h].capacity
  · rw [if_pos (unchanged.mpr same), if_pos same, become_self]
  · rw [if_neg (mt unchanged.mp same), if_neg same, served_become (w.computeEach g hs), computeEach_become w]
    rfl

/-! ### FLOW_LOST and ON_EMERGENCY_SUPPLY (R103) -/

theorem flowLost_eq (i : Image) (g : GroupLines) (h : HpuId) :
    flowLost i g h = (g.pressure[h].primed && !g.pressure[h].filtered &&
      decide (∃ d : DoorId, i.doors[d].present = true ∧ i.doors[d].hpu = h)) := by
  have drawn : (allDoors.any fun d => i.doors[d].present && i.doors[d].hpu == h) =
      decide (∃ d : DoorId, i.doors[d].present = true ∧ i.doors[d].hpu = h) := by
    rw [Bool.eq_iff_iff, List.any_eq_true, decide_eq_true_iff]
    simp [mem_allDoors]
  unfold flowLost
  rw [drawn]

theorem evalLost_become (f : Flow) (g : GroupLines) (h : HpuId) :
    f.evalLost g h = f.become (Account.lost f.image g h f.account) := by
  unfold Flow.evalLost Account.lost
  dsimp only
  rw [← flowLost_eq]
  change _ = f.become (_, f.out ++ (if flowLost f.image g h = (f.hpu h).flowLost then _ else _))
  cases flowLost f.image g h <;> cases (f.hpu h).flowLost <;>
    simp [Flow.send, Flow.become, Flow.account, Flow.withHpu, Flow.hpu]

theorem evalSupply_become (f : Flow) (g : GroupLines) : f.evalSupply g = f.become (Account.supply g f.account) := by
  unfold Flow.evalSupply Account.supply supplyLost
  dsimp only
  change _ = f.become (_, f.out ++ (if _ = f.alloc.onEmergency then _ else _))
  cases g.mainSupply.primed && !g.mainSupply.filtered <;> cases f.alloc.onEmergency <;>
    simp [Flow.send, Flow.become, Flow.account]

end

end Flow

end Sys2Proof.Machine

/-! The notices of the door table at the flow allocator (R96), and the events of the capacity lines (R90, R91, R100, R103). -/

namespace Sys2Proof.Machine

open Sys2Proof

namespace Flow

section
variable {f : Flow} {d : DoorId} {h k : HpuId} {c dir : Dir} {p : Bool} {n : Nat}

/-! ### Records within their bounds -/

theorem Within.leaveQueue (w : f.Within) (was : f.standing d = .waiting h c p n) : (f.leaveQueue d).Within :=
  (w.keptAll.leaveQueue was).within

theorem Within.leaveGranted (w : f.Within) (was : (f.standing d).grantedBy h = true) : (f.leaveGranted d).Within :=
  (w.keptAll.leaveGranted was).within

theorem Within.enqueueTail (w : f.Within) (was : f.standing d = .out) : (f.enqueueTail d h c n).Within :=
  (w.keptAll.enqueueTail was).within

theorem Within.enqueuePaused (w : f.Within) (was : f.standing d = .out) : (f.enqueuePaused d h c n).Within :=
  (w.keptAll.enqueuePaused was).within

theorem Within.send (w : f.Within) (m : Instr) : (f.send m).Within := (send_quiet f m).within w

/-! ### A notice and the service that follows -/

/-- The queues that a notice has changed served, and FLOW_SHORT evaluated for its door (R97, R102). -/
def Placed (d : DoorId) (hs : List HpuId) (x : Account) : Account := Account.short d (hs.foldl (fun x h => Account.serve h x) x)

theorem served_once (w : f.Within) : (f.serve h).evalShort d = f.become (Placed d [h] f.account) := by
  rw [evalShort_become, serve_become w]
  rfl

theorem served_twice (w : f.Within) : ((f.serve h).serve k).evalShort d = f.become (Placed d [h, k] f.account) := by
  rw [evalShort_become, serve_become (w.serve h), serve_become w]
  rfl

section
variable (w : f.Within)
include w

/-! ### A door that is OUT -/

theorem join_out (was : f.standing d = .out) :
    f.join d dir = f.become (Placed d [(f.config d).hpu] (f.alloc.atTail d (f.config d).hpu dir (f.config d).demand, f.out)) := by
  unfold Flow.join
  rw [was]
  exact (served_once (w.enqueueTail was)).trans rfl

theorem taken_out (was : f.standing d = .out) :
    f.taken d dir =
      f.become (Placed d [(f.config d).hpu] (f.alloc.inPausedRun d (f.config d).hpu dir (f.config d).demand, f.out ++ [.pause d])) := by
  have sent := w.send (.pause d)
  unfold Flow.taken
  rw [was]
  refine (served_once (sent.enqueuePaused was)).trans ?_
  rw [enqueuePaused_become]
  rfl

/-! ### A door that waits -/

section
variable (was : f.standing d = .waiting h c p n)
include was

theorem left_become : f.leaveQueue d = f.become (f.alloc.without d, f.out) := leaveQueue_become w.1 was

theorem join_waiting :
    f.join d dir = f.become (Placed d [h, (f.config d).hpu]
      ((f.alloc.without d).atTail d (f.config d).hpu dir (f.config d).demand, f.out)) := by
  have left := w.leaveQueue was
  unfold Flow.join
  rw [was]
  refine (served_twice (left.enqueueTail (leaveQueue_standing was))).trans ?_
  rw [left_become w was]
  rfl

theorem withdraw_waiting : f.withdraw d = f.become (Placed d [h] (f.alloc.without d, f.out)) := by
  unfold Flow.withdraw
  rw [was]
  refine (served_once (w.leaveQueue was)).trans ?_
  rw [left_become w was]
  rfl

theorem release_waiting : f.release d = f.become (Placed d [h] (f.alloc.without d, f.out)) := by
  unfold Flow.release
  rw [was]
  refine (served_once (w.leaveQueue was)).trans ?_
  rw [left_become w was]
  rfl

theorem repaused_become (c' : Dir) : ((((f.leaveQueue d).enqueuePaused d h c' n).serve h).evalShort d) =
    f.become (Placed d [h] ((f.alloc.without d).inPausedRun d h c' n, f.out)) := by
  refine (served_once ((w.leaveQueue was).enqueuePaused (leaveQueue_standing was))).trans ?_
  rw [left_become w was, enqueuePaused_become]
  rfl

theorem reversed_waiting :
    f.reversed d dir =
      f.become (if p then Placed d [h] ((f.alloc.without d).inPausedRun d h c.flip n, f.out) else f.account) := by
  unfold Flow.reversed
  rw [was]
  cases p with
  | true => exact repaused_become w was c.flip
  | false => exact f.become_self.symm

theorem taken_waiting :
    f.taken d dir = f.become (Placed d [h] ((f.alloc.without d).inPausedRun d h dir n, f.out ++ [.pause d])) := by
  unfold Flow.taken
  rw [was]
  exact repaused_become (w.send (.pause d)) was dir

end

/-! ### A door that is granted -/

theorem returned_become (was : (f.standing d).grantedBy h = true) :
    (f.leaveGranted d).serve h = f.become (Account.serve h (f.alloc.without d, f.out)) := by
  rw [serve_become (w.leaveGranted was), leaveGranted_become w.1 was]
  rfl

theorem handedBack_joined {c' : Dir} {h' : HpuId} {n' : Nat} (was : f.standing d = .offered h c n (.joined c' h' n')) :
    f.handedBack d = f.become (Placed d [h, h'] ((f.alloc.without d).atTail d h' c' n', f.out)) := by
  have granted : (f.standing d).grantedBy h = true := by rw [was]; exact beq_self_eq_true h
  unfold Flow.handedBack
  rw [was]
  refine (served_twice ((w.leaveGranted granted).enqueueTail (leaveGranted_standing granted))).trans ?_
  rw [leaveGranted_become w.1 granted]
  rfl

end

end

end Flow

/-! ### In the state -/

theorem Accounted.of_flow {s : State} {g : Flow → Flow} {x : Account} (h : g s.flow = s.flow.become x) :
    Accounted s (s.flowEvent g) x := by
  unfold State.flowEvent
  rw [h]
  exact ⟨⟨rfl, rfl, rfl, rfl, rfl, rfl, rfl, rfl, rfl, rfl, rfl, rfl⟩, rfl, rfl⟩

theorem State.flow_within {s : State} (inv : FlowInv s) : s.flow.Within := s.flow.flowOk_iff.mp inv

/-- Settles O37: R96's table cell by cell, and the service of each queue that a notice changes. -/
theorem allocatorNotices : Obligations.AllocatorNotices := by
  unfold Obligations.AllocatorNotices
  intro s d dir inv a k demand answers standing goes placed
  have w := State.flow_within inv
  have answer {m : Instr} {g : Flow → Flow} {x : Account} (between : (route? m).isSome = true)
      (event : s.deliver m = (s.taking m).flowEvent g) (h : g s.flow = s.flow.become x) : answers m x := fun first =>
    ⟨_, exec_first between first, event ▸ Accounted.of_flow (s := s.taking m) h⟩
  have join {x : Account} (h : s.flow.join d dir = s.flow.become x) : answers (.join d dir) x := answer (m := .join d dir) (g := fun f => f.join d dir) rfl rfl h
  have withdraw {x : Account} (h : s.flow.withdraw d = s.flow.become x) : answers (.withdraw d) x := answer (m := .withdraw d) (g := fun f => f.withdraw d) rfl rfl h
  have release {x : Account} (h : s.flow.release d = s.flow.become x) : answers (.release d) x := answer (m := .release d) (g := fun f => f.release d) rfl rfl h
  have reversed {x : Account} (h : s.flow.reversed d dir = s.flow.become x) : answers (.reversed d dir) x := answer (m := .reversed d dir) (g := fun f => f.reversed d dir) rfl rfl h
  have taken {x : Account} (h : s.flow.taken d dir = s.flow.become x) : answers (.taken d dir) x := answer (m := .taken d dir) (g := fun f => f.taken d dir) rfl rfl h
  have handedBack {x : Account} (h : s.flow.handedBack d = s.flow.become x) : answers (.handedBack d) x := answer (m := .handedBack d) (g := fun f => f.handedBack d) rfl rfl h
  refine ⟨fun was => ?_, fun h c paused n was => ?_, fun h c n p was => ?_, fun h c n was => ?_⟩ <;>
    change s.flow.standing d = _ at was
  · refine ⟨join (Flow.join_out w was), withdraw ?_, release ?_, reversed ?_, taken (Flow.taken_out w was), handedBack ?_⟩ <;>
      simp only [Flow.withdraw, Flow.release, Flow.reversed, Flow.handedBack, was] <;> rfl
  · refine ⟨join (Flow.join_waiting w was), withdraw (Flow.withdraw_waiting w was), release (Flow.release_waiting w was),
      reversed ((Flow.reversed_waiting w was).trans ?_), taken (Flow.taken_waiting w was), handedBack ?_⟩
    · rfl
    · simp only [Flow.handedBack, was]
      rfl
  · refine ⟨join ?_, withdraw ?_, release ?_, reversed ?_, taken ?_, handedBack ?_⟩
    · simp only [Flow.join, Flow.note, was]
      rfl
    · simp only [Flow.withdraw, Flow.note, was]
      rfl
    · simp only [Flow.release, was]
      rfl
    · simp only [Flow.reversed, was]
      rfl
    · simp only [Flow.taken, was]
      rfl
    · have granted : (s.flow.standing d).grantedBy h = true := by rw [was]; exact beq_self_eq_true h
      cases p with
      | joined c' h' n' => exact Flow.handedBack_joined w was
      | none =>
        simp only [Flow.handedBack, was]
        exact Flow.returned_become w granted
      | withdrawn =>
        simp only [Flow.handedBack, was]
        exact Flow.returned_become w granted
  · have granted : (s.flow.standing d).grantedBy h = true := by rw [was]; exact beq_self_eq_true h
    refine ⟨join ?_, withdraw ?_, release ?_, reversed ?_, taken ?_, handedBack ?_⟩
    · simp only [Flow.join, was]
      rfl
    · simp only [Flow.withdraw, was]
      rfl
    · simp only [Flow.release, was]
      exact Flow.returned_become w granted
    · simp only [Flow.reversed, was]
      rfl
    · simp only [Flow.taken, was]
      rfl
    · simp only [Flow.handedBack, was]
      rfl

end Sys2Proof.Machine

/-! The events of the pressure lines and of the main-supply line (R90, R91, R100, R103). -/

namespace Sys2Proof.Machine

open Sys2Proof

/-- A flow alarm that has been evaluated is not reported again (R103). -/
theorem Account.lost_again (i : Image) (l : GroupLines) (h : HpuId) (x : Account) :
    Account.lost i l h ((Account.lost i l h x).1, []) = ((Account.lost i l h x).1, []) := by
  obtain ⟨now, is⟩ : ∃ now, now = (l.pressure[h].primed && !l.pressure[h].filtered &&
      decide (∃ d : DoorId, i.doors[d].present = true ∧ i.doors[d].hpu = h)) := ⟨_, rfl⟩
  unfold Account.lost
  rw [← is]
  simp

theorem Account.supply_again (l : GroupLines) (x : Account) :
    Account.supply l ((Account.supply l x).1, []) = ((Account.supply l x).1, []) := by
  unfold Account.supply
  simp

section
variable {s t : State} {g : Flow → Flow} {x : Account}

theorem State.flowEvent_same (same : g s.flow = s.flow) : s.flowEvent g = s := by
  unfold State.flowEvent
  rw [same]
  show { s with alloc := s.alloc, inFlight := s.inFlight ++ [] } = s
  rw [List.append_nil]

/-- An event that the account has seen already changes nothing. -/
theorem Accounted.again (h : Accounted s t x) (same : g (t.flow.become (x.1, [])) = t.flow.become (x.1, [])) :
    Accounted s (t.flowEvent g) x := by
  have flow : t.flow = t.flow.become (x.1, []) := by
    rw [← h.records]
    rfl
  rw [State.flowEvent_same (by rw [flow]; exact same)]
  exact h

/-- Settles O26: the capacities computed, the queues served and the flow alarms evaluated. -/
theorem capacityChanges : Obligations.CapacityChanges := by
  unfold Obligations.CapacityChanges
  intro s c f inv
  have within (i : InputId) : (s.withFilter i f).flow.Within := by
    have alloc : (s.withFilter i f).alloc = s.alloc := by cases i <;> rfl
    refine (Flow.flowOk_iff _).mp ?_
    rw [show (s.withFilter i f).flow.alloc = s.alloc from alloc]
    exact inv
  refine ⟨fun h => ?_, ?_⟩
  · intro u
    have event : Accounted u (u.inputEvent s (.pressure h) f.filtered)
        (Account.lost s.image u.lines h (Account.capacities s.image.group u.lines [h] (s.alloc, []))) :=
      Accounted.of_flow (g := fun f => (f.capacityEvent u.lines [h]).evalLost u.lines h) (by
        rw [Flow.evalLost_become, Flow.capacityEvent_become (within _)]
        rfl)
    have primed : Accounted u (u.inputPrimed (.pressure h)) (Account.lost s.image u.lines h (s.alloc, [])) :=
      Accounted.of_flow (g := fun f => f.evalLost u.lines h) (Flow.evalLost_become u.flow u.lines h)
    refine ⟨fun delivers => ?_, fun ends quiet => ⟨_, (ends.exec_quiet quiet).1, primed⟩⟩
    rcases delivers.runs with run | run
    · exact ⟨_, run, event⟩
    · refine ⟨_, run, event.again (g := fun f => f.evalLost u.lines h) ?_⟩
      rw [Flow.evalLost_become]
      exact congrArg _ (Account.lost_again s.image u.lines h _)
  · intro u
    have event : Accounted u (u.inputEvent s .mainSupply f.filtered)
        (Account.supply u.lines (Account.capacities s.image.group u.lines allHpus (s.alloc, []))) :=
      Accounted.of_flow (g := fun f => (f.capacityEvent u.lines allHpus).evalSupply u.lines) (by
        rw [Flow.evalSupply_become, Flow.capacityEvent_become (within _)]
        rfl)
    have primed : Accounted u (u.inputPrimed .mainSupply) (Account.supply u.lines (s.alloc, [])) :=
      Accounted.of_flow (g := fun f => f.evalSupply u.lines) (Flow.evalSupply_become u.flow u.lines)
    refine ⟨fun delivers => ?_, fun ends quiet => ⟨_, (ends.exec_quiet quiet).1, primed⟩⟩
    rcases delivers.runs with run | run
    · exact ⟨_, run, event⟩
    · refine ⟨_, run, event.again (g := fun f => f.evalSupply u.lines) ?_⟩
      rw [Flow.evalSupply_become]
      exact congrArg _ (Account.supply_again _ _)

end

end Sys2Proof.Machine

/-! FLOOD_SET and FLOOD_CLEAR (R42, R77, R78). -/

namespace Sys2Proof.Machine

open Sys2Proof

/-! ### What a flood stop makes of a door -/

section
variable (i : Image) (d : DoorId) (c : Channel) (v : Dir) (on : Bool) (r : Door)

theorem Door.startsClose_withValve : r.startsClose i (c.withValve v on) = r.startsClose i c := by
  unfold Door.startsClose Door.startsMove
  cases v <;> rfl

theorem closeMessages_withValve : closeMessages i d (c.withValve v on) r = closeMessages i d c r := by
  unfold closeMessages moveMessages restMessages
  cases v <;> rfl

theorem closeMessages_motion (m : Motion) : closeMessages i d c { r with motion := m } = closeMessages i d c r := rfl

end

theorem Work.floodStop_eq (w : Work) :
    w.floodStop =
      { w with
        door := w.door.floodStopped w.image w.channel
        channel := if w.door.motion = .opening then w.channel.withValve w.door.dir false else w.channel
        out := w.out ++ floodMessages w.image w.id w.channel w.door } := by
  unfold Door.floodStopped floodMessages
  by_cases opening : w.door.motion = .opening
  · have stops : w.floodStop = if w.door.transit then (w.endStroke .other).startClose else (w.endStroke .other).rest := by
      unfold Work.floodStop
      rw [opening]
    rw [stops, if_pos opening, if_pos opening, if_pos opening]
    have unqueued : w.door.motion ≠ .queued := by rw [opening]; nofun
    split
    · have ended : (w.endStroke .other).door.motion ≠ .queued := by
        rw [Work.endStroke_other]
        show (w.door.valveAt _ _ _ _).motion ≠ _
        rw [Door.valveAt_motion]
        exact unqueued
      rw [Work.startClose_eq _ ended, Work.endStroke_other]
      simp [Door.startsClose_withValve, closeMessages_withValve]
    · rw [Work.endStroke_rest _ unqueued]
      simp
  · rw [if_neg opening, if_neg opening, if_neg opening]
    by_cases waits : w.door.motion = .queued ∧ w.door.dir = .opn
    · rw [if_pos waits, if_pos waits]
      obtain ⟨queued, dir⟩ := waits
      have stops : w.floodStop = if w.door.transit then
          Work.startClose { w.send (.withdraw w.id) with door := { w.door with motion := .stopped } } else w.rest := by
        unfold Work.floodStop
        rw [queued, dir]
      rw [stops]
      split
      · rw [Work.startClose_eq _ fun h => by cases h]
        simp [Work.send, closeMessages_motion]
      · rw [Work.rest_eq, if_pos queued]
        simp
    · rw [if_neg waits, if_neg waits]
      have stays : w.floodStop = w := by
        unfold Work.floodStop
        split
        · next queued dir => exact absurd ⟨queued, dir⟩ waits
        · next moves => exact absurd moves opening
        · rfl
      rw [stays, List.append_nil]

end Sys2Proof.Machine

/-! A completion among messages that are on their way already, and the doors settled before one. -/

namespace Sys2Proof.Machine

open Sys2Proof

/-! ### What is owed -/

/-- What is owed is the first message on the way of the first that has been made and completes; it is an older one where an older one goes
that way. -/
theorem State.owed_eq (s : State) (mark : Nat) :
    s.owed mark = match (s.inFlight.drop mark).find? completes with
      | none => none
      | some m => (s.inFlight.find? fun x => route? x == route? m).map fun x =>
          (x, ((s.inFlight.take mark).find? fun x => route? x == route? m).isSome) := by
  unfold State.owed
  cases (s.inFlight.drop mark).find? completes with
  | none => rfl
  | some m =>
    have split := congrArg (List.find? fun x => route? x == route? m) (List.take_append_drop mark s.inFlight)
    rw [List.find?_append] at split
    dsimp only
    rw [← split]
    cases (s.inFlight.take mark).find? fun x => route? x == route? m with
    | some x => rfl
    | none => cases (s.inFlight.drop mark).find? fun x => route? x == route? m <;> rfl

theorem State.owed_mem {s : State} {mark : Nat} {m : Instr} {older : Bool} (h : s.owed mark = some (m, older)) : m ∈ s.inFlight := by
  rw [State.owed_eq] at h
  split at h
  · cases h
  · obtain ⟨x, found, eq⟩ := Option.map_eq_some_iff.mp h
    cases eq
    exact List.mem_of_find?_eq_some found

/-- What the taking of every message on its way keeps that goes a way of those that complete, a completion keeps. -/
theorem State.completeFrom_induct {P : State → Prop}
    (step : ∀ s m w, m ∈ s.inFlight → route? m = some w → completesWay w = true → P s → P (s.deliver m)) (fuel : Nat) :
    ∀ (mark : Nat) (s : State), P s → P (s.completeFrom fuel mark) := by
  induction fuel with
  | zero => exact fun _ _ h => h
  | succ n ih =>
    intro mark s h
    unfold State.completeFrom
    split
    · exact h
    · next m older owes =>
      obtain ⟨w, way, completing⟩ := State.owed_way owes
      exact ih _ _ (step s m w (State.owed_mem owes) way completing h)

theorem erase_first {p : Instr → Bool} {x : Instr} {before : List Instr} (off : ∀ y ∈ before, (!p y) = true) (own : p x = true)
    (after : List Instr) : (before ++ x :: after).erase x = before ++ after := by
  have apart : x ∉ before := fun h => by
    have no := off x h
    rw [own] at no
    cases no
  rw [List.erase_append_right _ apart, List.erase_cons_head]

/-- A completion goes the same whether messages that do not complete are counted among the older ones or among those made since. -/
theorem State.completeFrom_mark (fuel : Nat) : ∀ (s : State) (old quiet rest : List Instr), s.inFlight = old ++ quiet ++ rest →
    (∀ x ∈ quiet, completes x = false) →
      s.completeFrom fuel old.length = s.completeFrom fuel (old ++ quiet).length := by
  induction fuel with
  | zero => exact fun _ _ _ _ _ _ => rfl
  | succ n ih =>
    intro s old quiet rest flight still
    have none : quiet.find? completes = none := List.find?_eq_none.mpr fun x hx => by rw [still x hx]; nofun
    have first : (s.inFlight.drop old.length).find? completes = rest.find? completes := by
      rw [flight, List.append_assoc, List.drop_left, List.find?_append, none, Option.none_or]
    have older : s.inFlight.take old.length = old := by rw [flight, List.append_assoc, List.take_left]
    have owes := s.owed_eq old.length
    have owes' := s.owed_eq (old ++ quiet).length
    rw [first, older] at owes
    rw [show (s.inFlight.drop (old ++ quiet).length) = rest by rw [flight, List.drop_left],
      show s.inFlight.take (old ++ quiet).length = old ++ quiet by rw [flight, List.take_left]] at owes'
    cases found : rest.find? completes with
    | none =>
      rw [found] at owes owes'
      rw [State.completeFrom, State.completeFrom, owes, owes']
    | some m =>
      rw [found] at owes owes'
      dsimp only at owes owes'
      generalize on : (fun x : Instr => route? x == route? m) = p at owes owes'
      have mine : p m = true := by
        rw [← on]
        exact beq_self_eq_true _
      have next {x : Instr} {before after old' quiet' rest' : List Instr} (split : s.inFlight = before ++ x :: after)
          (off : ∀ y ∈ before, (!p y) = true) (own : p x = true) (parts : before ++ after = old' ++ quiet' ++ rest')
          (still' : ∀ y ∈ quiet', completes y = false) :
          (s.deliver x).completeFrom n old'.length = (s.deliver x).completeFrom n (old' ++ quiet').length := by
        have way : (route? x).isSome = true := by
          rw [← on] at own
          rw [beq_iff_eq.mp own]
          exact route?_isSome_of_completes (List.find?_some found)
        obtain ⟨made, eq, -⟩ := s.deliver_made x way
        refine ih _ old' quiet' (rest' ++ made) ?_ still'
        rw [eq, split, erase_first off own, parts, List.append_assoc]
      rw [flight] at owes owes'
      rw [State.completeFrom, State.completeFrom, owes, owes']
      cases inOld : old.find? p with
      | some x =>
        obtain ⟨own, before, after, rfl, off⟩ := List.find?_eq_some_iff_append.mp inOld
        simp only [List.find?_append, inOld, Option.some_or, Option.map_some, Option.isSome_some, if_true]
        have step := next (old' := before ++ after) (quiet' := quiet) (rest' := rest) (x := x) (before := before)
          (after := after ++ quiet ++ rest) (by simp [flight]) off own (by simp) still
        have length : (before ++ x :: after).length - 1 = (before ++ after).length := by simp
        have length' : (before ++ x :: after ++ quiet).length - 1 = (before ++ after ++ quiet).length := by simp
        rw [length, length']
        exact step
      | none =>
        have free := List.find?_eq_none.mp inOld
        cases inQuiet : quiet.find? p with
        | some x =>
          obtain ⟨own, before, after, rfl, off⟩ := List.find?_eq_some_iff_append.mp inQuiet
          simp only [List.find?_append, inOld, inQuiet, Option.none_or, Option.some_or, Option.map_some, Option.isSome_some,
            Option.isSome_none, if_true, Bool.false_eq_true, if_false]
          have step := next (old' := old) (quiet' := before ++ after) (rest' := rest) (x := x) (before := old ++ before)
            (after := after ++ rest) (by simp [flight])
            (fun y hy => (List.mem_append.mp hy).elim (fun hy => by simpa using free y hy) (off y)) own (by simp)
            (fun y hy => still y ((List.mem_append.mp hy).elim (List.mem_append_left _) fun hy =>
              List.mem_append_right _ (List.mem_cons_of_mem _ hy)))
          have length : (old ++ (before ++ x :: after)).length - 1 = (old ++ (before ++ after)).length := by simp [← Nat.add_assoc]
          rw [length]
          exact step
        | none =>
          have free' := List.find?_eq_none.mp inQuiet
          cases inRest : rest.find? p with
          | some x =>
            obtain ⟨own, before, after, rfl, off⟩ := List.find?_eq_some_iff_append.mp inRest
            simp only [List.find?_append, inOld, inQuiet, inRest, Option.none_or, Option.map_some, Option.isSome_none,
              Bool.false_eq_true, if_false]
            refine next (x := x) (before := old ++ quiet ++ before) (after := after) (rest' := before ++ after) (by simp [flight])
              (fun y hy => ?_) own (by simp) still
            rcases List.mem_append.mp hy with hy | hy
            · exact (List.mem_append.mp hy).elim (fun hy => by simpa using free y hy) fun hy => by simpa using free' y hy
            · exact off y hy
          | none => exact absurd mine (List.find?_eq_none.mp inRest m (List.mem_of_find?_eq_some found))

end Sys2Proof.Machine

/-! Doors settled: what the resolver had on its way to them taken first. -/

namespace Sys2Proof.Machine

open Sys2Proof

/-- Messages that the resolver has on its way to one of some doors are none. -/
def offDoors (ds : List DoorId) (m : Instr) : Bool := ds.all fun d => route? m != some (.toDoorTable d)

theorem offDoors_of_doorTableMakes {m : Instr} (h : doorTableMakes m = true) (ds : List DoorId) : offDoors ds m = true :=
  List.all_eq_true.mpr fun d _ => by simpa using (route_of_doorTableMakes h d).1

theorem filter_offDoors_made {made : List Instr} (h : ∀ m ∈ made, doorTableMakes m = true) (ds : List DoorId) :
    made.filter (offDoors ds) = made :=
  List.filter_eq_self.mpr fun m hm => offDoors_of_doorTableMakes (h m hm) ds

/-- Some doors have taken what the resolver had on its way to them. -/
structure Settled (ds : List DoorId) (s t : State) : Prop where
  frame : DoorTableOnly s t
  doors : ∀ e, e ∉ ds → t.door e = s.door e ∧ t.channel e = s.channel e
  flight : ∃ made, t.inFlight = s.inFlight.filter (offDoors ds) ++ made ∧ ∀ m ∈ made, doorTableMakes m = true

theorem Settled.trans {d : DoorId} {ds : List DoorId} {s t u : State} (h : Settled [d] s t) (k : Settled ds t u) : Settled (d :: ds) s u := by
  obtain ⟨made, flight, byDoors⟩ := h.flight
  obtain ⟨made', flight', byDoors'⟩ := k.flight
  refine ⟨h.frame.trans k.frame, fun e other => ?_, made ++ made', ?_, fun m hm => (List.mem_append.mp hm).elim (byDoors m) (byDoors' m)⟩
  · obtain ⟨off, off'⟩ := not_or.mp fun is => other (List.mem_cons.mpr is)
    obtain ⟨door, channel⟩ := h.doors e fun is => off (List.mem_singleton.mp is)
    obtain ⟨door', channel'⟩ := k.doors e off'
    exact ⟨door'.trans door, channel'.trans channel⟩
  · rw [flight', flight, List.filter_append, filter_offDoors_made byDoors, List.filter_filter, List.append_assoc]
    refine congrArg (· ++ _) (List.filter_congr fun m _ => ?_)
    unfold offDoors
    rw [List.all_cons, List.all_cons, List.all_nil, Bool.and_true, Bool.and_comm]

theorem State.deliver_fromResolver {s : State} {d : DoorId} {m : Instr} (way : route? m = some (.toDoorTable d)) :
    OnlyDoor d (s.taking m) (s.deliver m) := by
  cases m <;> cases way
  case standingAuthorityReport a => exact (s.taking _).doorEvent_onlyDoor (s.taking _) d fun w => w.order a
  case handleRuling r => exact (s.taking _).doorEvent_onlyDoor (s.taking _) d fun w => w.rule r

theorem State.deliver_fromResolver_made {s : State} {d : DoorId} {m : Instr} (way : route? m = some (.toDoorTable d)) :
    ∃ made, (s.deliver m).inFlight = s.inFlight.erase m ++ made ∧ ∀ x ∈ made, doorTableMakes x = true := by
  obtain ⟨made, eq, answers⟩ := s.deliver_made m (by rw [way]; rfl)
  refine ⟨made, eq, fun x hx => ?_⟩
  have answer := answers x hx
  cases m <;> cases way <;> exact answer

theorem State.takeAll_fromResolver (d : DoorId) (ms : List Instr) : ∀ t : State, (∀ m ∈ ms, route? m = some (.toDoorTable d)) →
    DoorTableOnly t (t.takeAll ms) ∧ (∀ e, e ≠ d → (t.takeAll ms).door e = t.door e ∧ (t.takeAll ms).channel e = t.channel e) ∧
      ∃ made, (t.takeAll ms).inFlight = ms.foldl List.erase t.inFlight ++ made ∧ ∀ m ∈ made, doorTableMakes m = true := by
  induction ms with
  | nil => exact fun t _ => ⟨.refl t, fun _ _ => ⟨rfl, rfl⟩, [], (List.append_nil _).symm, fun _ h => absurd h List.not_mem_nil⟩
  | cons m ms ih =>
    intro t ways
    have way := ways m List.mem_cons_self
    have others (x : Instr) (hx : x ∈ ms) := ways x (List.mem_cons_of_mem _ hx)
    have own := t.deliver_fromResolver way
    obtain ⟨made, eq, byDoors⟩ := t.deliver_fromResolver_made way
    obtain ⟨frame, doors, made', eq', byDoors'⟩ := ih (t.deliver m) others
    have behind : ∀ (xs : List Instr) (a : List Instr), (∀ x ∈ xs, x ∉ made) → xs.foldl List.erase (a ++ made) = xs.foldl List.erase a ++ made := by
      intro xs
      induction xs with
      | nil => exact fun _ _ => rfl
      | cons x xs ih =>
        intro a off
        have here : (a ++ made).erase x = a.erase x ++ made := by
          by_cases h : x ∈ a
          · exact List.erase_append_left _ h
          · rw [List.erase_append_right _ h, List.erase_of_not_mem (off x List.mem_cons_self), List.erase_of_not_mem h]
        rw [List.foldl_cons, here]
        exact ih _ fun y hy => off y (List.mem_cons_of_mem _ hy)
    rw [State.takeAll_cons]
    refine ⟨.trans ⟨own.lines, own.straps, own.resolver, own.alloc, own.recorder, own.alarms, own.store, own.port, own.time,
      own.pending, own.freeDraws⟩ frame, fun e other => ⟨(doors e other).1.trans (own.doors e other),
      (doors e other).2.trans (own.channels e other)⟩, made ++ made', ?_, fun x hx => (List.mem_append.mp hx).elim (byDoors x) (byDoors' x)⟩
    rw [eq', eq, behind ms _ fun x hx h => (route_of_doorTableMakes (byDoors x h) d).1 (others x hx), List.append_assoc]
    rfl

/-- A door that has taken what the resolver had on its way to it. -/
theorem State.settleDoor_settled (s : State) (d : DoorId) : Settled [d] s (s.settleDoor d) := by
  obtain ⟨frame, doors, made, flight, byDoors⟩ := State.takeAll_fromResolver d
    (s.inFlight.filter fun x => route? x == some (.toDoorTable d)) s fun m hm => by simpa using (List.mem_filter.mp hm).2
  have split := foldl_erase_filter (fun x => route? x == some (.toDoorTable d)) s.inFlight [] fun _ h => absurd h List.not_mem_nil
  rw [List.nil_append, List.nil_append] at split
  refine ⟨frame, fun e other => doors e fun is => other (List.mem_singleton.mpr is), made, flight.trans ?_, byDoors⟩
  rw [split]
  refine congrArg (· ++ _) (List.filter_congr fun m _ => ?_)
  unfold offDoors
  rw [List.all_cons, List.all_nil, Bool.and_true]
  rfl

theorem State.settleDoors_settled (ds : List DoorId) : ∀ s : State,
    Settled ds s (s.settleDoors ds).1 ∧ (s.settleDoors ds).2 = (s.inFlight.filter (offDoors ds)).length := by
  refine fun s => ⟨?_, List.countP_eq_length_filter⟩
  show Settled ds s (ds.foldl (fun s d => s.settleDoor d) s)
  induction ds generalizing s with
  | nil => exact ⟨.refl s, fun _ _ => ⟨rfl, rfl⟩, [], by rw [List.append_nil]; exact (List.filter_eq_self.mpr fun _ _ => rfl).symm, fun _ h => absurd h List.not_mem_nil⟩
  | cons d ds ih => exact (s.settleDoor_settled d).trans (ih (s.settleDoor d))

/-- A door to which the resolver has nothing on its way is as it was. -/
theorem State.settleDoor_of_none {s : State} {d : DoorId} (none : (s.inFlight.filter fun m => route? m == some (.toDoorTable d)) = []) :
    s.settleDoor d = s := by
  unfold State.settleDoor
  rw [none]
  rfl

theorem State.settleDoors_of_none {s : State} {ds : List DoorId}
    (none : ∀ d ∈ ds, (s.inFlight.filter fun m => route? m == some (.toDoorTable d)) = []) : s.settleDoors ds = (s, s.inFlight.length) := by
  have stays : ds.foldl (fun s d => s.settleDoor d) s = s :=
    List.foldlRecOn (motive := (· = s)) ds _ rfl fun t is d hd => by rw [is]; exact State.settleDoor_of_none (none d hd)
  have all : s.inFlight.filter (offDoors ds) = s.inFlight := List.filter_eq_self.mpr fun m hm => List.all_eq_true.mpr fun d hd => by
    simpa using List.filter_eq_nil_iff.mp (none d hd) m hm
  exact Prod.ext stays ((s.settleDoors_settled ds).2.trans (by rw [all]))

end Sys2Proof.Machine

/-! FLOOD_SET and FLOOD_CLEAR (R77, R78). -/

namespace Sys2Proof.Machine

open Sys2Proof

/-! ### An older message taken ahead of the request -/

section
variable {s : State} {d : DoorId} {m : Instr} {rest : List Instr}

/-- The first message that the resolver has on its way to a door, taken: it has the others on their way to it, and to another door what it
had. -/
theorem State.deliver_older (older : (s.inFlight.filter fun x => route? x == some (.toDoorTable d)) = m :: rest) :
    ((s.deliver m).inFlight.filter fun x => route? x == some (.toDoorTable d)) = rest ∧
      (∀ e, (s.inFlight.filter fun x => route? x == some (.toDoorTable e)) = [] →
        ((s.deliver m).inFlight.filter fun x => route? x == some (.toDoorTable e)) = []) := by
  obtain ⟨before, after, flight, off, way, rest_⟩ := List.filter_eq_cons_iff.mp older
  obtain ⟨made, eq, byDoors⟩ := s.deliver_fromResolver_made (beq_iff_eq.mp way)
  have quiet (e : DoorId) : (made.filter fun x => route? x == some (.toDoorTable e)) = [] := List.filter_eq_nil_iff.mpr fun x hx => by
    simpa using (route_of_doorTableMakes (byDoors x hx) e).1
  have left : s.inFlight.erase m = before ++ after := by
    rw [flight]
    exact erase_first (p := fun x => route? x == some (.toDoorTable d)) (fun x hx => by simpa using off x hx) way after
  refine ⟨?_, fun e none => ?_⟩
  · have silent : (before.filter fun x => route? x == some (.toDoorTable d)) = [] := List.filter_eq_nil_iff.mpr off
    rw [eq, left, List.filter_append, List.filter_append, silent, quiet, List.append_nil, List.nil_append, rest_]
  · rw [eq, List.filter_append, quiet, List.append_nil]
    exact List.filter_eq_nil_iff.mpr fun x hx => List.filter_eq_nil_iff.mp none x (List.mem_of_mem_erase hx)

theorem State.settleDoor_older (older : (s.inFlight.filter fun x => route? x == some (.toDoorTable d)) = m :: rest) :
    s.settleDoor d = (s.deliver m).settleDoor d := by
  unfold State.settleDoor
  rw [older, (State.deliver_older older).1, List.foldl_cons]

/-- Doors settled in the order of their indices: where none of them ahead of a door has anything on its way, the first message on its
way to that door may as well have been taken before. -/
theorem State.settleDoors_older (older : (s.inFlight.filter fun x => route? x == some (.toDoorTable d)) = m :: rest) (ds : List DoorId)
    (sorted : ds.Pairwise (· < ·)) (here : d ∈ ds)
    (ahead : ∀ e ∈ ds, e < d → (s.inFlight.filter fun x => route? x == some (.toDoorTable e)) = []) :
    (s.settleDoors ds).1 = ((s.deliver m).settleDoors ds).1 := by
  show ds.foldl (fun s d => s.settleDoor d) s = ds.foldl (fun s d => s.settleDoor d) (s.deliver m)
  induction ds with
  | nil => cases here
  | cons e es ih =>
    obtain ⟨least, sorted⟩ := List.pairwise_cons.mp sorted
    rw [List.foldl_cons, List.foldl_cons]
    by_cases is : e = d
    · rw [is, State.settleDoor_older older]
    · have here := (List.mem_cons.mp here).resolve_left fun h => is h.symm
      have none := ahead e List.mem_cons_self (least d here)
      rw [State.settleDoor_of_none none, State.settleDoor_of_none ((State.deliver_older older).2 e none)]
      exact ih sorted here fun x hx => ahead x (List.mem_cons_of_mem _ hx)

end

theorem allDoors_sorted (p : DoorId → Bool) : (allDoors.filter p).Pairwise (· < ·) :=
  List.Pairwise.filter _ (List.pairwise_lt_finRange 24)

/-! ### The owner's part -/

/-- The doors of a FLOOD_SET stopped and its flags set. -/
def State.floodStops (s : State) (z : ZoneSet) (named : List DoorId) : State :=
  (s.ordersEvent fun o => o.floodSet z).doorEvents named fun _ => Work.floodStop

theorem State.floodSet_eq (s : State) (body : List Byte) :
    s.floodSet body =
      let z := byteAt body 0
      let settled := s.settleDoors (allDoors.filter (floodNewlyBars s.image s.resolver z))
      .completed ((settled.1.floodStops z (allDoors.filter (floodNamed s.image s.resolver z))).complete settled.2) [] := by
  unfold State.floodSet State.floodStops State.doorEvents
  rfl

/-- What the stops and the flags of a FLOOD_SET make of the state. -/
structure Stopped (z : ZoneSet) (named : List DoorId) (s t : State) : Prop where
  frame : DoorTableOnly { s with resolver := { s.resolver with flood := s.resolver.flood ||| z } } t
  hit : ∀ d ∈ named, t.door d = (s.worked d Work.floodStop).door ∧ t.channel d = (s.worked d Work.floodStop).channel
  miss : ∀ d, d ∉ named → t.door d = s.door d ∧ t.channel d = s.channel d
  flight : t.inFlight = s.inFlight ++ named.flatMap fun d => (s.worked d Work.floodStop).out

theorem State.floodStops_stopped (s : State) (z : ZoneSet) {named : List DoorId} (once : named.Nodup) :
    Stopped z named s (s.floodStops z named) := by
  obtain ⟨u, is⟩ : ∃ u : State, u = { s with resolver := { s.resolver with flood := s.resolver.flood ||| z } } := ⟨_, rfl⟩
  have flags : (s.ordersEvent fun o => o.floodSet z) = u := by
    rw [is]
    show ({ s with resolver := _, inFlight := s.inFlight ++ [] } : State) = _
    rw [List.append_nil]
    rfl
  have worked (d : DoorId) (f : Work → Work) : u.worked d f = s.worked d f := by
    rw [is]
    rfl
  have frame := State.doorEvents_frame (fun _ => Work.floodStop) named u
  have flight := State.doorEvents_inFlight (fun _ => Work.floodStop) once u
  have hit (d : DoorId) (hd : d ∈ named) := State.doorEvents_of_mem (fun _ => Work.floodStop) once hd u
  have miss (d : DoorId) (hd : d ∉ named) := State.doorEvents_of_notMem (fun _ => Work.floodStop) hd u
  simp only [worked] at flight hit
  unfold State.floodStops
  rw [flags]
  generalize u.doorEvents named (fun _ => Work.floodStop) = t at frame flight hit miss
  subst is
  exact ⟨frame, hit, miss, flight⟩

/-- A door that a FLOOD_SET names (R42). -/
theorem State.worked_floodStop (s : State) (d : DoorId) :
    let c := s.channel d
    let ends := decide ((s.door d).motion = .opening)
    let stopped := (s.door d).floodStopped s.image c
    (s.worked d Work.floodStop).door.still = (stopped.proceeds s.image c).still ∧
      Drives c (s.worked d Work.floodStop).channel (c.openValve && !(ends && (s.door d).dir == .opn))
        (c.closeValve && !(ends && (s.door d).dir == .cls)) ∧
      (s.worked d Work.floodStop).out = floodMessages s.image d c (s.door d) ++ proceedMessages s.image d c stopped := by
  intro c ends stopped
  have channel : (if (s.door d).motion = .opening then c.withValve (s.door d).dir false else c) =
      { c with openValve := c.openValve && !(ends && (s.door d).dir == .opn)
               closeValve := c.closeValve && !(ends && (s.door d).dir == .cls) } := by
    by_cases opening : (s.door d).motion = .opening
    · cases dir : (s.door d).dir <;> simp [ends, opening, Channel.withValve]
    · simp [ends, opening]
  have stops : Work.floodStop (s.work d) = ⟨s.image, d, stopped,
      { c with openValve := c.openValve && !(ends && (s.door d).dir == .opn)
               closeValve := c.closeValve && !(ends && (s.door d).dir == .cls) },
      floodMessages s.image d c (s.door d), false⟩ := by
    rw [← channel, Work.floodStop_eq]
    rfl
  obtain ⟨-, still, drives, made⟩ := s.doorEvent_leaves s d Work.floodStop stopped _ _ _ stops
  refine ⟨?_, ?_, ?_⟩
  · rw [← still, State.doorEvent_door]
    rfl
  · rw [State.doorEvent_channel] at drives
    exact drives
  · exact List.append_cancel_left (made : s.inFlight ++ _ = _)

end Sys2Proof.Machine

/-! Doors that no ruling reaches do not open in a completion (R42, R78). -/

namespace Sys2Proof.Machine

open Sys2Proof

/-- A door that neither opens nor waits to open. -/
def Door.Unopened (r : Door) : Prop := ¬(r.motion = .opening ∨ r.motion = .queued ∧ r.dir = .opn)

theorem Door.unopened_of_motion {r : Door} (moves : r.motion ≠ .opening) (waits : r.motion ≠ .queued) : r.Unopened :=
  fun h => h.elim moves fun h => waits h.1

theorem Door.Unopened.of_same {r r' : Door} (h : r.Unopened) (motion : r'.motion = r.motion) (dir : r'.dir = r.dir) : r'.Unopened := by
  unfold Door.Unopened
  rw [motion, dir]
  exact h

theorem Door.Unopened.of_still {r r' : Door} (h : r.Unopened) (still : r'.still = r.still) : r'.Unopened :=
  h.of_same (congrArg Door.motion still :) (congrArg Door.dir still :)

section
variable (i : Image) (c : Channel) (r : Door)

theorem Door.atRest_unopened : (r.atRest c).Unopened := by
  unfold Door.atRest
  split <;> exact Door.unopened_of_motion nofun nofun

theorem Door.startsClose_unopened : (r.startsClose i c).Unopened := by
  unfold Door.startsClose Door.startsMove
  split
  · split
    · exact r.atRest_unopened c
    · exact fun h => h.elim nofun fun h => nomatch h.2
  · exact Door.unopened_of_motion nofun nofun

variable {r}

theorem Door.Unopened.proceeds (h : r.Unopened) : (r.proceeds i c).Unopened := by
  unfold Door.proceeds
  split
  · exact r.startsClose_unopened i c
  · exact h

theorem Door.floodStopped_unopened : (r.floodStopped i c).Unopened := by
  unfold Door.floodStopped
  split
  · split
    · exact Door.startsClose_unopened i c _
    · exact Door.atRest_unopened c _
  · next still =>
    split
    · split
      · exact Door.startsClose_unopened i c _
      · exact Door.atRest_unopened c _
    · next unqueued => exact fun h => h.elim still unqueued

theorem Door.Unopened.heldByFault (h : r.Unopened) : (r.heldByFault c).Unopened := by
  unfold Door.heldByFault
  split
  · exact Door.atRest_unopened c _
  · exact h

end

section
variable {w : Work}

theorem Work.startIfDue_unopened (h : w.door.Unopened) : w.startIfDue.door.Unopened := by
  cases barred : w.dueBarred with
  | true => rwa [w.startIfDue_barred barred]
  | false =>
    rw [w.startIfDue_eq barred]
    exact h.proceeds _ _

theorem Work.occupied_unopened (h : w.door.Unopened) : w.occupied.door.Unopened := by
  by_cases absent : w.door.motion = .absent
  · rwa [w.occupied_absent absent]
  · rw [w.occupied_present absent, Work.heldByFault_eq]
    have faulted : (w.withFaulted true).door.Unopened := h
    exact faulted.heldByFault _

theorem Work.noteConflict_unopened (h : w.door.Unopened) : w.noteConflict.door.Unopened := by
  rw [w.noteConflict_eq]
  exact h

theorem Work.emptied_unopened (h : w.door.Unopened) : w.emptied.door.Unopened := by
  by_cases gone : w.door.motion = .absent ∨ w.config.present = false
  · rw [Work.emptied, if_pos gone]
    exact h
  · obtain ⟨here, present⟩ := not_or.mp gone
    rw [w.emptied_examined here (Bool.eq_true_of_not_eq_false present) rfl rfl]
    split
    · dsimp only
      split
      · exact Work.noteConflict_unopened (w := (w.withFaulted false).report _ _ true) h
      · exact h
    · exact h

end

section
variable {s : State} {d : DoorId}

theorem State.worked_unopened {f : Work → Work} (h : (f (s.work d)).door.Unopened) : (s.worked d f).door.Unopened :=
  (Work.startIfDue_unopened h).of_still (Work.event_still _ _ _ _)

/-- A message that completes and that another door's reaction or no door's takes. -/
theorem State.deliver_door_other {m : Instr} {w : Route} (way : route? m = some w) (completing : completesWay w = true)
    (notOrders : w ≠ .toDoorTable d) (notNotice : w ≠ .fromRecorder d) :
    (s.deliver m).door d = s.door d ∧ (s.deliver m).channel d = s.channel d := by
  have event (e : DoorId) (f : Work → Work) (other : d ≠ e) :
      ((s.taking m).doorEvent (s.taking m) e f).door d = s.door d ∧ ((s.taking m).doorEvent (s.taking m) e f).channel d = s.channel d :=
    have own := (s.taking m).doorEvent_onlyDoor (s.taking m) e f
    ⟨own.doors d other, own.channels d other⟩
  cases m with
  | standingAuthorityReport e a =>
    cases way
    exact event e (·.order a) fun is => notOrders (congrArg Route.toDoorTable is.symm)
  | handleRuling e r =>
    cases way
    exact event e (·.rule r) fun is => notOrders (congrArg Route.toDoorTable is.symm)
  | captureOccupiedNotice e =>
    cases way
    exact event e Work.occupied fun is => notNotice (congrArg Route.fromRecorder is.symm)
  | captureEmptiedNotice e =>
    cases way
    exact event e Work.emptied fun is => notNotice (congrArg Route.fromRecorder is.symm)
  | faultReport | mismatchReport | obstructionNotice | driftNotice => exact ⟨rfl, rfl⟩
  | alarmRaise | alarmClear | alarmResetCondition => exact ⟨rfl, rfl⟩
  | _ => cases way <;> cases completing

theorem route_of_byRecorder {m : Instr} (h : ByRecorder m) (d : DoorId) : route? m ≠ some (.toDoorTable d) := by
  cases m <;> first | exact h.elim | simp [route?]

/-- The resolver has nothing on its way to a door. -/
def State.Unordered (s : State) (d : DoorId) : Prop := ∀ m ∈ s.inFlight, route? m ≠ some (.toDoorTable d)

/-- The taking of a message that completes makes nothing that the resolver would. -/
theorem State.Unordered.deliver {m : Instr} {w : Route} (way : route? m = some w) (completing : completesWay w = true)
    (h : s.Unordered d) : (s.deliver m).Unordered d := by
  obtain ⟨made, eq, answers⟩ := s.deliver_made m (by rw [way]; rfl)
  intro x hx
  rw [eq] at hx
  rcases List.mem_append.mp hx with hx | hx
  · exact h x (List.mem_of_mem_erase hx)
  · have answer := answers x hx
    cases m with
    | standingAuthorityReport | captureOccupiedNotice | captureEmptiedNotice | handleRuling => exact (route_of_doorTableMakes answer d).1
    | faultReport | mismatchReport | obstructionNotice | driftNotice => exact route_of_byRecorder answer d
    | alarmRaise | alarmClear | alarmResetCondition => exact answer.elim
    | _ => cases way <;> cases completing

/-- A door to which the resolver has nothing on its way does not open as messages that complete are taken. -/
theorem State.Unordered.unopened {m : Instr} {w : Route} (way : route? m = some w) (completing : completesWay w = true)
    (here : m ∈ s.inFlight) (h : s.Unordered d) (unopened : (s.door d).Unopened) : ((s.deliver m).door d).Unopened := by
  have notOrders : w ≠ .toDoorTable d := fun is => h m here (way.trans (congrArg some is))
  by_cases notice : w = .fromRecorder d
  · have react {f : Work → Work} (own : reaction? m = some (d, f)) (keeps : (f (s.work d)).door.Unopened) :
        ((s.deliver m).door d).Unopened := by
      rw [State.deliver_reaction own, State.doorEvent_door]
      exact State.worked_unopened (s := s) keeps
    subst notice
    cases m with
    | captureOccupiedNotice e =>
      cases way
      exact react rfl (Work.occupied_unopened unopened)
    | captureEmptiedNotice e =>
      cases way
      exact react rfl (Work.emptied_unopened unopened)
    | _ => cases way
  · rw [(State.deliver_door_other way completing notOrders notice).1]
    exact unopened

theorem State.Unordered.complete (mark : Nat) (h : s.Unordered d) :
    (s.complete mark).Unordered d ∧ ((s.door d).Unopened → ((s.complete mark).door d).Unopened) := by
  have orders : (s.complete mark).Unordered d :=
    State.completeFrom_induct (P := fun t => t.Unordered d) (fun _ _ _ _ way completing k => k.deliver way completing) _ mark s h
  refine ⟨orders, fun unopened => ?_⟩
  exact (State.completeFrom_induct (P := fun t => t.Unordered d ∧ (t.door d).Unopened)
    (fun _ _ _ here way completing k => ⟨k.1.deliver way completing, k.1.unopened way completing here k.2⟩) _ mark s ⟨h, unopened⟩).2

end

end Sys2Proof.Machine

/-! FLOOD_SET and FLOOD_CLEAR, settled (R77, R78). -/

namespace Sys2Proof.Machine

open Sys2Proof

theorem floodNewlyBars_iff (i : Image) (r : Resolver) (z : ZoneSet) (d : DoorId) :
    floodNewlyBars i r z d = true ↔ i.doors[d].floodInhibit = true ∧ z.getLsbD i.doors[d].zone.val = true ∧
      r.flood.getLsbD i.doors[d].zone.val = false := by
  simp [floodNewlyBars, inZones, and_assoc]

theorem floodNamed_iff (i : Image) (r : Resolver) (z : ZoneSet) (d : DoorId) :
    floodNamed i r z d = true ↔ i.doors[d].present = true ∧ r.doors[d].isolated = false ∧ i.doors[d].floodInhibit = true ∧
      z.getLsbD i.doors[d].zone.val = true ∧ r.flood.getLsbD i.doors[d].zone.val = false := by
  rw [← floodNewlyBars_iff]
  simp [floodNamed, and_assoc]

theorem State.worked_floodStop_made (s : State) (d : DoorId) : ∀ m ∈ (s.worked d Work.floodStop).out, doorTableMakes m = true := by
  obtain ⟨ms, eq, made⟩ := Work.event_adds (w := s.work d) (f := Work.floodStop) (strict := False) (s.door d) (s.channel d)
    (Work.floodStop_moves _).toKeeps
  have out : (s.worked d Work.floodStop).out = ms := eq
  rw [out]
  exact made

theorem firstOnItsWay_of_head? {s : State} {m : Instr} {w : Route}
    (head : (s.inFlight.filter fun x => route? x == some w).head? = some m) : route? m = some w ∧ FirstOnItsWay s m := by
  obtain ⟨rest, older⟩ := List.head?_eq_some_iff.mp head
  obtain ⟨before, after, flight, off, way, -⟩ := List.filter_eq_cons_iff.mp older
  have way := beq_iff_eq.mp way
  refine ⟨way, fun x hx same => ?_⟩
  have apart : m ∉ before := fun h => off m h (beq_iff_eq.mpr way)
  rw [flight, takeWhile_ne_append apart, List.takeWhile_cons_of_neg (by simp), List.append_nil] at hx
  exact off x hx (beq_iff_eq.mpr (same.trans way))

section
variable {s : State} {r : Req} {b : Byte}

/-- The owner's part of a FLOOD_SET that finds the doors which it bars settled. -/
theorem State.floodSet_parts (body : r.body = [b]) :
    ∃ S mark, Settled (allDoors.filter (floodNewlyBars s.image s.resolver b)) (s.begun r) S ∧
      mark = (s.inFlight.filter (offDoors (allDoors.filter (floodNewlyBars s.image s.resolver b)))).length ∧
      ((∀ d, floodNewlyBars s.image s.resolver b d = true →
        (s.inFlight.filter fun m => route? m == some (.toDoorTable d)) = []) → S = s.begun r ∧ mark = s.inFlight.length) ∧
      ∃ X, Stopped b (allDoors.filter (floodNamed s.image s.resolver b)) S X ∧
        State.floodSet r.body (s.begun r) = .completed (X.complete mark) [] := by
  have operand : byteAt r.body 0 = b := by rw [body]; rfl
  have owner := (s.begun r).floodSet_eq r.body
  rw [operand] at owner
  obtain ⟨settled, mark⟩ := (s.begun r).settleDoors_settled (allDoors.filter (floodNewlyBars s.image s.resolver b))
  refine ⟨_, _, settled, mark, fun none => ?_, _, State.floodStops_stopped _ b (nodup_allDoors.filter _), owner⟩
  have same : (s.begun r).settleDoors (allDoors.filter (floodNewlyBars s.image s.resolver b)) = (s.begun r, s.inFlight.length) :=
    State.settleDoors_of_none fun d hd => none d (List.mem_filter.mp hd).2
  rw [same]
  exact ⟨rfl, rfl⟩

/-- The reply to a FLOOD_SET, behind its completion. -/
theorem State.floodSet_serves (h : Waits s (.floodSet r) r) (body : r.body = [b]) {Y : State}
    (part : State.floodSet r.body (s.begun r) = .completed Y []) : exec (.floodSet r) s = .next (Y.reply 0x0D r none []) :=
  congrArg Host.Outcome.next (State.serve_completed (kind := 0x0D) (owner := State.floodSet) h (by simp [body]) part)

/-- What a FLOOD_SET leaves whatever is on its way. -/
theorem State.floodSet_bars (h : Waits s (.floodSet r) r) (body : r.body = [b]) :
    ∃ t, exec (.floodSet r) s = .next t ∧ CompletionFrame s t ∧ Answered s.port r 0x0D none [] t ∧
      t.resolver = { s.resolver with flood := s.resolver.flood ||| b } ∧
      (∀ d, floodNamed s.image s.resolver b d = true → (t.door d).Unopened) ∧
      ∀ d, floodNewlyBars s.image s.resolver b d = true → t.Unordered d := by
  obtain ⟨S, mark, settled, -, -, X, stopped, part⟩ := State.floodSet_parts (s := s) body
  have run := State.floodSet_serves h body part
  have before := settled.frame
  have frame := stopped.frame
  have completes := X.complete_completes mark
  have resolver : S.resolver = s.resolver := before.resolver
  have port : (X.complete mark).port = (s.begun r).port := completes.port.trans (frame.port.trans before.port)
  have unordered (d : DoorId) (hd : floodNewlyBars s.image s.resolver b d = true) : X.Unordered d := by
    obtain ⟨made, flight, byDoors⟩ := settled.flight
    intro m hm
    rw [stopped.flight, flight] at hm
    rcases List.mem_append.mp hm with hm | hm
    · rcases List.mem_append.mp hm with hm | hm
      · have off := List.all_eq_true.mp (List.mem_filter.mp hm).2 d (List.mem_filter.mpr ⟨mem_allDoors d, hd⟩)
        simpa using off
      · exact (route_of_doorTableMakes (byDoors m hm) d).1
    · obtain ⟨e, -, hm⟩ := List.mem_flatMap.mp hm
      exact (route_of_doorTableMakes (State.worked_floodStop_made S e m hm) d).1
  have unopened (d : DoorId) (hd : floodNamed s.image s.resolver b d = true) : (X.door d).Unopened := by
    rw [(stopped.hit d (List.mem_filter.mpr ⟨mem_allDoors d, hd⟩)).1]
    exact (Door.Unopened.proceeds _ _ (Door.floodStopped_unopened _ _)).of_still (S.worked_floodStop d).1
  have answered := State.reply_answered (kind := 0x0D) (reason := none) (data := []) (X.complete mark) h.addressed
  rw [port] at answered
  refine ⟨_, run, CompletionFrame.reply ⟨completes.lines.trans (frame.lines.trans before.lines),
    completes.straps.trans (frame.straps.trans before.straps), completes.alloc.trans (frame.alloc.trans before.alloc),
    completes.store.trans (frame.store.trans before.store), completes.time.trans (frame.time.trans before.time),
    completes.pending.trans (frame.pending.trans before.pending), completes.freeDraws.trans (frame.freeDraws.trans before.freeDraws)⟩,
    answered_begun.mp answered, ?_, fun d hd => ?_, fun d hd => ?_⟩
  · rw [State.reply_eq]
    exact completes.resolver.trans (frame.resolver.trans (by rw [resolver]))
  · have bars : floodNewlyBars s.image s.resolver b d = true := (Bool.and_eq_true_iff.mp hd).2
    rw [State.reply_eq]
    exact ((unordered d bars).complete mark).2 (unopened d hd)
  · rw [State.reply_eq]
    exact ((unordered d hd).complete mark).1

/-- The first message that the resolver has on its way to a door newly barred is taken ahead of the request (entry 29). -/
theorem State.floodSet_older (h : Waits s (.floodSet r) r) (body : r.body = [b]) {d : DoorId} {m : Instr}
    (bars : floodNewlyBars s.image s.resolver b d = true)
    (head : (s.inFlight.filter fun x => route? x == some (.toDoorTable d)).head? = some m)
    (ahead : ∀ e, e < d → floodNewlyBars s.image s.resolver b e = true →
      (s.inFlight.filter fun x => route? x == some (.toDoorTable e)) = []) :
    ∃ u, exec m s = .next u ∧ (u.inFlight.filter completes = (s.taking m).inFlight.filter completes →
      exec (.floodSet r) s = exec (.floodSet r) u) := by
  obtain ⟨way, first⟩ := firstOnItsWay_of_head? head
  obtain ⟨rest, older⟩ := List.head?_eq_some_iff.mp head
  refine ⟨s.deliver m, exec_first (by rw [way]; rfl) first, fun silent => ?_⟩
  have own := s.deliver_fromResolver way
  obtain ⟨made, flight, byDoors⟩ := s.deliver_fromResolver_made way
  have port : (s.deliver m).port = s.port := own.port
  have image : (s.deliver m).image = s.image := own.toDoorTableOnly.image
  have resolver : (s.deliver m).resolver = s.resolver := own.resolver
  have begun : (s.deliver m).begun r = (s.begun r).deliver m := by
    cases m <;> cases way <;> rfl
  have waits : Waits (s.deliver m) (.floodSet r) r := by
    obtain ⟨waiting, noReply, noRestart, addressed⟩ := h
    rw [← port] at waiting noReply noRestart
    exact ⟨waiting, noReply, noRestart, addressed⟩
  have still : ∀ x ∈ made, completes x = false := by
    have quiet : (s.inFlight.erase m).filter completes ++ made.filter completes = (s.inFlight.erase m).filter completes := by
      rw [← List.filter_append, ← flight]
      exact silent
    exact fun x hx => Bool.eq_false_of_not_eq_true (List.filter_eq_nil_iff.mp (List.append_right_eq_self.mp quiet) x hx)
  have bars' : d ∈ allDoors.filter (floodNewlyBars s.image s.resolver b) := List.mem_filter.mpr ⟨mem_allDoors d, bars⟩
  generalize named : allDoors.filter (floodNewlyBars s.image s.resolver b) = ds at bars'
  have sorted : ds.Pairwise (· < ·) := named ▸ allDoors_sorted _
  have same : ((s.begun r).settleDoors ds).1 = (((s.begun r).deliver m).settleDoors ds).1 :=
    State.settleDoors_older (s := s.begun r) older ds sorted bars' fun e he before => ahead e before (by
      rw [← named] at he
      exact (List.mem_filter.mp he).2)
  have operand : byteAt r.body 0 = b := by rw [body]; rfl
  have owner := (s.begun r).floodSet_eq r.body
  have owner' := ((s.deliver m).begun r).floodSet_eq r.body
  rw [operand] at owner owner'
  rw [show ((s.deliver m).begun r).image = s.image from image, show ((s.deliver m).begun r).resolver = s.resolver from resolver] at owner'
  rw [show (s.begun r).image = s.image from rfl, show (s.begun r).resolver = s.resolver from rfl] at owner
  dsimp only at owner owner'
  rw [named] at owner owner'
  obtain ⟨-, mark⟩ := (s.begun r).settleDoors_settled ds
  obtain ⟨settled', mark'⟩ := ((s.deliver m).begun r).settleDoors_settled ds
  obtain ⟨more, flight', -⟩ := settled'.flight
  obtain ⟨before, after, split, off, -, -⟩ := List.filter_eq_cons_iff.mp older
  have left : s.inFlight.erase m = before ++ after := by
    rw [split]
    exact erase_first (p := fun x => route? x == some (.toDoorTable d)) (fun x hx => by simpa using off x hx) (beq_iff_eq.mpr way) after
  have gone : ¬offDoors ds m = true := fun h => by
    have no := List.all_eq_true.mp h d bars'
    rw [way] at no
    simp at no
  have stays : (s.deliver m).inFlight.filter (offDoors ds) = s.inFlight.filter (offDoors ds) ++ made := by
    rw [flight, List.filter_append, filter_offDoors_made byDoors, left, split, List.filter_append, List.filter_append,
      List.filter_cons_of_neg gone]
  have begunFlight : ((s.deliver m).begun r).inFlight = (s.deliver m).inFlight := rfl
  rw [begunFlight, stays] at mark' flight'
  rw [mark, same, ← begun] at owner
  rw [mark'] at owner'
  have stopped := State.floodStops_stopped (((s.deliver m).begun r).settleDoors ds).1 b
    (nodup_allDoors.filter (floodNamed s.image s.resolver b))
  have flightX := stopped.flight
  rw [flight', List.append_assoc] at flightX
  have ends := State.completeFrom_mark (8 * ((((s.deliver m).begun r).settleDoors ds).1.floodStops b
    (allDoors.filter (floodNamed s.image s.resolver b))).inFlight.length + 8) _ (s.inFlight.filter (offDoors ds)) made _ flightX still
  rw [State.floodSet_serves h body owner, State.floodSet_serves waits body owner']
  exact congrArg (fun t : State => Host.Outcome.next (t.reply 0x0D r none [])) ends

end

end Sys2Proof.Machine

/-! What a FLOOD_SET makes of each door that it names, and FLOOD_CLEAR (R42, R77). -/

namespace Sys2Proof.Machine

open Sys2Proof

theorem clearsTransit_closeMessages {i : Image} {d : DoorId} {c : Channel} {r : Door} :
    ∀ m ∈ closeMessages i d c r, ClearsTransit d m := by
  intro m hm
  unfold closeMessages moveMessages at hm
  split at hm
  · split at hm
    · exact clearsTransit_restMessages m hm
    · rw [List.mem_singleton.mp hm]
      exact nofun
  · cases hm

theorem clearsTransit_floodMessages {i : Image} {d : DoorId} {c : Channel} {r : Door} :
    ∀ m ∈ floodMessages i d c r, ClearsTransit d m := by
  have part {p : Bool} {r' : Door} : ∀ m ∈ (if p then closeMessages i d c r' else restMessages d c r), ClearsTransit d m := by
    intro m hm
    split at hm
    · exact clearsTransit_closeMessages m hm
    · exact clearsTransit_restMessages m hm
  intro m hm
  unfold floodMessages at hm
  split at hm
  · rcases List.mem_cons.mp hm with rfl | hm
    · exact nofun
    · exact part m hm
  · split at hm
    · rcases List.mem_cons.mp hm with rfl | hm
      · exact nofun
      · exact part m hm
    · cases hm

theorem filter_quiet_othersOf (ms : List Instr) : (othersOf ms).filter (!completes ·) = ms.filter (!completes ·) := by
  unfold othersOf
  rw [List.filter_filter]
  refine List.filter_congr fun m _ => ?_
  cases own : alarmOf? m with
  | none => rw [Option.isNone_none, Bool.and_true]
  | some x =>
    have completing := (ToAlarms.alarmOf.mp (by rw [own]; rfl) : ToAlarms m).completes
    rw [completing]
    rfl

section
variable {s : State} {r : Req} {b : Byte}

/-- What a FLOOD_SET leaves where the resolver has nothing on its way to the doors it bars. -/
theorem State.floodSet_stops (h : Waits s (.floodSet r) r) (body : r.body = [b])
    (none : ∀ d, floodNewlyBars s.image s.resolver b d = true → (s.inFlight.filter fun m => route? m == some (.toDoorTable d)) = []) :
    ∃ t, exec (.floodSet r) s = .next t ∧ t.recorder = s.recorder ∧
      t.inFlight.filter (!completes ·) = s.inFlight.filter (!completes ·) ++
        (allDoors.filter (floodNamed s.image s.resolver b)).flatMap (fun d => (s.worked d Work.floodStop).out.filter (!completes ·)) ∧
      (∀ m ∈ t.inFlight, completes m = true → m ∈ s.inFlight) ∧
      (∀ d, floodNamed s.image s.resolver b d = false → t.door d = s.door d ∧ t.channel d = s.channel d) ∧
      ∀ d, floodNamed s.image s.resolver b d = true →
        t.door d = (s.worked d Work.floodStop).door ∧ t.channel d = (s.worked d Work.floodStop).channel := by
  obtain ⟨S, mark, -, -, quiet, X, stopped, part⟩ := State.floodSet_parts (s := s) body
  obtain ⟨rfl, rfl⟩ := quiet none
  have run := State.floodSet_serves h body part
  obtain ⟨frame, hit, miss, flight⟩ := stopped
  have worked (d : DoorId) : (s.begun r).worked d Work.floodStop = s.worked d Work.floodStop := rfl
  simp only [worked] at hit flight
  have begun : (s.begun r).inFlight = s.inFlight := rfl
  rw [begun] at flight
  generalize outs : (allDoors.filter (floodNamed s.image s.resolver b)).flatMap (fun d => (s.worked d Work.floodStop).out) = made at flight
  have alarms : ∀ m ∈ made, completes m = true → ToAlarms m := by
    intro m hm completing
    rw [← outs] at hm
    obtain ⟨d, -, hm⟩ := List.mem_flatMap.mp hm
    rw [(s.worked_floodStop d).2.2] at hm
    rcases List.mem_append.mp hm with hm | hm
    · rw [clearsTransit_floodMessages m hm completing]
      trivial
    · rw [proceedMessages_quiet _ _ _ _ m hm] at completing
      cases completing
  obtain ⟨only, others, taken⟩ := State.completeFrom_alarmsOnly (8 * X.inFlight.length + 8) X s.inFlight.length
    (by rw [flight, List.drop_left]; exact alarms)
  have older : X.inFlight.take s.inFlight.length = s.inFlight := by rw [flight, List.take_left]
  have taken : ∀ m ∈ (X.complete s.inFlight.length).inFlight, ToAlarms m → m ∈ s.inFlight := fun m hm own =>
    older ▸ taken (by omega) m hm own
  change X.complete s.inFlight.length = _ at only
  change othersOf (X.complete s.inFlight.length).inFlight = _ at others
  generalize X.complete s.inFlight.length = Y at run only others taken
  refine ⟨_, run, ?_⟩
  rw [State.reply_eq]
  refine ⟨?_, ?_, fun m hm completing => ?_, fun d hd => ?_, fun d hd => ?_⟩
  · rw [only]
    exact frame.recorder
  · show Y.inFlight.filter _ = _
    rw [← filter_quiet_othersOf, others, filter_quiet_othersOf, flight, List.filter_append, ← outs, List.filter_flatMap]
  · cases own : alarmOf? m with
    | some x => exact taken m hm (ToAlarms.alarmOf.mp (by rw [own]; rfl))
    | none =>
      have here : m ∈ othersOf X.inFlight := by
        rw [← others]
        exact List.mem_filter.mpr ⟨hm, by rw [own]; rfl⟩
      have here := (List.mem_filter.mp here).1
      rw [flight] at here
      refine (List.mem_append.mp here).resolve_right fun young => ?_
      have alarm := ToAlarms.alarmOf.mpr (alarms m young completing)
      rw [own] at alarm
      cases alarm
  · have same : Y.door d = X.door d ∧ Y.channel d = X.channel d := by rw [only]; exact ⟨rfl, rfl⟩
    obtain ⟨door, channel⟩ := miss d fun is => by
      have named := (List.mem_filter.mp is).2
      rw [show floodNamed s.image s.resolver b d = false from hd] at named
      cases named
    exact ⟨same.1.trans door, same.2.trans channel⟩
  · have same : Y.door d = X.door d ∧ Y.channel d = X.channel d := by rw [only]; exact ⟨rfl, rfl⟩
    obtain ⟨door, channel⟩ := hit d (List.mem_filter.mpr ⟨mem_allDoors d, hd⟩)
    exact ⟨same.1.trans door, same.2.trans channel⟩

end

/-- Settles O54: the doors barred are settled, those named stopped, and what they make is taken; FLOOD_CLEAR moves no door. -/
theorem floodFlags : Obligations.FloodFlags := by
  unfold Obligations.FloodFlags
  intro s r b body barred named older
  have bars (d : DoorId) : barred d ↔ floodNewlyBars s.image s.resolver b d = true := (floodNewlyBars_iff _ _ _ _).symm
  have names (d : DoorId) : named d ↔ floodNamed s.image s.resolver b d = true := (floodNamed_iff _ _ _ _).symm
  refine ⟨fun h => ?_, fun d m h hd head ahead => ?_, fun h none => ?_, fun h => ?_⟩
  · obtain ⟨t, run, frame, answered, resolver, unopened, unordered⟩ := State.floodSet_bars h body
    exact ⟨t, run, frame, answered, resolver, fun d hd => unopened d ((names d).mp hd), fun d hd => unordered d ((bars d).mp hd)⟩
  · exact State.floodSet_older h body ((bars d).mp hd) head fun e before he => ahead e before ((bars e).mpr he)
  · obtain ⟨t, run, recorder, flight, taken, miss, hit⟩ := State.floodSet_stops h body fun d hd => none d ((bars d).mpr hd)
    refine ⟨t, run, recorder, ?_, taken, fun d => ⟨fun other => miss d (Bool.eq_false_of_not_eq_true fun is => other ((names d).mpr is)),
      fun is => ?_⟩⟩
    · rw [flight, flatMap_filter_eq]
      refine congrArg (s.inFlight.filter (!completes ·) ++ ·) (List.flatMap_congr fun d _ => ?_)
      rw [(s.worked_floodStop d).2.2]
      exact if_congr (names d).symm rfl rfl
    · obtain ⟨door, channel⟩ := hit d ((names d).mp is)
      obtain ⟨still, drives, -⟩ := s.worked_floodStop d
      rw [door, channel]
      exact ⟨still, drives⟩
  · have part : State.floodClear r.body (s.begun r) = .accepted ((s.begun r).ordersEvent fun o => o.floodClear b) [] := by
      unfold State.floodClear
      rw [body]
      rfl
    have served := State.serve_accepted (kind := 0x0E) (owner := State.floodClear) (lens := [1]) h (by simp [body]) part
    have event : (s.begun r).ordersEvent (fun o => o.floodClear b) =
        { s.begun r with resolver := { s.resolver with flood := s.resolver.flood &&& ~~~b } } := by
      show ({ s.begun r with resolver := _, inFlight := s.inFlight ++ [] } : State) = _
      rw [List.append_nil]
      rfl
    obtain ⟨u, is⟩ : ∃ u : State, u = { s.begun r with resolver := { s.resolver with flood := s.resolver.flood &&& ~~~b } } := ⟨_, rfl⟩
    rw [event, ← is, State.complete_of_quiet (s := s) (t := u) (by rw [is]; rfl)] at served
    have answered := State.reply_answered (kind := 0x0E) (reason := none) (data := []) u h.addressed
    rw [show u.port = (s.begun r).port by rw [is]] at answered
    refine ⟨_, congrArg Host.Outcome.next served, answered_begun.mp answered, ?_⟩
    rw [State.reply_eq, is]
    rfl

end Sys2Proof.Machine

/-! A completion in which one message has been made on each of some ways, with whatever is older on those ways. -/

namespace Sys2Proof.Machine

open Sys2Proof

/-- The messages of one way. -/
def byWay (w : Route) (ms : List Instr) : List Instr := ms.filter fun m => route? m == some w

section
variable {w w' : Route} {m : Instr} {ms ns : List Instr}

theorem byWay_append (w : Route) (ms ns : List Instr) : byWay w (ms ++ ns) = byWay w ms ++ byWay w ns := List.filter_append ..

theorem mem_byWay : m ∈ byWay w ms ↔ m ∈ ms ∧ route? m = some w := by
  unfold byWay
  rw [List.mem_filter, beq_iff_eq]

theorem byWay_eq_nil : byWay w ms = [] ↔ ∀ m ∈ ms, route? m ≠ some w := by
  unfold byWay
  rw [List.filter_eq_nil_iff]
  simp only [beq_iff_eq]

theorem byWay_flatMap {α : Type} (f : α → List Instr) (xs : List α) : byWay w (xs.flatMap f) = xs.flatMap fun x => byWay w (f x) :=
  List.filter_flatMap ..

/-- A message of another way is no concern of this one. -/
theorem byWay_erase_other (other : route? m ≠ some w) (ms : List Instr) : byWay w (ms.erase m) = byWay w ms := by
  unfold byWay
  induction ms with
  | nil => rfl
  | cons x xs ih =>
    by_cases same : x = m
    · subst same
      rw [List.erase_cons_head, List.filter_cons_of_neg (by simpa using other)]
    · rw [List.erase_cons_tail (by simpa using same), List.filter_cons, List.filter_cons, ih]

theorem byWay_erase_first (first : byWay w ms = m :: ns) : byWay w (ms.erase m) = ns := by
  obtain ⟨before, after, split, off, way, rest⟩ := List.filter_eq_cons_iff.mp first
  have left : ms.erase m = before ++ after := by
    rw [split]
    exact erase_first (p := fun x => route? x == some w) (fun x hx => by simpa using off x hx) way after
  rw [left, byWay_append, show byWay w before = [] from List.filter_eq_nil_iff.mpr off, List.nil_append]
  exact rest

end

/-- Whether a message goes one of some ways. -/
def goesBy (ws : List Route) (m : Instr) : Bool := ws.any fun w => route? m == some w

theorem goesBy_iff {ws : List Route} {m : Instr} : goesBy ws m = true ↔ ∃ w ∈ ws, route? m = some w := by
  simp [goesBy]

/-- The messages made since that complete go by these ways, one by each that holds any at all. -/
structure OneByEach (ws : List Route) (old young : List Instr) : Prop where
  ways : ∀ m ∈ young, completes m = true → goesBy ws m = true
  each : ∀ w ∈ ws, (∃ m, completes m = true ∧ byWay w young = [m]) ∨ byWay w (old ++ young) = []

section
variable {ws : List Route} {P : State → Prop}

/-- A completion takes all that goes by the ways on which one message each has been made, first on its way first. What every such
taking keeps holds behind it. -/
theorem State.completeFrom_ways
    (step : ∀ t m w rest, P t → w ∈ ws → byWay w t.inFlight = m :: rest → P (t.deliver m) ∧
      ∃ made, (t.deliver m).inFlight = t.inFlight.erase m ++ made ∧ ∀ x ∈ made, completes x = false ∧ goesBy ws x = false)
    (fuel : Nat) : ∀ (s : State) (old young : List Instr), s.inFlight = old ++ young → OneByEach ws old young → P s →
      s.inFlight.countP (goesBy ws) ≤ fuel →
      P (s.completeFrom fuel old.length) ∧ ∀ w ∈ ws, byWay w (s.completeFrom fuel old.length).inFlight = [] := by
  induction fuel with
  | zero =>
    intro s old young flight one h enough
    refine ⟨h, fun w hw => byWay_eq_nil.mpr fun m hm way => ?_⟩
    exact List.countP_eq_zero.mp (Nat.le_zero.mp enough) m hm (goesBy_iff.mpr ⟨w, hw, way⟩)
  | succ n ih =>
    intro s old young flight one h enough
    have older : s.inFlight.take old.length = old := by rw [flight, List.take_left]
    have younger : s.inFlight.drop old.length = young := by rw [flight, List.drop_left]
    have owes := s.owed_eq old.length
    rw [older, younger] at owes
    cases found : young.find? completes with
    | none =>
      rw [found] at owes
      rw [State.completeFrom, owes]
      refine ⟨h, fun w hw => ?_⟩
      rcases one.each w hw with ⟨m, completing, only⟩ | none
      · exact absurd completing (List.find?_eq_none.mp found m (mem_byWay.mp (only ▸ List.mem_cons_self)).1)
      · rw [flight]
        exact none
    | some m =>
      have completing : completes m = true := List.find?_some found
      have here := List.mem_of_find?_eq_some found
      obtain ⟨w, hw, way⟩ := goesBy_iff.mp (one.ways m here completing)
      rw [found] at owes
      dsimp only at owes
      rw [way] at owes
      have young' : byWay w young = [m] := by
        rcases one.each w hw with ⟨m', -, only⟩ | none
        · have is : m ∈ byWay w young := mem_byWay.mpr ⟨here, way⟩
          rw [only, List.mem_singleton] at is
          rw [only, is]
        · exact absurd way (byWay_eq_nil.mp none m (List.mem_append_right _ here))
      have first {x : Instr} {before after : List Instr} (split : s.inFlight = before ++ x :: after)
          (off : ∀ y ∈ before, (!(route? y == some w)) = true) (own : (route? x == some w) = true) {old' young' : List Instr}
          (parts : before ++ after = old' ++ young')
          (one' : ∀ made, (∀ y ∈ made, completes y = false ∧ goesBy ws y = false) → OneByEach ws old' (young' ++ made)) :
          P ((s.deliver x).completeFrom n old'.length) ∧
            ∀ w ∈ ws, byWay w ((s.deliver x).completeFrom n old'.length).inFlight = [] := by
        have head : byWay w s.inFlight = x :: byWay w after := by
          have none : byWay w before = [] := byWay_eq_nil.mpr fun y hy => by simpa using off y hy
          rw [split, byWay_append, none, List.nil_append]
          exact List.filter_cons_of_pos own
        obtain ⟨kept, made, eq, quiet⟩ := step s x w _ h hw head
        have left := erase_first (p := fun y => route? y == some w) off own after
        rw [← split, parts] at left
        rw [left] at eq
        refine ih _ old' (young' ++ made) (eq.trans (List.append_assoc _ _ _)) (one' made quiet) kept ?_
        have goes : goesBy ws x = true := goesBy_iff.mpr ⟨w, hw, beq_iff_eq.mp own⟩
        have silent : made.countP (goesBy ws) = 0 := List.countP_eq_zero.mpr fun y hy => by rw [(quiet y hy).2]; nofun
        have count : s.inFlight.countP (goesBy ws) = (old' ++ young').countP (goesBy ws) + 1 := by
          rw [← parts, split, List.countP_append, List.countP_cons_of_pos goes, List.countP_append, Nat.add_assoc]
        rw [eq, List.countP_append, silent]
        omega
      have behind {ys : List Instr} (made : List Instr) (quiet : ∀ y ∈ made, completes y = false ∧ goesBy ws y = false) (v : Route)
          (hv : v ∈ ws) : byWay v (ys ++ made) = byWay v ys := by
        have none : byWay v made = [] := byWay_eq_nil.mpr fun y hy is => ?_
        · rw [byWay_append, none, List.append_nil]
        have goes := (quiet y hy).2
        rw [goesBy_iff.mpr ⟨v, hv, is⟩] at goes
        cases goes
      have ways' {ys : List Instr} (sub : ∀ y ∈ ys, y ∈ young) (made : List Instr)
          (quiet : ∀ y ∈ made, completes y = false ∧ goesBy ws y = false) :
          ∀ y ∈ ys ++ made, completes y = true → goesBy ws y = true := by
        intro y hy c
        rcases List.mem_append.mp hy with hy | hy
        · exact one.ways y (sub y hy) c
        · rw [(quiet y hy).1] at c
          cases c
      rw [State.completeFrom, owes]
      cases inOld : old.find? fun x => route? x == some w with
      | some x =>
        obtain ⟨own, before, after, split, off⟩ := List.find?_eq_some_iff_append.mp inOld
        rw [flight, List.find?_append, inOld]
        simp only [Option.some_or, Option.map_some, Option.isSome_some, if_true]
        have length : old.length - 1 = (before ++ after).length := by rw [split]; simp
        rw [length]
        refine first (before := before) (after := after ++ young) (by rw [flight, split]; simp) off own
          (young' := young) (by simp) fun made quiet => ⟨ways' (fun _ => id) made quiet, fun v hv => ?_⟩
        rw [← List.append_assoc, behind made quiet v hv, behind made quiet v hv]
        rcases one.each v hv with only | none
        · exact .inl only
        · refine .inr (byWay_eq_nil.mpr fun y hy => byWay_eq_nil.mp none y ?_)
          rw [split]
          simp only [List.mem_append, List.mem_cons] at hy ⊢
          rcases hy with (hy | hy) | hy
          · exact .inl (.inl hy)
          · exact .inl (.inr (.inr hy))
          · exact .inr hy
      | none =>
        have free := List.find?_eq_none.mp inOld
        have inYoung : young.find? (fun x => route? x == some w) = some m := by
          rw [← List.head?_filter]
          exact (congrArg List.head? young' :)
        obtain ⟨own, before, after, split, off⟩ := List.find?_eq_some_iff_append.mp inYoung
        rw [flight, List.find?_append, inOld, inYoung]
        simp only [Option.none_or, Option.map_some, Option.isSome_none, Bool.false_eq_true, if_false]
        have others : byWay w (before ++ after) = [] := by
          have left := byWay_erase_first young'
          rwa [split, erase_first (p := fun y => route? y == some w) off own] at left
        refine first (before := old ++ before) (after := after) (by rw [flight, split]; simp)
          (fun y hy => (List.mem_append.mp hy).elim (fun hy => by simpa using free y hy) (off y)) own
          (old' := old) (young' := before ++ after) (by simp) fun made quiet => ⟨ways' (fun y hy => ?_) made quiet, fun v hv => ?_⟩
        · rw [split]
          simp only [List.mem_append, List.mem_cons] at hy ⊢
          exact hy.elim .inl fun hy => .inr (.inr hy)
        · rw [← List.append_assoc, behind made quiet v hv, behind made quiet v hv]
          by_cases is : v = w
          · subst is
            refine .inr ?_
            rw [byWay_append, others, List.append_nil]
            exact byWay_eq_nil.mpr fun y hy => by simpa using free y hy
          · have drop : byWay v (before ++ after) = byWay v young := by
              have other : route? m ≠ some v := fun h => is (Option.some.inj (h.symm.trans way))
              rw [← byWay_erase_other other young, split, erase_first (p := fun y => route? y == some w) off own]
            rw [drop, byWay_append, drop, ← byWay_append]
            exact one.each v hv

end

end Sys2Proof.Machine

/-! A door at a restart, and its standing authority taken afterwards (R49, R87). -/

namespace Sys2Proof.Machine

open Sys2Proof

/-! ### The record -/

/-- A record whose movement, timers and drive test a restart has ended (R17, R49). -/
def Door.halted (c : Channel) (r : Door) : Door :=
  let stood : Door :=
    if r.motion = .isolated ∨ r.motion = .settling ∨ r.motion = .absent then r
    else
      { r with
        motion := if c.restsAt .cls then .closed else if c.restsAt .opn then .opened else .stopped
        estimate := if c.restsAt .cls then 0 else if c.restsAt .opn then 1000 else clamp 10 990 r.estimateNow }
  { stood with
    full := r.full && !isMoving r.motion
    warningTimer := none, dwellTimer := none, edgeTimer := none, transitTimer := none, edgeWait := .none
    transit := false, transitLong := false, held := false, tight := false
    testResult := if r.testResult = .running then .aborted else r.testResult
    test := none, openCheck := .idle, closeCheck := .idle }

/-- Both drive checks brought up to date with the valves OFF (R13). -/
def Door.rechecked (i : Image) (c : Channel) (r : Door) : Door := (r.valveAt i c .opn false).valveAt i c .cls false

theorem Door.restarted_eq (i : Image) (d : DoorId) (c : Channel) (a : Standing) (r : Door) :
    r.restarted i d c a =
      { (r.halted c).rechecked i c with
        travelDrift := if r.present then r.travelsOff i.doors[d] else r.travelDrift
        standing := if r.present = false then r.standing else if r.motion = .isolated then .none else a } := rfl

theorem Door.rechecked_eq (i : Image) (c : Channel) (r : Door) : ∃ x y, r.rechecked i c = { r with openCheck := x, closeCheck := y } := by
  obtain ⟨x, first⟩ := r.valveAt_eq i c .opn false
  obtain ⟨y, second⟩ := (r.withCheck .opn x).valveAt_eq i c .cls false
  exact ⟨x, y, by rw [Door.rechecked, first, second]; rfl⟩

/-- A drive check of a valve brought to a level (R11). -/
def Door.checkAt (i : Image) (c : Channel) (v : Dir) (on : Bool) (r : Door) : Check :=
  if r.present && r.testResult != .running && (c.readback v).primed then
    if on = (c.readback v).filtered then .idle
    else if (r.check v).reported || (r.check v).timer.isSome then r.check v
    else ⟨some i.group.driveSettle, false⟩
  else r.check v

theorem Door.valveAt_eq_withCheck (i : Image) (c : Channel) (v : Dir) (on : Bool) (r : Door) :
    r.valveAt i c v on = r.withCheck v (r.checkAt i c v on) := by
  have self := (r.withCheck_self v).symm
  unfold Door.valveAt Door.checkAt
  split
  · split
    · rfl
    · split
      · exact self
      · rfl
  · exact self

theorem Door.valveAt_changed (i : Image) (c : Channel) (v : Dir) (on : Bool) (r : Door) (b : Bool) :
    Door.valveAt i c v on { r with changed := b } = { r.valveAt i c v on with changed := b } := by
  rw [Door.valveAt_eq_withCheck, Door.valveAt_eq_withCheck]
  cases v <;> rfl

theorem Door.rechecked_changed (i : Image) (c : Channel) (r : Door) (b : Bool) :
    Door.rechecked i c { r with changed := b } = { r.rechecked i c with changed := b } := by
  unfold Door.rechecked
  rw [Door.valveAt_changed i c .opn false r b, Door.valveAt_changed i c .cls false (r.valveAt i c .opn false) b]

theorem restOf_eq (c : Channel) (n : Nat) :
    restOf c n = (if c.restsAt .cls then .closed else if c.restsAt .opn then .opened else .stopped,
      if c.restsAt .cls then 0 else if c.restsAt .opn then 1000 else clamp 10 990 n) := by
  unfold restOf Channel.restsAt Channel.endActive Dir.flip
  cases c.closedSwitch.filtered <;> cases c.openSwitch.filtered <;> rfl

/-- What a restart reports of a present door (R65, R140). -/
def restartReports (i : Image) (d : DoorId) (r : Door) : List Instr :=
  if r.present then
    [if r.drifted then .alarmRaise .driftOpen (.door d) else .alarmClear .driftOpen (.door d),
      if r.travelsOff i.doors[d] then .alarmRaise .travelDrift (.door d) else .alarmClear .travelDrift (.door d),
      .alarmClear .transitLong (.door d)]
  else []

theorem Work.restartReports_eq (w : Work) :
    w.restartReports =
      { w with
        door := { w.door with travelDrift := if w.door.present then w.door.travelsOff w.config else w.door.travelDrift }
        out := w.out ++ Machine.restartReports w.image w.id w.door } := by
  unfold Work.restartReports Machine.restartReports
  simp only [travelDrifts_eq]
  split
  · simp only [Work.send, List.append_assoc]
    rfl
  · rw [List.append_nil]

theorem Work.restartMotion_eq (w : Work) :
    w.restartMotion = { w with door :=
      if w.door.motion = .isolated ∨ w.door.motion = .settling ∨ w.door.motion = .absent then w.door
      else
        { w.door with
          motion := if w.channel.restsAt .cls then .closed else if w.channel.restsAt .opn then .opened else .stopped
          estimate := if w.channel.restsAt .cls then 0 else if w.channel.restsAt .opn then 1000
            else clamp 10 990 w.door.estimateNow } } := by
  unfold Work.restartMotion
  simp only [restOf_eq]
  split <;> rename_i motion
  case h_1 | h_2 | h_3 => exact congrArg (fun r : Door => ({ w with door := r } : Work)) (if_pos (by simp [motion])).symm
  all_goals exact congrArg (fun r : Door => ({ w with door := r } : Work)) (if_neg (by simp [motion])).symm

/-- A door restarted: its record but for the standing authority, which the resolver reports afterwards, both valves OFF, and its reports. -/
theorem Work.restart_eq (w : Work) (a : Standing) :
    w.restart =
      { w with
        door := { w.door.restarted w.image w.id w.channel a with standing := w.door.standing, changed := true }
        channel := { w.channel with openValve := false, closeValve := false }
        out := w.out ++ Machine.restartReports w.image w.id w.door
        dueBarred := true } := by
  have halts : ({ (w.restartMotion) with
      dueBarred := true
      door := { w.restartMotion.door with
        full := if isMoving w.door.motion then false else w.restartMotion.door.full
        warningTimer := none, dwellTimer := none, edgeTimer := none, transitTimer := none, edgeWait := .none
        transit := false, transitLong := false, held := false
        testResult := if w.restartMotion.door.testResult = .running then .aborted else w.restartMotion.door.testResult
        test := none, tight := false, changed := true }
      channel := { w.restartMotion.channel with openValve := false, closeValve := false } } : Work).clearChecks =
      { w with
        dueBarred := true
        door := { w.door.halted w.channel with changed := true }
        channel := { w.channel with openValve := false, closeValve := false } } := by
    rw [w.restartMotion_eq]
    unfold Work.clearChecks Door.halted
    dsimp only
    split <;> cases isMoving w.door.motion <;> simp
  have same : ({ w.channel with openValve := false, closeValve := false } : Channel).inputs = w.channel.inputs := rfl
  obtain ⟨x, y, checks⟩ := (w.door.halted w.channel).rechecked_eq w.image w.channel
  have fixed : (w.door.halted w.channel).present = w.door.present ∧ (w.door.halted w.channel).drifted = w.door.drifted ∧
      (w.door.halted w.channel).learnedClose = w.door.learnedClose ∧ (w.door.halted w.channel).learnedOpen = w.door.learnedOpen ∧
      (w.door.halted w.channel).standing = w.door.standing ∧ (w.door.halted w.channel).travelDrift = w.door.travelDrift := by
    unfold Door.halted
    dsimp only
    split <;> exact ⟨rfl, rfl, rfl, rfl, rfl, rfl⟩
  have both (w : Work) (opn : w.channel.openValve = false) (cls : w.channel.closeValve = false) :
      w.recheckBoth = { w with door := w.door.rechecked w.image w.channel } := by
    rw [Work.recheckBoth, w.recheck_eq, Work.recheck_eq, show w.channel.valve .opn = false from opn]
    dsimp only
    rw [show w.channel.valve .cls = false from cls]
    rfl
  have rechecks : (w.door.halted w.channel).rechecked w.image { w.channel with openValve := false, closeValve := false } =
      (w.door.halted w.channel).rechecked w.image w.channel := by
    unfold Door.rechecked
    rw [Door.valveAt_inputs same, Door.valveAt_inputs same]
  unfold Work.restart
  dsimp only
  rw [halts, both _ rfl rfl, Work.restartReports_eq]
  dsimp only
  rw [Door.rechecked_changed, rechecks, Door.restarted_eq, checks]
  obtain ⟨present, drifted, close, open_, standing, travel⟩ := fixed
  unfold Machine.restartReports Door.travelsOff Work.config
  dsimp only
  rw [present, drifted, close, open_, standing, travel]

end Sys2Proof.Machine

/-! The standing authority reported to a door that a restart has halted (R49, R87). -/

namespace Sys2Proof.Machine

open Sys2Proof

/-- A record of a door that a restart has halted. -/
structure Door.Halted (r : Door) : Prop where
  motion : r.motion = .isolated ∨ r.motion = .settling ∨ r.motion = .absent ∨ r.motion = .closed ∨ r.motion = .opened ∨ r.motion = .stopped
  transit : r.transit = false
  transitTimer : r.transitTimer = none
  transitLong : r.transitLong = false
  edgeWait : r.edgeWait = .none
  edgeTimer : r.edgeTimer = none

theorem Door.Halted.outOfTransit {r : Door} (h : r.Halted) : r.outOfTransit = r := by
  obtain ⟨-, transit, timer, long, -, -⟩ := h
  cases r
  cases transit
  cases timer
  cases long
  rfl

theorem Door.Halted.unwaiting {r : Door} (h : r.Halted) : { r with edgeWait := .none, edgeTimer := none } = r := by
  obtain ⟨-, -, -, -, wait, edge⟩ := h
  cases r
  cases wait
  cases edge
  rfl

theorem Work.order_halted {w : Work} (h : w.door.Halted) (here : w.door.motion ≠ .absent) (a : Standing) :
    w.order a = w.withStanding (if w.door.motion = .isolated then .none else a) := by
  by_cases isolated : w.door.motion = .isolated
  · rw [if_pos isolated]
    exact Work.order_unserved fun served => served.1 isolated
  rw [if_neg isolated]
  have transit := h.transit
  have motion := h.motion
  have still {m : Motion} (other : m ∈ [.warning, .dwell, .queued, .opening, .closing]) : w.door.motion ≠ m := by
    rintro rfl
    rcases motion with h | h | h | h | h | h <;> rw [h] at other <;> simp at other
  have unmoved : ¬((w.door.motion = .closing ∨ w.door.motion = .queued ∧ w.door.dir = .cls) ∧ w.door.authority ≠ .local_) :=
    fun h => h.1.elim (still (by simp)) fun h => still (by simp) h.1
  have unopened : ¬((w.door.motion = .opening ∨ w.door.motion = .queued ∧ w.door.dir = .opn) ∧ w.door.transit = true) :=
    fun h => h.1.elim (still (by simp)) fun h => still (by simp) h.1
  have cleared : (w.withStanding .none).clearTransit = w.withStanding .none := by
    have out : (w.withStanding .none).door.outOfTransit = (w.withStanding .none).door :=
      congrArg (fun r : Door => ({ r with standing := .none } : Door)) h.outOfTransit
    have silent : transitMessages w.id (w.withStanding .none).door = [] := if_neg (by
      rw [show (w.withStanding .none).door.transit = false from transit]
      nofun)
    rw [Work.clearTransit_eq, out]
    exact congrArg (fun ms => ({ w.withStanding .none with out := ms } : Work)) ((congrArg (w.out ++ ·) silent).trans (List.append_nil _))
  rw [Work.order_served ⟨isolated, here⟩]
  split
  · next same =>
    rw [same]
    rfl
  · split
    · exact Work.orderRises_other (fun h => h.1.elim (still (by simp)) fun h => still (by simp) h.1)
        fun h => h.1.elim (still (by simp)) fun h => still (by simp) h.1
    · split
      · next none =>
        subst none
        rw [cleared]
        by_cases stopped : w.door.motion = .stopped
        · rw [Work.orderEnds_stopped (w := w.withStanding .none) stopped]
          exact congrArg (fun r : Door => ({ w with door := { r with standing := .none } } : Work)) h.unwaiting
        · exact Work.orderEnds_other (w := w.withStanding .none) (still (by simp)) (still (by simp)) stopped unmoved unopened
      · exact Work.orderChanges_other (w := w.withStanding a) (still (by simp)) unmoved

section
variable (i : Image) (d : DoorId) (c : Channel) (a : Standing) (r : Door)

theorem Door.halted_halted : (r.halted c).Halted := by
  refine ⟨?_, by unfold Door.halted; rfl, by unfold Door.halted; rfl, by unfold Door.halted; rfl, by unfold Door.halted; rfl,
    by unfold Door.halted; rfl⟩
  unfold Door.halted
  dsimp only
  split
  · next kept => rcases kept with h | h | h <;> simp [h]
  · cases c.restsAt .cls <;> cases c.restsAt .opn <;> simp

theorem Door.restarted_halted : (r.restarted i d c a).Halted := by
  obtain ⟨x, y, checks⟩ := (r.halted c).rechecked_eq i c
  obtain ⟨motion, transit, timer, long, wait, edge⟩ := r.halted_halted c
  rw [Door.restarted_eq, checks]
  exact ⟨motion, transit, timer, long, wait, edge⟩

/-- What a restart leaves of a record's other fields. -/
theorem Door.restarted_keeps : (r.restarted i d c a).present = r.present ∧ (r.restarted i d c a).drifted = r.drifted ∧
    (r.restarted i d c a).learnedClose = r.learnedClose ∧ (r.restarted i d c a).learnedOpen = r.learnedOpen ∧
    ((r.restarted i d c a).motion = .isolated ↔ r.motion = .isolated) ∧ ((r.restarted i d c a).motion = .absent ↔ r.motion = .absent) := by
  obtain ⟨x, y, checks⟩ := (r.halted c).rechecked_eq i c
  have halts : (r.halted c).present = r.present ∧ (r.halted c).drifted = r.drifted ∧ (r.halted c).learnedClose = r.learnedClose ∧
      (r.halted c).learnedOpen = r.learnedOpen ∧ ((r.halted c).motion = .isolated ↔ r.motion = .isolated) ∧
      ((r.halted c).motion = .absent ↔ r.motion = .absent) := by
    unfold Door.halted
    dsimp only
    split
    · exact ⟨rfl, rfl, rfl, rfl, Iff.rfl, Iff.rfl⟩
    · next moved =>
      obtain ⟨isolated, others⟩ := not_or.mp moved
      obtain ⟨-, absent⟩ := not_or.mp others
      refine ⟨rfl, rfl, rfl, rfl, ⟨fun h => ?_, fun h => absurd h isolated⟩, ⟨fun h => ?_, fun h => absurd h absent⟩⟩ <;>
        · split at h
          · cases h
          · split at h <;> cases h
  rw [Door.restarted_eq, checks]
  exact halts

theorem Door.restarted_absent (absent : r.present = false) (a' : Standing) : r.restarted i d c a = r.restarted i d c a' := by
  simp only [Door.restarted_eq, absent, if_true]

end

/-- R21 looks at no change flag. -/
theorem Door.proceeds_of_still (i : Image) (d : DoorId) (c : Channel) {r r' : Door} (h : r.still = r'.still) :
    (r.proceeds i c).still = (r'.proceeds i c).still ∧ proceedMessages i d c r = proceedMessages i d c r' := by
  have flag (x : Door) : (x.proceeds i c).still = x.still.proceeds i c := (Door.proceeds_changed i c false x).symm
  have messages (x : Door) : proceedMessages i d c x = proceedMessages i d c x.still := rfl
  rw [flag, flag, messages, messages, h]
  exact ⟨rfl, rfl⟩

section
variable (s : State) (d : DoorId) (a : Standing)

/-- A door as its own part of a restart leaves it. -/
theorem State.worked_restart :
    let w := s.worked d Work.restart
    w.door.still = Door.still { (s.door d).restarted s.image d (s.channel d) a with standing := (s.door d).standing } ∧
      w.door.changed = true ∧ Drives (s.channel d) w.channel false false ∧ w.out = restartReports s.image d (s.door d) := by
  intro w
  have restarts := (s.work d).restart_eq a
  have idle : (s.work d).restart.startIfDue = (s.work d).restart := Work.startIfDue_barred _ (by rw [restarts])
  have followed := Work.event_followed (strict := False) (w := s.work d) Work.restart (s.door d) (s.channel d)
  refine ⟨?_, followed.changed (by rw [restarts]), ⟨?_, ?_, ?_⟩, ?_⟩
  · rw [show w.door.still = _ from Work.event_still _ _ _ _, idle, restarts]
    rfl
  · rw [show w.channel = _ from Work.event_channel _ _ _ _, idle, restarts]
    rfl
  · rw [show w.channel = _ from Work.event_channel _ _ _ _, idle, restarts]
  · rw [show w.channel = _ from Work.event_channel _ _ _ _, idle, restarts]
  · rw [show w.out = _ from Work.event_out _ _ _ _, idle, restarts]
    exact List.nil_append _

variable {s d a} {t : State} {c : Channel} {r : Door}

/-- The standing authority reported to a door that its part of a restart has left so: R21 is looked at (R87; entry 20). -/
theorem State.worked_order_restarted (image : t.image = s.image)
    (record : (t.door d).still = Door.still { (s.door d).restarted s.image d (s.channel d) a with standing := (s.door d).standing })
    (changed : (t.door d).changed = true) (drives : Drives (s.channel d) (t.channel d) false false) (present : (s.door d).present = true)
    (here : (s.door d).motion ≠ .absent) :
    let w := t.worked d fun w => w.order a
    let x := (s.door d).restarted s.image d (s.channel d) a
    w.door.still = (x.proceeds s.image (s.channel d)).still ∧ w.door.changed = true ∧
      Drives (s.channel d) w.channel false false ∧ w.out = proceedMessages s.image d (s.channel d) x := by
  intro w x
  obtain ⟨-, -, -, -, isolated, absent⟩ := Door.restarted_keeps s.image d (s.channel d) a (s.door d)
  have halted : (t.work d).door.Halted := by
    obtain ⟨motion, transit, timer, long, wait, edge⟩ := Door.restarted_halted s.image d (s.channel d) a (s.door d)
    have motion' : (t.door d).motion = ((s.door d).restarted s.image d (s.channel d) a).motion := (congrArg Door.motion record :)
    refine ⟨?_, (congrArg Door.transit record :).trans transit, (congrArg Door.transitTimer record :).trans timer,
      (congrArg Door.transitLong record :).trans long, (congrArg Door.edgeWait record :).trans wait,
      (congrArg Door.edgeTimer record :).trans edge⟩
    rw [show (t.work d).door = t.door d from rfl, motion']
    exact motion
  have motion : (t.door d).motion = ((s.door d).restarted s.image d (s.channel d) a).motion := (congrArg Door.motion record :)
  have orders := Work.order_halted halted (show (t.door d).motion ≠ .absent by rw [motion]; exact fun h => here (absent.mp h)) a
  obtain ⟨x', is⟩ : ∃ x' : Door, x' = ((t.work d).withStanding (if (t.door d).motion = .isolated then .none else a)).door := ⟨_, rfl⟩
  have still : x'.still = x.still := by
    have standing : x.standing = if (t.door d).motion = .isolated then .none else a := by
      show (if (s.door d).present = false then (s.door d).standing else if (s.door d).motion = .isolated then .none else a) = _
      rw [if_neg (by rw [present]; nofun), motion]
      exact if_congr isolated.symm rfl rfl
    rw [is]
    refine Eq.trans (congrArg (fun r : Door => ({ r with standing := if (t.door d).motion = .isolated then .none else a } : Door)) record :) ?_
    rw [← standing]
    rfl
  obtain ⟨proceeds, messages⟩ := Door.proceeds_of_still s.image d (t.channel d) still
  obtain ⟨proceeds', messages'⟩ := Door.proceeds_channel s.image d x (c := s.channel d) (c' := t.channel d)
    (congrArg Channel.closedSwitch drives.inputs :) (congrArg Channel.openSwitch drives.inputs :)
  have runs : ((t.work d).order a).startIfDue = { t.work d with
      door := x'.proceeds s.image (t.channel d), out := proceedMessages s.image d (t.channel d) x' } := by
    rw [orders, Work.startIfDue_eq _ rfl]
    show ({ t.work d with door := Door.proceeds t.image _ _, out := [] ++ proceedMessages t.image _ _ _ } : Work) = _
    rw [image, is, List.nil_append]
    rfl
  have followed := Work.event_followed (strict := False) (w := t.work d) (fun w => w.order a) (t.door d) (t.channel d)
  refine ⟨?_, followed.changed ?_, ⟨?_, ?_, ?_⟩, ?_⟩
  · rw [show w.door.still = _ from Work.event_still _ _ _ _, runs]
    rw [proceeds'] at proceeds
    exact proceeds
  · rw [orders]
    exact changed
  · rw [show w.channel = _ from Work.event_channel _ _ _ _, runs]
    exact drives.inputs
  · rw [show w.channel = _ from Work.event_channel _ _ _ _, runs]
    exact drives.openValve
  · rw [show w.channel = _ from Work.event_channel _ _ _ _, runs]
    exact drives.closeValve
  · rw [show w.out = _ from Work.event_out _ _ _ _, runs]
    exact messages.trans messages'

end

end Sys2Proof.Machine

/-! What the owners report to the alarm list at a restart, by its kind and subject (R140). -/

namespace Sys2Proof.Machine

open Sys2Proof

/-! ### Messages about one door -/

/-- The door that a way concerns, of those on which the owners report at a restart. -/
def Route.doorOf : Route → Option DoorId
  | .toDoorTable d | .alarm _ (.door d) => some d
  | _ => none

theorem byWay_nil (w : Route) : byWay w [] = [] := rfl

theorem flatMap_single {α β : Type} {xs : List α} (once : xs.Nodup) {f : α → List β} {x : α} (here : x ∈ xs)
    (others : ∀ y ∈ xs, y ≠ x → f y = []) : xs.flatMap f = f x := by
  induction xs with
  | nil => cases here
  | cons y ys ih =>
    obtain ⟨fresh, once⟩ := List.nodup_cons.mp once
    rw [List.flatMap_cons]
    by_cases is : y = x
    · subst is
      rw [List.flatMap_eq_nil_iff.mpr fun z hz => others z (List.mem_cons_of_mem _ hz) fun same => fresh (same ▸ hz), List.append_nil]
    · rw [others y List.mem_cons_self is, List.nil_append]
      exact ih once ((List.mem_cons.mp here).resolve_left fun h => is h.symm) fun z hz => others z (List.mem_cons_of_mem _ hz)

/-- Of messages made for each door, each about its door, those of a way are its door's. -/
theorem byWay_allDoors {f : DoorId → List Instr} (about : ∀ d, ∀ m ∈ f d, ∃ w, route? m = some w ∧ w.doorOf = some d) (w : Route) :
    byWay w (allDoors.flatMap f) = match w.doorOf with
      | some d => byWay w (f d)
      | none => [] := by
  have other (d : DoorId) (h : w.doorOf ≠ some d) : byWay w (f d) = [] := byWay_eq_nil.mpr fun m hm way => by
    obtain ⟨v, own, door⟩ := about d m hm
    rw [way] at own
    cases own
    exact h door
  rw [byWay_flatMap]
  cases of : w.doorOf with
  | some d => exact flatMap_single nodup_allDoors (mem_allDoors d) fun e _ ne => other e (by rw [of]; exact fun h => ne (Option.some.inj h).symm)
  | none => exact List.flatMap_eq_nil_iff.mpr fun e _ => other e (by rw [of]; nofun)

/-! ### Reports of a condition -/

/-- The report of a LEVEL kind. -/
def levelMessage (k : AlarmKind) (x : Subject) (stands : Bool) : Instr := if stands then .alarmRaise k x else .alarmClear k x

theorem route?_levelMessage (k : AlarmKind) (x : Subject) (b : Bool) : route? (levelMessage k x b) = some (.alarm k x) := by
  cases b <;> rfl

theorem levelMessage_toAlarms (k : AlarmKind) (x : Subject) (b : Bool) : ToAlarms (levelMessage k x b) := by
  cases b <;> trivial

theorem byWay_cons (w : Route) (m : Instr) (ms : List Instr) :
    byWay w (m :: ms) = if route? m = some w then m :: byWay w ms else byWay w ms := by
  unfold byWay
  rw [List.filter_cons]
  exact if_congr beq_iff_eq rfl rfl

theorem byWay_flowLost (g : HpuId → Bool) (k : AlarmKind) (x : Subject) :
    byWay (.alarm k x) (allHpus.flatMap fun h => [levelMessage .flowLost (.hpu h) (g h)]) =
      match k, x with
      | .flowLost, .hpu h => [levelMessage .flowLost (.hpu h) (g h)]
      | _, _ => [] := by
  have each (h : HpuId) : byWay (.alarm k x) [levelMessage .flowLost (.hpu h) (g h)] =
      if AlarmKind.flowLost = k ∧ Subject.hpu h = x then [levelMessage .flowLost (.hpu h) (g h)] else [] := by
    rw [byWay_cons, route?_levelMessage]
    exact if_congr (by simp) rfl rfl
  rw [byWay_flatMap]
  simp only [each]
  split
  · next h =>
    exact (flatMap_single (List.nodup_finRange 4) (List.mem_finRange h) fun e _ ne => if_neg fun is => ne (Subject.hpu.inj is.2)).trans
      (if_pos ⟨rfl, rfl⟩)
  · next other => exact List.flatMap_eq_nil_iff.mpr fun h _ => if_neg fun is => other h is.1.symm is.2.symm

theorem supplyLost_eq (l : GroupLines) : supplyLost l = (l.mainSupply.primed && !l.mainSupply.filtered) := rfl

section
variable (s : State) (d : DoorId)

/-- The doors' own reports at a restart. -/
def State.doorReports : List Instr :=
  if (s.door d).present then
    [levelMessage .driftOpen (.door d) (s.door d).drifted,
      levelMessage .travelDrift (.door d) ((s.door d).travelsOff s.image.doors[d]), levelMessage .transitLong (.door d) false]
  else []

/-- The resolver's reports of a door at a restart. -/
def State.orderReports : List Instr :=
  if (s.door d).present then
    [.standingAuthorityReport d ((s.orders.register d false).due d), levelMessage .openInhibited (.door d) s.resolver.doors[d].mark]
  else []

/-- The recorder's report of a door at a restart. -/
def State.wearReports : List Instr :=
  if (s.door d).present then
    [levelMessage .wear (.door d) (s.recorder.doors[d].counters.exceeds s.image.group.wearThresholds)]
  else []

end

/-- What the blocks report at a restart, in the model's order (R140, entry 25). -/
def State.restartMessages (s : State) : List Instr :=
  allDoors.flatMap s.doorReports ++
  (allDoors.flatMap s.orderReports ++ [levelMessage .emergencyClose .group s.resolver.latch]) ++
  (allDoors.flatMap (fun d => [levelMessage .flowShort (.door d) false]) ++
    allHpus.flatMap (fun h => [levelMessage .flowLost (.hpu h) (flowLost s.image s.lines h)]) ++
    [levelMessage .onEmergencySupply .group (supplyLost s.lines)]) ++
  allDoors.flatMap s.wearReports ++
  [levelMessage .configDefault .group s.store.defaultLoaded] ++
  [levelMessage .addressFallback .group (!strapsGood s.straps), levelMessage .lineDegraded (.line .a) false,
    levelMessage .lineDegraded (.line .b) false, levelMessage .lineSilent (.line .a) false,
    levelMessage .lineSilent (.line .b) false, levelMessage .remoteLost .group false]

section
variable (s : State) (w : Route)

theorem about_levelMessage {k : AlarmKind} {d : DoorId} {b : Bool} :
    ∃ w, route? (levelMessage k (.door d) b) = some w ∧ w.doorOf = some d := ⟨_, route?_levelMessage _ _ _, rfl⟩

theorem byWay_doorReports : byWay w (allDoors.flatMap s.doorReports) = match w.doorOf with
    | some d => byWay w (s.doorReports d)
    | none => [] :=
  byWay_allDoors (fun d m hm => by
    unfold State.doorReports at hm
    split at hm
    · simp only [List.mem_cons, List.not_mem_nil, or_false] at hm
      rcases hm with rfl | rfl | rfl <;> exact about_levelMessage
    · cases hm) w

theorem byWay_orderReports : byWay w (allDoors.flatMap s.orderReports) = match w.doorOf with
    | some d => byWay w (s.orderReports d)
    | none => [] :=
  byWay_allDoors (fun d m hm => by
    unfold State.orderReports at hm
    split at hm
    · simp only [List.mem_cons, List.not_mem_nil, or_false] at hm
      rcases hm with rfl | rfl
      · exact ⟨_, rfl, rfl⟩
      · exact about_levelMessage
    · cases hm) w

theorem byWay_wearReports : byWay w (allDoors.flatMap s.wearReports) = match w.doorOf with
    | some d => byWay w (s.wearReports d)
    | none => [] :=
  byWay_allDoors (fun d m hm => by
    unfold State.wearReports at hm
    split at hm
    · rw [List.mem_singleton.mp hm]
      exact about_levelMessage
    · cases hm) w

theorem byWay_flowShort : byWay w (allDoors.flatMap fun d => [levelMessage .flowShort (.door d) false]) = match w.doorOf with
    | some d => byWay w [levelMessage .flowShort (.door d) false]
    | none => [] :=
  byWay_allDoors (fun d m hm => by
    rw [List.mem_singleton.mp hm]
    exact about_levelMessage) w

end

/-- The state whose conditions the owners report at a restart: the straps are read again (R165). -/
def State.owning (s : State) : State := { s with port := { s.port with fallback := !strapsGood s.straps } }

section
variable (s : State)

@[simp] theorem State.owning_door (d : DoorId) : s.owning.door d = s.door d := rfl

@[simp] theorem State.owning_image : s.owning.image = s.image := rfl

@[simp] theorem State.owning_resolver : s.owning.resolver = s.resolver := rfl

@[simp] theorem State.owning_recorder : s.owning.recorder = s.recorder := rfl

@[simp] theorem State.owning_lines : s.owning.lines = s.lines := rfl

@[simp] theorem State.owning_store : s.owning.store = s.store := rfl

@[simp] theorem State.owning_fallback : s.owning.port.fallback = !strapsGood s.straps := rfl

end

theorem Wear.exceeds_iff (w m : Wear) : w.exceeds m =
    decide (m.overtravel < w.overtravel ∨ m.switch < w.switch ∨ m.obstruction < w.obstruction ∨ m.drift < w.drift ∨ m.drive < w.drive) := by
  simp [Wear.exceeds, Bool.or_assoc]

theorem flowLost_iff (i : Image) (l : GroupLines) (h : HpuId) : flowLost i l h =
    (l.pressure[h].primed && !l.pressure[h].filtered && decide (∃ d : DoorId, i.doors[d].present = true ∧ i.doors[d].hpu = h)) := by
  rw [flowLost]
  have serves : (allDoors.any fun d => i.doors[d].present && i.doors[d].hpu == h) =
      decide (∃ d : DoorId, i.doors[d].present = true ∧ i.doors[d].hpu = h) := by
    rw [Bool.eq_iff_iff]
    simp [List.any_eq_true, mem_allDoors]
  rw [serves]

theorem route?_standingAuthorityReport (d : DoorId) (a : Standing) : route? (.standingAuthorityReport d a) = some (.toDoorTable d) := rfl

section
variable (s : State) (k : AlarmKind)

theorem byWay_restartMessages_door (d : DoorId) :
    byWay (.alarm k (.door d)) s.restartMessages = ((levelStands s.owning k (.door d)).map (levelMessage k (.door d))).toList := by
  unfold State.restartMessages
  simp only [byWay_append, byWay_doorReports, byWay_orderReports, byWay_wearReports, byWay_flowShort, byWay_flowLost, Route.doorOf]
  unfold State.doorReports State.orderReports State.wearReports
  cases present : (s.door d).present <;> cases k <;>
    simp [byWay_cons, byWay_nil, route?_levelMessage, route?_standingAuthorityReport, levelStands, present, Wear.exceeds_iff]
  refine congrArg (levelMessage _ _) ?_
  rw [Bool.eq_iff_iff]
  simp only [Bool.or_eq_true, decide_eq_true_eq]
  exact decide_eq_true_iff.symm

theorem byWay_restartMessages_hpu (h : HpuId) :
    byWay (.alarm k (.hpu h)) s.restartMessages = ((levelStands s.owning k (.hpu h)).map (levelMessage k (.hpu h))).toList := by
  unfold State.restartMessages
  simp only [byWay_append, byWay_doorReports, byWay_orderReports, byWay_wearReports, byWay_flowShort, byWay_flowLost, Route.doorOf]
  cases k <;> simp [byWay_cons, byWay_nil, route?_levelMessage, levelStands, flowLost_iff]
  congr

theorem byWay_restartMessages_group :
    byWay (.alarm k .group) s.restartMessages = ((levelStands s.owning k .group).map (levelMessage k .group)).toList := by
  unfold State.restartMessages
  simp only [byWay_append, byWay_doorReports, byWay_orderReports, byWay_wearReports, byWay_flowShort, byWay_flowLost, Route.doorOf]
  cases k <;> simp [byWay_cons, byWay_nil, route?_levelMessage, levelStands, supplyLost_eq]

theorem byWay_restartMessages_line (l : Line) :
    byWay (.alarm k (.line l)) s.restartMessages = ((levelStands s.owning k (.line l)).map (levelMessage k (.line l))).toList := by
  unfold State.restartMessages
  simp only [byWay_append, byWay_doorReports, byWay_orderReports, byWay_wearReports, byWay_flowShort, byWay_flowLost, Route.doorOf]
  cases k <;> cases l <;> simp [byWay_cons, byWay_nil, route?_levelMessage, levelStands]

/-- The owners report each LEVEL condition that they own once, and nothing else to the alarm list. -/
theorem byWay_restartMessages (x : Subject) :
    byWay (.alarm k x) s.restartMessages = ((levelStands s.owning k x).map (levelMessage k x)).toList := by
  cases x with
  | door d => exact byWay_restartMessages_door s k d
  | hpu h => exact byWay_restartMessages_hpu s k h
  | line l => exact byWay_restartMessages_line s k l
  | group => exact byWay_restartMessages_group s k

/-- The resolver reports to each present door its standing authority. -/
theorem byWay_restartMessages_orders (d : DoorId) :
    byWay (.toDoorTable d) s.restartMessages =
      if (s.door d).present then [.standingAuthorityReport d ((s.orders.register d false).due d)] else [] := by
  have flows : byWay (.toDoorTable d) (allHpus.flatMap fun h => [levelMessage .flowLost (.hpu h) (flowLost s.image s.lines h)]) = [] :=
    byWay_eq_nil.mpr fun m hm => by
      obtain ⟨h, -, hm⟩ := List.mem_flatMap.mp hm
      rw [List.mem_singleton.mp hm, route?_levelMessage]
      nofun
  unfold State.restartMessages
  simp only [byWay_append, byWay_doorReports, byWay_orderReports, byWay_wearReports, byWay_flowShort, flows, Route.doorOf]
  unfold State.doorReports State.orderReports State.wearReports
  cases present : (s.door d).present <;> simp [byWay_cons, byWay_nil, route?_levelMessage, route?_standingAuthorityReport]

/-- Each message of a restart goes to a present door or reports a condition. -/
theorem mem_restartMessages : ∀ m ∈ s.restartMessages, completes m = true ∧
    ((∃ d a, m = .standingAuthorityReport d a) ∨ ∃ k x b, m = levelMessage k x b) := by
  have level (k : AlarmKind) (x : Subject) (b : Bool) : completes (levelMessage k x b) = true ∧
      ((∃ d a, levelMessage k x b = .standingAuthorityReport d a) ∨ ∃ k' x' b', levelMessage k x b = levelMessage k' x' b') :=
    ⟨(levelMessage_toAlarms k x b).completes, .inr ⟨_, _, _, rfl⟩⟩
  intro m hm
  unfold State.restartMessages State.doorReports State.orderReports State.wearReports at hm
  simp only [List.mem_append, List.mem_flatMap, List.mem_ite_nil_right, List.mem_cons, List.not_mem_nil, or_false] at hm
  rcases hm with ((((⟨d, -, -, rfl | rfl | rfl⟩ | ⟨d, -, -, rfl | rfl⟩ | rfl) | (⟨d, -, rfl⟩ | ⟨h, -, rfl⟩) | rfl) | ⟨d, -, -, rfl⟩) | rfl) |
    rfl | rfl | rfl | rfl | rfl | rfl
  all_goals first | exact level _ _ _ | exact ⟨rfl, .inl ⟨_, _, rfl⟩⟩

end

end Sys2Proof.Machine

/-! The messages that the blocks make at a restart (R49, R87, R107, R120, R140, R161, R179). -/

namespace Sys2Proof.Machine

open Sys2Proof

/-- The recorder's part of a restart, door by door (R120). -/
theorem Log.restartDoor_perDoor (i : Image) :
    Log.PerDoor i Log.restartDoor
      (fun d x => if i.doors[d].present then { x with wear := x.counters.exceeds i.group.wearThresholds } else x)
      (fun d x => if i.doors[d].present then [levelMessage .wear (.door d) (x.counters.exceeds i.group.wearThresholds)] else []) := by
  rintro l d rfl
  unfold Log.restartDoor
  dsimp only
  cases present : l.image.doors[d].present with
  | false =>
    rw [if_neg nofun, if_neg nofun, if_neg nofun, Log.withDoor_self, List.append_nil]
  | true =>
    rw [if_pos rfl, if_pos rfl, if_pos rfl]
    rfl

theorem Log.restart_eq (l : Log) :
    ∃ records, l.restart = ⟨l.image, l.time, ⟨records, l.recorder.drive⟩,
        l.out ++ allDoors.flatMap fun d => if l.image.doors[d].present then
          [levelMessage .wear (.door d) ((l.door d).counters.exceeds l.image.group.wearThresholds)] else []⟩ ∧
      ∀ d : DoorId, records[d].capture = (l.door d).capture ∧ records[d].counters = (l.door d).counters := by
  obtain ⟨records, eq, doors⟩ := Log.foldl_perDoor (Log.restartDoor_perDoor l.image) allDoors l rfl nodup_allDoors
  refine ⟨records, eq, fun d => ?_⟩
  rw [doors, if_pos (mem_allDoors d)]
  split <;> exact ⟨rfl, rfl⟩

theorem Flow.restart_out (f : Flow) (l : GroupLines) :
    (f.restart l).out = f.out ++ (allDoors.flatMap (fun d => [levelMessage .flowShort (.door d) false]) ++
      allHpus.flatMap (fun h => [levelMessage .flowLost (.hpu h) (flowLost f.image l h)]) ++
      [levelMessage .onEmergencySupply .group (supplyLost l)]) := by
  unfold Flow.restart
  dsimp only
  rw [List.map_eq_flatMap, List.map_eq_flatMap, List.append_assoc, List.append_assoc, List.append_assoc]
  rfl

theorem Orders.restart_out {s : State} (presence : PresenceInv s) :
    (Orders.restart s.orders).out = allDoors.flatMap s.orderReports ++ [levelMessage .emergencyClose .group s.resolver.latch] := by
  obtain ⟨-, out, -⟩ := s.orders.restart_eq
  rw [out]
  show [] ++ allDoors.flatMap s.orders.restartMessages ++ _ = _
  rw [List.nil_append]
  refine congrArg (· ++ _) (List.flatMap_congr fun d _ => ?_)
  unfold Orders.restartMessages State.orderReports
  rw [(presence d).1]
  rfl

/-- What is on its way when the blocks have restarted. -/
theorem State.restartBlocks_inFlight (cause : StartCause) {s : State} (presence : PresenceInv s) :
    (s.restartBlocks cause).inFlight = s.discardMessages.inFlight ++ s.restartMessages := by
  have frame := State.restartBlocks_frame s
  have doors := State.doorEvents_inFlight (fun _ => Work.restart) nodup_allDoors s.discardMessages
  have reports : (allDoors.flatMap fun d => (s.discardMessages.worked d Work.restart).out) = allDoors.flatMap s.doorReports :=
    List.flatMap_congr fun d _ => (s.worked_restart d .none).2.2.2
  obtain ⟨records, log, -⟩ := s.log.restart_eq
  have logOut : (Log.restart s.log).out = allDoors.flatMap s.wearReports := by
    rw [log]
    refine (List.nil_append _).trans (List.flatMap_congr fun d _ => ?_)
    unfold State.wearReports
    rw [(presence d).1]
    rfl
  rw [State.restartBlocks_eq, State.restartRest_eq]
  dsimp only
  rw [frame.orders, frame.flow, frame.log, frame.lines, frame.store, frame.serial, frame.straps, doors, reports,
    Orders.restart_out presence, Flow.restart_out, logOut]
  unfold State.restartMessages
  have serial : (s.serial.restart s.straps cause).out =
      [levelMessage .addressFallback .group (!strapsGood s.straps), levelMessage .lineDegraded (.line .a) false,
        levelMessage .lineDegraded (.line .b) false, levelMessage .lineSilent (.line .a) false,
        levelMessage .lineSilent (.line .b) false, levelMessage .remoteLost .group false] := by
    show [] ++ (_ :: _) = _
    cases strapsGood s.straps <;> rfl
  rw [serial]
  show _ ++ ([] ++ _) ++ _ ++ _ ++ _ = _
  simp only [List.nil_append, List.append_assoc]
  rfl

end Sys2Proof.Machine

/-! What one report to the alarm list makes of the entry of its kind and subject, and that it leaves the others (R125 to R128). -/

namespace Sys2Proof.Machine

open Sys2Proof

section
variable {a : AlarmList} {i : Image} {k : AlarmKind} {x : Subject} {e : Entry}

/-- A well-formed list holds one entry of a key at most (R124). -/
theorem AlarmList.WellFormed.find_of_mem (h : a.WellFormed) (here : e ∈ a.entries) (key : e.key = (k, x)) : a.find k x = some e := by
  obtain ⟨-, distinct, -⟩ := h.keys
  cases found : a.find k x with
  | none => exact absurd (List.mem_map.mpr ⟨e, here, key⟩) (AlarmList.key_notMem_of_find_none found)
  | some e' =>
    have key' : e'.key = (k, x) := (e'.isOf_iff k x).mp (List.find?_some (p := fun e : Entry => e.isOf k x) found)
    exact congrArg some (List.inj_on_of_nodup_map distinct (List.mem_of_find?_eq_some found) here (key'.trans key.symm))

theorem AlarmList.mem_of_find (found : a.find k x = some e) : e ∈ a.entries ∧ e.key = (k, x) :=
  ⟨List.mem_of_find?_eq_some found, (e.isOf_iff k x).mp (List.find?_some (p := fun e : Entry => e.isOf k x) found)⟩

/-- An update of one key leaves the entries of the others. -/
theorem AlarmList.mem_update_other {f : Entry → Entry} (same : ∀ e, (f e).key = e.key) (other : e.key ≠ (k, x)) :
    e ∈ (a.update k x f).entries ↔ e ∈ a.entries := by
  rw [AlarmList.update, List.mem_map]
  constructor
  · rintro ⟨e', here, is⟩
    split at is
    · next own => exact absurd (is ▸ (same e').trans ((e'.isOf_iff k x).mp own)) other
    · exact is ▸ here
  · exact fun here => ⟨e, here, if_neg fun own => other ((e.isOf_iff k x).mp own)⟩

/-- The updated entry is the only one of its key. -/
theorem AlarmList.WellFormed.mem_update_own (h : a.WellFormed) {f : Entry → Entry}
    (found : a.find k x = some e) {e' : Entry} (key : e'.key = (k, x)) : e' ∈ (a.update k x f).entries ↔ e' = f e := by
  obtain ⟨here, own⟩ := AlarmList.mem_of_find found
  rw [AlarmList.update, List.mem_map]
  constructor
  · rintro ⟨e'', here', is⟩
    split at is
    · next own' =>
      have one := h.find_of_mem here' ((e''.isOf_iff k x).mp own')
      rw [found] at one
      cases one
      exact is.symm
    · next other => exact absurd ((e''.isOf_iff k x).mpr (is ▸ key)) other
  · rintro rfl
    exact ⟨e, here, if_pos ((e.isOf_iff k x).mpr own)⟩

theorem AlarmList.mem_remove : e ∈ (a.remove k x).entries ↔ e ∈ a.entries ∧ e.key ≠ (k, x) := by
  rw [AlarmList.remove, List.mem_filter, Bool.not_eq_true', ← Bool.not_eq_true, e.isOf_iff]

theorem AlarmList.evalOverflow_entries (t : GroupTime) (a : AlarmList) : (a.evalOverflow t).entries = a.entries := by
  unfold AlarmList.evalOverflow
  split
  · rfl
  · split
    · rfl
    · split <;> rfl

/-- What a report of a key makes of the list: entries of other keys stay, and those of its own are as it says. -/
structure AlarmList.Reported (k : AlarmKind) (x : Subject) (stands : Bool) (i : Image) (a a' : AlarmList) : Prop where
  others : ∀ e : Entry, e.key ≠ (k, x) → (e ∈ a'.entries ↔ e ∈ a.entries)
  own : ∀ e ∈ a'.entries, e.key = (k, x) → (e.state = .clearedUnack ↔ stands = false)
  found : ∀ e ∈ a'.entries, e.key = (k, x) →
    (∃ e' ∈ a.entries, e'.key = (k, x)) ∨ (stands = true ∧ (recordMaskable k && inKinds i.group.recordMask k) = false)
  enters : stands = true → (recordMaskable k && inKinds i.group.recordMask k) = false → absentSubject i x = false →
    (a.entries.length < listLimit ∨ ∃ e ∈ a.entries, e.key = (k, x)) → ∃ e ∈ a'.entries, e.key = (k, x)

theorem AlarmList.WellFormed.raise_reported (h : a.WellFormed) (t : GroupTime) (ordinary : k ≠ .listOverflow) :
    a.Reported k x true i (a.raise i t k x) := by
  unfold AlarmList.raise
  dsimp only
  rw [if_neg ordinary]
  split
  · next e found =>
    obtain ⟨here, own⟩ := AlarmList.mem_of_find found
    have stays (active : e.state ≠ .clearedUnack) : a.Reported k x true i a := by
      refine ⟨fun _ _ => Iff.rfl, fun e' here' key => ?_, fun e' here' key => .inl ⟨e', here', key⟩, fun _ _ _ _ => ⟨e, here, own⟩⟩
      have one := h.find_of_mem here' key
      rw [found] at one
      cases one
      exact iff_of_false active nofun
    split
    · next state =>
      have same := Entry.reraised_key i.group t
      have active : (e.reraised i.group t).state ≠ .clearedUnack := by
        unfold Entry.reraised
        rw [state]
        nofun
      refine ⟨fun e' other => AlarmList.mem_update_other same other, fun e' here' key => ?_, fun _ _ _ => .inl ⟨e, here, own⟩,
        fun _ _ _ _ => ⟨e.reraised i.group t, (h.mem_update_own found ((same e).trans own)).mpr rfl, (same e).trans own⟩⟩
      rw [(h.mem_update_own found key).mp here']
      exact iff_of_false active nofun
    · next state => exact stays (by rw [state]; nofun)
    · next state => exact stays (by rw [state]; nofun)
  · next fresh =>
    have none (e : Entry) (here : e ∈ a.entries) (key : e.key = (k, x)) : False :=
      AlarmList.key_notMem_of_find_none fresh (List.mem_map.mpr ⟨e, here, key⟩)
    split
    · next ignored =>
      refine ⟨fun _ _ => Iff.rfl, fun e here key => (none e here key).elim, fun e here key => (none e here key).elim,
        fun _ unmasked present _ => ?_⟩
      rw [unmasked, present] at ignored
      cases ignored
    · next taken =>
      split
      · next full =>
        refine ⟨fun _ _ => Iff.rfl, fun e here key => (none e here key).elim, fun e here key => (none e here key).elim,
          fun _ _ _ room => room.elim (fun room => absurd full (Nat.not_le.mpr room)) fun ⟨e, here, key⟩ => (none e here key).elim⟩
      · have mem (e : Entry) : e ∈ a.entries ++ [.new i.group t k x] ↔ e ∈ a.entries ∨ e = .new i.group t k x := by
          rw [List.mem_append, List.mem_singleton]
        refine ⟨fun e other => (mem e).trans (or_iff_left fun is => other (is ▸ rfl)), fun e here key => ?_, fun e here key => .inr ⟨rfl, ?_⟩,
          fun _ _ _ _ => ⟨.new i.group t k x, (mem _).mpr (.inr rfl), rfl⟩⟩
        · rw [((mem e).mp here).resolve_left fun here => none e here key]
          exact iff_of_false nofun nofun
        · rw [Bool.or_eq_true, not_or] at taken
          exact Bool.eq_false_iff.mpr taken.1

theorem AlarmList.WellFormed.conditionEnds_reported (h : a.WellFormed) (t : GroupTime) (ordinary : k ≠ .listOverflow) :
    a.Reported k x false i (a.conditionEnds i t k x) := by
  unfold AlarmList.conditionEnds
  dsimp only
  rw [if_neg ordinary]
  split
  · next fresh =>
    have none (e : Entry) (here : e ∈ a.entries) (key : e.key = (k, x)) : False :=
      AlarmList.key_notMem_of_find_none fresh (List.mem_map.mpr ⟨e, here, key⟩)
    exact ⟨fun _ _ => Iff.rfl, fun e here key => (none e here key).elim, fun e here key => (none e here key).elim, nofun⟩
  · next e found =>
    obtain ⟨here, own⟩ := AlarmList.mem_of_find found
    split
    · have same (e : Entry) : ({ e with state := .clearedUnack, last := t } : Entry).key = e.key := rfl
      refine ⟨fun e' other => AlarmList.mem_update_other same other, fun e' here' key => ?_, fun _ _ _ => .inl ⟨e, here, own⟩, nofun⟩
      rw [(h.mem_update_own found key).mp here']
      exact iff_of_true rfl rfl
    · have left : ((AlarmList.touched (a.remove k x)).evalOverflow t).entries = (a.remove k x).entries :=
        AlarmList.evalOverflow_entries t _
      refine ⟨fun e' other => ?_, fun e' here' key => ?_, fun _ _ _ => .inl ⟨e, here, own⟩, nofun⟩
      · show e' ∈ ((AlarmList.touched (a.remove k x)).evalOverflow t).entries ↔ _
        rw [left, AlarmList.mem_remove]
        exact and_iff_left other
      · have here'' : e' ∈ ((AlarmList.touched (a.remove k x)).evalOverflow t).entries := here'
        rw [left, AlarmList.mem_remove] at here''
        exact absurd key here''.2
    · next state =>
      refine ⟨fun _ _ => Iff.rfl, fun e' here' key => ?_, fun _ _ _ => .inl ⟨e, here, own⟩, nofun⟩
      have one := h.find_of_mem here' key
      rw [found] at one
      cases one
      exact iff_of_true state rfl

/-- A report to the alarm list taken (R125 to R128). -/
theorem AlarmList.Kept.taken_reported (h : a.Kept i.group.routedKinds) (t : GroupTime) {m : Instr} (way : route? m = some (.alarm k x))
    (ordinary : k ≠ .listOverflow) :
    (a.takeAll i t [m]).Kept i.group.routedKinds ∧ a.Reported k x (m == .alarmRaise k x) i (a.takeAll i t [m]) := by
  have list := h.wellFormed
  cases m <;> cases way
  case alarmRaise =>
    rw [beq_self_eq_true]
    exact ⟨h.raise t k x, list.raise_reported t ordinary⟩
  case alarmClear => exact ⟨h.conditionEnds t k x, list.conditionEnds_reported t ordinary⟩
  case alarmResetCondition => exact ⟨h.conditionEnds t k x, list.conditionEnds_reported t ordinary⟩

end

end Sys2Proof.Machine

/-! The alarm list while the reports of a restart are taken (R125 to R128, R140). -/

namespace Sys2Proof.Machine

open Sys2Proof

/-- Whether the record mask excludes a kind (R125, R132). -/
def recordMasked (i : Image) (k : AlarmKind) : Bool := recordMaskable k && inKinds i.group.recordMask k

/-- A list in which the last report of a condition has been taken: its entry is as the condition stands, and one that stands has an
entry where there is room for `keys`. -/
structure AlarmList.Follows (i : Image) (keys : List (AlarmKind × Subject)) (k : AlarmKind) (x : Subject) (stands : Bool) (a : AlarmList) :
    Prop where
  state : ∀ e ∈ a.entries, e.key = (k, x) → (e.state = .clearedUnack ↔ stands = false)
  entered : stands = true → recordMasked i k = false → keys.length ≤ listLimit → ∃ e ∈ a.entries, e.key = (k, x)

/-- The alarm list, behind the list `first`, while one report of each condition is to be taken, with what is older on its way: no entry
of another kind has changed, only `keys` can be entered, and each condition is still to be reported or the list follows it. -/
structure AlarmsGoing (i : Image) (stands : AlarmKind → Subject → Option Bool) (first : AlarmList) (keys : List (AlarmKind × Subject))
    (ms : List Instr) (a : AlarmList) : Prop where
  kept : a.Kept i.group.routedKinds
  latched : ∀ e : Entry, e.kind.latched = true → (e ∈ a.entries ↔ e ∈ first.entries)
  bound : ∀ e ∈ a.entries, e.key ∈ keys
  raises : ∀ k x, .alarmRaise k x ∈ byWay (.alarm k x) ms → recordMasked i k = false → (k, x) ∈ keys
  each : ∀ k x b, stands k x = some b → (∃ older, byWay (.alarm k x) ms = older ++ [levelMessage k x b]) ∨
    byWay (.alarm k x) ms = [] ∧ a.Follows i keys k x b

/-- Conditions of LEVEL kinds, none of them the list's own, that stand for no ABSENT subject. -/
def Owned (i : Image) (stands : AlarmKind → Subject → Option Bool) : Prop :=
  ∀ k x b, stands k x = some b → k.latched = false ∧ k ≠ .listOverflow ∧ (b = true → absentSubject i x = false)

section
variable {i : Image} {stands : AlarmKind → Subject → Option Bool} {first a : AlarmList} {keys : List (AlarmKind × Subject)}
  {ms : List Instr}

theorem AlarmsGoing.of_ways {ms' : List Instr} (h : AlarmsGoing i stands first keys ms a)
    (ways : ∀ k x, byWay (.alarm k x) ms' = byWay (.alarm k x) ms) : AlarmsGoing i stands first keys ms' a where
  kept := h.kept
  latched := h.latched
  bound := h.bound
  raises k x := by
    rw [ways]
    exact h.raises k x
  each k x b := by
    rw [ways]
    exact h.each k x b

/-- What is not entered leaves room for itself. -/
theorem AlarmList.Kept.room (h : a.Kept i.group.routedKinds) (bound : ∀ e ∈ a.entries, e.key ∈ keys) {k : AlarmKind} {x : Subject}
    (own : (k, x) ∈ keys) (short : keys.length ≤ listLimit) : a.entries.length < listLimit ∨ ∃ e ∈ a.entries, e.key = (k, x) := by
  by_cases here : ∃ e ∈ a.entries, e.key = (k, x)
  · exact .inr here
  obtain ⟨-, distinct, -⟩ := h.wellFormed.keys
  have fresh : (k, x) ∉ a.entries.map Entry.key := fun is => by
    obtain ⟨e, mem, key⟩ := List.mem_map.mp is
    exact here ⟨e, mem, key⟩
  have sub : (k, x) :: a.entries.map Entry.key ⊆ keys := List.cons_subset.mpr ⟨own, fun y hy => by
    obtain ⟨e, mem, rfl⟩ := List.mem_map.mp hy
    exact bound e mem⟩
  have length := (List.subperm_of_subset (List.nodup_cons.mpr ⟨fresh, distinct⟩) sub).length_le
  rw [List.length_cons, List.length_map] at length
  exact .inl (by omega)

theorem levelMessage_raises (k : AlarmKind) (x : Subject) (b : Bool) : (levelMessage k x b == .alarmRaise k x) = b := by
  cases b
  · exact beq_false_of_ne nofun
  · exact beq_self_eq_true _

theorem AlarmList.Follows.of_others {k : AlarmKind} {x : Subject} {b : Bool} {a' : AlarmList} (h : a.Follows i keys k x b)
    (same : ∀ e : Entry, e.key = (k, x) → (e ∈ a'.entries ↔ e ∈ a.entries)) : a'.Follows i keys k x b where
  state e here key := h.state e ((same e key).mp here) key
  entered on unmasked room := by
    obtain ⟨e, here, key⟩ := h.entered on unmasked room
    exact ⟨e, (same e key).mpr here, key⟩

/-- The oldest report of a condition taken. -/
theorem AlarmsGoing.take (h : AlarmsGoing i stands first keys ms a) (owned : Owned i stands) {k : AlarmKind} {x : Subject} {b : Bool}
    (on : stands k x = some b) {m : Instr} {rest : List Instr} (head : byWay (.alarm k x) ms = m :: rest) (t : GroupTime) :
    AlarmsGoing i stands first keys (ms.erase m) (a.takeAll i t [m]) := by
  obtain ⟨level, ordinary, present⟩ := owned k x b on
  obtain ⟨here, way⟩ := mem_byWay.mp (head ▸ List.mem_cons_self)
  obtain ⟨kept, reported⟩ := h.kept.taken_reported t way ordinary
  have own := byWay_erase_first head
  have other {k' : AlarmKind} {x' : Subject} (ne : (k', x') ≠ (k, x)) : byWay (.alarm k' x') (ms.erase m) = byWay (.alarm k' x') ms :=
    byWay_erase_other (by
      rw [way]
      rintro ⟨⟩
      exact ne rfl) ms
  have raised (is : (m == Instr.alarmRaise k x) = true) (unmasked : recordMasked i k = false) : (k, x) ∈ keys := by
    have eq := eq_of_beq is
    subst eq
    exact h.raises k x (head ▸ List.mem_cons_self) unmasked
  refine ⟨kept, fun e latched => ?_, fun e he => ?_, fun k' x' raise unmasked => ?_, fun k' x' b' on' => ?_⟩
  · rw [reported.others e fun key => ?_]
    · exact h.latched e latched
    · have kind : e.kind = k := congrArg Prod.fst key
      rw [kind, level] at latched
      cases latched
  · by_cases key : e.key = (k, x)
    · rcases reported.found e he key with ⟨e', he', key'⟩ | ⟨is, unmasked⟩
      · exact key.trans key'.symm ▸ h.bound e' he'
      · exact key ▸ raised is unmasked
    · exact h.bound e ((reported.others e key).mp he)
  · refine h.raises k' x' ?_ unmasked
    obtain ⟨mem, way'⟩ := mem_byWay.mp raise
    exact mem_byWay.mpr ⟨List.mem_of_mem_erase mem, way'⟩
  · by_cases is : (k', x') = (k, x)
    · cases is
      rw [on] at on'
      cases on'
      rcases h.each k x b on with ⟨older, eq⟩ | ⟨none, -⟩
      · rw [head] at eq
        rw [own]
        cases older with
        | cons y ys =>
          rw [List.cons_append, List.cons.injEq] at eq
          exact .inl ⟨ys, eq.2⟩
        | nil =>
          rw [List.nil_append, List.cons.injEq] at eq
          obtain ⟨is, last⟩ := eq
          have raises : (m == Instr.alarmRaise k x) = b := by rw [is, levelMessage_raises]
          rw [raises] at raised reported
          exact .inr ⟨last, reported.own, fun on unmasked short =>
            reported.enters on unmasked (present on) (h.kept.room h.bound (raised on unmasked) short)⟩
      · rw [head] at none
        cases none
    · rw [other is]
      exact (h.each k' x' b' on').imp_right fun ⟨over_, follows⟩ =>
        ⟨over_, follows.of_others fun e key => reported.others e fun key' => is (key.symm.trans key')⟩

end

end Sys2Proof.Machine

/-! The state in the course of a restart, while the reports that the blocks have made are taken (R49, R87, R140). -/

namespace Sys2Proof.Machine

open Sys2Proof

/-- Nothing has changed but doors, the alarm list and the messages on their way. -/
structure DoorsAndAlarms (s t : State) : Prop extends CompletionFrame s t where
  resolver : t.resolver = s.resolver
  recorder : t.recorder = s.recorder
  port : t.port = s.port

theorem DoorsAndAlarms.trans {s t u : State} (h : DoorsAndAlarms s t) (k : DoorsAndAlarms t u) : DoorsAndAlarms s u where
  lines := k.lines.trans h.lines
  straps := k.straps.trans h.straps
  alloc := k.alloc.trans h.alloc
  store := k.store.trans h.store
  time := k.time.trans h.time
  pending := k.pending.trans h.pending
  freeDraws := k.freeDraws.trans h.freeDraws
  resolver := k.resolver.trans h.resolver
  recorder := k.recorder.trans h.recorder
  port := k.port.trans h.port

theorem DoorsAndAlarms.refl (s : State) : DoorsAndAlarms s s := ⟨⟨rfl, rfl, rfl, rfl, rfl, rfl, rfl⟩, rfl, rfl, rfl⟩

section
variable (s : State)

/-- The standing authority that the resolver reports to a door at a restart (R87). -/
def State.restartStanding (d : DoorId) : Standing := (s.orders.register d false).due d

/-- A door's record after a restart, its standing authority taken, before R21 (R49). -/
def State.restartedDoor (d : DoorId) : Door := (s.door d).restarted s.image d (s.channel d) (s.restartStanding d)

/-- What R21 makes of a restarted door. -/
def State.restartedMoves (d : DoorId) : List Instr := proceedMessages s.image d (s.channel d) (s.restartedDoor d)

/-- The conditions of LEVEL kinds that stand after a restart. -/
def State.restartStands : AlarmKind → Subject → Option Bool := levelStands s.owning

end

/-- A door in the course of a restart: its standing authority still on its way, or taken, with R21 looked at. -/
def DoorGoing (s t : State) (d : DoorId) : Prop :=
  byWay (.toDoorTable d) t.inFlight = [.standingAuthorityReport d (s.restartStanding d)] ∧ (s.door d).present = true ∧
      (t.door d).still = Door.still { s.restartedDoor d with standing := (s.door d).standing } ∨
    byWay (.toDoorTable d) t.inFlight = [] ∧ (t.door d).still = ((s.restartedDoor d).proceeds s.image (s.channel d)).still

/-- The state in the course of a restart, `s` being the state before it and `s₁` the one that the blocks have left. -/
structure RestartGoing (s s₁ : State) (keys : List (AlarmKind × Subject)) (t : State) : Prop where
  frame : DoorsAndAlarms s₁ t
  alarms : AlarmsGoing s.image s.restartStands s.alarms keys t.inFlight t.alarms
  changed : ∀ d, (t.door d).changed = true
  drives : ∀ d, Drives (s.channel d) (t.channel d) false false
  doors : ∀ d, DoorGoing s t d
  discarded : ∀ m, discardedAtRestart m = true → (∀ d, route? m ≠ some (.toDoorTable d)) →
    (m ∈ t.inFlight ↔ ∃ d, byWay (.toDoorTable d) t.inFlight = [] ∧ m ∈ s.restartedMoves d)
  notices : ∀ d, .openHandleReleaseNotice d ∈ t.inFlight ↔ .openHandleReleaseNotice d ∈ s.inFlight

section
variable {s : State} {d : DoorId} {m : Instr}

/-- All that R21 can make is the JOIN of a close. -/
theorem State.mem_restartedMoves (h : m ∈ s.restartedMoves d) : m = .join d .cls := by
  rcases proceedMessages_eq s.image d (s.channel d) (s.restartedDoor d) with none | one
  · exact absurd h (by rw [State.restartedMoves, none]; exact List.not_mem_nil)
  · rw [State.restartedMoves, one] at h
    exact List.mem_singleton.mp h

theorem byWay_restartedMoves {w : Route} (other : w ≠ .toAllocator d) : byWay w (s.restartedMoves d) = [] :=
  byWay_eq_nil.mpr fun m hm way => by
    rw [State.mem_restartedMoves hm] at way
    exact other (Option.some.inj way).symm

theorem mem_erase_other (x m : Instr) (ms : List Instr) (other : route? x ≠ route? m) : x ∈ ms.erase m ↔ x ∈ ms :=
  List.mem_erase_of_ne fun is => other (congrArg route? is)

theorem discarded_route (dropped : discardedAtRestart m = true) (k : AlarmKind) (x : Subject) : route? m ≠ some (.alarm k x) := by
  intro way
  have reports := toAlarms_of_route way
  cases m <;> first | (cases reports; done) | cases dropped

theorem levelStands_owned (presence : PresenceInv s) : Owned s.image s.restartStands := by
  intro k x b on
  have door (d : DoorId) (present : (s.door d).present = true) : absentSubject s.image (.door d) = false := by
    show (!s.image.doors[d].present) = false
    rw [← (presence d).1, present]
    rfl
  unfold State.restartStands levelStands at on
  split at on
  case h_1 | h_2 | h_3 | h_4 | h_5 =>
    rw [State.owning_door] at on
    exact ⟨rfl, nofun, fun _ => door _ (Option.ite_none_right_eq_some.mp on).1⟩
  case h_6 => exact ⟨rfl, nofun, fun is => by cases on; cases is⟩
  case h_15 => cases on
  all_goals exact ⟨rfl, nofun, fun _ => rfl⟩

end

section
variable {s s₁ t : State} {keys : List (AlarmKind × Subject)} {m : Instr}

/-- The report of its standing authority taken by a restarted door. -/
theorem RestartGoing.take_order (h : RestartGoing s s₁ keys t) (presence : PresenceInv s) (image : s₁.image = s.image) {d : DoorId}
    {rest : List Instr} (head : byWay (.toDoorTable d) t.inFlight = m :: rest) :
    RestartGoing s s₁ keys (t.deliver m) ∧ (t.deliver m).inFlight = t.inFlight.erase m ++ s.restartedMoves d := by
  have going := h.doors d
  unfold DoorGoing at going
  rw [head] at going
  obtain ⟨only, present, record⟩ := going.resolve_right fun h => nomatch h.1
  rw [List.cons.injEq] at only
  obtain ⟨rfl, rfl⟩ := only
  have way : route? (.standingAuthorityReport d (s.restartStanding d)) = some (.toDoorTable d) := rfl
  obtain ⟨u, is⟩ : ∃ u, u = t.taking (.standingAuthorityReport d (s.restartStanding d)) := ⟨_, rfl⟩
  have sameImage : u.image = s.image := by
    rw [is]
    exact (congrArg Store.active h.frame.store).trans image
  have others (e : DoorId) : u.door e = t.door e ∧ u.channel e = t.channel e := by
    rw [is]
    exact ⟨rfl, rfl⟩
  obtain ⟨sameDoor, sameChannel⟩ := others d
  have here : (s.door d).motion ≠ .absent := fun absent => by
    rw [(presence d).2.mp absent] at present
    cases present
  obtain ⟨still, changed, drives, out⟩ := State.worked_order_restarted (t := u) sameImage
    (sameDoor ▸ record) (sameDoor ▸ h.changed d) (sameChannel ▸ h.drives d) present here
  have delivers : t.deliver (.standingAuthorityReport d (s.restartStanding d)) = u.doorEvent u d fun w => w.order (s.restartStanding d) := by
    rw [is]
    rfl
  have left := byWay_erase_first head
  have taken : u.inFlight = t.inFlight.erase (.standingAuthorityReport d (s.restartStanding d)) := by
    rw [is]
    rfl
  have flight : (u.doorEvent u d fun w => w.order (s.restartStanding d)).inFlight =
      t.inFlight.erase (.standingAuthorityReport d (s.restartStanding d)) ++ s.restartedMoves d := by
    show u.inFlight ++ _ = _
    rw [taken]
    exact congrArg _ out
  have only := u.doorEvent_onlyDoor u d fun w => w.order (s.restartStanding d)
  have frame : DoorsAndAlarms t u := by
    rw [is]
    exact ⟨⟨rfl, rfl, rfl, rfl, rfl, rfl, rfl⟩, rfl, rfl, rfl⟩
  have own := (State.doorEvent_door u u d fun w => w.order (s.restartStanding d) :)
  have ownChannel := (State.doorEvent_channel u u d fun w => w.order (s.restartStanding d) :)
  have ways (e : DoorId) : byWay (.toDoorTable e)
      (t.inFlight.erase (.standingAuthorityReport d (s.restartStanding d)) ++ s.restartedMoves d) =
      if e = d then [] else byWay (.toDoorTable e) t.inFlight := by
    rw [byWay_append, byWay_restartedMoves (w := .toDoorTable e) (d := d) nofun, List.append_nil]
    split
    · next same => rw [same, left]
    · next other => exact byWay_erase_other (fun h => other (Route.toDoorTable.inj (Option.some.inj (way.symm.trans h))).symm) _
  have pending : byWay (.toDoorTable d) t.inFlight ≠ [] := by
    rw [head]
    nofun
  rw [delivers]
  refine ⟨⟨h.frame.trans (frame.trans ⟨⟨only.lines, only.straps, only.alloc, only.store, only.time, only.pending, only.freeDraws⟩,
    only.resolver, only.recorder, only.port⟩), ?_, fun e => ?_, fun e => ?_, fun e => ?_, fun x dropped other => ?_, fun e => ?_⟩, flight⟩
  · rw [flight, only.alarms, is]
    refine h.alarms.of_ways fun k x => ?_
    rw [byWay_append, byWay_restartedMoves (w := .alarm k x) (d := d) nofun, List.append_nil]
    exact byWay_erase_other (by rw [way]; nofun) _
  · by_cases same : e = d
    · subst same
      rw [own]
      exact changed
    · rw [only.doors e same, (others e).1]
      exact h.changed e
  · by_cases same : e = d
    · subst same
      rw [ownChannel]
      exact drives
    · rw [only.channels e same, (others e).2]
      exact h.drives e
  · unfold DoorGoing
    rw [flight, ways]
    by_cases same : e = d
    · subst same
      rw [if_pos rfl, own]
      exact .inr ⟨rfl, still⟩
    · rw [if_neg same, only.doors e same, (others e).1]
      exact h.doors e
  · rw [flight, List.mem_append, mem_erase_other x _ _ (fun is => other d (is.trans way)), h.discarded x dropped other]
    simp only [ways]
    constructor
    · rintro (⟨e, done, here⟩ | here)
      · exact ⟨e, by split <;> trivial, here⟩
      · exact ⟨d, if_pos rfl, here⟩
    · rintro ⟨e, done, here⟩
      by_cases same : e = d
      · exact .inr (same ▸ here)
      · rw [if_neg same] at done
        exact .inl ⟨e, done, here⟩
  · rw [flight, List.mem_append, mem_erase_other (.openHandleReleaseNotice e) (.standingAuthorityReport d _) _ nofun, h.notices e]
    exact or_iff_left fun made => nomatch State.mem_restartedMoves made

/-- A report of a condition taken by the alarm list in the course of a restart. -/
theorem RestartGoing.take_alarm (h : RestartGoing s s₁ keys t) (presence : PresenceInv s) (image : s₁.image = s.image) {k : AlarmKind}
    {x : Subject} {b : Bool} (on : s.restartStands k x = some b) {rest : List Instr} (head : byWay (.alarm k x) t.inFlight = m :: rest) :
    RestartGoing s s₁ keys (t.deliver m) ∧ (t.deliver m).inFlight = t.inFlight.erase m := by
  obtain ⟨here, way⟩ := mem_byWay.mp (head ▸ List.mem_cons_self)
  have sameImage : t.image = s.image := (congrArg Store.active h.frame.store).trans image
  have same (e : DoorId) : byWay (.toDoorTable e) (t.inFlight.erase m) = byWay (.toDoorTable e) t.inFlight :=
    byWay_erase_other (by rw [way]; nofun) _
  have alarms := h.alarms.take (levelStands_owned presence) on head t.time
  rw [← sameImage] at alarms
  rw [State.deliver_alarm (toAlarms_of_route way)]
  refine ⟨⟨h.frame.trans ⟨⟨rfl, rfl, rfl, rfl, rfl, rfl, rfl⟩, rfl, rfl, rfl⟩, sameImage ▸ alarms, h.changed, h.drives, fun e => ?_,
    fun y dropped other => ?_, fun e => ?_⟩, rfl⟩
  · have going := h.doors e
    unfold DoorGoing at going ⊢
    rw [← same] at going
    exact going
  · show y ∈ t.inFlight.erase m ↔ ∃ d, byWay (.toDoorTable d) (t.inFlight.erase m) = [] ∧ _
    simp only [same]
    rw [mem_erase_other y m _ fun is => ?_]
    · exact h.discarded y dropped other
    · rw [way] at is
      exact discarded_route dropped k x is
  · show Instr.openHandleReleaseNotice e ∈ t.inFlight.erase m ↔ _
    rw [mem_erase_other _ m _ (by rw [way]; nofun)]
    exact h.notices e

end

end Sys2Proof.Machine

/-! The state that the blocks have left at a restart, and the one in which all their reports have been taken (R140, R179). -/

namespace Sys2Proof.Machine

open Sys2Proof

/-! ### The keys that a restart can enter -/

/-- Whether a condition of a LEVEL kind is entered at a restart (R125, R140). -/
def State.enters (s : State) (k : AlarmKind) (x : Subject) : Bool := s.restartStands k x == some true && !recordMasked s.image k

/-- What a raise raises. -/
def raisedKey? : Instr → Option (AlarmKind × Subject)
  | .alarmRaise k x => some (k, x)
  | _ => none

/-- The keys of the list, of the conditions that a restart enters anew, and of the raises on their way. -/
def State.restartKeys (s : State) : List (AlarmKind × Subject) :=
  s.alarms.entries.map Entry.key ++
    (allAlarmKinds.flatMap fun k => (allSubjects.filter fun x => s.enters k x && !s.alarms.entries.any (·.isOf k x)).map (Prod.mk k)) ++
    s.inFlight.filterMap raisedKey?

theorem restartEntries_eq {s t : State} (enters : ∀ k x, restartEnters t k x = s.enters k x) :
    s.alarms.entries.length + restartEntries s t = s.restartKeys.length := by
  have raises : (fun m : Instr => (raisedKey? m).isSome) = fun m => match m with | .alarmRaise .. => true | _ => false := by
    funext m
    cases m <;> rfl
  unfold restartEntries State.restartKeys
  simp only [enters, List.length_append, List.length_map, List.length_flatMap, List.length_filterMap_eq_countP, List.countP_eq_length_filter]
  rw [raises]
  exact (Nat.add_assoc _ _ _).symm

theorem mem_allSubjects (x : Subject) : x ∈ allSubjects := by
  unfold allSubjects
  cases x with
  | group => simp
  | line l => cases l <;> simp
  | hpu h => simp [allHpus]
  | door d => simp [mem_allDoors]

theorem mem_allAlarmKinds (k : AlarmKind) : k ∈ allAlarmKinds := by cases k <;> decide

section
variable (s : State)

theorem State.mem_restartKeys_of_enters {k : AlarmKind} {x : Subject} (enters : s.enters k x = true) : (k, x) ∈ s.restartKeys := by
  unfold State.restartKeys
  rw [List.mem_append, List.mem_append]
  cases held : s.alarms.entries.any (·.isOf k x) with
  | true =>
    obtain ⟨e, here, own⟩ := List.any_eq_true.mp held
    exact .inl (.inl (List.mem_map.mpr ⟨e, here, (e.isOf_iff k x).mp own⟩))
  | false =>
    refine .inl (.inr (List.mem_flatMap.mpr ⟨k, mem_allAlarmKinds k,
      List.mem_map.mpr ⟨x, List.mem_filter.mpr ⟨mem_allSubjects x, ?_⟩, rfl⟩⟩))
    rw [enters, held]
    rfl

theorem State.mem_restartKeys_of_raise {k : AlarmKind} {x : Subject} (raise : .alarmRaise k x ∈ s.inFlight) : (k, x) ∈ s.restartKeys :=
  List.mem_append_right _ (List.mem_filterMap.mpr ⟨_, raise, rfl⟩)

/-! ### The messages that the blocks leave -/

theorem mem_discardMessages {m : Instr} : m ∈ s.discardMessages.inFlight ↔ m ∈ s.inFlight ∧ discardedAtRestart m = false := by
  show m ∈ s.inFlight.filter _ ↔ _
  rw [List.mem_filter, Bool.not_eq_true']

theorem byWay_discardMessages (d : DoorId) : byWay (.toDoorTable d) s.discardMessages.inFlight = [] :=
  byWay_eq_nil.mpr fun m hm way => by
    have kept := ((mem_discardMessages s).mp hm).2
    cases m <;> first | (cases way; done) | cases kept

/-- The ways on which the blocks report at a restart. -/
def State.restartWays : List Route := s.restartMessages.filterMap route?

theorem mem_restartWays {w : Route} : w ∈ s.restartWays ↔ byWay w s.restartMessages ≠ [] := by
  unfold State.restartWays
  rw [List.mem_filterMap, ne_eq, byWay_eq_nil]
  simp

/-- Each way of a restart's reports is that of a present door, or of a condition. -/
theorem restartWays_cases {w : Route} (hw : w ∈ s.restartWays) :
    (∃ d, w = .toDoorTable d ∧ (s.door d).present = true) ∨ ∃ k x b, w = .alarm k x ∧ s.restartStands k x = some b := by
  have some_ := (mem_restartWays s).mp hw
  obtain ⟨m, hm, way⟩ := List.mem_filterMap.mp hw
  obtain ⟨-, ⟨d, a, rfl⟩ | ⟨k, x, b, rfl⟩⟩ := mem_restartMessages s m hm
  · cases way
    rw [byWay_restartMessages_orders] at some_
    exact .inl ⟨d, rfl, by_contra fun absent => some_ (if_neg absent)⟩
  · rw [route?_levelMessage] at way
    cases way
    rw [byWay_restartMessages] at some_
    cases stands : levelStands s.owning k x with
    | none => exact absurd (by rw [stands]; rfl) some_
    | some b => exact .inr ⟨k, x, b, rfl, stands⟩

theorem restartWays_door {d : DoorId} (present : (s.door d).present = true) : .toDoorTable d ∈ s.restartWays := by
  rw [mem_restartWays, byWay_restartMessages_orders, if_pos present]
  nofun

theorem restartWays_alarm {k : AlarmKind} {x : Subject} {b : Bool} (stands : s.restartStands k x = some b) : .alarm k x ∈ s.restartWays := by
  have is : levelStands s.owning k x = some b := stands
  rw [mem_restartWays, byWay_restartMessages, is]
  nofun

theorem restartMessages_oneByEach : OneByEach s.restartWays s.discardMessages.inFlight s.restartMessages where
  ways m hm _ := goesBy_iff.mpr (by
    obtain ⟨-, ⟨d, a, rfl⟩ | ⟨k, x, b, rfl⟩⟩ := mem_restartMessages s m hm
    · exact ⟨_, List.mem_filterMap.mpr ⟨_, hm, rfl⟩, rfl⟩
    · exact ⟨_, List.mem_filterMap.mpr ⟨_, hm, route?_levelMessage k x b⟩, route?_levelMessage k x b⟩)
  each w hw := .inl (by
    rcases restartWays_cases s hw with ⟨d, rfl, present⟩ | ⟨k, x, b, rfl, stands⟩
    · exact ⟨_, rfl, (byWay_restartMessages_orders s d).trans (if_pos present)⟩
    · have is : levelStands s.owning k x = some b := stands
      exact ⟨_, (levelMessage_toAlarms k x b).completes, (byWay_restartMessages s k x).trans (by rw [is]; rfl)⟩)

/-! ### The state that the blocks leave -/

variable {s} (cause : StartCause)

theorem Door.due_of_absent {r : Door} (absent : r.motion = .absent) : r.due = false :=
  Door.due_of_motion (by rw [absent]; nofun) (by rw [absent]; nofun)

/-- A restart leaves an ABSENT door at rest, with the standing authority that it had. -/
theorem restartedDoor_absent (presence : PresenceInv s) {d : DoorId} (absent : (s.door d).present = false) :
    (s.restartedDoor d).due = false ∧ { s.restartedDoor d with standing := (s.door d).standing } = s.restartedDoor d := by
  obtain ⟨-, -, -, -, -, motion⟩ := Door.restarted_keeps s.image d (s.channel d) (s.restartStanding d) (s.door d)
  refine ⟨Door.due_of_absent (motion.mpr ((presence d).2.mpr absent)), ?_⟩
  have standing : (s.restartedDoor d).standing = (s.door d).standing := by
    show (if (s.door d).present = false then _ else _) = _
    rw [if_pos absent]
  rw [← standing]

theorem restartBlocks_going (presence : PresenceInv s) (inv : AlarmInv s) :
    RestartGoing s (s.restartBlocks cause) s.restartKeys (s.restartBlocks cause) := by
  have flight := s.restartBlocks_inFlight cause presence
  have orders (d : DoorId) : byWay (.toDoorTable d) (s.restartBlocks cause).inFlight =
      if (s.door d).present then [.standingAuthorityReport d (s.restartStanding d)] else [] := by
    rw [flight, byWay_append, byWay_discardMessages, byWay_restartMessages_orders]
    rfl
  have levels (k : AlarmKind) (x : Subject) : byWay (.alarm k x) (s.restartBlocks cause).inFlight =
      byWay (.alarm k x) s.discardMessages.inFlight ++ ((s.restartStands k x).map (levelMessage k x)).toList := by
    rw [flight, byWay_append, byWay_restartMessages]
    rfl
  have doors (d : DoorId) := State.restartBlocks_door cause s d
  have worked (d : DoorId) := s.worked_restart d (s.restartStanding d)
  refine ⟨.refl _, ?_, fun d => ?_, fun d => ?_, fun d => ?_, fun m dropped other => ?_, fun d => ?_⟩
  · rw [State.restartBlocks_alarms]
    refine ⟨(alarmInv_iff s).mp inv, fun _ _ => Iff.rfl, fun e here => ?_, fun k x raise unmasked => ?_, fun k x b stands => .inl ?_⟩
    · exact List.mem_append_left _ (List.mem_append_left _ (List.mem_map_of_mem here))
    · rw [levels, List.mem_append] at raise
      rcases raise with old | new
      · exact s.mem_restartKeys_of_raise ((mem_discardMessages s).mp (mem_byWay.mp old).1).1
      · refine s.mem_restartKeys_of_enters ?_
        cases stands : s.restartStands k x with
        | none =>
          rw [stands] at new
          cases new
        | some b =>
          rw [stands] at new
          cases b with
          | false => cases List.mem_singleton.mp new
          | true =>
            unfold State.enters
            rw [stands, unmasked]
            rfl
    · rw [levels, stands]
      exact ⟨_, rfl⟩
  · rw [(doors d).1]
    exact (worked d).2.1
  · rw [(doors d).2]
    exact (worked d).2.2.1
  · unfold DoorGoing
    rw [orders, (doors d).1]
    have still := (worked d).1
    cases present : (s.door d).present with
    | true => exact .inl ⟨rfl, rfl, still⟩
    | false =>
      obtain ⟨idle, same⟩ := restartedDoor_absent presence present
      rw [Door.proceeds_of_not_due _ _ idle, ← same]
      exact .inr ⟨rfl, still⟩
  · refine iff_of_false (fun here => ?_) fun ⟨d, done, here⟩ => ?_
    · rw [flight, List.mem_append, mem_discardMessages] at here
      rcases here with ⟨-, kept⟩ | made
      · rw [dropped] at kept
        cases kept
      · obtain ⟨-, ⟨d, a, rfl⟩ | ⟨k, x, b, rfl⟩⟩ := mem_restartMessages s m made
        · exact other d rfl
        · exact discarded_route dropped k x (route?_levelMessage k x b)
    · rw [orders] at done
      cases present : (s.door d).present with
      | true =>
        rw [present] at done
        cases done
      | false =>
        rw [State.restartedMoves, proceedMessages_of_not_due _ _ _ (restartedDoor_absent presence present).1] at here
        cases here
  · rw [flight, List.mem_append, mem_discardMessages]
    refine (or_iff_left fun made => ?_).trans (and_iff_left rfl)
    obtain ⟨-, ⟨d, a, is⟩ | ⟨k, x, b, is⟩⟩ := mem_restartMessages s _ made
    · cases is
    · cases b <;> cases is

/-- All that the blocks report at a restart has been taken. -/
theorem restartBlocks_completes (presence : PresenceInv s) (inv : AlarmInv s) :
    let t := (s.restartBlocks cause).complete s.discardMessages.inFlight.length
    RestartGoing s (s.restartBlocks cause) s.restartKeys t ∧ ∀ w ∈ s.restartWays, byWay w t.inFlight = [] := by
  have image : (s.restartBlocks cause).image = s.image := (congrArg Store.active (State.restartBlocks_store cause s) :)
  refine State.completeFrom_ways (fun t m w rest going hw head => ?_) _ (s.restartBlocks cause) _ _
    (s.restartBlocks_inFlight cause presence) (restartMessages_oneByEach s) (restartBlocks_going cause presence inv) ?_
  · rcases restartWays_cases s hw with ⟨d, rfl, -⟩ | ⟨k, x, b, rfl, stands⟩
    · obtain ⟨going', flight⟩ := going.take_order presence image head
      refine ⟨going', _, flight, fun y hy => ?_⟩
      rw [State.mem_restartedMoves hy]
      refine ⟨rfl, Bool.eq_false_iff.mpr fun goes => ?_⟩
      obtain ⟨v, hv, way⟩ := goesBy_iff.mp goes
      rcases restartWays_cases s hv with ⟨e, rfl, -⟩ | ⟨k, x, b, rfl, -⟩ <;> cases way
    · obtain ⟨going', flight⟩ := going.take_alarm presence image stands head
      exact ⟨going', [], flight.trans (List.append_nil _).symm, fun _ h => absurd h List.not_mem_nil⟩
  · exact List.countP_le_length.trans (by omega)

end

end Sys2Proof.Machine

/-! A restart of the part, and O44 (R4, R49, R87, R107, R140, R179). -/

namespace Sys2Proof.Machine

open Sys2Proof

/-! ### What R21 keeps of a record -/

/-- Two records agree in the fields that the alarms at a restart look at. -/
structure Door.SameConditions (r r' : Door) : Prop where
  present : r'.present = r.present
  drifted : r'.drifted = r.drifted
  learnedClose : r'.learnedClose = r.learnedClose
  learnedOpen : r'.learnedOpen = r.learnedOpen

theorem Door.SameConditions.trans {r r' r'' : Door} (h : r.SameConditions r') (k : r'.SameConditions r'') : r.SameConditions r'' :=
  ⟨k.present.trans h.present, k.drifted.trans h.drifted, k.learnedClose.trans h.learnedClose, k.learnedOpen.trans h.learnedOpen⟩

theorem Door.sameConditions_of_still {r r' : Door} (still : r'.still = r.still) : r.SameConditions r' :=
  ⟨(congrArg Door.present still :), (congrArg Door.drifted still :), (congrArg Door.learnedClose still :),
    (congrArg Door.learnedOpen still :)⟩

theorem Door.proceeds_sameConditions (i : Image) (c : Channel) (r : Door) : r.SameConditions (r.proceeds i c) := by
  unfold Door.proceeds Door.startsClose Door.startsMove Door.atRest
  split
  · split
    · split
      · split <;> exact ⟨rfl, rfl, rfl, rfl⟩
      · exact ⟨rfl, rfl, rfl, rfl⟩
    · exact ⟨rfl, rfl, rfl, rfl⟩
  · exact ⟨rfl, rfl, rfl, rfl⟩

theorem State.restartedDoor_sameConditions (s : State) (d : DoorId) : (s.door d).SameConditions (s.restartedDoor d) := by
  obtain ⟨present, drifted, close, opn, -, -⟩ := Door.restarted_keeps s.image d (s.channel d) (s.restartStanding d) (s.door d)
  exact ⟨present, drifted, close, opn⟩

/-- The conditions of LEVEL kinds, by the values that they are worked out from. -/
theorem levelStands_congr {s t : State} (image : t.image = s.image)
    (doors : ∀ d, (s.door d).SameConditions (t.door d))
    (counters : ∀ d : DoorId, t.recorder.doors[d].counters = s.recorder.doors[d].counters)
    (marks : ∀ d : DoorId, t.resolver.doors[d].mark = s.resolver.doors[d].mark) (latch : t.resolver.latch = s.resolver.latch)
    (lines : t.lines = s.lines) (fallback : t.port.fallback = s.port.fallback)
    (loaded : t.store.defaultLoaded = s.store.defaultLoaded) : levelStands t = levelStands s := by
  funext k x
  unfold levelStands Door.travelsOff
  split
  case h_1 d | h_2 d | h_3 d | h_4 d | h_5 d =>
    obtain ⟨present, drifted, close, opn⟩ := doors d
    simp only [present, drifted, close, opn, image, counters, marks]
  all_goals simp only [image, latch, lines, fallback, loaded]

/-! ### The restart -/

section
variable {s : State} (cause : StartCause)

/-- The state behind the completion of a restart, before the overflow entry is evaluated. -/
def State.restartCompleted (cause : StartCause) (s : State) : State :=
  (s.restartBlocks cause).complete s.discardMessages.inFlight.length

theorem State.restart_eq (s : State) : s.restart cause =
    { s.restartCompleted cause with
      alarms := ((s.restartCompleted cause).alarms.evalOverflow (s.restartCompleted cause).time).setOutputs
        (s.restartCompleted cause).image.group.routedKinds } := rfl

theorem Orders.restart_door (o : Orders) (d : DoorId) : o.restart.resolver.doors[d] =
    ⟨false, o.resolver.doors[d].isolated, o.resolver.doors[d].mark, strongestSource o.image o.restart.resolver d⟩ := by
  obtain ⟨group, -, doors⟩ := o.restart_eq
  have own : o.restart.door d = o.restarted d := doors d
  have fresh : (o.register d false).door d = { o.door d with registered := false } := o.withDoor_door d _
  have due : (o.register d false).due d = o.restart.due d :=
    Orders.due_congr group.image.symm group.latch.symm group.mode.symm (by rw [fresh, own]; rfl) (by rw [fresh, own]; rfl)
  rw [← group.image, ← Orders.due_eq_strongestSource, ← due]
  exact own

theorem Flow.restart_empty (f : Flow) (l : GroupLines) : (∀ d : DoorId, (f.restart l).alloc.doors[d] = .out) ∧
    ∀ h : HpuId, (f.restart l).alloc.hpus[h].inUse = 0 ∧ (f.restart l).alloc.hpus[h].granted = [] ∧
      (f.restart l).alloc.hpus[h].closeQueue = [] ∧ (f.restart l).alloc.hpus[h].openQueue = [] := by
  unfold Flow.restart
  refine ⟨fun d => by simp [Alloc.empty], fun h => ?_⟩
  simp [Hpu.empty]

variable (presence : PresenceInv s) (inv : AlarmInv s)
include presence inv

theorem State.restart_restarted : Restarted cause s (s.restart cause) := by
  obtain ⟨going, quiet⟩ := restartBlocks_completes cause presence inv
  obtain ⟨filters, -, straps, time, pending, freeDraws⟩ := State.restart_frame cause s
  obtain ⟨t, is⟩ : ∃ t, t = s.restartCompleted cause := ⟨_, rfl⟩
  have restarts := State.restart_eq cause s
  rw [show (s.restartBlocks cause).complete s.discardMessages.inFlight.length = t from is.symm] at going quiet
  rw [← is] at restarts
  have store : t.store = { s.store with staging := s.store.active } := going.frame.store.trans (State.restartBlocks_store cause s)
  have image : t.image = s.image := (congrArg Store.active store :)
  have resolver : t.resolver = s.orders.restart.resolver := going.frame.resolver.trans (State.restartBlocks_resolver cause s)
  have lines : t.lines = s.lines := going.frame.lines.trans (State.restartBlocks_lines cause s)
  have alloc : t.alloc = (s.flow.restart s.lines).alloc := going.frame.alloc.trans (State.restartBlocks_alloc cause s)
  have port : t.port = (s.serial.restart s.straps cause).port := going.frame.port.trans (State.restartBlocks_port cause s)
  have recorder : t.recorder = s.log.restart.recorder := going.frame.recorder.trans (State.restartBlocks_recorder cause s)
  obtain ⟨records, log, recorded⟩ := s.log.restart_eq
  rw [log] at recorder
  obtain ⟨group, -, orders⟩ := s.orders.restart_eq
  have standing (d : DoorId) : t.resolver.doors[d] =
      ⟨false, s.resolver.doors[d].isolated, s.resolver.doors[d].mark, strongestSource s.image t.resolver d⟩ := by
    rw [resolver]
    exact s.orders.restart_door d
  have reported (d : DoorId) : t.resolver.doors[d].reported = s.restartStanding d := by
    rw [resolver]
    exact congrArg DoorOrder.reported (orders d :)
  have settled (d : DoorId) : byWay (.toDoorTable d) t.inFlight = [] ∧
      (t.door d).still = ((s.restartedDoor d).proceeds s.image (s.channel d)).still := by
    rcases going.doors d with ⟨waits, present, -⟩ | done
    · rw [quiet _ (restartWays_door s present)] at waits
      cases waits
    · exact done
  have levels : levelStands t = s.restartStands := by
    refine levelStands_congr (s := s.owning) image (fun d => ?_) (fun d => ?_) (fun d => ?_) ?_ lines ?_ ?_
    · exact ((s.restartedDoor_sameConditions d).trans (Door.proceeds_sameConditions _ _ _)).trans (Door.sameConditions_of_still (settled d).2)
    · rw [recorder]
      exact (recorded d).2
    · rw [standing d]
      rfl
    · rw [resolver]
      exact group.latch
    · rw [port]
      rfl
    · rw [store]
      rfl
  have enters (k : AlarmKind) (x : Subject) : restartEnters (s.restart cause) k x = s.enters k x := by
    have same : levelStands (s.restart cause) = levelStands t := by
      rw [restarts]
      rfl
    have image' : (s.restart cause).image = s.image := by
      rw [restarts]
      exact image
    unfold restartEnters State.enters
    rw [same, levels, image']
    rfl
  have entries : (s.restart cause).alarms.entries = t.alarms.entries := by
    rw [restarts]
    exact AlarmList.evalOverflow_entries _ _
  have follows (k : AlarmKind) (x : Subject) (b : Bool) (on : s.restartStands k x = some b) :
      t.alarms.Follows s.image s.restartKeys k x b := by
    rcases going.alarms.each k x b on with ⟨older, waits⟩ | ⟨-, follows⟩
    · rw [quiet _ (restartWays_alarm s on)] at waits
      exact absurd waits.symm (List.append_ne_nil_of_right_ne_nil _ nofun)
    · exact follows
  have flight : (s.restart cause).inFlight = t.inFlight := by rw [restarts]
  have orders' : (s.restart cause).resolver = t.resolver := by rw [restarts]
  refine
    { filters := filters, straps := straps, time := time, pending := pending, freeDraws := freeDraws
      store := (by rw [restarts]; exact store)
      port := ?_
      orders := ?_
      standing := fun d => by rw [orders']; exact standing d
      flow := ?_
      capacity := capacityInv_restart cause s
      recorded := ?_
      valves := fun d => ?_
      doors := fun d => ?_
      messages := fun m dropped => ?_
      notices := fun d => by rw [flight]; exact going.notices d
      alarms := ⟨fun e latched => by rw [entries]; exact going.alarms.latched e latched, fun e here b on => ?_, fun room k x on => ?_⟩ }
  · rw [restarts]
    show t.port = _
    rw [port]
    cases cause <;> rfl
  · rw [orders', resolver]
    exact ⟨group.mode, group.latch, group.flood⟩
  · rw [restarts]
    exact alloc ▸ s.flow.restart_empty s.lines
  · rw [restarts]
    show (∀ d : DoorId, t.recorder.doors[d].capture = _ ∧ t.recorder.doors[d].counters = _) ∧ t.recorder.drive = _
    rw [recorder]
    exact ⟨recorded, rfl⟩
  · rw [restarts]
    exact ⟨(going.drives d).openValve, (going.drives d).closeValve⟩
  · rw [orders', reported, restarts]
    exact ⟨going.changed d, (settled d).2⟩
  · rw [orders', flight]
    simp only [reported]
    by_cases orderly : ∃ d, route? m = some (.toDoorTable d)
    · obtain ⟨d, way⟩ := orderly
      refine iff_of_false (fun here => byWay_eq_nil.mp (settled d).1 m here way) fun ⟨e, made⟩ => ?_
      rw [State.mem_restartedMoves made] at way
      cases way
    · rw [going.discarded m dropped fun d way => orderly ⟨d, way⟩]
      exact exists_congr fun d => and_iff_right (settled d).1
  · rw [entries] at here
    rw [restarts] at on
    have on' : levelStands t e.kind e.subject = some b := on
    rw [levels] at on'
    exact (follows _ _ b on').state e here rfl
  · rw [restartEntries_eq enters] at room
    rw [enters, State.enters, Bool.and_eq_true, beq_iff_eq, Bool.not_eq_true'] at on
    obtain ⟨stands, unmasked⟩ := on
    obtain ⟨e, here, key⟩ := (follows k x true stands).entered rfl unmasked room
    rw [entries]
    exact ⟨e, here, congrArg Prod.fst key, congrArg Prod.snd key⟩

end

/-! ### O44 -/

/-- Settles O44: a restart discards what goes between the door table and the resolver or the allocator, and takes what the
blocks then report, one report by each way. -/
theorem partRestarts : Obligations.PartRestarts := by
  unfold Obligations.PartRestarts
  refine ⟨fun m => ⟨fun dropped => ?_, ?_⟩,
    fun s l => ⟨fun idle => ?_, fun sends other => ?_, fun sends restarts presence inv => ?_⟩, fun s c f ends presence inv => ?_⟩
  · cases m <;> first | cases dropped; done | exact ⟨_, by simp; rfl⟩
  · rintro ⟨d, ⟨a, rfl⟩ | ⟨handle, faulted, rfl⟩ | ⟨ruling, rfl⟩ | rfl | rfl | rfl | rfl | rfl | ⟨dir, rfl | rfl | rfl | rfl⟩⟩ <;> rfl
  · show execReplySent l s = _
    unfold execReplySent
    dsimp only
    rw [idle]
    rfl
  · show execReplySent l s = _
    unfold execReplySent
    dsimp only
    rw [if_neg (by rw [Option.isNone_iff_eq_none]; exact Option.isSome_iff_ne_none.mp sends), if_neg other]
    rfl
  · have runs : exec (.replySent l) s = .next ((s.withLine l { (s.port.line l).hunting with reply := none }).restart .restartRequest) := by
      show execReplySent l s = _
      unfold execReplySent
      dsimp only
      rw [if_neg (by rw [Option.isNone_iff_eq_none]; exact Option.isSome_iff_ne_none.mp sends), if_pos restarts]
    exact ⟨_, runs, State.restart_restarted .restartRequest (s := s.withLine l _) presence inv⟩
  · rcases ends with ⟨p, primed, pending, rfl, is⟩ | ⟨first, rfl, rfl⟩
    · have runs := State.filterExpiry_eq primed pending
      rw [show (s.filter .resetPin).expired p = f from is.symm, show p.target = f.filtered by rw [is]] at runs
      refine ⟨_, congrArg Host.Outcome.next runs, fun _ active => ?_, fun h => ?_⟩
      · rw [active]
        exact State.restart_restarted .resetPin (s := s.withFilter .resetPin f) presence inv
      · rw [h.resolve_left nofun]
        rfl
    · refine ⟨_, congrArg Host.Outcome.next (State.firstIntervalExpiry_eq first), nofun, fun _ => ?_⟩
      split <;> rfl

end Sys2Proof.Machine

/-! What a completion leaves of a door's learned times and of a door that settles (R22, R59, R63). -/

namespace Sys2Proof.Machine

open Sys2Proof

/-- A motion state in which rulings, reports and notices move no door. -/
def Door.Unserved (r : Door) : Prop := r.motion = .settling ∨ r.motion = .absent

/-- Both learned times are as they were. -/
def Work.SameTimes (w w' : Work) : Prop :=
  w'.door.learnedClose = w.door.learnedClose ∧ w'.door.learnedOpen = w.door.learnedOpen

namespace Work.SameTimes

variable {w w' w'' : Work}

theorem refl (w : Work) : w.SameTimes w := ⟨rfl, rfl⟩

theorem trans (h : w.SameTimes w') (k : w'.SameTimes w'') : w.SameTimes w'' := ⟨k.1.trans h.1, k.2.trans h.2⟩

theorem ite {p : Prop} [Decidable p] {x y : Work} (h : w.SameTimes x) (k : w.SameTimes y) : w.SameTimes (if p then x else y) := by
  split
  · exact h
  · exact k

end Work.SameTimes

namespace Work

variable (w : Work)

/-! ### Shared procedures -/

theorem recheck_times (v : Dir) : w.SameTimes (w.recheck v) := by
  obtain ⟨x, eq⟩ := w.door.valveAt_eq w.image w.channel v (w.channel.valve v)
  rw [recheck_eq, eq]
  cases v <;> exact ⟨rfl, rfl⟩

theorem switchValve_times (v : Dir) (on : Bool) : w.SameTimes (w.switchValve v on) :=
  recheck_times { w with channel := w.channel.withValve v on } v

theorem clearTransit_times : w.SameTimes w.clearTransit := by
  rw [clearTransit_eq]
  exact ⟨rfl, rfl⟩

theorem clearDrift_times : w.SameTimes w.clearDrift := .ite (.refl w) (.refl w)

theorem recheck_full (v : Dir) : (w.recheck v).door.full = w.door.full := by
  obtain ⟨x, eq⟩ := w.door.valveAt_eq w.image w.channel v (w.channel.valve v)
  rw [recheck_eq, eq]
  cases v <;> rfl

theorem endStroke_times (how : StrokeEnd) : w.SameTimes (w.endStroke how) := by
  unfold endStroke
  exact .ite (w.switchValve_times w.door.dir false) (w.switchValve_times w.door.dir false)

theorem endStroke_arrival_full : (w.endStroke .arrival).door.full = w.door.full := by
  unfold endStroke
  exact recheck_full { w with channel := w.channel.withValve w.door.dir false } w.door.dir

theorem rest_times : w.SameTimes w.rest := by
  rw [rest_eq]
  unfold Door.atRest
  split <;> exact ⟨rfl, rfl⟩

theorem startMove_times (dir : Dir) (a : MotionAuthority) (held : Bool) : w.SameTimes (w.startMove dir a held) :=
  .ite (w.stopTimers.endEdgeWait.rest_times) (.refl w)

theorem startClose_times : w.SameTimes w.startClose := .ite (w.startMove_times ..) (.refl w)

theorem startIfDue_times : w.SameTimes w.startIfDue := .ite w.startClose_times (.refl w)

theorem enterDwell_times : w.SameTimes w.enterDwell := by
  unfold enterDwell
  split <;> exact ⟨rfl, rfl⟩

/-- The arrival of a stroke that is not full teaches nothing (R59). -/
theorem arrive_times (partly : w.door.full = false) : w.SameTimes w.arrive := by
  have full : (w.endStroke .arrival).door.full = false := w.endStroke_arrival_full.trans partly
  have ended : w.SameTimes { w.endStroke .arrival with door := { (w.endStroke .arrival).door with
      motion := endMotion w.door.dir, estimate := endEstimate w.door.dir } } := w.endStroke_times .arrival
  have notified (x : Work) (same : w.SameTimes x) : w.SameTimes ((x.send (.arrivalNotice w.id)).clearTransit).clearDrift :=
    (same.trans (clearTransit_times (x.send _))).trans (clearDrift_times _)
  unfold arrive
  dsimp only
  rw [if_neg (by rw [full]; nofun)]
  split
  · exact ended
  · exact notified _ ended

theorem obstruct_times : w.SameTimes w.obstruct := w.endStroke_times .other

theorem endStrokeRest_times (how : StrokeEnd) : w.SameTimes (w.endStroke how).rest := (w.endStroke_times how).trans (rest_times _)

theorem meetTarget_times (partly : w.door.full = false) : w.SameTimes w.meetTarget :=
  .ite (endStrokeRest_times (w.report ..) .other) (w.arrive_times partly)

theorem edgeAtStart_times : w.SameTimes w.edgeAtStart := .ite w.obstruct_times (.refl w)

theorem reverse_times (a : MotionAuthority) (held : Bool) : w.SameTimes (w.reverse a held) := by
  unfold reverse
  refine .ite ?_ ?_
  · unfold reverseMoving
    dsimp only
    obtain ⟨w1, is⟩ : ∃ w1, w1 = (w.endStroke .reversal).beginStroke w.door.dir.flip false := ⟨_, rfl⟩
    have begun : w.SameTimes w1 := is ▸ (w.endStroke_times .reversal).trans (switchValve_times { w.endStroke .reversal with door := _ } _ true)
    have partly : w1.door.full = false := is ▸ recheck_full { w.endStroke .reversal with door := _, channel := _ } _
    rw [← is]
    exact .ite (begun.trans (meetTarget_times (Work.send { w1 with door := _ } _) partly))
      (begun.trans (edgeAtStart_times (Work.send { w1 with door := _ } _)))
  · unfold reverseQueued
    exact .ite w.rest_times ⟨rfl, rfl⟩

theorem stopAndRest_times : w.SameTimes w.stopAndRest := by
  unfold stopAndRest
  split
  · exact w.endStrokeRest_times .other
  · exact w.rest_times

theorem noteConflict_times : w.SameTimes w.noteConflict := .ite (.refl w) (.refl w)

/-! ### Rulings, reports and notices -/

theorem ruleOpening_times (held : Bool) : w.SameTimes (w.ruleOpening held) := by
  unfold ruleOpening
  split <;> first | exact w.startMove_times .. | exact .ite (.refl w) (.refl w) | exact w.reverse_times .. | exact .refl w

theorem ruleClosing_times (a : MotionAuthority) (held : Bool) : w.SameTimes (w.ruleClosing a held) := by
  unfold ruleClosing
  split <;> first | exact w.startMove_times .. | exact .ite (.refl w) (.refl w) | exact w.reverse_times .. | exact .refl w

theorem openRelease_times : w.SameTimes w.openRelease := by
  unfold openRelease
  split
  · exact .ite (.ite w.enterDwell_times w.rest_times) (.refl w)
  · exact .ite (.ite ((w.endStroke_times .other).trans (enterDwell_times _)) (w.endStrokeRest_times .other)) (.refl w)
  · exact .ite w.enterDwell_times (.refl w)
  · exact .ite w.enterDwell_times (.refl w)
  all_goals exact .refl w

theorem closeRelease_times : w.SameTimes w.closeRelease := by
  unfold closeRelease
  split
  · exact .ite w.rest_times (.refl w)
  · exact .ite (w.endStrokeRest_times .other) (.refl w)
  all_goals exact .refl w

theorem releasedMeanwhile_times (dir : Dir) : w.SameTimes (w.releasedMeanwhile dir) := by
  cases dir
  · exact .ite (.refl w) w.openRelease_times
  · exact .ite (.refl w) w.closeRelease_times

theorem setTransit_times : w.SameTimes w.setTransit := .ite (.refl w) (.refl w)

theorem obey_times (r : Ruling) : w.SameTimes (w.obey r) := by
  cases r
  case ignore => exact .refl w
  case latchOpen => exact w.ruleOpening_times false
  case latchClose => exact w.ruleClosing_times .local_ false
  case transitOpen => exact (w.setTransit_times.trans (ruleOpening_times _ true)).trans (releasedMeanwhile_times _ .opn)
  case closeNow => exact w.ruleClosing_times _ false
  case holdOpen => exact (w.ruleOpening_times true).trans (releasedMeanwhile_times _ .opn)
  case holdClose => exact (w.ruleClosing_times .local_ true).trans (releasedMeanwhile_times _ .cls)

theorem heldByFault_times : w.SameTimes w.heldByFault := by
  unfold heldByFault
  dsimp only
  have cleared := w.clearTransit_times
  split <;> first | exact cleared.trans (rest_times _) | exact cleared

theorem rule_times (r : Ruling) : w.SameTimes (w.rule r) := by
  have outruled : w.SameTimes ((w.obey r).faultAfterRuling w.door.dir) := by
    have held := (w.obey_times r).trans (heldByFault_times _)
    exact .ite (held.trans (endStrokeRest_times _ .other)) held
  unfold rule
  split <;> first | exact .refl w | exact .ite outruled (w.obey_times r)

theorem order_times (a : Standing) : w.SameTimes (w.order a) := by
  by_cases serves : w.door.motion ≠ .isolated ∧ w.door.motion ≠ .absent
  · rw [order_served serves]
    refine .ite (.refl w) (.ite ?_ (.ite ?_ ?_))
    · unfold orderRises
      split <;> first | exact stopAndRest_times (w.withStanding a) | exact .ite (.refl w) (.refl w) | exact .refl w
    · have cleared := clearTransit_times (w.withStanding a)
      unfold orderEnds
      have rested := SameTimes.trans cleared (rest_times _)
      split <;> first | exact rested | exact cleared | exact .ite cleared cleared | exact .ite cleared rested
    · unfold orderChanges
      split <;> first | exact .refl w | exact .ite (.refl w) (.refl w)
  · rw [order_unserved serves]
    exact .refl w

theorem occupied_times : w.SameTimes w.occupied := .ite (.refl w) (heldByFault_times { w with door := _ })

theorem emptied_times : w.SameTimes w.emptied := by
  refine .ite (.refl w) ?_
  split
  · exact noteConflict_times (report { w with door := _ } ..)
  · exact .refl w
  · exact noteConflict_times (report { w with door := _ } ..)
  · exact .refl w

/-! ### A door that settles, and an ABSENT one -/

/-- The motion state and both valves are as they were. -/
def Unmoved (w w' : Work) : Prop := w'.door.motion = w.door.motion ∧ w'.channel = w.channel

variable {w} (idle : w.door.Unserved)
include idle

theorem other_of_unserved {m : Motion} (h : m ≠ .settling) (k : m ≠ .absent) : w.door.motion ≠ m := fun is =>
  idle.elim (fun i => h (is.symm.trans i)) fun i => k (is.symm.trans i)

theorem order_unmoved (a : Standing) : w.Unmoved (w.order a) := by
  have other := @other_of_unserved w idle
  rcases idle with settles | absent
  · have served : w.door.motion ≠ .isolated ∧ w.door.motion ≠ .absent := by rw [settles]; exact ⟨nofun, nofun⟩
    rw [order_served served]
    split
    · exact ⟨rfl, rfl⟩
    · split
      · rw [orderRises_other (w := w.withStanding a) (fun h => h.1.elim (other (by nofun) (by nofun)) fun h => other (by nofun) (by nofun) h.1)
          fun h => h.1.elim (other (by nofun) (by nofun)) fun h => other (by nofun) (by nofun) h.1]
        exact ⟨rfl, rfl⟩
      · split
        · unfold orderEnds
          rw [clearTransit_eq]
          dsimp only [withStanding, Door.outOfTransit]
          rw [settles]
          exact ⟨settles.symm, rfl⟩
        · rw [orderChanges_other (w := w.withStanding a) (other (by nofun) (by nofun)) fun h =>
            h.1.elim (other (by nofun) (by nofun)) fun h => other (by nofun) (by nofun) h.1]
          exact ⟨rfl, rfl⟩
  · rw [order_unserved fun served => served.2 absent]
    exact ⟨rfl, rfl⟩

theorem rule_unmoved (r : Ruling) : w.Unmoved (w.rule r) := by
  unfold rule
  rcases idle with is | is <;> (rw [is]; exact ⟨rfl, rfl⟩)

theorem occupied_unmoved : w.Unmoved w.occupied := by
  rcases idle with settles | absent
  · unfold occupied heldByFault
    rw [if_neg (by rw [settles]; nofun), clearTransit_eq]
    dsimp only [Door.outOfTransit]
    rw [settles]
    exact ⟨settles.symm, rfl⟩
  · rw [occupied_absent w absent]
    exact ⟨rfl, rfl⟩

omit idle in
theorem emptied_unmoved : w.Unmoved w.emptied := by
  unfold emptied noteConflict report
  dsimp only
  split
  · exact ⟨rfl, rfl⟩
  · split <;> first | exact ⟨rfl, rfl⟩ | (split <;> exact ⟨rfl, rfl⟩)

end Work

/-! ### The recorder's work on one door -/

/-- The records of every other door are as they were. -/
def Log.OnlyDoor (d : DoorId) (l l' : Log) : Prop := ∀ e, e ≠ d → l'.door e = l.door e

namespace Log.OnlyDoor

variable {d : DoorId} {l l' l'' : Log}

theorem refl (l : Log) : l.OnlyDoor d l := fun _ _ => rfl

theorem trans (h : OnlyDoor d l l') (k : OnlyDoor d l' l'') : OnlyDoor d l l'' := fun e other => (k e other).trans (h e other)

theorem withDoor (l : Log) (d : DoorId) (x : DoorFaults) : OnlyDoor d l (l.withDoor d x) := fun _ other => l.withDoor_door_ne x other

theorem count (l : Log) (d : DoorId) (k : WearKind) : OnlyDoor d l (l.count d k) := by
  rw [Log.count_eq]
  exact withDoor l d _

theorem countFault (l : Log) (d : DoorId) (k : FaultKind) : OnlyDoor d l (l.countFault d k) := by
  unfold Log.countFault
  split
  · exact refl l
  · exact count l d _

theorem report (l : Log) (d : DoorId) (k : FaultKind) (second : Option FaultKind) (persisting : Bool) (x : FaultData) :
    OnlyDoor d l (l.report d k second persisting x) := by
  unfold Log.report
  dsimp only
  split
  · have filled : OnlyDoor d l (match (l.door d).capture with
        | none => l.fill d k second x
        | some c => l.also d c k second) := by
      split <;> exact withDoor l d _
    split
    · exact filled
    · split
      · exact filled.trans (countFault _ d k)
      · exact (filled.trans (countFault _ d k)).trans (countFault _ d _)
  · exact refl l

end Log.OnlyDoor

/-! ### A completion -/

/-- Each door has the learned times that it had, one that settles or is ABSENT still does so with its valves as they were, and the
recorder has the records that it had of a door that is not present. -/
structure Lasting (s t : State) : Prop where
  image : t.image = s.image
  learnedClose : ∀ d, (t.door d).learnedClose = (s.door d).learnedClose
  learnedOpen : ∀ d, (t.door d).learnedOpen = (s.door d).learnedOpen
  unmoved : ∀ d, (s.door d).Unserved → (t.door d).motion = (s.door d).motion ∧
    (t.channel d).openValve = (s.channel d).openValve ∧ (t.channel d).closeValve = (s.channel d).closeValve
  absent : ∀ d : DoorId, s.image.doors[d].present = false → t.recorder.doors[d] = s.recorder.doors[d]

theorem Lasting.refl (s : State) : Lasting s s := ⟨rfl, fun _ => rfl, fun _ => rfl, fun _ _ => ⟨rfl, rfl, rfl⟩, fun _ _ => rfl⟩

theorem Lasting.trans {s t u : State} (h : Lasting s t) (k : Lasting t u) : Lasting s u where
  image := k.image.trans h.image
  learnedClose d := (k.learnedClose d).trans (h.learnedClose d)
  learnedOpen d := (k.learnedOpen d).trans (h.learnedOpen d)
  unmoved d idle := by
    obtain ⟨motion, opn, cls⟩ := h.unmoved d idle
    obtain ⟨motion', opn', cls'⟩ := k.unmoved d (by unfold Door.Unserved; rw [motion]; exact idle)
    exact ⟨motion'.trans motion, opn'.trans opn, cls'.trans cls⟩
  absent d out := (k.absent d (by rw [h.image]; exact out)).trans (h.absent d out)

section
variable {s : State} {m : Instr} {d : DoorId}

theorem Lasting.doorEvent (s : State) (d : DoorId) {f : Work → Work} (times : (s.work d).SameTimes (f (s.work d)))
    (unmoved : (s.door d).Unserved → (s.work d).Unmoved (f (s.work d))) : Lasting s (s.doorEvent s d f) := by
  have only := s.doorEvent_onlyDoor s d f
  have own := (s.doorEvent_door s d f).trans (show _ = (s.worked d f).door from rfl)
  have still : (s.worked d f).door.still = (f (s.work d)).startIfDue.door.still := Work.event_still _ _ _ _
  obtain ⟨close, opn⟩ := times.trans (Work.startIfDue_times _)
  refine ⟨only.toDoorTableOnly.image, fun e => ?_, fun e => ?_, fun e is => ?_, fun e _ => by rw [only.recorder]⟩
  · by_cases same : e = d
    · subst same
      rw [own]
      exact (congrArg Door.learnedClose still :).trans close
    · rw [only.doors e same]
  · by_cases same : e = d
    · subst same
      rw [own]
      exact (congrArg Door.learnedOpen still :).trans opn
    · rw [only.doors e same]
  · by_cases same : e = d
    · subst same
      obtain ⟨motion, valves⟩ := unmoved is
      have motion : (f (s.work e)).door.motion = (s.door e).motion := motion
      have idle : (f (s.work e)).startIfDue = f (s.work e) := by
        unfold Work.startIfDue
        rw [Door.due_of_motion (fun h => ?_) fun h => ?_]
        · rfl
        all_goals
          rw [motion] at h
          rcases is with is | is <;> rw [is] at h <;> cases h
      have channel : (s.worked e f).channel = _ := Work.event_channel _ _ _ _
      rw [idle] at still channel
      rw [own, (s.doorEvent_channel s e f :), show (Work.event _ _ _ f).channel = _ from channel]
      exact ⟨(congrArg Door.motion still :).trans motion, (congrArg Channel.openValve valves :), (congrArg Channel.closeValve valves :)⟩
    · rw [only.doors e same, only.channels e same]
      exact ⟨rfl, rfl, rfl⟩

theorem Lasting.logEvent (s : State) (d : DoorId) {f : Log → Log} (only : Log.OnlyDoor d s.log (f s.log))
    (passes : s.image.doors[d].present = false → f s.log = s.log) : Lasting s (s.logEvent f) := by
  refine ⟨rfl, fun _ => rfl, fun _ => rfl, fun _ _ => ⟨rfl, rfl, rfl⟩, fun e out => ?_⟩
  by_cases same : e = d
  · subst same
    show (f s.log).door e = s.log.door e
    rw [passes out]
  · exact only e same

theorem Lasting.taking (s : State) (m : Instr) : Lasting s (s.taking m) :=
  ⟨rfl, fun _ => rfl, fun _ => rfl, fun _ _ => ⟨rfl, rfl, rfl⟩, fun _ _ => rfl⟩

/-- What goes a way of those that complete leaves so much of every door. -/
theorem State.deliver_lasting (s : State) {w : Route} (way : route? m = some w) (completing : completesWay w = true) :
    Lasting s (s.deliver m) := by
  refine (Lasting.taking s m).trans ?_
  cases m <;> cases way <;> cases completing
  case standingAuthorityReport d a =>
    exact .doorEvent _ d (Work.order_times _ a) fun is => Work.order_unmoved is a
  case handleRuling d r => exact .doorEvent _ d (Work.rule_times _ r) fun is => Work.rule_unmoved is r
  case captureOccupiedNotice d => exact .doorEvent _ d (Work.occupied_times _) fun is => Work.occupied_unmoved is
  case captureEmptiedNotice d => exact .doorEvent _ d (Work.emptied_times _) fun _ => Work.emptied_unmoved
  case faultReport d k k' p x =>
    exact .logEvent _ d (.report _ d k k' p x) fun out => if_neg (ne_true_of_eq_false out)
  case mismatchReport d v e =>
    refine .logEvent _ d ?_ fun out => if_neg (ne_true_of_eq_false out)
    split
    · exact .count ⟨_, _, ⟨_, _⟩, _⟩ d .drive
    · exact .refl _
  case obstructionNotice d =>
    refine .logEvent _ d ?_ fun out => if_neg (ne_true_of_eq_false out)
    split
    · exact .count _ d _
    · exact .refl _
  case driftNotice d =>
    refine .logEvent _ d ?_ fun out => if_neg (ne_true_of_eq_false out)
    split
    · exact .count _ d _
    · exact .refl _
  all_goals exact ⟨rfl, fun _ => rfl, fun _ => rfl, fun _ _ => ⟨rfl, rfl, rfl⟩, fun _ _ => rfl⟩

theorem State.complete_lasting (s : State) (mark : Nat) : Lasting s (s.complete mark) :=
  State.completeFrom_induct (P := Lasting s) (fun t _ _ _ way completing h => h.trans (t.deliver_lasting way completing)) _ _ s (.refl s)

end

end Sys2Proof.Machine

/-! The line port's part of a commit (R158, R170, R172), and when CONFIG_COMMIT is refused (R156, R157). -/

namespace Sys2Proof.Machine

open Sys2Proof

/-! ### The line port -/

section
variable (g : GroupRecord) (i : Image) (p : Port) (l : Line) (out : List Instr) (n : Nat)

/-- A line with LINE_DEGRADED by given thresholds (R170). -/
def LinePort.graded (y : LinePort) : LinePort := { y with degraded := lineDegraded g y }

/-- Both lines so. -/
def Port.graded : Port := { p with lineA := p.lineA.graded g, lineB := p.lineB.graded g }

/-- The reports that this makes. -/
def Port.gradeMessages : List Instr :=
  changeMessages .lineDegraded (.line .a) p.lineA.degraded (lineDegraded g p.lineA) ++
    changeMessages .lineDegraded (.line .b) p.lineB.degraded (lineDegraded g p.lineB)

theorem Serial.evalDegraded_both : ((Serial.mk i p []).evalDegraded .a).evalDegraded .b = ⟨i, p.graded i.group, p.gradeMessages i.group⟩ := by
  rw [Serial.evalDegraded_eq, Serial.evalDegraded_eq]
  rfl

theorem Port.graded_busy : (p.withLine l (p.line l).busyTaking).graded g = (p.graded g).withLine l ((p.graded g).line l).busyTaking ∧
    (p.withLine l (p.line l).busyTaking).gradeMessages g = p.gradeMessages g := by
  cases l <;> exact ⟨rfl, rfl⟩

theorem Serial.setInterval_out : Serial.setInterval ⟨i, p, out⟩ n =
    { Serial.setInterval ⟨i, p, []⟩ n with out := out ++ (Serial.setInterval ⟨i, p, []⟩ n).out } := by
  unfold Serial.setInterval Serial.send
  dsimp only
  split
  · simp only [List.append_assoc, List.nil_append]
  · simp only [List.append_nil]

end

/-- The reports of the line port at a commit (R170, R172). -/
def Port.commitMessages (old new : GroupRecord) (p : Port) : List Instr :=
  p.gradeMessages new ++ if new.supervision = old.supervision ∨ new.supervision ≠ 0 then []
    else [.alarmClear .lineSilent (.line .a), .alarmClear .lineSilent (.line .b), .alarmClear .remoteLost .group]

theorem lineDegraded_eq (g : GroupRecord) (y : LinePort) : lineDegraded g y =
    decide (g.checkErrorThreshold < y.checkErrors ∨ g.framingErrorThreshold < y.framingErrors) := by
  unfold lineDegraded
  rw [Bool.decide_or]

theorem LinePort.committed_eq (old new : GroupRecord) (y : LinePort) : y.committed old new =
    if new.supervision = old.supervision then y.graded new
    else if new.supervision = 0 then { y.graded new with silence := none, silent := false }
    else if y.silent then y.graded new else { y.graded new with silence := some new.supervision } := by
  unfold LinePort.committed LinePort.graded
  rw [lineDegraded_eq]

theorem LinePort.committed_degraded (old new : GroupRecord) (y : LinePort) : (y.committed old new).degraded = lineDegraded new y := by
  rw [LinePort.committed_eq]
  split
  · rfl
  · split
    · rfl
    · split <;> rfl

/-- The line port's part of a commit, beneath a request that is being taken. -/
theorem Serial.commit_busy (i old : Image) (p : Port) (l : Line) :
    let q := p.committed old.group i.group
    Serial.commit ⟨i, p.withLine l (p.line l).busyTaking, []⟩ old =
      ⟨i, q.withLine l (q.line l).busyTaking, p.commitMessages old.group i.group⟩ := by
  intro q
  obtain ⟨graded, messages⟩ := p.graded_busy i.group l
  have ports : q = { p with
      interval := if i.group.supervision = old.group.supervision then p.interval else i.group.supervision
      lineA := p.lineA.committed old.group i.group, lineB := p.lineB.committed old.group i.group } := rfl
  unfold Serial.commit Port.commitMessages
  dsimp only
  rw [Serial.evalDegraded_both, graded, messages, ports, LinePort.committed_eq, LinePort.committed_eq]
  by_cases same : i.group.supervision = old.group.supervision
  · simp only [if_pos same, if_pos (Or.inl same : i.group.supervision = old.group.supervision ∨ _), List.append_nil]
    rfl
  · rw [if_neg same, Serial.setInterval_out]
    simp only [if_neg same]
    by_cases ends : i.group.supervision = 0
    · rw [ends, Serial.setInterval_busy_zero]
      simp only [if_true, ne_eq, not_true_eq_false, or_false]
      rw [if_neg fun h => same (ends.trans h)]
      rfl
    · rw [Serial.setInterval_busy ends]
      simp only [ne_eq, ends, not_false_eq_true, or_true, if_true, List.append_nil]
      rfl

/-! ### Refusals -/

theorem find?_first {α : Type} [LT α] {q : α → Bool} {xs : List α} {x : α} (sorted : xs.Pairwise (· < ·))
    (here : x ∈ xs) (own : q x = true) (first : ∀ y, y < x → q y = false) : xs.find? q = some x := by
  induction xs with
  | nil => cases here
  | cons y ys ih =>
    obtain ⟨before, rest⟩ := List.pairwise_cons.mp sorted
    rcases List.mem_cons.mp here with rfl | later
    · exact List.find?_cons_of_pos own
    · rw [List.find?_cons_of_neg (by rw [first y (before x later)]; nofun)]
      exact ih rest later

theorem find?_finRange {n : Nat} {q : Fin n → Bool} {x : Fin n} (own : q x = true) (first : ∀ y, y < x → q y = false) :
    (List.finRange n).find? q = some x :=
  find?_first (List.pairwise_lt_finRange n) (List.mem_finRange x) own first

section
variable {i : Image}

/-- A door whose demand is above its HPU's Cn (R157). -/
def Image.heavy (i : Image) (d : DoorId) : Prop :=
  i.doors[d].present = true ∧ i.group.normalCapacity[i.doors[d].hpu] < i.doors[d].demand

theorem heavy_iff (d : DoorId) :
    (i.doors[d].present && i.group.normalCapacity[i.doors[d].hpu] < i.doors[d].demand) = true ↔ i.heavy d := by
  rw [Bool.and_eq_true, decide_eq_true_iff]
  rfl

theorem commitFailure_heavy {d : DoorId} (heavy : i.heavy d) (first : ∀ e, e < d → ¬i.heavy e) :
    commitFailure i = some (.demandOverCn d) := by
  unfold commitFailure
  rw [find?_finRange ((heavy_iff d).mpr heavy) fun e before => Bool.eq_false_of_not_eq_true fun h => first e before ((heavy_iff e).mp h)]

theorem commitFailure_above {h : HpuId} (light : ∀ d, ¬i.heavy d) (above : i.group.normalCapacity[h] < i.group.emergencyCapacity[h])
    (first : ∀ g, g < h → ¬i.group.normalCapacity[g] < i.group.emergencyCapacity[g]) : commitFailure i = some (.ceOverCn h) := by
  unfold commitFailure
  rw [List.find?_eq_none.mpr fun d _ is => light d ((heavy_iff d).mp is)]
  dsimp only
  rw [find?_finRange (q := fun h => decide (i.group.normalCapacity[h] < i.group.emergencyCapacity[h])) (decide_eq_true above)
    fun g before => decide_eq_false (first g before)]

theorem commitFailure_none (light : ∀ d, ¬i.heavy d) (below : ∀ h : HpuId, ¬i.group.normalCapacity[h] < i.group.emergencyCapacity[h]) :
    commitFailure i = none :=
  (commitFailure_eq_none_iff i).mpr ⟨fun d present => Nat.le_of_not_lt fun over_ => light d ⟨present, over_⟩,
    fun h => Nat.le_of_not_lt (below h)⟩

end

/-- When a commit is busy (R156). -/
theorem State.busy_iff (s : State) : s.busy = true ↔ (∃ d : DoorId, (s.door d).motion = .warning ∨ (s.door d).motion = .dwell ∨
    (s.door d).motion = .queued ∨ isMoving (s.door d).motion = true) ∨ s.resolver.latch = true ∨ s.store.writing = true := by
  have motions (m : Motion) : commitBusy m = true ↔ m = .warning ∨ m = .dwell ∨ m = .queued ∨ isMoving m = true := by
    cases m <;> simp [commitBusy, isMoving]
  unfold State.busy
  simp only [Bool.or_eq_true, List.any_eq_true, motions, mem_allDoors, true_and, or_assoc]

/-- A commit that is refused, and why (R156, R157). -/
theorem State.configCommit_busy {s : State} (busy : s.busy = true) (body : List Byte) : s.configCommit body = .refused .busy [] := if_pos busy

theorem State.configCommit_fails {s : State} {f : CommitFailure} (idle : ¬s.busy = true) (fails : commitFailure s.store.staging = some f)
    (body : List Byte) : s.configCommit body = .refused .invalidConfig (failureBytes f) := by
  unfold State.configCommit
  rw [if_neg idle, fails]

theorem State.configCommit_taken {s : State} (idle : ¬s.busy = true) (fits : commitFailure s.store.staging = none) (body : List Byte) :
    s.configCommit body = .completed ((s.settleDoors s.madePresent).1.commit.complete (s.settleDoors s.madePresent).2) [1] := by
  unfold State.configCommit
  rw [if_neg idle, fits]

end Sys2Proof.Machine

/-! The door table's part of a commit, door by door (R9, R13, R47, R63, R64). -/

namespace Sys2Proof.Machine

open Sys2Proof

/-- A door that was not present, made so (R47): its record as at power-on, SETTLING, both checks brought up to date. -/
theorem Work.makePresent_eq {w : Work} (a : Standing) (opn : w.channel.openValve = false) (cls : w.channel.closeValve = false) :
    (w.makePresent a).door.still = Door.madePresent w.image w.id w.channel a ∧ (w.makePresent a).door.motion = .settling ∧
      (w.makePresent a).channel = w.channel.reprimed w.group ∧ (w.makePresent a).out = w.out := by
  obtain ⟨v, is⟩ : ∃ v : Work, v = { w with
      door := { Door.atPowerOn w.config a with present := true, motion := .settling, changed := w.door.changed }
      channel := w.channel.reprimed w.group } := ⟨_, rfl⟩
  have checks (v : Work) (opn : v.channel.openValve = false) (cls : v.channel.closeValve = false) :
      v.recheckBoth = { v with door := v.door.rechecked v.image v.channel } := by
    rw [Work.recheckBoth, v.recheck_eq, Work.recheck_eq, show v.channel.valve .opn = false from opn]
    dsimp only
    rw [show v.channel.valve .cls = false from cls]
    rfl
  have made : w.makePresent a = { v with door := v.door.rechecked v.image v.channel } := by
    unfold Work.makePresent
    rw [← is]
    exact checks v (is ▸ opn) (is ▸ cls)
  have flag (r : Door) (c : Channel) : (r.rechecked w.image c).still = r.still.rechecked w.image c := (Door.rechecked_changed w.image c r false).symm
  obtain ⟨x, y, eq⟩ := v.door.rechecked_eq v.image v.channel
  rw [made]
  refine ⟨?_, ?_, ?_, ?_⟩
  · rw [is]
    exact flag _ _
  · show (v.door.rechecked v.image v.channel).motion = _
    rw [eq, is]
  · rw [is]
  · rw [is]

/-- A door present before and after (R36, R47, R63, R64). -/
theorem Work.keepPresent_eq (w : Work) (old : DoorRecord) :
    w.keepPresent old = { w with
      door := w.door.keptPresent w.image w.id old
      out := w.out ++ changeMessages .travelDrift (.door w.id) w.door.travelDrift (w.door.keptPresent w.image w.id old).travelDrift } := by
  have shape (e : Bool) (y : Door) (ms : Bool → List Instr) :
      (if e = true then ({ w with door := y, out := w.out ++ ms y.travelDrift } : Work)
        else Work.endEdgeWait { w with door := y, out := w.out ++ ms y.travelDrift }) =
      { w with
        door := if e = true then y else { y with edgeWait := .none, edgeTimer := none }
        out := w.out ++ ms (if e = true then y else { y with edgeWait := .none, edgeTimer := none }).travelDrift } := by
    cases e <;> rfl
  unfold Work.keepPresent
  dsimp only
  rw [Work.evalTravelDrift_eq]
  exact shape _ _ (changeMessages .travelDrift (.door w.id) w.door.travelDrift)

/-- A door's filters where its end-switch filters are asked to prime again (R9). -/
theorem Channel.reprimed_inputs (g : GroupRecord) (c : Channel) : (c.reprimed g).inputs =
    { c.inputs with closedSwitch := c.closedSwitch.again g.endTimes, openSwitch := c.openSwitch.again g.endTimes } := by
  have again (f : Filter) : f.reprimed g.endTimes = f.again g.endTimes := by
    unfold Filter.reprimed Filter.again intervalToward
    cases f.raw <;> rfl
  unfold Channel.reprimed
  rw [again, again]
  rfl

section
variable (s : State) (d : DoorId)

/-- The door table's work on a door at a commit. -/
def State.committing : Work :=
  s.commitBegun.worked d fun w => w.commit s.image.doors[d] (standingOfFresh s.store.staging s.resolver d)

/-- The work of a commit before what follows every event. -/
def State.commitWork : Work :=
  (s.commitBegun.work d).commit s.image.doors[d] (standingOfFresh s.store.staging s.resolver d)

theorem State.committing_still : (s.committing d).door.still = (s.commitWork d).startIfDue.door.still := by
  unfold State.committing State.worked State.commitWork
  rw [Work.event_still]

theorem State.committing_channel : (s.committing d).channel =
    { (s.commitWork d).startIfDue.channel with warning := warningOn (s.commitWork d).startIfDue.door } := by
  unfold State.committing State.worked State.commitWork
  rw [Work.event_channel]

theorem State.committing_out : (s.committing d).out = (s.commitWork d).startIfDue.out := by
  unfold State.committing State.worked State.commitWork
  rw [Work.event_out]

variable {s d}

theorem madeAbsent_iff {old new : Image} : madeAbsent old new d = true ↔ old.doors[d].present = true ∧ new.doors[d].present = false := by
  unfold madeAbsent
  rw [Bool.and_eq_true, Bool.not_eq_true']

theorem madePresent_iff {old new : Image} : madePresent old new d = true ↔ old.doors[d].present = false ∧ new.doors[d].present = true := by
  unfold madePresent
  rw [Bool.and_eq_true, Bool.not_eq_true']

theorem keptPresent_iff {old new : Image} : keptPresent old new d = true ↔ old.doors[d].present = true ∧ new.doors[d].present = true := by
  unfold keptPresent
  rw [Bool.and_eq_true]

/-- A door that a commit makes ABSENT, its capture apart. -/
theorem State.committing_absent (drive : DriveOk (s.door d) (s.channel d)) (h : Machine.madeAbsent s.image s.store.staging d = true) :
    (s.committing d).door.still = ((s.door d).madeAbsent false).still ∧ Drives (s.channel d) (s.committing d).channel false false ∧
      (s.committing d).out = transitMessages d (s.door d) ++ driftMessages d (s.door d) ++ Work.travelMessages d (s.door d) := by
  obtain ⟨was, now⟩ := madeAbsent_iff.mp h
  have made : s.commitWork d = (s.commitBegun.work d).makeAbsent := by
    unfold State.commitWork Work.commit
    rw [was, show (s.commitBegun.work d).config.present = false from now]
  rw [Work.makeAbsent_eq] at made
  have idle : (s.commitWork d).startIfDue = s.commitWork d := Work.startIfDue_barred _ (by rw [made])
  have untested : (if (s.door d).testResult = .running then none else (s.door d).test) = none := by
    obtain ⟨-, -, running, -⟩ := drive
    split
    · rfl
    · next still => exact Option.not_isSome_iff_eq_none.mp fun on => still (running.mpr on)
  refine ⟨?_, ?_, ?_⟩
  · rw [State.committing_still, idle, made]
    exact congrArg (fun t => Door.still { (s.door d).madeAbsent false with test := t }) untested
  · rw [State.committing_channel, idle, made]
    exact ⟨rfl, rfl, rfl⟩
  · rw [State.committing_out, idle, made]
    exact congrArg (fun ms => ms ++ _ ++ _) (List.nil_append _)

/-- A door that a commit makes present. -/
theorem State.committing_present (opn : (s.channel d).openValve = false) (cls : (s.channel d).closeValve = false)
    (h : Machine.madePresent s.image s.store.staging d = true) :
    (s.committing d).door.still =
        Door.madePresent s.store.staging d (s.channel d) (standingOfFresh s.store.staging s.resolver d) ∧
      (s.committing d).door.motion = .settling ∧
      Drives ((s.channel d).reprimed s.store.staging.group) (s.committing d).channel false false ∧ (s.committing d).out = [] := by
  obtain ⟨was, now⟩ := madePresent_iff.mp h
  have made : s.commitWork d = (s.commitBegun.work d).makePresent (standingOfFresh s.store.staging s.resolver d) := by
    unfold State.commitWork Work.commit
    rw [was, show (s.commitBegun.work d).config.present = true from now]
  obtain ⟨still, motion, channel, out⟩ := Work.makePresent_eq (w := s.commitBegun.work d)
    (standingOfFresh s.store.staging s.resolver d) opn cls
  rw [← made] at still motion channel out
  have idle : (s.commitWork d).startIfDue = s.commitWork d := by
    unfold Work.startIfDue
    rw [Door.due_of_motion (by rw [motion]; nofun) (by rw [motion]; nofun)]
    rfl
  have same := s.committing_still d
  rw [idle] at same
  refine ⟨same.trans still, (congrArg Door.motion same :).trans motion, ?_, ?_⟩
  · rw [State.committing_channel, idle, channel]
    exact ⟨rfl, opn, cls⟩
  · rw [State.committing_out, idle, out]
    rfl

/-- A door present before and after a commit. -/
theorem State.committing_kept (h : Machine.keptPresent s.image s.store.staging d = true) :
    let r := (s.door d).keptPresent s.store.staging d s.image.doors[d]
    (s.committing d).door.still = (r.proceeds s.store.staging (s.channel d)).still ∧
      Drives (s.channel d) (s.committing d).channel (s.channel d).openValve (s.channel d).closeValve ∧
      (s.committing d).out = changeMessages .travelDrift (.door d) (s.door d).travelDrift r.travelDrift ++
        proceedMessages s.store.staging d (s.channel d) r := by
  intro r
  obtain ⟨was, now⟩ := keptPresent_iff.mp h
  have made : s.commitWork d = (s.commitBegun.work d).keepPresent s.image.doors[d] := by
    unfold State.commitWork Work.commit
    rw [was, show (s.commitBegun.work d).config.present = true from now]
  rw [Work.keepPresent_eq] at made
  obtain ⟨x, is⟩ : ∃ x, x = r := ⟨_, rfl⟩
  obtain ⟨ms, made_⟩ : ∃ ms, ms = changeMessages .travelDrift (.door d) (s.door d).travelDrift x.travelDrift := ⟨_, rfl⟩
  have work : s.commitWork d = { s.commitBegun.work d with door := x, out := ms } := by
    rw [made, made_, is]
    rfl
  have runs := Work.startIfDue_eq (s.commitWork d) (by rw [work]; rfl)
  rw [← is, ← made_]
  refine ⟨?_, ?_, ?_⟩
  · rw [State.committing_still, runs, work]
    rfl
  · rw [State.committing_channel, runs, work]
    exact ⟨rfl, rfl, rfl⟩
  · rw [State.committing_out, runs, work]
    rfl

/-- A door present neither before nor after a commit. -/
theorem State.committing_neither (was : s.image.doors[d].present = false) (now : s.store.staging.doors[d].present = false)
    (absent : (s.door d).motion = .absent) :
    (s.committing d).door = s.door d ∧ (s.committing d).channel.inputs = (s.channel d).inputs ∧ (s.committing d).out = [] := by
  have made : s.commitWork d = s.commitBegun.work d := by
    unfold State.commitWork Work.commit
    rw [was, show (s.commitBegun.work d).config.present = false from now]
  have idle : (s.commitWork d).startIfDue = s.commitBegun.work d := by
    unfold Work.startIfDue
    rw [made, show (s.commitBegun.work d).door = s.door d from rfl, Door.due_of_absent absent]
    rfl
  refine ⟨?_, ?_, ?_⟩
  · have event : s.committing d = ((s.commitWork d).startIfDue.setWarning).flagChange (s.door d) (s.channel d) := rfl
    rw [event, idle]
    unfold Work.flagChange
    rw [if_pos ⟨rfl, rfl, rfl⟩]
    rfl
  · rw [State.committing_channel, idle]
    rfl
  · rw [State.committing_out, idle]
    rfl

end

end Sys2Proof.Machine

/-! The recorder's and the resolver's parts of a commit (R85, R119). -/

namespace Sys2Proof.Machine

open Sys2Proof

/-! ### The recorder -/

/-- The records of a door that a commit leaves (R119). -/
def DoorFaults.committed (old new : Image) (d : DoorId) (x : DoorFaults) : DoorFaults :=
  if madeAbsent old new d || madePresent old new d then .clear
  else if keptPresent old new d then { x with wear := x.counters.exceeds new.group.wearThresholds } else x

/-- What the recorder makes of a capture that it drops (R113, R119, R128). -/
def droppedMessages (d : DoorId) : Option Capture → List Instr
  | some c => [.alarmResetCondition (faultAlarm c.kind) (.door d), .captureEmptiedNotice d]
  | none => []

/-- What the recorder makes of a door at a commit. -/
def DoorFaults.commitMessages (old new : Image) (d : DoorId) (x : DoorFaults) : List Instr :=
  if madeAbsent old new d then droppedMessages d x.capture
  else if keptPresent old new d then changeMessages .wear (.door d) x.wear (x.counters.exceeds new.group.wearThresholds) else []

theorem Log.commitDoor_perDoor (old new : Image) : Log.PerDoor new (fun l d => l.commitDoor old.doors[d] d)
    (DoorFaults.committed old new) (DoorFaults.commitMessages old new) := by
  rintro l d rfl
  dsimp only
  unfold Log.commitDoor DoorFaults.committed DoorFaults.commitMessages madeAbsent madePresent keptPresent
  cases old.doors[d].present <;> cases l.image.doors[d].present
  · simp [Log.withDoor_self]
  · simp
    rfl
  · cases (l.door d).capture <;> simp [droppedMessages, Log.emptied, Log.send, Log.withDoor]
  · simp only [Bool.not_true, Bool.and_false, Bool.or_false, Bool.and_true, Bool.false_eq_true, if_false, if_true]
    rw [Log.evalWear_eq]
    rfl

theorem Log.commit_eq (l : Log) (old : Image) :
    ∃ records, l.commit old = ⟨l.image, l.time, ⟨records, l.recorder.drive⟩,
        l.out ++ allDoors.flatMap fun d => (l.door d).commitMessages old l.image d⟩ ∧
      ∀ d : DoorId, records[d] = (l.door d).committed old l.image d := by
  obtain ⟨records, eq, doors⟩ := Log.foldl_perDoor (Log.commitDoor_perDoor old l.image) allDoors l rfl nodup_allDoors
  exact ⟨records, eq, fun d => by rw [doors, if_pos (mem_allDoors d)]⟩

/-! ### The resolver -/

/-- The resolver's records of a door behind a commit: computed afresh, and those of a door that has come or gone at their start
(R85). -/
theorem Orders.commit_door (o : Orders) (old : Image) (d : DoorId) :
    (o.commit old).resolver.doors[d] =
      { (if old.doors[d].present = o.isPresent d then o.door d else ⟨false, false, false, .none⟩) with
        reported := strongestSource o.image (o.commit old).resolver d } := by
  obtain ⟨o', group, -, doors, eq⟩ := o.commit_eq old
  have group' := group.trans o'.recomputeAll_group
  have own : (o.commit old).door d = { o'.door d with reported := o'.due d } := by rw [eq, Orders.recomputeAll_door]
  have due : o'.due d = (o.commit old).due d := by
    rw [eq]
    exact (o'.recomputeAll_sources.due d).symm
  rw [due, doors, Orders.due_eq_strongestSource, eq, group'.image, ← eq] at own
  exact own

theorem strongestSource_absent {i : Image} {d : DoorId} (out : i.doors[d].present = false) (r : Resolver) :
    strongestSource i r d = .none := if_neg fun h => by
  rw [out] at h
  cases h.1

theorem Orders.commit_group (o : Orders) (old : Image) : o.SameGroup (o.commit old) := by
  obtain ⟨o', group, -, -, eq⟩ := o.commit_eq old
  rw [eq]
  exact group.trans o'.recomputeAll_group

/-! ### What has been settled before -/

/-- What the resolver still has on its way to a door leaves so much of every door. -/
theorem State.settleDoors_lasting (ds : List DoorId) (s : State) : Lasting s (s.settleDoors ds).1 := by
  refine List.foldlRecOn (motive := Lasting s) ds (fun s d => s.settleDoor d) (.refl s) fun t h d _ => h.trans ?_
  refine List.foldlRecOn (motive := Lasting t) (t.inFlight.filter fun x => route? x == some (.toDoorTable d)) (fun s x => s.deliver x)
    (.refl t) fun u k m hm => k.trans ?_
  have way := (List.mem_filter.mp hm).2
  exact u.deliver_lasting (beq_iff_eq.mp way) rfl

end Sys2Proof.Machine

/-! What a commit that is taken leaves of each block, whatever is on its way (R47, R48, R63, R85, R119, R158). -/

namespace Sys2Proof.Machine

open Sys2Proof

/-- CONFIG_COMMIT taken: what the resolver had on its way to the doors made present, the blocks' parts, and what completes. -/
def State.commitTaken (s : State) : State :=
  (s.settleDoors s.madePresent).1.commit.complete (s.settleDoors s.madePresent).2

/-- The state in which the blocks do their parts. -/
def State.commitReady (s : State) : State := (s.settleDoors s.madePresent).1

section
variable (s : State)

theorem State.commitReady_frame : DoorTableOnly s s.commitReady := (s.settleDoors_settled s.madePresent).1.frame

theorem State.commitReady_image : s.commitReady.image = s.image ∧ s.commitReady.store = s.store :=
  ⟨s.commitReady_frame.image, s.commitReady_frame.store⟩

theorem State.mem_madePresent {d : DoorId} : d ∈ s.madePresent ↔ Machine.madePresent s.image s.store.staging d = true :=
  List.mem_filter.trans (and_iff_right (mem_allDoors d))

/-- A door that is not made present is the same until then. -/
theorem State.commitReady_door {d : DoorId} (other : Machine.madePresent s.image s.store.staging d = false) :
    s.commitReady.door d = s.door d ∧ s.commitReady.channel d = s.channel d :=
  (s.settleDoors_settled s.madePresent).1.doors d fun here => by
    rw [s.mem_madePresent.mp here] at other
    cases other

theorem State.commitTaken_completes : Completes s.commitReady.commit s.commitTaken := State.complete_completes _ _

theorem State.commitTaken_lasting : Lasting s.commitReady.commit s.commitTaken := State.complete_lasting _ _

theorem State.commitTaken_store :
    s.commitTaken.store = { s.store with active := s.store.staging, defaultLoaded := false, writing := true } := by
  rw [s.commitTaken_completes.store, State.commit_store, s.commitReady_frame.store]

theorem State.commitTaken_port : s.commitTaken.port = (Serial.commit ⟨s.store.staging, s.port, []⟩ s.image).port := by
  rw [s.commitTaken_completes.port, State.commit_port, s.commitReady_frame.store, s.commitReady_frame.port, s.commitReady_frame.image]

theorem State.commitTaken_rest : s.commitTaken.lines = s.lines ∧ s.commitTaken.straps = s.straps ∧ s.commitTaken.time = s.time ∧
    s.commitTaken.pending = s.pending ∧ s.commitTaken.freeDraws = s.freeDraws := by
  have frame := s.commitReady_frame
  have completes := s.commitTaken_completes
  exact ⟨completes.lines.trans ((State.commit_lines _).trans frame.lines), completes.straps.trans ((State.commit_straps _).trans frame.straps),
    completes.time.trans ((State.commit_time _).trans frame.time), completes.pending.trans ((State.commit_pending _).trans frame.pending),
    completes.freeDraws.trans ((State.commit_freeDraws _).trans frame.freeDraws)⟩

theorem State.commitTaken_resolver : s.commitTaken.resolver = (Orders.commit s.image ⟨s.store.staging, s.resolver, []⟩).resolver := by
  rw [s.commitTaken_completes.resolver, State.commit_resolver, s.commitReady_frame.store, s.commitReady_frame.resolver,
    s.commitReady_frame.image]

theorem State.commitTaken_standing : StandingInv s.commitTaken := by
  intro d
  have image : s.commitTaken.image = s.store.staging := (congrArg Store.active s.commitTaken_store :)
  rw [image, s.commitTaken_resolver, Orders.commit_door]

theorem State.commitTaken_group : s.commitTaken.resolver.mode = s.resolver.mode ∧
    s.commitTaken.resolver.latch = s.resolver.latch ∧ s.commitTaken.resolver.flood = s.resolver.flood := by
  have group := Orders.commit_group ⟨s.store.staging, s.resolver, []⟩ s.image
  rw [s.commitTaken_resolver]
  exact ⟨group.mode, group.latch, group.flood⟩

/-- The recorder's records of a door behind the blocks' parts of a commit. -/
theorem State.commit_faults (d : DoorId) :
    s.commit.recorder.doors[d] = s.recorder.doors[d].committed s.image s.store.staging d := by
  obtain ⟨records, eq, doors⟩ := Log.commit_eq ⟨s.store.staging, s.time, s.recorder, []⟩ s.image
  rw [State.commit_recorder, eq]
  exact doors d

/-- The work on a door there. -/
theorem State.commit_committing (d : DoorId) : s.commit.door d = (s.committing d).door ∧ s.commit.channel d = (s.committing d).channel :=
  s.commit_door d

end

section
variable {s : State} {d : DoorId}

/-- A door made ABSENT (R47, R85, R119). -/
theorem State.commitTaken_madeAbsent (drive : DriveInv s) (h : Machine.madeAbsent s.image s.store.staging d = true) :
    (s.commitTaken.door d).motion = .absent ∧ (s.commitTaken.channel d).openValve = false ∧
      (s.commitTaken.channel d).closeValve = false ∧ s.commitTaken.resolver.doors[d] = ⟨false, false, false, .none⟩ ∧
      s.commitTaken.recorder.doors[d].capture = none ∧ s.commitTaken.recorder.doors[d].counters = ⟨0, 0, 0, 0, 0⟩ := by
  obtain ⟨was, now⟩ := madeAbsent_iff.mp h
  obtain ⟨image, store⟩ := s.commitReady_image
  obtain ⟨door, channel⟩ := s.commitReady_door (d := d) (by unfold Machine.madePresent; rw [was]; rfl)
  obtain ⟨still, drives, -⟩ := State.committing_absent (s := s.commitReady) (d := d) (by rw [door, channel]; exact drive.2 d)
    (by rw [image, store]; exact h)
  obtain ⟨own, ownChannel⟩ := s.commitReady.commit_committing d
  have motion : (s.commitReady.commit.door d).motion = .absent := by
    rw [own]
    exact (congrArg Door.motion still :)
  obtain ⟨motion', opn, cls⟩ := s.commitTaken_lasting.unmoved d (.inr motion)
  rw [ownChannel] at opn cls
  have active : s.commitReady.commit.image = s.store.staging := by
    show s.commitReady.commit.store.active = _
    rw [State.commit_store, store]
  have faults : s.commitTaken.recorder.doors[d] = .clear := by
    rw [s.commitTaken_lasting.absent d (by rw [active]; exact now), State.commit_faults, image, store]
    unfold DoorFaults.committed
    rw [h]
    rfl
  refine ⟨motion'.trans motion, opn.trans drives.openValve, cls.trans drives.closeValve, ?_, by rw [faults]; rfl, by rw [faults]; rfl⟩
  rw [s.commitTaken_resolver, Orders.commit_door, strongestSource_absent now, was, if_neg fun is => Bool.noConfusion (is.trans now)]

/-- The valves of an ABSENT door are OFF (R18). -/
theorem DriveInv.absent_off (drive : DriveInv s) (out : s.image.doors[d].present = false) : (s.door d).motion = .absent ∧
    (s.channel d).openValve = false ∧ (s.channel d).closeValve = false := by
  obtain ⟨present, motion⟩ := drive.1 d
  have absent : (s.door d).motion = .absent := motion.mpr (present.trans out)
  obtain ⟨-, -, -, tested, opn, cls, -⟩ := drive.2 d
  have untested x (is : (s.door d).test = some x) : False := by
    have isolated := tested (by rw [is]; rfl)
    rw [absent] at isolated
    cases isolated
  refine ⟨absent, Bool.eq_false_of_not_eq_true fun on => ?_, Bool.eq_false_of_not_eq_true fun on => ?_⟩
  · rcases opn on with moving | ⟨x, is, -⟩
    · rw [absent] at moving
      cases moving
    · exact untested x is
  · rcases cls on with moving | ⟨x, is, -⟩
    · rw [absent] at moving
      cases moving
    · exact untested x is

theorem Door.times_of_still {r r' : Door} (still : r.still = r') : r.learnedClose = r'.learnedClose ∧ r.learnedOpen = r'.learnedOpen :=
  ⟨(congrArg Door.learnedClose still :), (congrArg Door.learnedOpen still :)⟩

theorem FiltersKept.endSwitches {s t : State} (h : FiltersKept s t) (d : DoorId) :
    (t.channel d).closedSwitch = (s.channel d).closedSwitch ∧ (t.channel d).openSwitch = (s.channel d).openSwitch :=
  ⟨h (.door d .closedSwitch), h (.door d .openSwitch)⟩

theorem Drives.endSwitches {c c' : Channel} {opn cls : Bool} (h : Drives c c' opn cls) :
    c'.closedSwitch = c.closedSwitch ∧ c'.openSwitch = c.openSwitch :=
  ⟨(congrArg Channel.closedSwitch h.inputs :), (congrArg Channel.openSwitch h.inputs :)⟩

theorem Door.madePresent_times (i : Image) (d : DoorId) (c : Channel) (a : Standing) :
    (Door.madePresent i d c a).learnedClose = i.doors[d].nominalClose ∧ (Door.madePresent i d c a).learnedOpen = i.doors[d].nominalOpen := by
  obtain ⟨x, y, eq⟩ := Door.rechecked_eq i c
    { present := true, motion := .settling, dir := .cls, p0 := 500, elapsed := 0, deadline := 10, full := false
      authority := .local_, held := false, estimate := 500
      learnedClose := i.doors[d].nominalClose, learnedOpen := i.doors[d].nominalOpen, lastStroke := none
      transit := false, transitTimer := none, transitLong := false, warningTimer := none, dwellTimer := none
      edgeWait := .none, edgeTimer := none, drifted := false, standing := a, tight := false, changed := false
      testResult := .none, test := none, openCheck := .idle, closeCheck := .idle, faulted := false
      settle := ⟨false, false, false⟩, travelDrift := false }
  exact ⟨(congrArg Door.learnedClose eq :), (congrArg Door.learnedOpen eq :)⟩

theorem Door.keptPresent_times (i : Image) (d : DoorId) (old : DoorRecord) (r : Door) :
    (r.keptPresent i d old).learnedClose =
        (if i.doors[d].nominalClose = old.nominalClose then r.learnedClose else i.doors[d].nominalClose) ∧
      (r.keptPresent i d old).learnedOpen =
        (if i.doors[d].nominalOpen = old.nominalOpen then r.learnedOpen else i.doors[d].nominalOpen) := by
  have shape (e : Bool) (y : Door) : (if e then y else { y with edgeWait := .none, edgeTimer := none }).learnedClose = y.learnedClose ∧
      (if e then y else { y with edgeWait := .none, edgeTimer := none }).learnedOpen = y.learnedOpen := by
    cases e <;> exact ⟨rfl, rfl⟩
  exact shape i.doors[d].edgeEnable _

/-- A door made present (R9, R13, R47, R48, R63). -/
theorem State.commitTaken_madePresent (drive : DriveInv s) (h : Machine.madePresent s.image s.store.staging d = true) :
    (s.commitTaken.door d).motion = .settling ∧ (s.commitTaken.channel d).openValve = false ∧
      (s.commitTaken.channel d).closeValve = false ∧
      (s.commitTaken.door d).learnedClose = s.store.staging.doors[d].nominalClose ∧
      (s.commitTaken.door d).learnedOpen = s.store.staging.doors[d].nominalOpen ∧
      (s.commitTaken.channel d).closedSwitch.primed = false ∧ (s.commitTaken.channel d).openSwitch.primed = false := by
  obtain ⟨was, now⟩ := madePresent_iff.mp h
  obtain ⟨image, store⟩ := s.commitReady_image
  obtain ⟨absent, opn, cls⟩ := drive.absent_off was
  obtain ⟨-, opn', cls'⟩ := (State.settleDoors_lasting s.madePresent s).unmoved d (.inr absent)
  obtain ⟨still, motion, drives, -⟩ := State.committing_present (s := s.commitReady) (d := d) (opn'.trans opn) (cls'.trans cls)
    (by rw [image, store]; exact h)
  obtain ⟨own, ownChannel⟩ := s.commitReady.commit_committing d
  rw [store] at still drives
  have lasting := s.commitTaken_lasting
  have settles : (s.commitReady.commit.door d).motion = .settling := by rw [own]; exact motion
  obtain ⟨motion'', opn'', cls''⟩ := lasting.unmoved d (.inl settles)
  rw [ownChannel] at opn'' cls''
  have times : (s.commitReady.commit.door d).learnedClose = s.store.staging.doors[d].nominalClose ∧
      (s.commitReady.commit.door d).learnedOpen = s.store.staging.doors[d].nominalOpen := by
    obtain ⟨close, opn⟩ := Door.madePresent_times s.store.staging d (s.commitReady.channel d)
      (standingOfFresh s.store.staging s.commitReady.resolver d)
    rw [own]
    obtain ⟨close', opn'⟩ := Door.times_of_still still
    exact ⟨close'.trans close, opn'.trans opn⟩
  have unprimed : (s.commitReady.commit.channel d).closedSwitch.primed = false ∧
      (s.commitReady.commit.channel d).openSwitch.primed = false := by
    rw [ownChannel]
    obtain ⟨closed, opened⟩ := drives.endSwitches
    rw [closed, opened]
    exact ⟨rfl, rfl⟩
  have filters : FiltersKept s.commitReady.commit s.commitTaken := State.complete_filters _ (s.settleDoors s.madePresent).2
  obtain ⟨closed, opened⟩ := filters.endSwitches d
  refine ⟨motion''.trans settles, opn''.trans drives.openValve, cls''.trans drives.closeValve, (lasting.learnedClose d).trans times.1,
    (lasting.learnedOpen d).trans times.2, ?_, ?_⟩
  · rw [closed]
    exact unprimed.1
  · rw [opened]
    exact unprimed.2

/-- A door present before and after (R63). -/
theorem State.commitTaken_keptPresent (h : Machine.keptPresent s.image s.store.staging d = true) :
    let old := s.image.doors[d]
    let new := s.store.staging.doors[d]
    (s.commitTaken.door d).learnedClose =
        (if new.nominalClose = old.nominalClose then (s.door d).learnedClose else new.nominalClose) ∧
      (s.commitTaken.door d).learnedOpen =
        (if new.nominalOpen = old.nominalOpen then (s.door d).learnedOpen else new.nominalOpen) := by
  intro old new
  obtain ⟨was, now⟩ := keptPresent_iff.mp h
  obtain ⟨image, store⟩ := s.commitReady_image
  obtain ⟨door, -⟩ := s.commitReady_door (d := d) (by unfold Machine.madePresent; rw [was]; rfl)
  obtain ⟨still, -, -⟩ := State.committing_kept (s := s.commitReady) (d := d) (by rw [image, store]; exact h)
  rw [image, store, door] at still
  obtain ⟨close, opn⟩ := Door.keptPresent_times s.store.staging d old (s.door d)
  have same := (Door.proceeds_sameConditions s.store.staging (s.commitReady.channel d)
    ((s.door d).keptPresent s.store.staging d old)).trans (Door.sameConditions_of_still still)
  have own := (s.commitReady.commit_committing d).1
  have lasting := s.commitTaken_lasting
  refine ⟨(lasting.learnedClose d).trans ?_, (lasting.learnedOpen d).trans ?_⟩
  · rw [own]
    exact same.learnedClose.trans close
  · rw [own]
    exact same.learnedOpen.trans opn

end

end Sys2Proof.Machine

/-! What the blocks make at a commit where nothing is on its way (R47, R64, R85, R105, R119, R158). -/

namespace Sys2Proof.Machine

open Sys2Proof

/-- The allocator's part of a commit (R102, R105). -/
theorem Flow.commit_become {f : Flow} (w : f.Within) (l : GroupLines) : f.commit l = f.become (Account.commit f.image l f.account) := by
  have lost : (allHpus.foldl (fun f h => f.evalLost l h) (f.computeEach l allHpus)).Within :=
    List.foldlRecOn (motive := Flow.Within) allHpus _ (w.computeEach l allHpus) fun _ hf h _ => (Flow.evalLost_quiet _ l h).within hf
  have evaluated (hs : List HpuId) (g : Flow) :
      hs.foldl (fun f h => f.evalLost l h) g = g.become (hs.foldl (fun x h => Account.lost g.image l h x) g.account) := by
    induction hs generalizing g with
    | nil => exact g.become_self.symm
    | cons h hs ih =>
      rw [List.foldl_cons, List.foldl_cons, ih, Flow.evalLost_become]
      rfl
  unfold Flow.commit
  rw [Flow.served_become lost, evaluated, Flow.computeEach_become w]
  rfl

section
variable (s : State)

/-- The standing authority that a door made present has (R85). -/
def State.freshStanding (d : DoorId) : Standing := standingOfFresh s.store.staging s.resolver d

theorem standingOfFresh_eq (i : Image) (r : Resolver) {d : DoorId} (present : i.doors[d].present = true) :
    standingOfFresh i r d = if r.latch then .emergency else if r.mode = .closed then .central else .none := by
  unfold standingOfFresh standingOf
  rw [present]
  simp only [Fin.getElem_fin, Vector.getElem_set_self, Bool.not_true, Bool.or_self, Bool.false_eq_true, if_false]
  cases r.mode <;> rfl

end

/-- The doors that a commit makes present and that are reported an order at once. -/
def State.orderedAtOnce (s : State) (d : DoorId) : Bool :=
  Machine.madePresent s.image s.store.staging d && s.freshStanding d != .none

/-- A door that is neither made ABSENT nor made present is as much present as it was. -/
theorem presence_of_kept {old new : Image} {d : DoorId} (absent : madeAbsent old new d = false) (present : madePresent old new d = false) :
    old.doors[d].present = new.doors[d].present :=
  (by decide : ∀ a b : Bool, (a && !b) = false → (!a && b) = false → a = b) _ _ absent present

section
variable {s : State}

/-- The resolver's part of a commit (R85), the standing authorities having been reported. -/
theorem State.commit_orders (standing : StandingInv s) :
    let o := Orders.commit s.image ⟨s.store.staging, s.resolver, []⟩
    o.out = allDoors.flatMap (fun d =>
        if Machine.madeAbsent s.image s.store.staging d then [.alarmClear .openInhibited (.door d)] else []) ++
      allDoors.flatMap (fun d => if s.orderedAtOnce d then [.standingAuthorityReport d (s.freshStanding d)] else []) ∧
    ∀ d, o.resolver.doors[d] = if Machine.madePresent s.image s.store.staging d then ⟨false, false, false, s.freshStanding d⟩
      else if Machine.madeAbsent s.image s.store.staging d then ⟨false, false, false, .none⟩ else s.resolver.doors[d] := by
  intro o
  obtain ⟨o', group, out, doors, eq⟩ := Orders.commit_eq ⟨s.store.staging, s.resolver, []⟩ s.image
  have is : o = o'.recomputeAll := eq
  have image : o'.image = s.store.staging := group.image
  have door (d : DoorId) : o'.door d =
      if s.image.doors[d].present = s.store.staging.doors[d].present then s.resolver.doors[d] else ⟨false, false, false, .none⟩ := doors d
  have fresh (d : DoorId) (h : Machine.madePresent s.image s.store.staging d = true) :
      o'.door d = ⟨false, false, false, .none⟩ ∧ o'.due d = s.freshStanding d := by
    obtain ⟨was, now⟩ := madePresent_iff.mp h
    have started : o'.door d = ⟨false, false, false, .none⟩ := by rw [door, was, now, if_neg nofun]
    refine ⟨started, ?_⟩
    unfold State.freshStanding standingOfFresh
    refine Orders.due_congr (o := ⟨s.store.staging, { s.resolver with doors := s.resolver.doors.set d ⟨false, false, false, .none⟩ }, []⟩)
      image group.latch group.mode ?_ ?_ <;> rw [started] <;> simp [Orders.door]
  have kept (d : DoorId) (same : s.image.doors[d].present = s.store.staging.doors[d].present) :
      o'.door d = s.resolver.doors[d] ∧ o'.due d = s.resolver.doors[d].reported := by
    have own : o'.door d = s.resolver.doors[d] := (door d).trans (if_pos same)
    refine ⟨own, ?_⟩
    have due := (standing d).trans (s.orders.due_eq_strongestSource d).symm
    rw [due]
    unfold Orders.due standingOf
    unfold Orders.door at own
    rw [own, image, ← same, group.latch, group.mode]
    rfl
  have absent (d : DoorId) (h : Machine.madeAbsent s.image s.store.staging d = true) :
      o'.door d = ⟨false, false, false, .none⟩ ∧ o'.isPresent d = false ∧ o'.due d = .none := by
    obtain ⟨was, now⟩ := madeAbsent_iff.mp h
    have out : o'.image.doors[d].present = false := by rw [image]; exact now
    exact ⟨by rw [door, was, now, if_neg nofun], out, (o'.due_eq_strongestSource d).trans (strongestSource_absent out _)⟩
  have reports (d : DoorId) : o'.reports d = if s.orderedAtOnce d then [.standingAuthorityReport d (s.freshStanding d)] else [] := by
    unfold Orders.reports State.orderedAtOnce
    cases present : Machine.madePresent s.image s.store.staging d with
    | true =>
      obtain ⟨started, due⟩ := fresh d present
      have here : o'.isPresent d = true := by
        show o'.image.doors[d].present = true
        rw [image]
        exact (madePresent_iff.mp present).2
      rw [started, due, here]
      cases s.freshStanding d <;> rfl
    | false =>
      cases gone : Machine.madeAbsent s.image s.store.staging d with
      | true =>
        rw [if_pos (.inr (absent d gone).2.1)]
        rfl
      | false =>
        obtain ⟨own, due⟩ := kept d (presence_of_kept gone present)
        rw [if_pos (.inl (by rw [due, own]))]
        rfl
  rw [is]
  refine ⟨?_, fun d => (o'.recomputeAll_door d).trans ?_⟩
  · rw [Orders.recomputeAll_out, out, List.nil_append, List.flatMap_congr fun d _ => reports d]
    rfl
  · cases present : Machine.madePresent s.image s.store.staging d with
    | true =>
      obtain ⟨started, due⟩ := fresh d present
      rw [started, due]
      rfl
    | false =>
      cases gone : Machine.madeAbsent s.image s.store.staging d with
      | true =>
        obtain ⟨started, -, due⟩ := absent d gone
        rw [started, due]
        rfl
      | false =>
        obtain ⟨own, due⟩ := kept d (presence_of_kept gone present)
        rw [own, due]
        rfl

end

end Sys2Proof.Machine

/-! What a commit has on its way where nothing was, and its completion in two turns. -/

namespace Sys2Proof.Machine

open Sys2Proof

section
variable (s : State)

/-- The allocator's account of a commit. -/
def State.commitAccount : Account := Account.commit s.store.staging s.lines (s.alloc, [])

/-- What the line port makes at a commit. -/
def State.commitLines : List Instr := (Serial.commit ⟨s.store.staging, s.port, []⟩ s.image).out

/-- What the blocks make at a commit, in their order. -/
def State.commitMade : List Instr :=
  .alarmClear .configDefault .group :: allDoors.flatMap (fun d => (s.committing d).out) ++
    allDoors.flatMap (fun d => if Machine.madeAbsent s.image s.store.staging d then [.alarmClear .openInhibited (.door d)] else []) ++
    allDoors.flatMap (fun d => if s.orderedAtOnce d then [.standingAuthorityReport d (s.freshStanding d)] else []) ++
    s.commitAccount.2 ++
    allDoors.flatMap (fun d => s.recorder.doors[d].commitMessages s.image s.store.staging d) ++
    s.commitLines

end

section
variable {s : State}

theorem State.commitBegun_flow : s.commitBegun.flow = ⟨s.store.staging, s.alloc, []⟩ := rfl

theorem State.commit_account (inv : FlowInv s) : Flow.commit ⟨s.store.staging, s.alloc, []⟩ s.lines =
    ⟨s.store.staging, s.commitAccount.1, s.commitAccount.2⟩ :=
  Flow.commit_become (f := ⟨s.store.staging, s.alloc, []⟩) (State.flow_within inv) s.lines

theorem State.commit_inFlight (quiet : s.inFlight = []) (standing : StandingInv s) (inv : FlowInv s) :
    s.commit.inFlight = s.commitMade := by
  have frame := s.commit_frame
  have begun : s.commitBegun.inFlight = [.alarmClear .configDefault .group] := by
    show s.inFlight ++ _ = _
    rw [quiet]
    rfl
  obtain ⟨records, recorded, -⟩ := Log.commit_eq ⟨s.store.staging, s.time, s.recorder, []⟩ s.image
  have orders := (State.commit_orders standing).1
  have account := State.commit_account inv
  rw [State.commit_eq, State.commitRest_eq]
  dsimp only
  rw [State.doorEvents_inFlight _ nodup_allDoors, frame.orders, frame.flow, frame.log, frame.serial, frame.lines, begun,
    show s.commitBegun.orders = ⟨s.store.staging, s.resolver, []⟩ from rfl, orders,
    State.commitBegun_flow, show s.commitBegun.lines = s.lines from rfl, account,
    show s.commitBegun.log = ⟨s.store.staging, s.time, s.recorder, []⟩ from rfl, recorded]
  unfold State.commitMade
  simp only [List.append_assoc, List.cons_append, List.nil_append]
  rfl

/-! ### What each block makes -/

/-- A report to the alarm list, or a message between a door and the allocator. -/
def AlarmOrFlow (m : Instr) : Prop := ToAlarms m ∨ ∃ d, route? m = some (.toAllocator d) ∨ route? m = some (.fromAllocator d)

theorem AlarmOrFlow.reaction {m : Instr} (h : AlarmOrFlow m) : reaction? m = none := by
  rcases h with own | ⟨d, way | way⟩
  · exact reaction_of_toAlarms own
  all_goals cases m <;> first | rfl | cases way

theorem AlarmOrFlow.completes {m : Instr} (h : AlarmOrFlow m) : completes m = true → ToAlarms m := by
  rcases h with own | ⟨d, way | way⟩
  · exact fun _ => own
  all_goals cases m <;> first | (cases way; done) | exact nofun

theorem reached_of_alarmOrFlow {ms : List Instr} (all : ∀ m ∈ ms, AlarmOrFlow m) : reached ms = [] :=
  List.filterMap_eq_nil_iff.mpr fun m hm => by rw [(all m hm).reaction]; rfl

theorem changeMessages_toAlarms {k : AlarmKind} {x : Subject} {was now : Bool} : ∀ m ∈ changeMessages k x was now, ToAlarms m := by
  intro m hm
  unfold changeMessages at hm
  split at hm
  · cases hm
  · split at hm <;> (rw [List.mem_singleton.mp hm]; trivial)

theorem proceedMessages_flow {i : Image} {d : DoorId} {c : Channel} {r : Door} :
    ∀ m ∈ proceedMessages i d c r, route? m = some (.toAllocator d) := by
  intro m hm
  unfold proceedMessages closeMessages moveMessages at hm
  split at hm
  · next due =>
    have outOfTransit : r.transit = false := by
      cases transit : r.transit with
      | false => rfl
      | true => simp [Door.due, transit] at due
    rw [restMessages_of_outOfTransit outOfTransit] at hm
    split at hm
    · split at hm
      · cases hm
      · rw [List.mem_singleton.mp hm]
        rfl
    · cases hm
  · cases hm

/-- What the door table makes of a door at a commit. -/
def State.commitOut (s : State) (d : DoorId) : List Instr :=
  if Machine.madeAbsent s.image s.store.staging d then
    transitMessages d (s.door d) ++ driftMessages d (s.door d) ++ Work.travelMessages d (s.door d)
  else if Machine.keptPresent s.image s.store.staging d then
    let r := (s.door d).keptPresent s.store.staging d s.image.doors[d]
    changeMessages .travelDrift (.door d) (s.door d).travelDrift r.travelDrift ++ proceedMessages s.store.staging d (s.channel d) r
  else []

theorem State.committing_made (drive : DriveInv s) (d : DoorId) : (s.committing d).out = s.commitOut d := by
  unfold State.commitOut
  cases absent : Machine.madeAbsent s.image s.store.staging d with
  | true => exact (State.committing_absent (drive.2 d) absent).2.2
  | false =>
    cases kept : Machine.keptPresent s.image s.store.staging d with
    | true => exact (State.committing_kept kept).2.2
    | false =>
      cases present : Machine.madePresent s.image s.store.staging d with
      | true =>
        obtain ⟨-, opn, cls⟩ := drive.absent_off (madePresent_iff.mp present).1
        exact (State.committing_present opn cls present).2.2.2
      | false =>
        have same := presence_of_kept absent present
        have out : s.image.doors[d].present = false := Bool.eq_false_of_not_eq_true fun here => by
          rw [keptPresent_iff.mpr ⟨here, same ▸ here⟩] at kept
          cases kept
        exact (State.committing_neither out (same ▸ out) (drive.absent_off out).1).2.2

theorem State.commitOut_kinds (s : State) (d : DoorId) : ∀ m ∈ s.commitOut d, AlarmOrFlow m := by
  intro m hm
  unfold State.commitOut at hm
  split at hm
  · simp only [transitMessages, driftMessages, Work.travelMessages, List.mem_append, List.mem_ite_nil_right, List.mem_singleton] at hm
    rcases hm with (⟨-, rfl⟩ | ⟨-, rfl⟩) | ⟨-, rfl⟩ <;> exact .inl trivial
  · split at hm
    · exact (List.mem_append.mp hm).elim (fun h => .inl (changeMessages_toAlarms m h)) fun h => .inr ⟨d, .inl (proceedMessages_flow m h)⟩
    · cases hm

theorem State.commitAccount_kinds (inv : FlowInv s) : ∀ m ∈ s.commitAccount.2, AlarmOrFlow m := by
  obtain ⟨ms, eq, all⟩ := Flow.commit_adds ⟨s.store.staging, s.alloc, []⟩ s.lines
  rw [State.commit_account inv] at eq
  intro m hm
  rw [show s.commitAccount.2 = ms from eq] at hm
  have own := all m hm
  cases m <;> first | exact .inl trivial | exact .inr ⟨_, .inr rfl⟩ | cases own

theorem State.commitLines_kinds (s : State) : ∀ m ∈ s.commitLines, ToAlarms m := by
  obtain ⟨ms, eq, all⟩ := Serial.commit_adds ⟨s.store.staging, s.port, []⟩ s.image
  unfold State.commitLines
  rw [eq]
  exact all

/-! ### The doors that are told -/

/-- The doors that are told of something at a commit: those made present under an order, and those made ABSENT with a capture. -/
def State.toldAtCommit (s : State) : List DoorId :=
  allDoors.filter s.orderedAtOnce ++
    allDoors.filter fun d => Machine.madeAbsent s.image s.store.staging d && s.recorder.doors[d].capture.isSome

/-- What a door made present does with its order, and one made ABSENT with the notice of its capture. -/
def State.toldReaction (s : State) (d : DoorId) (w : Work) : Work := if s.orderedAtOnce d then w.order (s.freshStanding d) else w.emptied

theorem State.orderedAtOnce_present {d : DoorId} (h : s.orderedAtOnce d = true) :
    Machine.madePresent s.image s.store.staging d = true ∧ s.freshStanding d ≠ .none := by
  unfold State.orderedAtOnce at h
  rw [Bool.and_eq_true, bne_iff_ne] at h
  exact h

theorem State.not_orderedAtOnce_of_madeAbsent {d : DoorId} (absent : Machine.madeAbsent s.image s.store.staging d = true) :
    s.orderedAtOnce d = false := Bool.eq_false_of_not_eq_true fun h => by
  have now := (madePresent_iff.mp (State.orderedAtOnce_present h).1).2
  rw [(madeAbsent_iff.mp absent).2] at now
  cases now

theorem State.toldAtCommit_nodup (s : State) : s.toldAtCommit.Nodup :=
  List.Nodup.append (nodup_allDoors.filter _) (nodup_allDoors.filter _) fun d ordered emptied => by
    have absent := (List.mem_filter.mp emptied).2
    rw [Bool.and_eq_true] at absent
    have ordered := (List.mem_filter.mp ordered).2
    rw [State.not_orderedAtOnce_of_madeAbsent absent.1] at ordered
    cases ordered

theorem reached_commitMessages {old new : Image} (d : DoorId) (x : DoorFaults) : reached (x.commitMessages old new d) =
    if Machine.madeAbsent old new d && x.capture.isSome then [d] else [] := by
  unfold DoorFaults.commitMessages
  cases Machine.madeAbsent old new d with
  | true =>
    rw [if_pos rfl]
    cases x.capture <;> rfl
  | false =>
    rw [if_neg nofun]
    split
    · exact reached_of_alarms changeMessages_toAlarms
    · rfl

theorem State.reached_commitMade (drive : DriveInv s) (inv : FlowInv s) : reached s.commitMade = s.toldAtCommit := by
  have doors : reached (allDoors.flatMap fun d => (s.committing d).out) = [] := by
    rw [reached_flatMap]
    refine List.flatMap_eq_nil_iff.mpr fun d _ => ?_
    rw [State.committing_made drive]
    exact reached_of_alarmOrFlow (s.commitOut_kinds d)
  have inhibited : reached (allDoors.flatMap fun d =>
      if Machine.madeAbsent s.image s.store.staging d then [.alarmClear .openInhibited (.door d)] else []) = [] := by
    rw [reached_flatMap]
    refine List.flatMap_eq_nil_iff.mpr fun d _ => ?_
    split <;> rfl
  have ordered : reached (allDoors.flatMap fun d =>
      if s.orderedAtOnce d then [.standingAuthorityReport d (s.freshStanding d)] else []) = allDoors.filter s.orderedAtOnce := by
    rw [reached_flatMap, ← List.map_id (allDoors.filter s.orderedAtOnce), ← flatMap_ite_singleton]
    refine List.flatMap_congr fun d _ => ?_
    split <;> rfl
  have emptied : reached (allDoors.flatMap fun d => s.recorder.doors[d].commitMessages s.image s.store.staging d) =
      allDoors.filter fun d => Machine.madeAbsent s.image s.store.staging d && s.recorder.doors[d].capture.isSome := by
    rw [reached_flatMap, ← List.map_id (allDoors.filter _), ← flatMap_ite_singleton]
    exact List.flatMap_congr fun d _ => reached_commitMessages d _
  unfold State.commitMade State.toldAtCommit
  simp only [reached_append, List.cons_append, reached_cons_alarm (m := .alarmClear .configDefault .group) trivial, doors, inhibited, ordered,
    emptied, reached_of_alarmOrFlow (State.commitAccount_kinds inv), reached_of_alarms s.commitLines_kinds, List.nil_append, List.append_nil]

end

end Sys2Proof.Machine

/-! A commit's completion where nothing was on its way: the reactions of the doors that are told (R41, R43, R47). -/

namespace Sys2Proof.Machine

open Sys2Proof

section
variable {s : State} {d : DoorId}

/-! ### Reactions that change nothing more -/

/-- What a reaction that makes nothing leaves of a door. -/
structure State.QuietReaction (s : State) (d : DoorId) (f : Work → Work) (r : Door) : Prop where
  still : (s.worked d f).door.still = r.still
  drives : Drives (s.channel d) (s.worked d f).channel (s.channel d).openValve (s.channel d).closeValve
  out : (s.worked d f).out = []

theorem State.quietReaction {f : Work → Work} {r : Door} {b : Bool}
    (is : f (s.work d) = { s.work d with door := r, dueBarred := b }) (idle : b = true ∨ r.due = false) : s.QuietReaction d f r := by
  have still : (f (s.work d)).startIfDue = { s.work d with door := r, dueBarred := b } := by
    unfold Work.startIfDue
    rw [is]
    refine if_neg fun h => ?_
    dsimp only at h
    rw [Bool.and_eq_true, Bool.not_eq_true'] at h
    rcases idle with barred | idle
    · rw [h.2] at barred
      cases barred
    · rw [h.1] at idle
      cases idle
  refine ⟨?_, ?_, ?_⟩
  · unfold State.worked
    rw [Work.event_still, still]
  · unfold State.worked
    rw [Work.event_channel, still]
    exact ⟨rfl, rfl, rfl⟩
  · unfold State.worked
    rw [Work.event_out, still]
    rfl

/-- A report of the standing authority that a SETTLING door has already. -/
theorem State.quietReaction_order (settles : (s.door d).motion = .settling) :
    s.QuietReaction d (fun w => w.order (s.door d).standing) (s.door d) := by
  have idle : (s.door d).due = false := Door.due_of_motion (by rw [settles]; nofun) (by rw [settles]; nofun)
  refine State.quietReaction (b := false) ?_ (.inr idle)
  show (s.work d).order (s.work d).door.standing = _
  rw [Work.order_served (by rw [show (s.work d).door = s.door d from rfl, settles]; exact ⟨nofun, nofun⟩), if_pos rfl]
  rfl

/-- The notice of its capture at an ABSENT door. -/
theorem State.quietReaction_emptied (absent : (s.door d).motion = .absent) :
    s.QuietReaction d Work.emptied { s.door d with faulted := false } := by
  refine State.quietReaction (b := true) ?_ (.inl rfl)
  unfold Work.emptied
  exact if_pos (.inl absent)

theorem Door.standing_of_still_eq {r r' : Door} (still : r.still = r') : r.standing = r'.standing := (congrArg Door.standing still :)

theorem Door.madePresent_standing (i : Image) (d : DoorId) (c : Channel) (a : Standing) : (Door.madePresent i d c a).standing = a := by
  unfold Door.madePresent
  dsimp only
  rw [Door.valveAt_eq_withCheck, Door.valveAt_eq_withCheck]
  rfl

/-! ### The messages of a commit -/

theorem State.toldReaction_ordered (h : s.orderedAtOnce d = true) : s.toldReaction d = fun w => w.order (s.freshStanding d) :=
  funext fun _ => if_pos h

theorem State.toldReaction_emptied (h : s.orderedAtOnce d = false) : s.toldReaction d = Work.emptied :=
  funext fun _ => if_neg (by rw [h]; nofun)

theorem mem_droppedMessages {c : Option Capture} {m : Instr} (h : m ∈ droppedMessages d c) : ToAlarms m ∨ m = .captureEmptiedNotice d := by
  cases c with
  | none => cases h
  | some c =>
    rcases List.mem_cons.mp h with rfl | h
    · exact .inl trivial
    · exact .inr (List.mem_singleton.mp h)

theorem State.commitMade_kinds (drive : DriveInv s) (inv : FlowInv s) :
    ∀ m ∈ s.commitMade, AlarmOrFlow m ∨ ∃ d, reaction? m = some (d, s.toldReaction d) := by
  intro m hm
  unfold State.commitMade at hm
  simp only [List.mem_append, List.mem_cons, List.mem_flatMap, mem_allDoors, true_and, List.mem_ite_nil_right, List.not_mem_nil,
    or_false] at hm
  rcases hm with (((((rfl | ⟨d, hm⟩) | ⟨d, -, rfl⟩) | ⟨d, ordered, rfl⟩) | hm) | ⟨d, hm⟩) | hm
  · exact .inl (.inl trivial)
  · rw [State.committing_made drive] at hm
    exact .inl (s.commitOut_kinds d m hm)
  · exact .inl (.inl trivial)
  · exact .inr ⟨d, by rw [State.toldReaction_ordered ordered]; rfl⟩
  · exact .inl (State.commitAccount_kinds inv m hm)
  · unfold DoorFaults.commitMessages at hm
    split at hm
    · next absent =>
      rcases mem_droppedMessages hm with own | rfl
      · exact .inl (.inl own)
      · exact .inr ⟨d, by rw [State.toldReaction_emptied (State.not_orderedAtOnce_of_madeAbsent absent)]; rfl⟩
    · split at hm
      · exact .inl (.inl (changeMessages_toAlarms m hm))
      · cases hm
  · exact .inl (.inl (s.commitLines_kinds m hm))

/-- A message that completes goes no way of those to or from the allocator. -/
theorem AlarmOrFlow.apart {m : Instr} (h : AlarmOrFlow m) (other : Machine.completes m = false) (ms : List Instr) : WaysFree [m] ms := by
  intro x _ completing y hy way
  rw [List.mem_singleton.mp hy] at way
  obtain ⟨w, route, goes⟩ := route_of_completes completing
  rw [route] at way
  rcases h with own | ⟨d, is | is⟩
  · rw [own.completes] at other
    cases other
  all_goals
    rw [is] at way
    rw [← Option.some.inj way] at goes
    cases goes

/-! ### The doors behind the blocks' parts -/

variable (drive : DriveInv s)
include drive

/-- A door made present settles, with the standing authority that it is then told. -/
theorem State.commit_settles (present : Machine.madePresent s.image s.store.staging d = true) :
    (s.commit.door d).motion = .settling ∧ (s.commit.door d).standing = s.freshStanding d := by
  obtain ⟨-, opn, cls⟩ := drive.absent_off (madePresent_iff.mp present).1
  obtain ⟨still, motion, -, -⟩ := State.committing_present opn cls present
  rw [(s.commit_committing d).1]
  exact ⟨motion, (Door.standing_of_still_eq still).trans (Door.madePresent_standing ..)⟩

theorem State.commit_absent (absent : Machine.madeAbsent s.image s.store.staging d = true) : (s.commit.door d).motion = .absent := by
  rw [(s.commit_committing d).1]
  exact Door.motion_of_still (State.committing_absent (drive.2 d) absent).1

/-- A door that is told of something makes nothing of it. -/
theorem State.told_quiet : ∀ d ∈ s.toldAtCommit, (s.commit.worked d (s.toldReaction d)).out = [] := by
  intro d told
  rcases List.mem_append.mp told with ordered | emptied
  · have ordered := (List.mem_filter.mp ordered).2
    obtain ⟨settles, standing⟩ := State.commit_settles drive (State.orderedAtOnce_present ordered).1
    rw [State.toldReaction_ordered ordered, ← standing]
    exact (State.quietReaction_order settles).out
  · have emptied := (List.mem_filter.mp emptied).2
    rw [Bool.and_eq_true] at emptied
    rw [State.toldReaction_emptied (State.not_orderedAtOnce_of_madeAbsent emptied.1)]
    exact (State.quietReaction_emptied (State.commit_absent drive emptied.1)).out

variable (quiet : s.inFlight = []) (standing : StandingInv s) (inv : FlowInv s)
include quiet standing inv

theorem State.commit_taken : TakenInTwo s.commit (s.commit.complete 0) [] s.commitMade s.toldReaction := by
  have flight := State.commit_inFlight quiet standing inv
  have reaches := State.reached_commitMade drive inv
  have none : (reached s.commitMade).flatMap (fun d => (s.commit.worked d (s.toldReaction d)).out) = [] := by
    rw [reaches]
    exact List.flatMap_eq_nil_iff.mpr (State.told_quiet drive)
  have two := State.completeFrom_two (s := s.commit) (old := []) (ms := s.commitMade) (fuel := 8 * s.commit.inFlight.length + 8)
    s.toldReaction (fun _ _ _ _ h => nomatch h) (fun x hx other => ?_) (fun m hm completing => ?_) ?_
    (fun d hd m hm _ => ?_) (fun _ _ _ _ _ _ h => nomatch h) flight ?_
  · exact two
  · rcases State.commitMade_kinds drive inv x hx with kind | ⟨d, reacts⟩
    · exact kind.apart other _
    · rw [completes_of_reaction reacts] at other
      cases other
  · rcases State.commitMade_kinds drive inv m hm with kind | reacts
    · exact .inl (kind.completes completing)
    · exact .inr reacts
  · rw [reaches]
    exact s.toldAtCommit_nodup
  · rw [reaches] at hd
    rw [State.told_quiet drive d hd] at hm
    cases hm
  · rw [none, flight]
    have empty : load [] = 0 := rfl
    omega

end

end Sys2Proof.Machine

/-! The alarm list at a commit: its own part, and the reports of the others (R125, R127, R139). -/

namespace Sys2Proof.Machine

open Sys2Proof

/-- Whether a commit makes the door ABSENT that a subject is. -/
def Subject.gone (old new : Image) : Subject → Bool
  | .door d => madeAbsent old new d
  | .hpu _ | .line _ | .group => false

theorem Subject.gone_eq (old new : Image) (x : Subject) : (absentSubject new x && !absentSubject old x) = Subject.gone old new x := by
  cases x with
  | door d =>
    unfold absentSubject Subject.gone madeAbsent
    dsimp only
    rw [Bool.not_not, Bool.and_comm]
  | hpu h => rfl
  | line l => rfl
  | group => rfl

theorem absentSubject_of_gone {old new : Image} {x : Subject} (h : Subject.gone old new x = true) : absentSubject new x = true := by
  rw [← Subject.gone_eq, Bool.and_eq_true] at h
  exact h.1

/-- The alarm list's part of a commit (R139). -/
theorem AlarmList.commit_eq (old new : Image) (t : GroupTime) (a : AlarmList) : a.commit old new t = a.committed old new t := by
  have goes (e : Entry) : (absentSubject new e.subject && !absentSubject old e.subject) = Subject.gone old new e.subject :=
    Subject.gone_eq old new e.subject
  unfold AlarmList.commit AlarmList.committed
  dsimp only
  simp only [goes]
  rw [AlarmList.evalOverflow_eq]
  refine congrArg (fun x => AlarmList.setOutputs new.group.routedKinds (AlarmList.withRoom t x)) ?_
  show (if (a.entries.any fun e => Subject.gone old new e.subject) = true then _ else _) =
    { a with
      entries := a.entries.filter fun e => !Subject.gone old new e.subject
      changed := a.changed || a.entries.any fun e => Subject.gone old new e.subject }
  cases a.entries.any fun e => Subject.gone old new e.subject with
  | true =>
    rw [Bool.or_true]
    rfl
  | false =>
    rw [Bool.or_false]
    rfl

section
variable {old new : Image} {a : AlarmList}

/-- No entry is of a door that a commit has made ABSENT. -/
def AlarmList.Cleared (old new : Image) (a : AlarmList) : Prop := ∀ e ∈ a.entries, Subject.gone old new e.subject = false

/-- The end of a condition of a door that a commit has made ABSENT. -/
def endsGone (old new : Image) : Instr → Bool
  | .alarmClear k x | .alarmResetCondition k x => k != .listOverflow && Subject.gone old new x
  | _ => false

namespace AlarmList.Cleared

variable (h : a.Cleared old new) (t : GroupTime) (k : AlarmKind) (x : Subject)
include h

theorem of_entries {a' : AlarmList} (same : a'.entries = a.entries) : a'.Cleared old new := fun e he => h e (same ▸ he)

theorem update {f : Entry → Entry} (same : ∀ e, (f e).subject = e.subject) : (a.update k x f).Cleared old new := by
  intro e he
  obtain ⟨e', here, rfl⟩ := List.mem_map.mp he
  have own := h e' here
  split
  · rw [same]
    exact own
  · exact own

theorem remove : (a.remove k x).Cleared old new := fun e he => h e (List.mem_filter.mp he).1

theorem raise : (a.raise new t k x).Cleared old new := by
  unfold AlarmList.raise
  dsimp only
  split
  · exact h.of_entries rfl
  · split
    · split
      · refine of_entries (h.update k x (f := Entry.reraised new.group t) fun e => ?_) rfl
        unfold Entry.reraised
        split <;> rfl
      · exact h
      · exact h
    · split
      · exact h
      · next takes =>
        split
        · exact h.of_entries rfl
        · intro e he
          rcases List.mem_append.mp he with old_ | new_
          · exact h e old_
          · rw [List.mem_singleton.mp new_]
            refine Bool.eq_false_of_not_eq_true fun gone => takes ?_
            rw [absentSubject_of_gone (x := x) gone, Bool.or_true]

theorem conditionEnds : (a.conditionEnds new t k x).Cleared old new := by
  unfold AlarmList.conditionEnds
  dsimp only
  split
  · exact h.of_entries (AlarmList.evalOverflow_entries t a)
  · split
    · exact h
    · split
      · exact of_entries (h.update k x (f := fun e => { e with state := .clearedUnack, last := t }) fun _ => rfl) rfl
      · exact (h.remove k x).of_entries (AlarmList.evalOverflow_entries t _)
      · exact h

theorem taken (m : Instr) : (a.takeAll new t [m]).Cleared old new := by
  cases m
  case alarmRaise k x => exact h.raise t k x
  case alarmClear k x => exact h.conditionEnds t k x
  case alarmResetCondition k x => exact h.conditionEnds t k x
  all_goals exact h

theorem ends_gone {m : Instr} (gone : endsGone old new m = true) : a.takeAll new t [m] = a := by
  have ended {k : AlarmKind} {x : Subject} (is : (k != .listOverflow && Subject.gone old new x) = true) : a.conditionEnds new t k x = a := by
    rw [Bool.and_eq_true, bne_iff_ne] at is
    refine AlarmList.conditionEnds_absent is.1 ?_
    refine List.find?_eq_none.mpr fun e he own => ?_
    have subject : e.subject = x := congrArg Prod.snd ((e.isOf_iff k x).mp own)
    have stays := h e he
    rw [subject, is.2] at stays
    cases stays
  cases m
  case alarmClear k x => exact ended gone
  case alarmResetCondition k x => exact ended gone
  all_goals cases gone

end AlarmList.Cleared

/-- What ends for a door made ABSENT finds no entry. -/
theorem AlarmList.takeAll_filter_gone (t : GroupTime) (ms : List Instr) : ∀ a : AlarmList, a.Cleared old new →
    a.takeAll new t ms = a.takeAll new t (ms.filter (!endsGone old new ·)) := by
  induction ms with
  | nil => exact fun _ _ => rfl
  | cons m ms ih =>
    intro a h
    rw [AlarmList.takeAll_cons, List.filter_cons]
    cases gone : endsGone old new m with
    | true => exact (congrArg (fun x : AlarmList => x.takeAll new t ms) (h.ends_gone t gone)).trans (ih a h)
    | false => exact (ih _ (h.taken t m)).trans (AlarmList.takeAll_cons new t m _ a).symm

/-- What is no report to the alarm list is passed over. -/
theorem AlarmList.takeAll_alarmsOf (i : Image) (t : GroupTime) (ms : List Instr) :
    ∀ a : AlarmList, a.takeAll i t (alarmsOf ms) = a.takeAll i t ms := by
  induction ms with
  | nil => exact fun _ => rfl
  | cons m ms ih =>
    intro a
    by_cases own : ToAlarms m
    · rw [alarmsOf_cons_alarm own, AlarmList.takeAll_cons, ih, AlarmList.takeAll_cons i t m ms]
    · rw [alarmsOf_cons_other own, ih, AlarmList.takeAll_cons i t m ms]
      refine congrArg (fun x : AlarmList => x.takeAll i t ms) ?_
      cases m <;> first | rfl | exact absurd trivial own

theorem AlarmList.commit_cleared (t : GroupTime) (a : AlarmList) : (a.commit old new t).Cleared old new := by
  intro e he
  have here : e ∈ a.entries.filter fun e => !(absentSubject new e.subject && !absentSubject old e.subject) := by
    unfold AlarmList.commit at he
    dsimp only at he
    have same : ∀ (x : AlarmList) r, (AlarmList.setOutputs r (x.evalOverflow t)).entries = x.entries :=
      fun x r => AlarmList.evalOverflow_entries t x
    rw [same] at he
    split at he <;> exact he
  rw [List.mem_filter, Subject.gone_eq, Bool.not_eq_true'] at here
  exact here.2

end

end Sys2Proof.Machine

/-! What a commit's messages come to at the alarm list: the reports that can have an entry (R64, R105, R119, R158, R170, R172). -/

namespace Sys2Proof.Machine

open Sys2Proof

section
variable (old new : Image)

/-- A report to the alarm list that can have an entry after a commit. -/
def live (m : Instr) : Bool := (alarmOf? m).isSome && !endsGone old new m

theorem alarmsOf_live (ms : List Instr) : (alarmsOf ms).filter (!endsGone old new ·) = ms.filter (live old new) := by
  unfold alarmsOf
  rw [List.filter_filter]
  exact List.filter_congr fun m _ => Bool.and_comm ..

theorem filter_live_of_dead {ms : List Instr} (dead : ∀ m ∈ ms, live old new m = false) : ms.filter (live old new) = [] :=
  List.filter_eq_nil_iff.mpr fun m hm h => by
    rw [dead m hm] at h
    cases h

theorem filter_live_flow {ms : List Instr} (flow : ∀ m ∈ ms, completes m = false) : ms.filter (live old new) = [] :=
  filter_live_of_dead old new fun m hm => by
    have none : (alarmOf? m).isSome = false := Bool.eq_false_of_not_eq_true fun own => by
      have completing := (ToAlarms.alarmOf.mp own).completes
      rw [flow m hm] at completing
      cases completing
    unfold live
    rw [none, Bool.false_and]

end

section
variable {s : State} {d : DoorId}

/-- What ends for a door made ABSENT can have no entry. -/
theorem dead_of_madeAbsent {old new : Image} (absent : madeAbsent old new d = true) {k : AlarmKind} (ordinary : k ≠ .listOverflow) :
    live old new (.alarmClear k (.door d)) = false ∧ live old new (.alarmResetCondition k (.door d)) = false := by
  have gone : endsGone old new (.alarmClear k (.door d)) = true := by
    show (k != .listOverflow && madeAbsent old new d) = true
    rw [absent, Bool.and_true]
    exact bne_iff_ne.mpr ordinary
  exact ⟨by unfold live; rw [gone]; rfl, by unfold live; rw [show endsGone old new (.alarmResetCondition k (.door d)) = true from gone]; rfl⟩

theorem State.commitOut_live (s : State) (d : DoorId) : (s.commitOut d).filter (live s.image s.store.staging) =
    if Machine.keptPresent s.image s.store.staging d then
      (changeMessages .travelDrift (.door d) (s.door d).travelDrift
        ((s.door d).keptPresent s.store.staging d s.image.doors[d]).travelDrift).filter (live s.image s.store.staging)
    else [] := by
  unfold State.commitOut
  cases absent : Machine.madeAbsent s.image s.store.staging d with
  | true =>
    obtain ⟨was, now⟩ := madeAbsent_iff.mp absent
    rw [if_pos rfl, if_neg fun kept => by rw [(keptPresent_iff.mp kept).2] at now; cases now]
    refine filter_live_of_dead _ _ fun m hm => ?_
    simp only [transitMessages, driftMessages, Work.travelMessages, List.mem_append, List.mem_ite_nil_right, List.mem_singleton] at hm
    rcases hm with (⟨-, rfl⟩ | ⟨-, rfl⟩) | ⟨-, rfl⟩ <;> exact (dead_of_madeAbsent absent (by nofun)).1
  | false =>
    rw [if_neg nofun]
    refine (apply_ite (fun ms : List Instr => ms.filter (live s.image s.store.staging)) _ _ _).trans (if_congr Iff.rfl ?_ rfl)
    rw [List.filter_append, filter_live_flow _ _ (proceedMessages_quiet _ _ _ _), List.append_nil]

theorem faultAlarm_ordinary (k : FaultKind) : faultAlarm k ≠ .listOverflow := by
  cases k <;> exact nofun

theorem commitMessages_live {old new : Image} (d : DoorId) (x : DoorFaults) : (x.commitMessages old new d).filter (live old new) =
    if Machine.keptPresent old new d then
      (changeMessages .wear (.door d) x.wear (x.counters.exceeds new.group.wearThresholds)).filter (live old new) else [] := by
  unfold DoorFaults.commitMessages
  cases absent : Machine.madeAbsent old new d with
  | true =>
    obtain ⟨was, now⟩ := madeAbsent_iff.mp absent
    rw [if_pos rfl, if_neg fun kept => by rw [(keptPresent_iff.mp kept).2] at now; cases now]
    refine filter_live_of_dead _ _ fun m hm => ?_
    cases captured : x.capture with
    | none =>
      rw [captured] at hm
      cases hm
    | some c =>
      rw [captured] at hm
      rcases List.mem_cons.mp hm with rfl | hm
      · exact (dead_of_madeAbsent absent (faultAlarm_ordinary c.kind)).2
      · rw [List.mem_singleton.mp hm]
        rfl
  | false =>
    rw [if_neg nofun]
    exact apply_ite (fun ms : List Instr => ms.filter (live old new)) _ _ _

theorem Port.commitMessages_eq (old new : GroupRecord) (p : Port) : p.commitMessages old new =
    changeMessages .lineDegraded (.line .a) p.lineA.degraded (p.committed old new).lineA.degraded ++
      changeMessages .lineDegraded (.line .b) p.lineB.degraded (p.committed old new).lineB.degraded ++
      if new.supervision = old.supervision ∨ new.supervision ≠ 0 then []
      else [.alarmClear .lineSilent (.line .a), .alarmClear .lineSilent (.line .b), .alarmClear .remoteLost .group] := by
  show p.gradeMessages new ++ _ = changeMessages .lineDegraded (.line .a) p.lineA.degraded (p.lineA.committed old new).degraded ++
    changeMessages .lineDegraded (.line .b) p.lineB.degraded (p.lineB.committed old new).degraded ++ _
  rw [LinePort.committed_degraded, LinePort.committed_degraded]
  rfl

theorem commitReports_eq (s : State) (p : Port) : commitReports { s with port := p } =
    .alarmClear .configDefault .group ::
      (allDoors.filter (Machine.keptPresent s.image s.store.staging)).flatMap (fun d =>
        changeMessages .travelDrift (.door d) (s.door d).travelDrift
          ((s.door d).keptPresent s.store.staging d s.image.doors[d]).travelDrift) ++
      s.commitAccount.2 ++
      (allDoors.filter (Machine.keptPresent s.image s.store.staging)).flatMap (fun d =>
        changeMessages .wear (.door d) s.recorder.doors[d].wear
          (s.recorder.doors[d].counters.exceeds s.store.staging.group.wearThresholds)) ++
      p.commitMessages s.image.group s.store.staging.group := by
  rw [Port.commitMessages_eq, ← List.append_assoc, ← List.append_assoc]
  exact rfl

/-- The reports of a commit that can have an entry. -/
theorem State.commitMade_live (drive : DriveInv s) {p : Port}
    (lines : s.commitLines = p.commitMessages s.image.group s.store.staging.group) :
    s.commitMade.filter (live s.image s.store.staging) = (commitReports { s with port := p }).filter (live s.image s.store.staging) := by
  have doors : (allDoors.flatMap fun d => (s.committing d).out).filter (live s.image s.store.staging) =
      ((allDoors.filter (Machine.keptPresent s.image s.store.staging)).flatMap fun d =>
        changeMessages .travelDrift (.door d) (s.door d).travelDrift
          ((s.door d).keptPresent s.store.staging d s.image.doors[d]).travelDrift).filter (live s.image s.store.staging) := by
    rw [List.filter_flatMap, List.filter_flatMap, flatMap_filter_eq]
    exact List.flatMap_congr fun d _ => by rw [State.committing_made drive]; exact s.commitOut_live d
  have inhibited : (allDoors.flatMap fun d => if Machine.madeAbsent s.image s.store.staging d then
      [Instr.alarmClear .openInhibited (.door d)] else []).filter (live s.image s.store.staging) = [] := by
    refine filter_live_of_dead _ _ fun m hm => ?_
    obtain ⟨d, -, hm⟩ := List.mem_flatMap.mp hm
    rw [List.mem_ite_nil_right] at hm
    rw [List.mem_singleton.mp hm.2]
    exact (dead_of_madeAbsent hm.1 (by nofun)).1
  have ordered : (allDoors.flatMap fun d => if s.orderedAtOnce d then
      [Instr.standingAuthorityReport d (s.freshStanding d)] else []).filter (live s.image s.store.staging) = [] := by
    refine filter_live_of_dead _ _ fun m hm => ?_
    obtain ⟨d, -, hm⟩ := List.mem_flatMap.mp hm
    rw [List.mem_ite_nil_right] at hm
    rw [List.mem_singleton.mp hm.2]
    rfl
  have faults : (allDoors.flatMap fun d => s.recorder.doors[d].commitMessages s.image s.store.staging d).filter
        (live s.image s.store.staging) =
      ((allDoors.filter (Machine.keptPresent s.image s.store.staging)).flatMap fun d =>
        changeMessages .wear (.door d) s.recorder.doors[d].wear
          (s.recorder.doors[d].counters.exceeds s.store.staging.group.wearThresholds)).filter (live s.image s.store.staging) := by
    rw [List.filter_flatMap, List.filter_flatMap, flatMap_filter_eq]
    exact List.flatMap_congr fun d _ => commitMessages_live d _
  rw [commitReports_eq]
  unfold State.commitMade
  rw [lines]
  have head (xs : List Instr) : (Instr.alarmClear .configDefault .group :: xs).filter (live s.image s.store.staging) =
      .alarmClear .configDefault .group :: xs.filter (live s.image s.store.staging) := List.filter_cons_of_pos rfl
  simp only [List.cons_append, head, List.filter_append, doors, inhibited, ordered, faults, List.nil_append,
    List.append_assoc]

end

end Sys2Proof.Machine

/-! What a commit of the staging image leaves where no message is on its way (R47, R64, R85, R105, R119, R139). -/

namespace Sys2Proof.Machine

open Sys2Proof

theorem Drives.trans {a b c : Channel} {o o' k k' : Bool} (h : Drives a b o k) (g : Drives b c o' k') : Drives a c o' k' :=
  ⟨g.inputs.trans h.inputs, g.openValve, g.closeValve⟩

/-- A door made ABSENT whose capture has been dropped is no longer faulted. -/
theorem Door.madeAbsent_captured {r x : Door} (still : x.still = (r.madeAbsent false).still) :
    { x with faulted := false }.still = (r.madeAbsent true).still := by
  have dropped : (r.madeAbsent true).still = { (r.madeAbsent false).still with faulted := false } := by
    unfold Door.madeAbsent
    rw [Bool.not_true, Bool.and_false]
    rfl
  rw [dropped, ← still]
  rfl

theorem State.mem_toldAtCommit {s : State} {d : DoorId} : d ∈ s.toldAtCommit ↔ s.orderedAtOnce d = true ∨
    (Machine.madeAbsent s.image s.store.staging d = true ∧ s.recorder.doors[d].capture.isSome = true) := by
  unfold State.toldAtCommit
  simp only [List.mem_append, List.mem_filter, mem_allDoors, true_and, Bool.and_eq_true]

theorem State.untold_of_kept {s : State} {d : DoorId} (absent : Machine.madeAbsent s.image s.store.staging d = false)
    (present : Machine.madePresent s.image s.store.staging d = false) : d ∉ s.toldAtCommit := fun told => by
  rcases State.mem_toldAtCommit.mp told with ordered | ⟨gone, -⟩
  · rw [(State.orderedAtOnce_present ordered).1] at present
    cases present
  · rw [gone] at absent
    cases absent

theorem changes_of_kept {old new : Image} {d : DoorId} (kept : keptPresent old new d = true) :
    madeAbsent old new d = false ∧ madePresent old new d = false := by
  obtain ⟨was, now⟩ := keptPresent_iff.mp kept
  unfold madeAbsent madePresent
  rw [was, now]
  exact ⟨rfl, rfl⟩

theorem changes_of_neither {old new : Image} {d : DoorId} (was : old.doors[d].present = false) (now : new.doors[d].present = false) :
    madeAbsent old new d = false ∧ madePresent old new d = false ∧ keptPresent old new d = false := by
  unfold madeAbsent madePresent keptPresent
  rw [was, now]
  exact ⟨rfl, rfl, rfl⟩

/-- What a door makes at a commit and stays on its way: what it asks of the allocator. -/
theorem State.commitOut_left (s : State) (d : DoorId) : (s.commitOut d).filter (!completes ·) =
    if Machine.keptPresent s.image s.store.staging d then
      proceedMessages s.store.staging d (s.channel d) ((s.door d).keptPresent s.store.staging d s.image.doors[d])
    else [] := by
  have none {ms : List Instr} (all : ∀ m ∈ ms, ToAlarms m) : ms.filter (!completes ·) = [] :=
    List.filter_eq_nil_iff.mpr fun m hm => by rw [(all m hm).completes]; nofun
  unfold State.commitOut
  cases absent : Machine.madeAbsent s.image s.store.staging d with
  | true =>
    have now := (madeAbsent_iff.mp absent).2
    rw [if_pos rfl, if_neg fun kept => by rw [(keptPresent_iff.mp kept).2] at now; cases now]
    refine none fun m hm => ?_
    simp only [transitMessages, driftMessages, Work.travelMessages, List.mem_append, List.mem_ite_nil_right, List.mem_singleton] at hm
    rcases hm with (⟨-, rfl⟩ | ⟨-, rfl⟩) | ⟨-, rfl⟩ <;> trivial
  | false =>
    rw [if_neg nofun]
    refine (apply_ite (fun ms : List Instr => ms.filter (!completes ·)) _ _ _).trans (if_congr Iff.rfl ?_ rfl)
    rw [List.filter_append, none changeMessages_toAlarms, List.nil_append]
    exact List.filter_eq_self.mpr fun m hm => by rw [proceedMessages_quiet _ _ _ _ m hm]; rfl

theorem commitMessages_complete {old new : Image} {d : DoorId} {x : DoorFaults} : ∀ m ∈ x.commitMessages old new d, completes m = true := by
  intro m hm
  unfold DoorFaults.commitMessages at hm
  split at hm
  · rcases mem_droppedMessages hm with own | rfl
    · exact own.completes
    · rfl
  · split at hm
    · exact (changeMessages_toAlarms m hm).completes
    · cases hm

theorem Reacted.recorder {s t : State} {ds : List DoorId} {f : DoorId → Work → Work} (h : Reacted s t ds f) : t.recorder = s.recorder :=
  h.frame.recorder

theorem State.commitEnd_resolver {s : State} (standing : StandingInv s) (d : DoorId) : (s.commit.complete 0).resolver.doors[d] =
    if Machine.madePresent s.image s.store.staging d then ⟨false, false, false, s.freshStanding d⟩
    else if Machine.madeAbsent s.image s.store.staging d then ⟨false, false, false, .none⟩ else s.resolver.doors[d] := by
  have frame : (s.commit.complete 0).resolver = s.commit.resolver := (s.commit.complete_completes 0).resolver
  rw [frame, State.commit_resolver]
  exact (State.commit_orders standing).2 d

section
variable {s : State} {d : DoorId} (drive : DriveInv s) (quiet : s.inFlight = []) (standing : StandingInv s) (inv : FlowInv s)
include drive quiet standing inv

theorem State.commitEnd_recorder : (s.commit.complete 0).recorder.doors[d] = s.recorder.doors[d].committed s.image s.store.staging d := by
  have frame : (s.commit.complete 0).recorder = s.commit.recorder :=
    (State.commit_taken drive quiet standing inv).reacted.recorder
  rw [frame, State.commit_faults]

/-- A door that is told of nothing is left as the blocks' parts leave it. -/
theorem State.commitEnd_untold (untold : d ∉ s.toldAtCommit) :
    (s.commit.complete 0).door d = (s.committing d).door ∧ (s.commit.complete 0).channel d = (s.committing d).channel := by
  have taken := State.commit_taken drive quiet standing inv
  obtain ⟨door, channel⟩ := taken.reacted.miss d (by rw [State.reached_commitMade drive inv]; exact untold)
  obtain ⟨own, ownChannel⟩ := s.commit_committing d
  exact ⟨door.trans own, channel.trans ownChannel⟩

/-- A door that is told of something is left as its reaction leaves it. -/
theorem State.commitEnd_told (told : d ∈ s.toldAtCommit) {r : Door} (reacts : s.commit.QuietReaction d (s.toldReaction d) r) :
    ((s.commit.complete 0).door d).still = r.still ∧ Drives (s.committing d).channel ((s.commit.complete 0).channel d)
      (s.committing d).channel.openValve (s.committing d).channel.closeValve := by
  have taken := State.commit_taken drive quiet standing inv
  obtain ⟨door, channel⟩ := taken.reacted.hit d (by rw [State.reached_commitMade drive inv]; exact told)
  obtain ⟨still, drives, -⟩ := reacts
  rw [(s.commit_committing d).2] at drives
  rw [door, channel]
  exact ⟨still, drives⟩

/-- A door made ABSENT (R47, R119). -/
theorem State.commitEnd_absent (absent : Machine.madeAbsent s.image s.store.staging d = true) :
    ((s.commit.complete 0).door d).still = ((s.door d).madeAbsent s.recorder.doors[d].capture.isSome).still ∧
      Drives (s.channel d) ((s.commit.complete 0).channel d) false false := by
  obtain ⟨still, drives, -⟩ := State.committing_absent (drive.2 d) absent
  have ordered := State.not_orderedAtOnce_of_madeAbsent absent
  cases captured : s.recorder.doors[d].capture.isSome with
  | true =>
    have told : d ∈ s.toldAtCommit := State.mem_toldAtCommit.mpr (.inr ⟨absent, captured⟩)
    obtain ⟨still', drives'⟩ := State.commitEnd_told drive quiet standing inv told (by
      rw [State.toldReaction_emptied ordered]
      exact State.quietReaction_emptied (State.commit_absent drive absent))
    rw [(s.commit_committing d).1] at still'
    exact ⟨still'.trans (Door.madeAbsent_captured still), drives.trans (by
      rw [drives.openValve, drives.closeValve] at drives'
      exact drives')⟩
  | false =>
    have untold : d ∉ s.toldAtCommit := fun told => by
      rcases State.mem_toldAtCommit.mp told with h | ⟨-, h⟩
      · rw [ordered] at h
        cases h
      · rw [captured] at h
        cases h
    obtain ⟨door, channel⟩ := State.commitEnd_untold drive quiet standing inv untold
    rw [door, channel]
    exact ⟨still, drives⟩

/-- A door made present (R9, R13, R47, R48, R63). -/
theorem State.commitEnd_present (present : Machine.madePresent s.image s.store.staging d = true) :
    ((s.commit.complete 0).door d).still = Door.madePresent s.store.staging d (s.channel d) (s.freshStanding d) ∧
      Drives ((s.channel d).reprimed s.store.staging.group) ((s.commit.complete 0).channel d) false false := by
  obtain ⟨-, opn, cls⟩ := drive.absent_off (madePresent_iff.mp present).1
  obtain ⟨still, -, drives, -⟩ := State.committing_present opn cls present
  cases ordered : s.orderedAtOnce d with
  | true =>
    obtain ⟨settles, same⟩ := State.commit_settles drive present
    obtain ⟨still', drives'⟩ := State.commitEnd_told drive quiet standing inv (State.mem_toldAtCommit.mpr (.inl ordered)) (by
      rw [State.toldReaction_ordered ordered, ← same]
      exact State.quietReaction_order settles)
    rw [(s.commit_committing d).1] at still'
    exact ⟨still'.trans still, drives.trans (by
      rw [drives.openValve, drives.closeValve] at drives'
      exact drives')⟩
  | false =>
    have untold : d ∉ s.toldAtCommit := fun told => by
      rcases State.mem_toldAtCommit.mp told with h | ⟨gone, -⟩
      · rw [ordered] at h
        cases h
      · have now := (madePresent_iff.mp present).2
        rw [(madeAbsent_iff.mp gone).2] at now
        cases now
    obtain ⟨door, channel⟩ := State.commitEnd_untold drive quiet standing inv untold
    rw [door, channel]
    exact ⟨still, drives⟩

/-- A door present before and after (R36, R47, R63, R64). -/
theorem State.commitEnd_kept (kept : Machine.keptPresent s.image s.store.staging d = true) :
    ((s.commit.complete 0).door d).still =
        (((s.door d).keptPresent s.store.staging d s.image.doors[d]).proceeds s.store.staging (s.channel d)).still ∧
      Drives (s.channel d) ((s.commit.complete 0).channel d) (s.channel d).openValve (s.channel d).closeValve := by
  obtain ⟨absent, present⟩ := changes_of_kept kept
  obtain ⟨still, drives, -⟩ := State.committing_kept kept
  obtain ⟨door, channel⟩ := State.commitEnd_untold drive quiet standing inv (State.untold_of_kept absent present)
  rw [door, channel]
  exact ⟨still, drives⟩

/-- A door present neither before nor after. -/
theorem State.commitEnd_neither (was : s.image.doors[d].present = false) (now : s.store.staging.doors[d].present = false) :
    (s.commit.complete 0).door d = s.door d ∧ ((s.commit.complete 0).channel d).inputs = (s.channel d).inputs := by
  obtain ⟨absent, present, -⟩ := changes_of_neither was now
  obtain ⟨door, inputs, -⟩ := State.committing_neither was now (drive.absent_off was).1
  obtain ⟨own, channel⟩ := State.commitEnd_untold drive quiet standing inv (State.untold_of_kept absent present)
  rw [own, channel]
  exact ⟨door, inputs⟩

/-- The messages then on their way (R21, R98, R100). -/
theorem State.commitEnd_inFlight : (s.commit.complete 0).inFlight =
    (allDoors.filter (Machine.keptPresent s.image s.store.staging)).flatMap (fun d =>
      proceedMessages s.store.staging d (s.channel d) ((s.door d).keptPresent s.store.staging d s.image.doors[d])) ++
      s.commitAccount.2.filter (!completes ·) := by
  have taken := (State.commit_taken drive quiet standing inv).flight
  rw [State.reached_commitMade drive inv, List.flatMap_eq_nil_iff.mpr fun d hd => by rw [State.told_quiet drive d hd]; rfl,
    List.append_nil, List.nil_append] at taken
  rw [taken]
  have none {ms : List Instr} (all : ∀ m ∈ ms, completes m = true) : ms.filter (!completes ·) = [] :=
    List.filter_eq_nil_iff.mpr fun m hm => by rw [all m hm]; nofun
  have doors : (allDoors.flatMap fun d => (s.committing d).out).filter (!completes ·) =
      (allDoors.filter (Machine.keptPresent s.image s.store.staging)).flatMap fun d =>
        proceedMessages s.store.staging d (s.channel d) ((s.door d).keptPresent s.store.staging d s.image.doors[d]) := by
    rw [List.filter_flatMap, flatMap_filter_eq]
    refine List.flatMap_congr fun d _ => ?_
    rw [State.committing_made drive]
    exact s.commitOut_left d
  have inhibited : (allDoors.flatMap fun d => if Machine.madeAbsent s.image s.store.staging d then
      [Instr.alarmClear .openInhibited (.door d)] else []).filter (!completes ·) = [] := none fun m hm => by
    obtain ⟨d, -, hm⟩ := List.mem_flatMap.mp hm
    rw [List.mem_ite_nil_right] at hm
    rw [List.mem_singleton.mp hm.2]
    rfl
  have ordered : (allDoors.flatMap fun d => if s.orderedAtOnce d then
      [Instr.standingAuthorityReport d (s.freshStanding d)] else []).filter (!completes ·) = [] := none fun m hm => by
    obtain ⟨d, -, hm⟩ := List.mem_flatMap.mp hm
    rw [List.mem_ite_nil_right] at hm
    rw [List.mem_singleton.mp hm.2]
    rfl
  have faults : (allDoors.flatMap fun d => s.recorder.doors[d].commitMessages s.image s.store.staging d).filter (!completes ·) = [] :=
    none fun m hm => by
      obtain ⟨d, -, hm⟩ := List.mem_flatMap.mp hm
      exact commitMessages_complete m hm
  have lines : s.commitLines.filter (!completes ·) = [] := none fun m hm => (s.commitLines_kinds m hm).completes
  have head (xs : List Instr) : (Instr.alarmClear .configDefault .group :: xs).filter (!completes ·) = xs.filter (!completes ·) :=
    List.filter_cons_of_neg nofun
  unfold State.commitMade
  simp only [List.cons_append, head, List.filter_append, doors, inhibited, ordered, faults, lines, List.append_nil]

end

end Sys2Proof.Machine

/-! CONFIG_COMMIT (R156 to R158): when it is refused, what it leaves of every block, and all that it leaves where no message is on its way. -/

namespace Sys2Proof.Machine

open Sys2Proof

theorem State.commitEnd_alloc {s : State} (inv : FlowInv s) : (s.commit.complete 0).alloc = s.commitAccount.1 := by
  have account := congrArg Flow.alloc (State.commit_account inv)
  exact ((s.commit.complete_completes 0).alloc.trans s.commit_alloc).trans account

section
variable {s : State} (drive : DriveInv s) (quiet : s.inFlight = []) (standing : StandingInv s) (inv : FlowInv s)
include drive quiet standing inv

theorem State.commitEnd_alarms {p : Port} (lines : s.commitLines = p.commitMessages s.image.group s.store.staging.group) :
    (s.commit.complete 0).alarms = AlarmList.takeAll s.store.staging s.time (commitReports { s with port := p })
      (s.alarms.committed s.image s.store.staging s.time) := by
  have taken := (State.commit_taken drive quiet standing inv).alarms
  have image : s.commit.image = s.store.staging := by
    show s.commit.store.active = _
    rw [State.commit_store]
  rw [State.reached_commitMade drive inv, List.flatMap_eq_nil_iff.mpr fun d hd => by rw [State.told_quiet drive d hd]; rfl,
    List.append_nil, State.commit_alarms, image, State.commit_time] at taken
  have cleared := AlarmList.commit_cleared (old := s.image) (new := s.store.staging) s.time s.alarms
  rw [taken, AlarmList.takeAll_filter_gone s.time _ _ cleared, alarmsOf_live, State.commitMade_live drive lines, ← alarmsOf_live,
    ← AlarmList.takeAll_filter_gone s.time _ _ cleared, AlarmList.takeAll_alarmsOf, AlarmList.commit_eq]

theorem State.commitEnd_committed {p : Port} (lines : s.commitLines = p.commitMessages s.image.group s.store.staging.group) :
    Committed { s with port := p } (s.commit.complete 0) where
  absent d gone := by
    have absent : Machine.madeAbsent s.image s.store.staging d = true := gone
    obtain ⟨was, now⟩ := madeAbsent_iff.mp absent
    obtain ⟨still, drives⟩ := State.commitEnd_absent drive quiet standing inv absent
    refine ⟨still, drives, ?_, ?_⟩
    · rw [State.commitEnd_resolver standing, if_neg fun present => ?_, if_pos absent]
      rw [(madePresent_iff.mp present).2] at now
      cases now
    · rw [State.commitEnd_recorder drive quiet standing inv]
      unfold DoorFaults.committed
      rw [absent]
      rfl
  present d come := by
    have present : Machine.madePresent s.image s.store.staging d = true := come
    obtain ⟨was, now⟩ := madePresent_iff.mp present
    obtain ⟨still, drives⟩ := State.commitEnd_present drive quiet standing inv present
    have fresh := standingOfFresh_eq s.store.staging s.resolver now
    refine ⟨?_, drives.inputs.trans (Channel.reprimed_inputs _ _), drives.openValve, drives.closeValve, ?_, ?_⟩
    · exact still.trans (congrArg (Door.madePresent s.store.staging d (s.channel d)) fresh)
    · rw [State.commitEnd_resolver standing, if_pos present]
      exact congrArg (DoorOrder.mk false false false) fresh
    · rw [State.commitEnd_recorder drive quiet standing inv]
      unfold DoorFaults.committed
      rw [present, Bool.or_true]
      rfl
  kept d stays := by
    have kept : Machine.keptPresent s.image s.store.staging d = true := stays
    obtain ⟨absent, present⟩ := changes_of_kept kept
    obtain ⟨still, drives⟩ := State.commitEnd_kept drive quiet standing inv kept
    refine ⟨still, drives, ?_, ?_⟩
    · rw [State.commitEnd_resolver standing, if_neg (ne_true_of_eq_false present), if_neg (ne_true_of_eq_false absent)]
    · rw [State.commitEnd_recorder drive quiet standing inv]
      unfold DoorFaults.committed
      rw [absent, present, kept]
      rfl
  neither d out stays := by
    have was : s.image.doors[d].present = false := out
    have now : s.store.staging.doors[d].present = false := stays
    obtain ⟨absent, present, kept⟩ := changes_of_neither was now
    obtain ⟨door, inputs⟩ := State.commitEnd_neither drive quiet standing inv was now
    refine ⟨door, inputs, ?_⟩
    rw [State.commitEnd_recorder drive quiet standing inv]
    unfold DoorFaults.committed
    rw [absent, present, kept]
    rfl
  drive := by
    obtain ⟨records, eq, -⟩ := Log.commit_eq ⟨s.store.staging, s.time, s.recorder, []⟩ s.image
    rw [(State.commit_taken drive quiet standing inv).reacted.recorder, State.commit_recorder, eq]
  alloc := State.commitEnd_alloc inv
  alarms := State.commitEnd_alarms drive quiet standing inv lines
  messages := State.commitEnd_inFlight drive quiet standing inv

end

/-- A reply is no concern of the other blocks. -/
theorem Committed.withPort {s u : State} (h : Committed s u) (p : Port) : Committed s { u with port := p } :=
  ⟨h.absent, h.present, h.kept, h.neither, h.drive, h.alloc, h.alarms, h.messages⟩

/-! ### The request -/

/-- CONFIG_COMMIT taken: the reply to it follows. -/
theorem State.serve_commit {s : State} {r : Req} (h : Waits s (.configCommit r) r) (body : r.body = []) (idle : ¬s.busy = true)
    (fits : commitFailure s.store.staging = none) : s.serve (.configCommit r) 0x1B r [0] State.configCommit =
      (s.begun r).commitTaken.reply 0x1B r none [1] :=
  State.serve_completed h (by rw [body]; exact List.mem_singleton_self 0)
    (State.configCommit_taken (s := s.begun r) idle fits r.body)

/-- Where no message is on its way, the blocks' parts come first and what completes is taken then. -/
theorem State.commitTaken_of_quiet {s : State} (quiet : s.inFlight = []) : s.commitTaken = s.commit.complete 0 := by
  unfold State.commitTaken
  rw [State.settleDoors_of_none fun d _ => by rw [quiet]; rfl, quiet]
  rfl

/-- A taken commit is answered on its line. -/
theorem State.serve_commit_answered {s : State} {r : Req} (h : Waits s (.configCommit r) r) :
    Answered (s.port.committed s.image.group s.store.staging.group) r 0x1B none [1] ((s.begun r).commitTaken.reply 0x1B r none [1]) := by
  have port : (s.begun r).commitTaken.port = _ := (s.begun r).commitTaken_port
  have lines : Serial.commit ⟨s.store.staging, s.port.withLine r.line (s.port.line r.line).busyTaking, []⟩ s.image = _ :=
    Serial.commit_busy s.store.staging s.image s.port r.line
  have answered := (s.begun r).commitTaken.reply_answered (kind := 0x1B) (reason := none) (data := [1]) h.addressed
  rw [port, show Serial.commit ⟨(s.begun r).store.staging, (s.begun r).port, []⟩ (s.begun r).image = _ from lines] at answered
  exact answered_busy.mp answered

/-- Settles O58: the refusals by the first of their causes; behind them each block's part, and what completes of what they make. -/
theorem commitIsTaken : Obligations.CommitIsTaken := by
  unfold Obligations.CommitIsTaken
  intro s r waits body presence drive x busy heavy above
  have length : r.body.length ∈ [0] := by rw [body]; exact List.mem_singleton_self 0
  refine ⟨_, rfl, fun is => ?_, fun d idle own first => ?_, fun h idle light own first => ?_, fun idle light below => ?_⟩
  · obtain ⟨answered, eq⟩ := State.serve_refused waits length (State.configCommit_busy (s := s.begun r) (s.busy_iff.mpr is) r.body)
    exact ⟨answered, eq⟩
  · obtain ⟨answered, eq⟩ := State.serve_refused waits length
      (State.configCommit_fails (s := s.begun r) (mt s.busy_iff.mp idle) (commitFailure_heavy own first) r.body)
    exact ⟨answered, eq⟩
  · obtain ⟨answered, eq⟩ := State.serve_refused waits length
      (State.configCommit_fails (s := s.begun r) (mt s.busy_iff.mp idle) (commitFailure_above light own first) r.body)
    exact ⟨answered, eq⟩
  · have idle' : ¬s.busy = true := mt s.busy_iff.mp idle
    have after : PresenceInv (s.serve (.configCommit r) 0x1B r [0] State.configCommit) := by
      have events := exec_events (.configCommit r) s
      exact Events.keeps (fun _ _ event => presenceInv_event event) events presence
    have answered := State.serve_commit_answered waits
    rw [State.serve_commit waits body idle' (commitFailure_none light below)] at after ⊢
    rw [State.reply_eq] at after answered ⊢
    have driven : DriveInv (s.begun r) := drive
    have store := (s.begun r).commitTaken_store
    obtain ⟨lines, straps, time, pending, freeDraws⟩ := (s.begun r).commitTaken_rest
    obtain ⟨mode, latch, flood⟩ := (s.begun r).commitTaken_group
    refine ⟨store, answered, lines, straps, time, pending, freeDraws, mode, latch, flood, (s.begun r).commitTaken_standing,
      fun quiet standing inv => Committed.withPort ?_ _, fun d => ⟨?_, fun was now => ?_, fun was now => ?_, fun was now => ?_⟩⟩
    · have taken : (s.begun r).commitTaken = _ := State.commitTaken_of_quiet (s := s.begun r) quiet
      have ports : (s.begun r).commitLines = s.port.commitMessages s.image.group s.store.staging.group :=
        congrArg Serial.out (Serial.commit_busy s.store.staging s.image s.port r.line)
      rw [taken]
      exact State.commitEnd_committed (s := s.begun r) (p := s.port) driven quiet standing inv ports
    · have present := (after d).1
      rw [State.image, store] at present
      exact present
    · exact State.commitTaken_madeAbsent (s := s.begun r) driven (madeAbsent_iff.mpr ⟨was, now⟩)
    · exact State.commitTaken_madePresent (s := s.begun r) driven (madePresent_iff.mpr ⟨was, now⟩)
    · exact State.commitTaken_keptPresent (s := s.begun r) (keptPresent_iff.mpr ⟨was, now⟩)

end Sys2Proof.Machine
